-- ==== Sys2Proof/Word.lean ====
section
/-! DEFINITION. The word types of the Kenorgil model and the sparse tables and memories its state is
made of: a table or a memory is a list of (key, value) pairs with rising keys and no entry equal to
what an unlisted key reads as, so that equal contents are equal data. -/

namespace Sys2Proof

/-- A byte. -/
abbrev Byte := BitVec 8

/-- A 64-bit register word (spec/00 R4; spec/03 R81). -/
abbrev Word := BitVec 64

/-- An FP32 bit pattern (spec/02 R28). -/
abbrev F32 := BitVec 32

/-- A sparse table: pairs in rising key order. What an unlisted key reads as is named at each use. -/
abbrev Tab (α : Type) := List (Nat × α)

/-- A sparse byte memory: address and byte pairs in rising order. -/
abbrev Mem := Tab Byte

/-- Global cell number Q*16 + C*4 + L (spec/00 R6). -/
abbrev CellNo := Fin 64
/-- Quarter number. -/
abbrev QuarterNo := Fin 4
/-- Tacker number Q*4 + C (spec/01 R17). -/
abbrev TackerNo := Fin 16
/-- Laster number (spec/01 R17). -/
abbrev LasterNo := Fin 4
/-- Rail zone number Q*4 + L (spec/01 R17). -/
abbrev ZoneNo := Fin 16
/-- Stream slot S0 to S31. -/
abbrev SlotNo := Fin 32
/-- View 0 to 3 of a slot (spec/07 R176). -/
abbrev ViewNo := Fin 4
/-- Host memory port channel. -/
abbrev ChanNo := Fin 2
/-- Context number (spec/08 R195). -/
abbrev CtxNo := Fin 4096
/-- Queue number (spec/08 R200). -/
abbrev QueueNo := Fin 65536
/-- Thread number of a vector engine (spec/05 R118). -/
abbrev ThreadNo := Fin 64
/-- CSI-2 port number. -/
abbrev PortNo := Fin 16
/-- Camera bus number. -/
abbrev BusNo := Fin 8
/-- Camera trigger number. -/
abbrev TrigNo := Fin 16
/-- Recording stream number (spec/07 R186). -/
abbrev RecNo := Fin 4
/-- Thermal sensor number (spec/09 R249). -/
abbrev SensorNo := Fin 26
/-- Die-to-die link number in the order of the QUARTER group: 0 Q0-Q1, 1 Q0-Q2, 2 Q0-Q3, 3 Q1-Q2,
4 Q1-Q3, 5 Q2-Q3, 6 to 9 quarter 0 to 3 to the I/O die (spec/11 R293). -/
abbrev LinkNo := Fin 10

end Sys2Proof
end

