-- ==== Sys2Proof/Syntax.lean ====
section
/-! DEFINITION. The commands the block takes: one constructor per row of spec/opcode_table.json, with the row's
operands. Operands carry what comes from outside the block or from a part of it whose timing the spec leaves open. -/

namespace Sys2Proof

/-- The sum of a split reduction (spec/02 R48): INT32 or FP32 partials of so many words each, at cell-store addresses in ascending
partition order, and where the sum goes. -/
structure SplitSum where
  int : Bool
  parts : List (BitVec 22)
  dst : BitVec 22
  words : Fin 4097
  deriving DecidableEq, Repr

/-- How a stitch of a cell ends (spec/03 R57, R58, R62, R67, R70, R77, R104), and what its feeders do before it does. -/
inductive StitchEvent where
  /-- Every participant asserts done: the stitch completes. -/
  | done
  /-- A participant is not ready: stall cause 0-7 is active until it is ready or the stitch completes. -/
  | freeze (cause : Fin 8)
  /-- The participant of stall cause 0-7 has become ready: the cause ends while others may hold on (spec/03 R78). -/
  | ready (cause : Fin 8)
  /-- The feeder of eyelet 0-128 writes its next entry; in DWC the next 16 channels of row register 0-63 (spec/03 R67, spec/06 R147). -/
  | feed (eyelet : Fin 129)
  /-- The partial results of a split reduction are added (spec/02 R48). -/
  | combine (x : SplitSum)
  /-- The step request is held by pacing until the stitch completes. -/
  | paced
  /-- The popped entry of eyelet 0-128 bears a wrong block tag. -/
  | skew (eyelet : Fin 129)
  /-- The popped entry of eyelet 0-128 has a parity error. -/
  | parity (eyelet : Fin 129)
  /-- An uncorrectable error: CELL_FAULT bit 0-4 names the memory, then the byte address. -/
  | uncorrectable (memory : Fin 5) (addr : BitVec 22)
  /-- A corrected error: 0 cell store, 1 B buffer, 2 other memories. -/
  | corrected (memory : Fin 3)
  deriving DecidableEq, Repr

/-- One block of an optimiser step (spec/02 R53 to R56): the thread that takes it, cell-store addresses of the 128 gradient codes and
their four scale bytes, and of the codes, FP16 scale and zero point of the first and the second moment; the constants and the
layer of the step. -/
structure MomentStep where
  t : ThreadNo
  grad : BitVec 22
  gradScale : BitVec 22
  mCodes : BitVec 22
  mScale : BitVec 22
  mZero : BitVec 22
  vCodes : BitVec 22
  vScale : BitVec 22
  vZero : BitVec 22
  beta1 : F32
  c1 : F32
  beta2 : F32
  c2 : F32
  layer : Fin 1024
  deriving DecidableEq, Repr

/-- A step of a cell's threads (spec/05 R119): each ready one issues an instruction, or one takes a block of an optimiser step. -/
structure ThreadTick where
  g : CellNo
  block : Option MomentStep
  deriving DecidableEq, Repr

/-- Where a Plamor-V instruction executes: the cell's current tile program, or a hardware thread. -/
inductive VWhere where
  | tile
  | thread (t : ThreadNo)
  deriving DecidableEq, Repr

/-- Who submitted a Lacer transfer (spec/04 R95). -/
inductive Submitter where
  | cell (g : CellNo)
  | tacker (t : TackerNo)
  deriving DecidableEq, Repr

/-- A register or entry named by a plain write (spec/00 R7). -/
inductive RegRef where
  /-- A cell's register page, offset and value (spec/03 R81). -/
  | cell (g : CellNo) (off : BitVec 12) (v : Word)
  /-- A register of the control space of an HMP channel (spec/11 R277). -/
  | port (ch : ChanNo) (off : BitVec 16) (v : Word)
  /-- An object-dictionary entry (spec/00 R11). -/
  | entry (index : BitVec 16) (sub : BitVec 8) (data : List Byte)
  deriving DecidableEq, Repr

/-- The RC fields of the part (spec/03 R81, spec/09 R252, spec/11 R293). -/
inductive RcField where
  /-- With the corrected errors of the B buffer and of the other memories in the same window. -/
  | eccCe (g : CellNo) (bbuf other : Nat)
  | lateInfo (n : LasterNo)
  | noticeLost (n : LasterNo)
  | highestWindow
  deriving DecidableEq, Repr

/-- A leaf register of the cause tree (spec/11 R293). -/
inductive LeafReg where
  | group (g : Fin 17)
  | streamSlot (s : SlotNo)
  | istFailed
  | istUntested
  deriving DecidableEq, Repr

/-- The source of a notice (spec/08 R229). -/
inductive NoticeSrc where
  | tacker (t : TackerNo)
  | cobbler
  | stream (s : SlotNo)
  | hmp (c : ChanNo)
  | deadline
  deriving DecidableEq, Repr

/-- The kinds of a notice, with the identifiers its ARG carries (spec/08 R229). -/
inductive NoticeKind where
  /-- Answer to a claim: cell, job, granted. -/
  | claimResult (cell : Nat) (job : Nat) (granted : Bool)
  | jobDone (job : Nat)
  /-- A cell of a job failed; `replayed` when the Tacker replays the job itself. -/
  | cellFault (cell : Nat) (job : Nat) (replayed : Bool)
  | batchClosed (ctx : Nat)
  | slotStopped (slot : Nat)
  | doorbell (queue : Nat)
  | timer (job : Nat)
  | control (code : Nat)
  /-- An I3C in-band interrupt or Hot-Join of a camera bus (spec/07 R168). -/
  | streamBus (bus : Nat) (hotJoin : Bool)
  /-- A damaged entry: KIND or ARG out of range (R231). -/
  | bad
  deriving DecidableEq, Repr

/-- A notice: sequence number, source, kind, DC time (spec/08 R229). -/
structure Notice where
  seq : Nat
  src : NoticeSrc
  kind : NoticeKind
  t : Nat
  deriving DecidableEq, Repr

/-- A CSI-2 long packet as the receiver sees it (spec/07 R164, R187). -/
structure LongPacket where
  /-- 0 good header, 1 single-bit error corrected, 2 uncorrectable. -/
  ecc : Fin 3
  /-- The VC extension is nonzero. -/
  vcx : Bool
  dataType : Byte
  /-- Samples of the line, one per pixel: RAW code, or packed RGB or YUV components in 8-bit fields. -/
  pixels : List Nat
  crcOk : Bool
  deriving DecidableEq, Repr

/-- The answers of a GCMD memory to one read (spec/07 R169): NACKs in a row before a transfer is acknowledged, and the bytes
that the memory holds from word address 0. -/
structure GcmdRead where
  nacks : Nat
  bytes : List Byte
  deriving DecidableEq, Repr

/-- The size a compressed frame declares (spec/07 R185). -/
inductive Declared where
  /-- JPEG SOF0: X, Y, Hmax, Vmax, and P, the bytes after the first SOS header. -/
  | jpeg (x y hmax vmax p : Nat)
  /-- HEVC SPS: width, height, level above 6.1, MaxLumaPs of the declared level. -/
  | hevc (w h : Nat) (above61 : Bool) (maxLumaPs : Nat)
  /-- An HEVC frame that activates no new SPS. -/
  | same
  deriving DecidableEq, Repr

/-- What a decoder makes of a frame (spec/07 R182-R184, R187): the samples come from the standards' decoders. -/
inductive Decoded where
  /-- matrix_coeffs and video_full_range_flag of the VUI, none without one; Main 10; size; (Y, Cb, Cr) of each pixel as
  decoded, row by row; an IRAP picture. -/
  | frame (vui : Option (Nat × Bool)) (ten : Bool) (w h : Nat) (pixels : List (Nat × Nat × Nat)) (irap : Bool)
  | bitstreamError
  | unsupported
  deriving DecidableEq, Repr

/-- The figures plamorc records for one plan (spec/08 R211): S, F, E, and S and F of each layer (R224). -/
structure PlanFig where
  s : Nat
  f : Nat
  e : Nat
  layers : List (Nat × Nat)
  deriving DecidableEq, Repr

/-- An output record of a package: the positions it depends on (bit p), and its size in bytes (spec/08 R205, R210). -/
structure OutRec where
  mask : Nat
  size : Nat
  deriving DecidableEq, Repr

/-- What the package places in one slot's cell (spec/04 R90, R100): both banks' words, the operand descriptors by
pointer, the command blocks of the Awl by pointer, the count words of loops with IND = 1 (largest count), and the resident
weights. A streamed plan's transfers bring its weights in (spec/08 R227). -/
structure SlotProg where
  imem : List (BitVec 128)
  tmem : List (BitVec 64)
  descs : Tab (BitVec 256)
  awls : Tab (BitVec 512)
  data : Mem
  weights : Mem
  deriving DecidableEq, Repr

/-- One plan of a package: its figures, program bytes per slot (spec/08 R211), each slot's program, the peak cell-store
bytes of a slot and the peak map-store pages of each slot group (spec/06 R155). -/
structure Plan where
  fig : PlanFig
  progBytes : Nat
  slots : List SlotProg
  storeBytes : Nat
  mapPages : List Nat
  deriving DecidableEq, Repr

/-- A .plm package as Cobbler reads it: its format is not given (spec/08 R196), its contents are those the chapters name. -/
structure Package where
  length : Nat
  /-- Slot groups (R228); slots are numbered 0 to n-1. -/
  groups : List (List Nat)
  /-- The stripe plan, or the only plan, and the halo plan (spec/06 R153); the spill plan (R156); the streamed plan
  (spec/08 R199, R227). -/
  stripe : Plan
  halo : Option Plan
  spill : Option Plan
  streamed : Option Plan
  /-- A feature map lies in LPDDR6 (R155). -/
  lpddrMaps : Bool
  /-- Signal counters of a replica, and for each barrier the slots that issue it (R215, R98). -/
  counters : Nat
  barriers : List (List Nat)
  powerMw : Nat
  outs : List OutRec
  /-- Where the argument block lies: slot and cell-store address (R204, spec/12 R316). -/
  argAt : List (Nat × Nat)
  /-- Where the allocation holds the batch buffers: for each buffer, the offset of each position's sample (spec/07 R191). -/
  batchAt : List (List Nat)
  /-- Bytes of LPDDR6 the context's allocation takes (R255), and the package digest (R355). -/
  allocBytes : Nat
  digest : List Byte
  deriving DecidableEq, Repr

/-- One FMMU of the ESC: enabled, logical start address, length, physical start address, and the accesses it maps (spec/12 R301). -/
structure Fmmu where
  on : Bool := false
  logical : BitVec 32 := 0
  length : BitVec 16 := 0
  physical : BitVec 16 := 0
  reads : Bool := false
  writes : Bool := false
  deriving DecidableEq, Repr

/-- What else of the ESC the master programs: FMMU0 to FMMU7, and of the sync unit SYNC1, the start time and the pulse length (spec/12
R301, R310). -/
structure EscUnits where
  fmmus : List Fmmu := []
  sync1Active : Bool := false
  sync1Cycle : Nat := 0
  start : BitVec 64 := 0
  pulse : Nat := 0
  deriving DecidableEq, Repr

/-- The master's SyncManager and sync-unit settings at a SAFEOP request (spec/12 R302, R326). -/
structure EscConfig where
  /-- SM0 to SM7: enabled, start address, length, three-buffer mode. -/
  sms : List (Bool × Nat × Nat × Bool)
  sync0Active : Bool
  sync0Cycle : Nat
  units : EscUnits
  deriving DecidableEq, Repr

/-- A write that steps DC system time: the system-time offset, or the local time itself (spec/12 R309). -/
inductive TimeWrite where
  | offset (v : BitVec 64)
  | localTime (v : BitVec 64)
  deriving DecidableEq, Repr

/-- Activity of one 4 us interval (spec/09 R241): counters of each quarter, link mW, memory mW, fixed draw mW. -/
structure Activity where
  quarters : List (List Nat)
  linkMw : Nat
  memMw : Nat
  fixedMw : Nat
  deriving DecidableEq, Repr

/-- One regulator's answer (spec/09 R234). -/
structure RegulatorRead where
  valid : Bool
  fault : Bool
  mv : Nat
  ma : Nat
  deriving DecidableEq, Repr

/-- What a scrub or a port access reads (spec/10 R256-R258, spec/11 R290). -/
inductive ScrubPlace where
  | cell (g : CellNo) (memory : Fin 5) (addr : BitVec 22)
  | mapStore (q : QuarterNo) (addr : BitVec 25)
  | lpddr (addr : BitVec 36)
  | staging (ch : ChanNo) (addr : BitVec 24)
  | retained (addr : BitVec 14)
  | firmware (addr : BitVec 24)
  deriving DecidableEq, Repr

inductive ScrubResult where
  | clean
  | corrected
  | uncorrectable
  deriving DecidableEq, Repr

/-- What a Lacer transfer or an Awl command met beside its data: nothing, a word of its source that is uncorrectable
(spec/03 R77, spec/10 R257), or an uncorrectable error in the quarter fabric (spec/01 R26). -/
inductive TransferErr where
  | clean
  | word (p : ScrubPlace)
  | fabric
  deriving DecidableEq, Repr

/-- A Lacer's completion: whose oldest transfer it is (spec/04 R95) and the error it met. -/
structure LacerEnd where
  by_ : Submitter
  err : TransferErr
  deriving DecidableEq, Repr

/-- An Awl's completion: its quarter and the error it met (spec/06 R151). -/
structure AwlEnd where
  q : QuarterNo
  err : TransferErr
  deriving DecidableEq, Repr

/-- JTAG TAP operations (spec/14 R369). -/
inductive TapOp where
  | bypass (tdi : Bool)
  | samplePreload (boundary : List Bool)
  | extest
  | other
  | trst
  deriving DecidableEq, Repr

/-- A monitored supply of R362. -/
inductive Rail where
  | vddQ (q : QuarterNo)
  | fixed (n : Fin 12)
  deriving DecidableEq, Repr

/-- The commands. Names follow spec/opcode_table.json. -/
inductive Instr where
  -- macro-operations: the cell and the 128-bit word its sequencer holds (spec/04)
  | nop (g : CellNo) (w : BitVec 128)
  | halt (g : CellNo) (w : BitVec 128)
  | waits (g : CellNo) (w : BitVec 128)
  | drain (g : CellNo) (w : BitVec 128)
  | hint (g : CellNo) (w : BitVec 128)
  | loop (g : CellNo) (w : BitVec 128)
  | endloop (g : CellNo) (w : BitVec 128)
  | mma (g : CellNo) (w : BitVec 128)
  | mmat (g : CellNo) (w : BitVec 128)
  | conv (g : CellNo) (w : BitVec 128)
  | dwc (g : CellNo) (w : BitVec 128)
  | gap (g : CellNo) (w : BitVec 128)
  | awl (g : CellNo) (w : BitVec 128)
  | vrun (g : CellNo) (w : BitVec 128)
  | vthr (g : CellNo) (w : BitVec 128)
  | lace (g : CellNo) (w : BitVec 128)
  | tpost (g : CellNo) (w : BitVec 128)
  | sigset (g : CellNo) (w : BitVec 128)
  | sigadd (g : CellNo) (w : BitVec 128)
  | sigwait (g : CellNo) (w : BitVec 128)
  | barrier (g : CellNo) (w : BitVec 128)
  | unassignedOpcode (g : CellNo) (w : BitVec 128)
  -- the cell's stitch and register page (spec/03)
  | stitch (g : CellNo) (ev : StitchEvent)
  | stitchHang (g : CellNo)
  | haltObeyed (g : CellNo)
  | start (g : CellNo)
  | haltReq (g : CellNo)
  | fence (g : CellNo)
  | fenceClear (g : CellNo)
  | cntClr (g : CellNo)
  | registerWrite (r : RegRef)
  | readClear (f : RcField) (concurrent : Nat)
  | sentLogRead (g : CellNo) (e : Fin 32) (high : Bool)
  -- fabric completions (spec/04, spec/06)
  | lacerTransferComplete (q : QuarterNo) (l : Fin 4) (by_ : LacerEnd)
  | awlCommandBegin (q : QuarterNo)
  | awlCommandComplete (q : AwlEnd)
  | tpostLanded (g : CellNo)
  | counterUpdateApplied (q : QuarterNo)
  | releasedUpdate (g : CellNo)
  | threadStep (x : ThreadTick)
  -- Plamor-V instructions: cell, place, 64-bit word (spec/05)
  | vnop (g : CellNo) (m : VWhere) (w : Word)
  | vend (g : CellNo) (m : VWhere) (w : Word)
  | vzero (g : CellNo) (m : VWhere) (w : Word)
  | vmov (g : CellNo) (m : VWhere) (w : Word)
  | vsplat (g : CellNo) (m : VWhere) (w : Word)
  | vadd (g : CellNo) (m : VWhere) (w : Word)
  | vsub (g : CellNo) (m : VWhere) (w : Word)
  | vmul (g : CellNo) (m : VWhere) (w : Word)
  | vfma (g : CellNo) (m : VWhere) (w : Word)
  | vmax (g : CellNo) (m : VWhere) (w : Word)
  | vmin (g : CellNo) (m : VWhere) (w : Word)
  | vdiv (g : CellNo) (m : VWhere) (w : Word)
  | vsqrt (g : CellNo) (m : VWhere) (w : Word)
  | vabs (g : CellNo) (m : VWhere) (w : Word)
  | vexp (g : CellNo) (m : VWhere) (w : Word)
  | vlog (g : CellNo) (m : VWhere) (w : Word)
  | vrsqrt (g : CellNo) (m : VWhere) (w : Word)
  | vsigm (g : CellNo) (m : VWhere) (w : Word)
  | vtanh (g : CellNo) (m : VWhere) (w : Word)
  | vcmp (g : CellNo) (m : VWhere) (w : Word)
  | vsel (g : CellNo) (m : VWhere) (w : Word)
  | vcvt (g : CellNo) (m : VWhere) (w : Word)
  | vqnt (g : CellNo) (m : VWhere) (w : Word)
  | vdeq (g : CellNo) (m : VWhere) (w : Word)
  | vamax (g : CellNo) (m : VWhere) (w : Word)
  | vscale (g : CellNo) (m : VWhere) (w : Word)
  | vldd (g : CellNo) (m : VWhere) (w : Word)
  | vlds (g : CellNo) (m : VWhere) (w : Word)
  | vstd (g : CellNo) (m : VWhere) (w : Word)
  | vld (g : CellNo) (m : VWhere) (w : Word)
  | vst (g : CellNo) (m : VWhere) (w : Word)
  | vldc (g : CellNo) (m : VWhere) (w : Word)
  | vsts (g : CellNo) (m : VWhere) (w : Word)
  | vgath (g : CellNo) (m : VWhere) (w : Word)
  | vscat (g : CellNo) (m : VWhere) (w : Word)
  | vscadd (g : CellNo) (m : VWhere) (w : Word)
  | vhget (g : CellNo) (m : VWhere) (w : Word)
  | vhput (g : CellNo) (m : VWhere) (w : Word)
  | vrsrst (g : CellNo) (m : VWhere) (w : Word)
  | vrnorm (g : CellNo) (m : VWhere) (w : Word)
  -- Tackers, Lasters, notices (spec/01, spec/08, spec/10)
  | tackerCellFailure (g : CellNo)
  | cellRestartDone (g : CellNo)
  | inServiceTestDone (g : CellNo) (passed : Bool)
  | istIdleStart (g : CellNo)
  | istCycleEnd
  | claim (n : LasterNo) (g : CellNo) (job : Nat)
  | jobCommand (t : TackerNo) (job : Nat)
  | jobRetirement (g : CellNo)
  | noticeWrite (n : LasterNo) (x : Notice)
  | claimResult (n : LasterNo)
  | jobDone (n : LasterNo)
  | cellFault (n : LasterNo)
  | batchClosed (n : LasterNo)
  | slotStopped (n : LasterNo)
  | doorbell (n : LasterNo)
  | timer (n : LasterNo)
  | control (n : LasterNo)
  | deadlineTimerExpiry (n : LasterNo)
  | lasterWatchdog (n : LasterNo)
  | replaceLaster (v : Byte)
  | lasterReplacementDone (n : LasterNo)
  | tackerWatchdog (t : TackerNo)
  | restartTacker (v : Byte)
  | tackerRestartDone (t : TackerNo) (ok : Bool)
  | tackerComplexTimeout (q : QuarterNo)
  | quarterLinkFail (l : LinkNo)
  | linkTrained (q : QuarterNo)
  -- streams (spec/07)
  | frameStart (p : PortNo) (vc : Fin 4)
  | longPacket (p : PortNo) (vc : Fin 4) (x : LongPacket)
  | lineStart (p : PortNo) (vc : Fin 4)
  | lineEnd (p : PortNo) (vc : Fin 4)
  | frameEnd (p : PortNo) (vc : Fin 4)
  | frameTaken (s : SlotNo)
  | sampleArrival (c : CtxNo) (p : Fin 16)
  | batchWindow (c : CtxNo)
  | frameTimeout (s : SlotNo)
  | gcmdReadDone (s : SlotNo) (r : GcmdRead)
  | meshBuilt (s : SlotNo) (v : ViewNo)
  | triggerEdge (n : TrigNo)
  | triggerEnable (n : TrigNo) (on : Bool)
  | triggerConfig (n : TrigNo) (t0 : BitVec 64) (period width : BitVec 32) (polarity : Byte)
  | inBandInterrupt (b : BusNo)
  | hotJoin (b : BusNo)
  | busTransfer (b : BusNo) (data : List Byte)
  | busTransferDone (b : BusNo) (result : List Byte)
  | slotStart (s : SlotNo)
  | stop (s : SlotNo)
  | resume (s : SlotNo)
  | rereadCal (s : SlotNo)
  | rearm (s : SlotNo) (desc : List Byte)
  | hostCalibration (s : SlotNo) (image : List Byte)
  | streamGroup (s : SlotNo) (grp : Byte)
  | lanes (p : PortNo) (v : Byte)
  | streamDoorbell (ch : ChanNo) (k : Fin 16) (w : Word)
  | frameEntryTaken (s : SlotNo) (d : Declared)
  | decodeDone (s : SlotNo) (r : Decoded)
  | encodedPicture (e : RecNo) (idr : Bool) (data : List Byte)
  | recordingSource (e : RecNo) (v : BitVec 16)
  | consumerIndex (e : RecNo) (v : BitVec 32)
  -- the LPDDR5X channel (spec/11)
  | act (ch : ChanNo) (ba : Fin 16) (row : BitVec 16)
  | pre (ch : ChanNo) (ba : Option (Fin 16))
  | rd (ch : ChanNo) (ba : Fin 16) (row : BitVec 16) (col : BitVec 10) (bl32 : Bool)
  | wr (ch : ChanNo) (ba : Fin 16) (row : BitVec 16) (col : BitVec 10) (data : List Byte)
  | mwr (ch : ChanNo) (ba : Fin 16) (row : BitVec 16) (col : BitVec 10) (data : List Byte) (mask : List Bool)
  | cas (ch : ChanNo)
  | ref (ch : ChanNo)
  | rfm (ch : ChanNo)
  | sre (ch : ChanNo)
  | srx (ch : ChanNo)
  | pde (ch : ChanNo)
  | pdx (ch : ChanNo)
  | mrw (ch : ChanNo) (ma : Byte) (op : Byte)
  | mrr (ch : ChanNo) (ma : Byte)
  | commandBusTraining (ch : ChanNo) (enter : Bool)
  | wck2ckLevelling (ch : ChanNo) (enter : Bool)
  | readDqCalibration (ch : ChanNo)
  | wff (ch : ChanNo) (data : List Byte)
  | rff (ch : ChanNo)
  | zqCalibrationStart (ch : ChanNo)
  | zqCalibrationLatch (ch : ChanNo)
  | unsupportedCommand (ch : ChanNo)
  | hmpResetN (ch : ChanNo) (low : Bool)
  -- port registers and queues (spec/11, spec/08)
  | queueDoorbell (ch : ChanNo) (w : Word)
  | multiQueueDoorbell (ch : ChanNo) (ws : List Word)
  | negSelect (ch : ChanNo) (w : Word)
  | bulkMap (ch : ChanNo) (w : Word)
  | arm (ch : ChanNo) (k : Fin 2) (w : Word)
  | disarm (ch : ChanNo) (k : Fin 2) (w : Word)
  | armFillDone (ch : ChanNo) (k : Fin 2)
  | bulkWriteLand (ch : ChanNo)
  | mailboxRead (ch : ChanNo)
  | mailboxWrite (ch : ChanNo)
  | leafClear (r : LeafReg) (v : Word) (setting : Word)
  | queueDestroy (c : CtxNo) (b : BitVec 128)
  | createSubmit (c : CtxNo) (b : BitVec 128)
  | createComplete (c : CtxNo) (b : BitVec 128)
  | createEvent (c : CtxNo) (b : BitVec 128)
  | job (q : QueueNo)
  | cancel (q : QueueNo)
  -- contexts (spec/08)
  | load (c : CtxNo) (p : Package) (place : BitVec 36)
  | unload (c : CtxNo)
  | activate (c : CtxNo)
  | suspend (c : CtxNo)
  | reseed (c : CtxNo)
  | statisticsReset (c : CtxNo) (v : Byte)
  | launch (c : CtxNo)
  -- power (spec/09)
  | cap (v : BitVec 32)
  | priorityOrder (v : Byte)
  | linkReserve (v : BitVec 32)
  | memoryReserve (v : BitVec 32)
  | activeCellLimit (v : Byte)
  | tjLimit (v : Byte)
  | lowBound (v : Byte)
  | runRequest
  | standby
  | deepSleep
  | deepSleepEntry
  | sleepAbandoned
  | estimateInterval (a : Activity)
  | telemetryCheck (quarters : List RegulatorRead) (fixed : List RegulatorRead)
  | setpointChoice (q : QuarterNo)
  | slowThrottle (q : QuarterNo)
  | pmbAlertN (q : QuarterNo)
  | hintPhase (g : CellNo)
  | sensorReport (i : SensorNo) (t : BitVec 16)
  | sensorFail (i : SensorNo)
  | floorHoldEnd
  | thermalPrediction
  | trip (i : SensorNo) (t : BitVec 16)
  | tripRelease
  | zoneGate (z : ZoneNo)
  | zonePowerGood (z : ZoneNo)
  | zoneFail (z : ZoneNo)
  | scrubRead (p : ScrubPlace) (r : ScrubResult)
  -- the field port (spec/12)
  | initRequest
  | preopRequest
  | safeopRequest (e : EscConfig)
  | opRequest
  | bootstrapRequest
  | sm2Watchdog
  | inputLatch
  | outputApply (data : List Byte)
  | sdoUpload (index : BitVec 16) (sub : Byte)
  | sdoDownload (index : BitVec 16) (sub : Byte) (total : Nat) (data : List Byte)
  | sdoSegment (toggle last : Bool) (data : List Byte)
  | sdoSegmentTimeout
  | completeAccess (write : Bool) (index : BitVec 16) (sub : Fin 2) (data : List Byte)
  | getOdList (listType : Fin 6)
  | getObjectDescription (index : BitVec 16)
  | getEntryDescription (index : BitVec 16) (sub : Byte)
  | foeWriteFirmware (password : BitVec 32)
  | foeReadFirmware
  | foeReadPlm (name : List Byte) (password : BitVec 32)
  | foeWritePlm (name : List Byte) (password : BitVec 32)
  | foeData (packet : BitVec 32) (data : List Byte)
  | mbxError (mbxType : Byte)
  | emergency
  | driftCompensation (difference : BitVec 32)
  | systemTimeOffset (w : TimeWrite)
  | latchEdge (pin : Fin 2) (rising : Bool)
  | syncLost
  | linkLost (p : Fin 2)
  | bypassEngage
  | bypassOverCurrent
  | bypassOpenLoad
  | bypassReengage (v : Byte)
  | ack
  | restart
  | hostState (v : Fin 4)
  | resultBinding (k : Fin 256) (v : BitVec 32)
  | argumentBinding (k : Fin 64) (v : BitVec 16)
  | pdoMapping (index : BitVec 16) (sub : Byte) (v : BitVec 32)
  -- resets, boot, attestation (spec/13, spec/14)
  | porNAssert
  | porNRelease
  | resetNAssert
  | resetNRelease
  | supplyOutOfLimits (r : Rail)
  | refclkStop
  | stage0Entry (goldenLow : Bool) (readOk : List Bool)
  | bootComplete
  | lockstepMismatch
  | cobblerWatchdog
  | warmRestart (v : Byte)
  | update (v : Byte)
  | flashOperationDone (ok : Bool)
  | liveActivation (v : Byte)
  | nonce (data : List Byte)
  | quote
  | linkUp (p : Fin 2)
  | syncEdge (i : Fin 2)
  | siiWrite (addr : BitVec 16) (data : BitVec 16)
  | tapInstruction (op : TapOp)
  | threadLoadReturn (g : CellNo) (t : ThreadNo)
  | deskewCalibration (p : PortNo) (initial : Bool)
  | ulps (p : PortNo) (enter : Bool)
  | refclkStart
  | supplyInLimits (r : Rail)
  deriving DecidableEq, Repr

end Sys2Proof
end

