-- ==== Sys2Proof/Decode.lean ====
section
/-! DEFINITION. Commands by bit patterns: no row of spec/opcode_table.json gives bits, so no word spells a command. -/

namespace Sys2Proof

/-- The command that the low `nbits` of `w` spell: none, since the table gives no row any bits. -/
def decodeTableWord (_nbits _w : Nat) : Option Instr := none

end Sys2Proof
end

