-- ==== Sys2Proof/Config.lean ====
section
/-! DEFINITION. What an implementation fixes and what the spec leaves open: opaque constants with no body.
Nothing in Lean can evaluate them, so a theorem that holds, holds for every value of theirs. -/

namespace Sys2Proof.Config

/-- A fresh free value of width `w`, drawn by the step from the state's counter `free` (notes/assumptions/3). -/
opaque freeValue (w : Nat) : Nat → BitVec w

/-- A value that an operation marked D needs and the spec does not state: the same for the same operands on every run
(spec/04 R103). `what` numbers the place that takes it (notes/assumptions/98). -/
opaque operandValue (w what : Nat) (operands : List Nat) : BitVec w

/-- VCVT to an MX code takes the shared exponent of blocks of 64 lanes, else of 32 (notes/assumptions/17). -/
opaque vcvtWide : Bool

/-- True for the grade -64I (64 GiB of LPDDR6), false for -32I (spec/00 R1, R2). -/
opaque grade64 : Bool

/-- Software version text and serial number (spec/12 R333). -/
opaque softwareVersion : List Byte
opaque serialNumber : BitVec 32

/-- The interpolation tables of the vector engine in each version that the bit-exactness key names (spec/02 R49, spec/05 R109),
on FP32 patterns other than those whose results the spec states. -/
opaque tableExp (version : BitVec 16) : F32 → F32
opaque tableLog (version : BitVec 16) : F32 → F32
opaque tableRsqrt (version : BitVec 16) : F32 → F32
opaque tableSigm (version : BitVec 16) : F32 → F32
opaque tableTanh (version : BitVec 16) : F32 → F32

/-- Demosaic: the fixed coefficients of the 5 x 5 window are not given (spec/07 R173 step 3). Arguments: CFA code,
colour (0 R, 1 G, 2 B), row parity, column parity, the 25 samples in row order. -/
opaque demosaic : Nat → Nat → Nat → Nat → List Nat → Nat

/-- Conversion of a decoded or YUV pixel to 12-bit RGB (spec/07 R184 names BT.601 and BT.709 and gives no numbers).
Arguments: matrix (0 BT.601, 1 BT.709), full range, Y, Cb, Cr in 12-bit units, colour. -/
opaque yuvToRgb : Nat → Bool → Nat → Nat → Nat → Nat → Nat

/-- Operations of the firmware arithmetic library (spec/07 R172): a natural number, an FP32 pattern, and arithmetic. -/
inductive ArithOp where
  | nat | real32 | add | sub | mul | div | sqrt | atan
  deriving DecidableEq, Repr

/-- The library of version ARITH_LIB, whose number format and roundings are not given (spec/07 R172, spec/04 R102): an
operation, whether a number is negative or zero, and a source coordinate rounded to a node of 1/256 pixel (R178). -/
opaque arithLib (lib : BitVec 16) (op : ArithOp) (args : List (BitVec 64)) : BitVec 64
opaque arithNegative (lib : BitVec 16) : BitVec 64 → Bool
opaque arithZero (lib : BitVec 16) : BitVec 64 → Bool
opaque arithNode (lib : BitVec 16) : BitVec 64 → Int

/-- Bytes of port staging SRAM that the tables of a view may take; the size is not given (spec/07 R187, R193). -/
opaque meshStaging : Nat

/-- The fused energy weights and leakage of a part (spec/09 R241): power in mW of quarter `q` from its activity
counters, its rail in mV and its cluster temperatures. -/
opaque quarterPower : Nat → List Nat → Nat → List Int → Nat

/-- Power in mW of cluster `t`, from its quarter's activity counters, the rail in mV and its temperature (spec/09 R241, R242). -/
opaque clusterPower : Nat → List Nat → Nat → Int → Nat

/-- The thermal network fused per part (spec/09 R242): predicted Tj in 0.1 degC from the model's state and power. -/
opaque thermalStep : Nat → Int → Nat → Int

/-- XMSS-SHAKE256 verification and signing and SHAKE256 by their standards, which the spec names and does not restate
(spec/00 R13, spec/13 R343, R356). -/
opaque xmssVerify : (pubkey sig msg : List Byte) → Bool
opaque xmssSign : (key : List Byte) → (leaf : Nat) → (msg : List Byte) → List Byte
opaque shake256 : List Byte → List Byte

/-- The layout of a 64-byte measurement-log entry is not given (spec/13 R355). Arguments: the kind of entry (0 stage 0
sector, 1 running image, 2 candidates, 3 key latch, 4 bit-exactness key, 5 live activation, 6 package digest), its content. -/
opaque logEntry : (kind : Nat) → (content : List Byte) → List Byte

/-- Fused and provisioned per part (spec/13 R341, R357): root digest, device secret, lifecycle state (true: provisioned), identity public key, certificate, the digest
of the stage 0 sector and the SII content (spec/12 R303). -/
opaque fusedRoot : List Byte
opaque deviceSecret : List Byte
opaque provisioned : Bool
/-- The identity key as the embedded flash holds it, wrapped; the wrapping key derived from the device secret, and the unwrapping, which
are the key engine's (spec/13 R340, R347, R356). -/
opaque wrappedIdentity : List Byte
opaque wrappingKey : (secret : List Byte) → List Byte
opaque unwrap : (key wrapped : List Byte) → List Byte
/-- Where a hart begins in its section of an image: no field of the header gives an entry address (spec/13 R338, R343). -/
opaque entryAddress : (hart : Nat) → (code : List Byte) → BitVec 32
opaque identityKey : List Byte
opaque certificate : List Byte
opaque stage0Digest : List Byte
opaque siiContent : List Byte

/-- LPDDR5X mode registers by JESD209-5C, which the spec names and does not restate (spec/11 R273): the code of the nominal
refresh rate in MR4, the code of MR8, whether a register sets a latency, DBI, drive strength, ODT, a WCK mode or a training
pattern, and the burst of a read DQ calibration from the registers as written. -/
opaque mr4Nominal : Byte
opaque mr8Code : Byte
opaque mrEffective : Nat → Bool
opaque dqCalibration : List (Nat × Byte) → List Byte

/-- What SDO Information lists under the list types 4 and 5 of ETG.1000 (spec/12 R320 names every list type, and no contents). -/
opaque odList : Nat → List Nat

end Sys2Proof.Config
end

