-- ==== Sys2Proof/Machine/Tab.lean ====
section
/-! DEFINITION. Named operations on sparse tables and byte memories, little-endian access in one place (spec/00 R4),
and saturating counters (spec/00 R10). -/

namespace Sys2Proof.Machine

/-- The value at key `k`; `d` where none is listed. -/
def lookup {α : Type} (d : α) : Tab α → Nat → α
  | [], _ => d
  | (k', v) :: t, k => if k = k' then v else lookup d t k

/-- Insert before the first larger key. -/
def insertKey {α : Type} : Tab α → Nat → α → Tab α
  | [], k, v => [(k, v)]
  | (k', v') :: t, k, v => if k < k' then (k, v) :: (k', v') :: t else (k', v') :: insertKey t k v

/-- Drop a key. -/
def erase {α : Type} (t : Tab α) (k : Nat) : Tab α := t.filter (fun p => !(p.1 == k))

/-- Write `v` at `k`, keeping the canonical form: the default value is not listed. -/
def put {α : Type} [DecidableEq α] (d : α) (t : Tab α) (k : Nat) (v : α) : Tab α :=
  if v = d then erase t k else insertKey (erase t k) k v

/-- The canonical form: keys strictly rising, no entry equal to the default. -/
def Tab.wf {α : Type} [DecidableEq α] (d : α) : Tab α → Bool
  | [] => true
  | [(_, v)] => !(v == d)
  | (k, v) :: (k', v') :: t => decide (k < k') && !(v == d) && Tab.wf d ((k', v') :: t)

/-- A memory whose unlisted bytes read 0 is canonical. -/
abbrev Memory.wf (m : Mem) : Bool := Tab.wf (0 : Byte) m

/-- One byte of a memory whose unlisted bytes read 0. -/
def readByte (m : Mem) (a : Nat) : Byte := lookup 0 m a

/-- Write one byte. -/
def writeByte (m : Mem) (a : Nat) (b : Byte) : Mem := put 0 m a b

/-- `n` bytes from `a` upward. -/
def readBytes (m : Mem) (a n : Nat) : List Byte := (List.range n).map (fun i => readByte m (a + i))

/-- Write bytes from `a` upward. -/
def writeBytes (m : Mem) (a : Nat) : List Byte → Mem
  | [] => m
  | b :: bs => writeBytes (writeByte m a b) (a + 1) bs

/-- All bytes of a range read 0 afterwards. -/
def zeroRange (m : Mem) (a n : Nat) : Mem := m.filter (fun p => decide (p.1 < a) || decide (a + n ≤ p.1))

/-- Give every key of a range the same value. -/
def fillRange {α : Type} [DecidableEq α] (d : α) (t : Tab α) (a n : Nat) (v : α) : Tab α :=
  (List.range n).foldl (fun t i => put d t (a + i) v) t

/-- Change the value at every key below `n`. -/
def mapKeys {α : Type} [DecidableEq α] (d : α) (t : Tab α) (n : Nat) (f : α → α) : Tab α :=
  (List.range n).foldl (fun t k => put d t k (f (lookup d t k))) t

/-- Little-endian value of bytes (R4). -/
def leNat : List Byte → Nat
  | [] => 0
  | b :: bs => b.toNat + 256 * leNat bs

/-- `n` little-endian bytes of a number. -/
def leBytes : Nat → Nat → List Byte
  | 0, _ => []
  | n + 1, v => BitVec.ofNat 8 v :: leBytes n (v / 256)

/-- Little-endian read and write of `n` bytes. -/
def readLE (m : Mem) (a n : Nat) : Nat := leNat (readBytes m a n)
def writeLE (m : Mem) (a n v : Nat) : Mem := writeBytes m a (leBytes n v)

/-- Bits h down to l of a number (R4). -/
def bits (v h l : Nat) : Nat := (v / 2 ^ l) % 2 ^ (h + 1 - l)

/-- A value placed at bit l. -/
def at_ (v l : Nat) : Nat := v * 2 ^ l

/-- Two's-complement reading of an n-bit field. -/
def signed (n v : Nat) : Int := if v % 2 ^ n < 2 ^ (n - 1) then Int.ofNat (v % 2 ^ n) else Int.ofNat (v % 2 ^ n) - 2 ^ n

/-- Two's-complement pattern of n bits. -/
def pattern (n : Nat) (v : Int) : Nat := (v % (2 ^ n : Int)).toNat

/-- A counter field of n bits saturates at all ones (R10). -/
def satAdd (n a b : Nat) : Nat := min (a + b) (2 ^ n - 1)

/-- Division rounding up. -/
def ceilDiv (a b : Nat) : Nat := (a + b - 1) / b

/-- Update one entry of a table. -/
def modify {α : Type} [DecidableEq α] (d : α) (t : Tab α) (k : Nat) (f : α → α) : Tab α := put d t k (f (lookup d t k))

/-- Count in a table of n-bit counters (R10). -/
def bump (n : Nat) (t : Tab Nat) (k by_ : Nat) : Tab Nat := modify 0 t k (fun v => satAdd n v by_)

/-- ASCII bytes of a short text. -/
def ascii (s : String) : List Byte := s.toList.map (fun c => BitVec.ofNat 8 c.toNat)

/-- A list of bytes cut or padded with zeros to n bytes. -/
def padTo (n : Nat) (l : List Byte) : List Byte := l.take n ++ List.replicate (n - l.length) 0

/-- Replace element i of a list. -/
def setAt {α : Type} : List α → Nat → α → List α
  | [], _, _ => []
  | _ :: l, 0, v => v :: l
  | x :: l, n + 1, v => x :: setAt l n v

end Sys2Proof.Machine
end

