-- ==== Sys2Proof/Machine/Num.lean ====
section
/-! DEFINITION. The number formats of arithmetic profile 1 and their roundings (spec/02 R28 to R36, R42, R49): every
rounding takes an exact value and rounds it once, to nearest, ties to even. -/

namespace Sys2Proof.Machine

/-- An exact value: NaN, an infinity, or sign and num / den. -/
inductive FVal where
  | nan
  | inf (neg : Bool)
  | fin (neg : Bool) (num den : Nat)
  deriving DecidableEq, Repr

/-- A floating-point format: mantissa bits, exponent bits, bias, largest finite code, infinity, NaN (R28). -/
structure FFmt where
  mb : Nat
  eb : Nat
  bias : Nat
  maxCode : Nat
  infCode : Option Nat
  nanCode : Option Nat
  deriving DecidableEq, Repr

def fp32 : FFmt := ⟨23, 8, 127, 0x7F7FFFFF, some 0x7F800000, some 0x7FC00000⟩
def fp16 : FFmt := ⟨10, 5, 15, 0x7BFF, some 0x7C00, some 0x7E00⟩
def bf16 : FFmt := ⟨7, 8, 127, 0x7F7F, some 0x7F80, some 0x7FC0⟩
def e5m2 : FFmt := ⟨2, 5, 15, 0x7B, some 0x7C, some 0x7F⟩
def e4m3 : FFmt := ⟨3, 4, 7, 0x7E, none, some 0x7F⟩
def e3m2 : FFmt := ⟨2, 3, 3, 0x1F, none, none⟩
def e2m3 : FFmt := ⟨3, 2, 1, 0x1F, none, none⟩
def e2m1 : FFmt := ⟨1, 2, 1, 0x7, none, none⟩

/-- Width in bits of a format. -/
def FFmt.width (f : FFmt) : Nat := 1 + f.eb + f.mb

/-- m * 2^e as an exact fraction. -/
def dyadic (neg : Bool) (m : Nat) (e : Int) : FVal :=
  if 0 ≤ e then .fin neg (m * 2 ^ e.toNat) 1 else .fin neg m (2 ^ (-e).toNat)

/-- Value of a code (R28). -/
def decodeF (f : FFmt) (code : Nat) : FVal :=
  let neg := decide ((code / 2 ^ (f.eb + f.mb)) % 2 = 1)
  let c := code % 2 ^ (f.eb + f.mb)
  let e := c / 2 ^ f.mb
  let m := c % 2 ^ f.mb
  if f.infCode = some c then .inf neg
  else if c > f.maxCode then .nan
  else if e = 0 then dyadic neg m (1 - (f.bias : Int) - f.mb)
  else dyadic neg (2 ^ f.mb + m) ((e : Int) - f.bias - f.mb)

/-- Quotient rounded to nearest, ties to even (R31). -/
def rneDiv (n d : Nat) : Nat :=
  let q := n / d
  let r := n % d
  if 2 * r < d then q else if d < 2 * r then q + 1 else if q % 2 = 0 then q else q + 1

/-- The same for a signed numerator. -/
def rneDivI (n : Int) (d : Nat) : Int := if n < 0 then -(rneDiv (-n).toNat d : Int) else (rneDiv n.toNat d : Int)

/-- floor(log2(num / den)) of a positive fraction. -/
def floorLog2 (num den : Nat) : Int :=
  let l : Int := (Nat.log2 num : Int) - (Nat.log2 den : Int)
  let ge := if 0 ≤ l then decide (den * 2 ^ l.toNat ≤ num) else decide (den ≤ num * 2 ^ (-l).toNat)
  if ge then l else l - 1

/-- Magnitude code after one rounding on the grid without an upper exponent limit (R32). -/
def gridCode (f : FFmt) (num den : Nat) : Nat :=
  if num = 0 then 0 else
  let e := max (floorLog2 num den) (1 - (f.bias : Int))
  let q := e - f.mb
  let n := if 0 ≤ q then rneDiv num (den * 2 ^ q.toNat) else rneDiv (num * 2 ^ (-q).toNat) den
  ((e + f.bias - 1).toNat) * 2 ^ f.mb + n

/-- Result of a narrowing: the code, clipped, NaN output (R32). -/
structure Narrowed where
  code : Nat
  clipped : Bool
  nan : Bool
  deriving DecidableEq, Repr

def signBit (f : FFmt) (neg : Bool) : Nat := if neg then 2 ^ (f.eb + f.mb) else 0

/-- Narrowing to a floating format (R32). -/
def narrowF (f : FFmt) : FVal → Narrowed
  | .nan => ⟨match f.nanCode with | some c => c | none => 0, false, true⟩
  | .inf neg => match f.infCode with
    | some c => ⟨signBit f neg + c, false, false⟩
    | none => ⟨signBit f neg + f.maxCode, true, false⟩
  | .fin neg n d =>
    let c := gridCode f n d
    if f.maxCode < c then ⟨signBit f neg + f.maxCode, true, false⟩ else ⟨signBit f neg + c, false, false⟩

/-- Rounding of an IEEE 754 operation: beyond the range it is an infinity (R49). -/
def roundF (f : FFmt) : FVal → Nat
  | .nan => match f.nanCode with | some c => c | none => 0
  | .inf neg => signBit f neg + (match f.infCode with | some c => c | none => f.maxCode)
  | .fin neg n d =>
    let c := gridCode f n d
    if f.maxCode < c then signBit f neg + (match f.infCode with | some c => c | none => f.maxCode) else signBit f neg + c

def FVal.neg : FVal → FVal
  | .nan => .nan
  | .inf s => .inf (!s)
  | .fin s n d => .fin (!s) n d

def FVal.abs : FVal → FVal
  | .nan => .nan
  | .inf _ => .inf false
  | .fin _ n d => .fin false n d

/-- Exact sum; an exact zero is +0 unless both terms are -0 (R29). -/
def FVal.add : FVal → FVal → FVal
  | .nan, _ => .nan
  | _, .nan => .nan
  | .inf a, .inf b => if a = b then .inf a else .nan
  | .inf a, .fin .. => .inf a
  | .fin .., .inf b => .inf b
  | .fin a n d, .fin b m e =>
    let x : Int := (if a then -1 else 1) * (n * e : Nat)
    let y : Int := (if b then -1 else 1) * (m * d : Nat)
    let z := x + y
    if z = 0 then .fin (a && b && n == 0 && m == 0) 0 1 else .fin (decide (z < 0)) z.natAbs (d * e)

/-- Exact product. -/
def FVal.mul : FVal → FVal → FVal
  | .nan, _ => .nan
  | _, .nan => .nan
  | .inf a, .inf b => .inf (a != b)
  | .inf a, .fin b n _ => if n = 0 then .nan else .inf (a != b)
  | .fin a n _, .inf b => if n = 0 then .nan else .inf (a != b)
  | .fin a n d, .fin b m e => .fin (a != b) (n * m) (d * e)

/-- Exact quotient, with the IEEE 754 value at its corners (R41). -/
def FVal.div : FVal → FVal → FVal
  | .nan, _ => .nan
  | _, .nan => .nan
  | .inf _, .inf _ => .nan
  | .inf a, .fin b _ _ => .inf (a != b)
  | .fin a _ _, .inf b => .fin (a != b) 0 1
  | .fin a n d, .fin b m e => if m = 0 then (if n = 0 then .nan else .inf (a != b)) else .fin (a != b) (n * e) (d * m)

/-- Order of two values that are not NaN: -1, 0 or 1 (zeros are equal). -/
def FVal.cmp : FVal → FVal → Int
  | .inf a, .inf b => if a = b then 0 else if a then -1 else 1
  | .inf a, _ => if a then -1 else 1
  | _, .inf b => if b then 1 else -1
  | .fin a n d, .fin b m e =>
    let x : Int := (if a then -1 else 1) * (n * e : Nat)
    let y : Int := (if b then -1 else 1) * (m * d : Nat)
    if x < y then -1 else if x = y then 0 else 1
  | _, _ => 0

def FVal.isNan : FVal → Bool
  | .nan => true
  | _ => false

def FVal.isFinite : FVal → Bool
  | .fin .. => true
  | _ => false

def FVal.ofInt (i : Int) : FVal := .fin (decide (i < 0)) i.natAbs 1

/-- Integer square root by bits, from bit `b` down. -/
def isqrtFrom : Nat → Nat → Nat → Nat
  | 0, _, r => r
  | b + 1, n, r => let c := r + 2 ^ b; isqrtFrom b n (if c * c ≤ n then c else r)

def isqrt (n : Nat) : Nat := isqrtFrom (Nat.log2 n / 2 + 1) n 0

/-- FP32 square root, correctly rounded (R49): enough bits of the root and a sticky bit, rounded once. -/
def sqrtF32 : FVal → Nat
  | .nan => 0x7FC00000
  | .inf neg => if neg then 0x7FC00000 else 0x7F800000
  | .fin neg n d =>
    if n = 0 then signBit fp32 neg
    else if neg then 0x7FC00000
    else
      let k : Nat := 160
      let m := n * 2 ^ (2 * k)
      let q := m / d
      let r := isqrt q
      let exact := m % d == 0 && r * r == q
      roundF fp32 (.fin false (2 * r + (if exact then 0 else 1)) (2 ^ (k + 1)))

def f32 (w : BitVec 32) : FVal := decodeF fp32 w.toNat
def toF32 (v : FVal) : BitVec 32 := BitVec.ofNat 32 (roundF fp32 v)

/-- IEEE 754 operations of the vector engine (R49). -/
def addF32 (a b : BitVec 32) : BitVec 32 := toF32 ((f32 a).add (f32 b))
def subF32 (a b : BitVec 32) : BitVec 32 := toF32 ((f32 a).add (f32 b).neg)
def mulF32 (a b : BitVec 32) : BitVec 32 := toF32 ((f32 a).mul (f32 b))
def fmaF32 (a b c : BitVec 32) : BitVec 32 := toF32 (((f32 a).mul (f32 b)).add (f32 c))
def divF32 (a b : BitVec 32) : BitVec 32 := toF32 ((f32 a).div (f32 b))

/-- Saturation to a signed range. -/
def satInt (lo hi v : Int) : Int := if v < lo then lo else if hi < v then hi else v

/-- Narrowing to an integer with a zero point: sat(RNE(v) + z), the zero point for NaN (R32, R41). -/
def narrowInt (lo hi z : Int) : FVal → Int × Bool × Bool
  | .nan => (z, false, true)
  | .inf neg => (if neg then lo else hi, true, false)
  | .fin neg n d =>
    let r : Int := (if neg then -(rneDiv n d : Int) else (rneDiv n d : Int)) + z
    (satInt lo hi r, decide (r < lo) || decide (hi < r), false)

/-- Widths of FORMAT codes in bits (spec/04 R89, R34); T5B is packed by bytes of five. -/
def formatBits (f : Nat) : Nat :=
  match f with
  | 0x01 | 0x08 => 4
  | 0x06 | 0x07 => 6
  | 0x0B | 0x0C => 16
  | 0x0D | 0x0E => 32
  | _ => 8

/-- The floating format of a FORMAT code, where it has one. -/
def formatF (f : Nat) : Option FFmt :=
  match f with
  | 0x02 | 0x04 => some e4m3
  | 0x03 | 0x05 => some e5m2
  | 0x06 => some e3m2
  | 0x07 => some e2m3
  | 0x08 => some e2m1
  | 0x0B => some bf16
  | 0x0C => some fp16
  | 0x0D => some fp32
  | _ => none

/-- Exponent of an element format's largest normal power of two (R35). -/
def emaxElem (f : Nat) : Int :=
  match f with
  | 0x04 => 8
  | 0x05 => 15
  | 0x06 => 4
  | 0x07 => 2
  | 0x08 => 2
  | _ => 0

/-- Exact value of an element code: floating formats, MXINT8 (R28). -/
def elemVal (f code : Nat) : FVal :=
  match formatF f with
  | some x => decodeF x code
  | none => if f = 0x09 then (let i := signed 8 code; .fin (decide (i < 0)) i.natAbs 64)
            else FVal.ofInt (signed (formatBits f) code)

/-- Narrowing of a value to an element of a floating or MXINT8 format (R32): the code is the low bits. -/
def narrowElem (f : Nat) (v : FVal) : Narrowed :=
  match formatF f with
  | some x => narrowF x v
  | none =>
    let scaled := if f = 0x09 then v.mul (.fin false 64 1) else v
    let w := formatBits f
    let (c, cl, nn) := narrowInt (-(2 ^ (w - 1) : Int)) (2 ^ (w - 1) - 1) 0 scaled
    ⟨pattern w c, cl, nn⟩

/-- Value of an MX element under its scale byte; 0xFF makes a NaN (R36). -/
def mxVal (f scale code : Nat) : FVal :=
  if scale = 0xFF then .nan else (elemVal f code).mul (dyadic false 1 ((scale : Int) - 127))

/-- Elements of a row packed along K (R34): element `j` of width `w` bits at byte address `a`. -/
def readElem (m : Mem) (a w j : Nat) : Nat :=
  if w = 4 then bits (readByte m (a + j / 2)).toNat (4 * (j % 2) + 3) (4 * (j % 2))
  else if w = 6 then bits (readLE m (a + 3 * (j / 4)) 3) (6 * (j % 4) + 5) (6 * (j % 4))
  else readLE m (a + j * (w / 8)) (w / 8)

def writeElem (m : Mem) (a w j v : Nat) : Mem :=
  if w = 4 then
    let o := (readByte m (a + j / 2)).toNat
    writeLE m (a + j / 2) 1 (if j % 2 = 0 then o / 16 * 16 + v % 16 else (v % 16) * 16 + o % 16)
  else if w = 6 then
    let b := a + 3 * (j / 4)
    let o := readLE m b 3
    let s := 6 * (j % 4)
    writeLE m b 3 (o - at_ (bits o (s + 5) s) s + at_ (v % 64) s)
  else writeLE m (a + j * (w / 8)) (w / 8) v

/-- Bytes of n packed elements. -/
def packedBytes (f n : Nat) : Nat := if f = 0x0A then ceilDiv n 5 else ceilDiv (n * formatBits f) 8

/-- A byte of five trits (R42, R45); an invalid code reads as zeros and is counted (R43). -/
def t5bDecode (b : Nat) : List Int × Bool :=
  if 242 < b then ([0, 0, 0, 0, 0], true)
  else ([0, 1, 2, 3, 4].map (fun i => ((b / 3 ^ i % 3 : Nat) : Int) - 1), false)

def t5bEncode (t : List Int) : Nat := (t.mapIdx (fun i x => (x + 1).toNat * 3 ^ i)).foldl (· + ·) 0

end Sys2Proof.Machine
end

