-- ==== Sys2Proof/Machine/Arith.lean ====
section
/-! DEFINITION. Accumulation, quantisation and block codes: MX blocks and dot products (spec/02 R33 to R48), scales
found on the fly (spec/05 R122), optimiser moments (spec/02 R53 to R56), GAP sums (spec/06 R154), FMC blocks (spec/06
R157 to R160) and the CRC-32 of spec/07 R170. -/

namespace Sys2Proof.Machine

/-! ### Accumulators -/

/-- A running accumulator: pattern, bound held, ACC_SAT, a NaN reached it (R47). -/
structure Acc where
  val : BitVec 32
  held : Bool := false
  sat : Bool := false
  nanIn : Bool := false
  deriving DecidableEq, Repr

/-- acc <- RNE_FP32(acc + x), saturating and holding the bound (R37, R47). -/
def Acc.addF (a : Acc) (x : FVal) : Acc :=
  match x with
  | .nan => { a with val := toF32 .nan, held := false, nanIn := true }
  | .inf _ =>
    let v := (f32 a.val).add x
    { a with val := toF32 v, held := false, nanIn := a.nanIn || v.isNan }
  | .fin .. =>
    if a.held then a else
    match f32 a.val with
    | .fin n d e =>
      let r := narrowF fp32 ((FVal.fin n d e).add x)
      if r.clipped then { a with val := BitVec.ofNat 32 r.code, held := true, sat := true }
      else { a with val := BitVec.ofNat 32 r.code }
    | v => { a with val := toF32 v }

/-- INT32 addition that takes and holds its bound (R47). -/
def Acc.addI (a : Acc) (x : Int) : Acc :=
  if a.held then a else
  let s := a.val.toInt + x
  if s < -2147483648 then { a with val := BitVec.ofInt 32 (-2147483648), held := true, sat := true }
  else if 2147483647 < s then { a with val := BitVec.ofInt 32 2147483647, held := true, sat := true }
  else { a with val := BitVec.ofInt 32 s }

/-- Adding partial results of a split reduction in ascending order (R48): one rounding per FP32 partial, which holds no bound;
an INT32 sum holds its bound. -/
def splitSumF (parts : List (BitVec 32)) (start : Acc) : Acc := parts.foldl (fun a p => { a with held := false }.addF (f32 p)) start
def splitSumI (parts : List (BitVec 32)) (start : Acc) : Acc := parts.foldl (fun a p => a.addI p.toInt) start

/-- An operand strip along K as the eyelets hold it: elements, block or group scales and what they mean. -/
structure Strip where
  /-- Exact elements of the float paths. -/
  vals : List FVal
  /-- Differences q - z, or trits, of the integer paths (R40, R45). -/
  ints : List Int
  /-- Scale bytes (MX) or FP16 codes (groups), one per block. -/
  scales : List Nat
  /-- The FP32 per-tensor or per-channel scale. -/
  tscale : BitVec 32
  deriving DecidableEq, Repr

/-- Cut a list into runs of n. -/
def chunks {α : Type} (n : Nat) : Nat → List α → List (List α)
  | 0, _ => []
  | f + 1, l => if l.isEmpty then [] else l.take n :: chunks n f (l.drop n)

/-- A block's exact sum of products; NaN and infinity as R37 states. -/
def blockSum (a b : List FVal) : FVal := (a.zip b).foldl (fun s p => s.add (p.1.mul p.2)) (.fin false 0 1)

/-- MX and plain FP8 dot product (R37, R38): one rounding per block; the scale bytes of plain FP8 are 0x7F. -/
def mxDot (block : Nat) (a b : Strip) (start : Acc) : Acc :=
  let n := ceilDiv a.vals.length block
  (List.range n).foldl (fun acc i =>
    let sa := a.scales.getD i 0x7F
    let sb := b.scales.getD i 0x7F
    if sa = 0xFF ∨ sb = 0xFF then acc.addF .nan
    else acc.addF ((blockSum ((a.vals.drop (i * block)).take block) ((b.vals.drop (i * block)).take block)).mul
      (dyadic false 1 ((sa : Int) + sb - 254)))) start

/-- BF16: a fused addition per product (R46). -/
def bf16Dot (a b : Strip) (start : Acc) : Acc :=
  (a.vals.zip b.vals).foldl (fun acc p => acc.addF (p.1.mul p.2)) start

/-- INT8 and INT4 with per-tensor or per-channel scales: saturating INT32 (R46). -/
def intDot (a b : Strip) (start : Acc) : Acc := (a.ints.zip b.ints).foldl (fun acc p => acc.addI (p.1 * p.2)) start

/-- Integers with groups along K, and trits: acc <- RNE(acc + sA x sB x G) per group (R46). -/
def groupDot (group : Nat) (a b : Strip) (start : Acc) : Acc :=
  let n := ceilDiv a.ints.length group
  let sc := fun (s : Strip) (i : Nat) => match s.scales with | [] => f32 s.tscale | l => decodeF fp16 (l.getD i 0)
  (List.range n).foldl (fun acc i =>
    let g := (((a.ints.drop (i * group)).take group).zip ((b.ints.drop (i * group)).take group)).foldl (fun s p => s + p.1 * p.2) 0
    acc.addF (((sc a i).mul (sc b i)).mul (FVal.ofInt g))) start

/-! ### Quantisation -/

/-- Quantisation to INT8 or INT4 with scale and zero point (R41). -/
def quantInt (bitsN : Nat) (x s : FVal) (z : Int) : Int × Bool × Bool :=
  narrowInt (-(2 ^ (bitsN - 1) : Int)) (2 ^ (bitsN - 1) - 1) z (x.div s)

/-- The largest finite magnitude of a list. -/
def amaxFinite (l : List FVal) : FVal :=
  l.foldl (fun m x => if x.isFinite && decide (m.cmp x.abs < 0) then x.abs else m) (.fin false 0 1)

/-- MX block narrowing: scale byte, codes, clipped and NaN counts (R35). -/
def mxQuant (f : Nat) (noclip : Bool) (l : List FVal) : Nat × List Nat × Nat × Nat :=
  let nans := (l.filter FVal.isNan).length
  if nans ≠ 0 then (0xFF, l.map (fun _ => 0), 0, nans)
  else
    match amaxFinite l with
    | .fin _ n d =>
      let x0 : Int := if n = 0 then 0 else floorLog2 n d - emaxElem f
      let x1 : Int := if noclip && n != 0 && (narrowElem f ((FVal.fin false n d).mul (dyadic false 1 (-x0)))).clipped then x0 + 1 else x0
      let x := satInt (-127) 127 x1
      let r := l.map (fun v => narrowElem f (v.mul (dyadic false 1 (-x))))
      ((x + 127).toNat, r.map (·.code), (r.filter (·.clipped)).length, 0)
    | _ => (0x7F, l.map (fun _ => 0), 0, 0)

/-- The group scale of VSCALE: a positive finite FP16 code (spec/05 R122). -/
def vscale (m : FVal) (qmax : Nat) : Nat :=
  match m.abs with
  | .nan => 0x3C00
  | .inf _ => 0x7BFF
  | .fin _ n d =>
    if n = 0 then 0x3C00 else
    let r := narrowF fp16 (.fin false n (d * qmax))
    if r.code = 0 then 1 else r.code

/-- The seed maximum RNE32(s0 x qmax) of a history entry (spec/05 R125). -/
def seedMax (s0 : BitVec 32) (qmax : Nat) : BitVec 32 := toF32 ((f32 s0).mul (FVal.ofInt qmax))

/-- Whether a layer's clipped share exceeds the threshold (R52). -/
def clipShare (c n t : Nat) : Bool := decide (t ≠ 0) && decide (t * n < c * 65536)

/-- A decoded gradient element saturates beyond FP32 (R53). -/
def gradient (scale code : Nat) : BitVec 32 × Bool :=
  let r := narrowF fp32 (mxVal 0x05 scale code)
  (BitVec.ofNat 32 r.code, r.clipped)

/-- A decoded moment m0 = s x (q - z), exact in FP32 (R55). -/
def moment0 (scale : Nat) (z q : Int) : BitVec 32 := toF32 ((decodeF fp16 scale).mul (FVal.ofInt (q - z)))

/-- One step of the first and second moment (R55). -/
def moment1 (beta1 c1 m0 g : BitVec 32) : BitVec 32 := fmaF32 beta1 m0 (mulF32 c1 g)
def moment2 (beta2 c2 v0 g : BitVec 32) : BitVec 32 := fmaF32 beta2 v0 (mulF32 c2 (mulF32 g g))

/-- Requantisation of a block of moments: scale, zero point, codes, clipped and NaN counts (R56). -/
def requant (x : List FVal) : Nat × Int × List Int × Nat × Nat :=
  let fs := x.filter FVal.isFinite
  let zero := FVal.fin false 0 1
  let lo := fs.foldl (fun m v => if v.cmp m < 0 then v else m) zero
  let hi := fs.foldl (fun m v => if m.cmp v < 0 then v else m) zero
  let one := fun (s : Nat) (z : Int) (v : FVal) => match v with
    | .nan => (z, false, true)
    | .inf neg => (if neg then (-128 : Int) else 127, true, false)
    | v => quantInt 8 v (decodeF fp16 s) z
  let out := fun (s : Nat) (z : Int) (extra : Nat) =>
    let r := x.map (one s z)
    (s, z, r.map (·.1), extra + (r.filter (·.2.1)).length, (r.filter (·.2.2)).length)
  if hi.cmp lo = 0 then out 0x3C00 0 0 else
  let d := decodeF fp32 (narrowF fp32 (hi.add lo.neg)).code
  let r := narrowF fp16 (d.div (.fin false 255 1))
  let s := if r.code = 0 then 1 else r.code
  let z := (narrowInt (-128) 127 0 ((FVal.ofInt (-128)).add (lo.div (decodeF fp16 s)).neg)).1
  out s z (if r.clipped then 1 else 0)

/-! ### GAP -/

/-- A channel's mean with one rounding at the end (spec/06 R154): s x S / (H x W). -/
def gapMean (terms : List FVal) (s : FVal) (hw : Nat) : FVal :=
  ((terms.foldl FVal.add (.fin false 0 1)).mul s).div (FVal.ofInt hw)

/-! ### FMC blocks -/

def maxI (l : List Int) : Int := l.foldl max (l.headD 0)
def minI (l : List Int) : Int := l.foldl min (l.headD 0)

/-- FMC2 (spec/06 R158): 64 codes into 32 bytes. -/
def fmc2Encode (q : List Int) : List Byte :=
  let subs := [0, 1, 2, 3].map (fun s => (q.drop (16 * s)).take 16)
  let heads := subs.map (fun l => (minI l, max 1 (ceilDiv (maxI l - minI l).toNat 7)))
  let digits := (subs.zip heads).flatMap (fun (l, b, st) => l.map (fun x => rneDiv (x - b).toNat st))
  let words := (List.range 8).flatMap (fun j =>
    leBytes 3 (((digits.drop (8 * j)).take 8).mapIdx (fun i d => d * 2 ^ (3 * i))).sum)
  heads.flatMap (fun (b, st) => [BitVec.ofInt 8 b, BitVec.ofNat 8 st]) ++ words

def fmc2Decode (l : List Byte) : List Int :=
  (List.range 64).map (fun e =>
    let s := e / 16
    let base := (l.getD (2 * s) 0).toInt
    let step := max 1 (l.getD (2 * s + 1) 0).toNat
    let w := leNat ((l.drop (8 + 3 * (e / 8))).take 3)
    let d := bits w (3 * (e % 8) + 2) (3 * (e % 8))
    satInt (-128) 127 (base + d * step))

/-- FMC4 (spec/06 R159): 64 codes into 16 bytes. -/
def fmc4Encode (q : List Int) : List Byte :=
  let b := minI q
  let st := max 1 (ceilDiv (maxI q - b).toNat 2)
  let trits := q.map (fun x => (rneDiv (x - b).toNat st : Int) - 1) ++ [0]
  [BitVec.ofInt 8 b, BitVec.ofNat 8 st, 0] ++ (chunks 5 13 trits).map (fun t => BitVec.ofNat 8 (t5bEncode t))

def fmc4Decode (l : List Byte) : List Int :=
  let base := (l.getD 0 0).toInt
  let step := max 1 (l.getD 1 0).toNat
  let ts := (l.drop 3).flatMap (fun b => (t5bDecode b.toNat).1)
  (List.range 64).map (fun e => satInt (-128) 127 (base + (ts.getD e 0 + 1) * step))

/-- Encode or decode a transfer's bytes under CODEC 1-4 (R157). -/
def fmcCode (codec : Nat) (bytes : List Byte) : List Byte :=
  match codec with
  | 1 => (chunks 64 (bytes.length + 1) bytes).flatMap (fun c => fmc2Encode (c.map BitVec.toInt))
  | 2 => (chunks 64 (bytes.length + 1) bytes).flatMap (fun c => fmc4Encode (c.map BitVec.toInt))
  | 3 => (chunks 32 (bytes.length + 1) bytes).flatMap (fun c => (fmc2Decode c).map (BitVec.ofInt 8))
  | 4 => (chunks 16 (bytes.length + 1) bytes).flatMap (fun c => (fmc4Decode c).map (BitVec.ofInt 8))
  | _ => bytes

/-! ### CRC-32 -/

def crcBit (c : BitVec 32) : BitVec 32 := if c.getLsbD 0 then (c >>> 1) ^^^ 0xEDB88320 else c >>> 1

def crcByte (c : BitVec 32) (b : Byte) : BitVec 32 :=
  crcBit (crcBit (crcBit (crcBit (crcBit (crcBit (crcBit (crcBit (c ^^^ b.setWidth 32))))))))

/-- The IEEE 802.3 CRC (spec/07 R170). -/
def crc32 (l : List Byte) : BitVec 32 := (l.foldl crcByte 0xFFFFFFFF) ^^^ 0xFFFFFFFF

end Sys2Proof.Machine
end

