-- ==== Sys2Proof/Machine/State.lean ====
section
/-! DEFINITION. The state of the block as plain data, its reset, and the reasons a step can stop. A field's comment
names the file and rule of spec/ that gives it; the value after := is its value at reset. -/

namespace Sys2Proof.Machine

/-- Why a step faults. -/
inductive Fault where
  /-- A command reached an HMP channel whose behaviour spec/11 R272 leaves undefined until the host reinitialises it.
  Raised by the LPDDR5X commands. Safe: the model stops where the spec gives no effect. -/
  | channelUndefined
  deriving DecidableEq, Repr

/-- Why a command is refused. -/
inductive Refusal where
  /-- A row without a meaning yet. Raised by Dispatch only. Safe. -/
  | notModelled (mnemonic : String)
  /-- The operands are no command of the row (WellFormed fails): another opcode or a wrong length. Safe. -/
  | illFormed
  deriving DecidableEq, Repr

/-! ### Device -/

inductive DevState where
  | off | boot | config | ready | run | degraded | fault
  deriving DecidableEq, Repr

inductive AlState where
  | init | preop | safeop | op
  deriving DecidableEq, Repr

/-- One message of the emergency queue (spec/12 R322). -/
structure EmMsg where
  code : Nat
  reg : Nat
  bit : Nat
  subbit : Nat
  arg : Nat
  seq : Nat
  deriving DecidableEq, Repr

/-- An AL request (spec/12 R324, R325). -/
inductive AlAsk where
  | init | preop | safeop | op | bootstrap
  deriving DecidableEq, Repr

/-- The device's clock, pins and states. -/
structure Dev where
  /-- DC system time, 64 bits, ns (spec/12 R308; 0 at POR_N release). -/
  dc : BitVec 64 := 0
  /-- System-time offset and drift settings of the distributed-clock unit (12 R308, R309). -/
  dcOffset : BitVec 64 := 0
  drift : BitVec 32 := 0
  /-- DC time of the last drift update and since when the difference has stayed in bounds (12 R312). -/
  driftAt : Option Nat := none
  /-- DC time of the last update whose difference was beyond 1 us (12 R312). -/
  driftBadAt : Option Nat := none
  dcSynced : Bool := false
  /-- POR_N and RESET_N low; REFCLK_25 running; TEST_EN and GOLDEN_N pins (14 R367-R369). -/
  porLow : Bool := false
  resetLow : Bool := false
  refclk : Bool := true
  testEn : Bool := false
  goldenLow : Bool := false
  /-- Rails out of their limits (14 R362, R366); the leaving of one acts as POR_N until the rails are in limits again or POR_N is
  asserted. -/
  railsOut : List Rail := []
  railReset : Bool := false
  /-- THERM_TRIP_N asserted, and a warm restart held until its release (09 R250). -/
  thermTrip : Bool := false
  restartHeld : Bool := false
  /-- A reset released while THERM_TRIP_N is asserted holds the device in reset (14 R367). -/
  heldInReset : Bool := false
  state : DevState := .boot
  /-- Reason of the warm restart in progress, 0 none (11 R294). -/
  restartReason : Nat := 0
  /-- Reason of the warm restart that waits for THERM_TRIP_N (09 R250). -/
  heldReason : Nat := 0
  al : AlState := .init
  alError : Bool := false
  alCode : Nat := 0
  stateTime : Nat := 0
  /-- The last AL request received during BOOT (12 R324, R325). -/
  alHeld : Option AlAsk := none
  /-- 0x2020:01 (12 R328). -/
  hostControl : Nat := 0
  /-- 0x2000 and whether its next value only sets the edge reference (12 R331). -/
  ctl : BitVec 16 := 0
  ctlFresh : Bool := true
  /-- The state that the host chose with HOST_STATE: 0 CONFIG, 1 READY, 2 RUN (12 R328, R331). -/
  hostState : Nat := 0
  lateToggle : Bool := false
  /-- BYPASS_HOLD: 0 released, 1 engaged, 2 open load, 3 over-current (12 R304-R306). At reset the object's default
  is 1 and the pin engages with BYPASS_ENGAGE; the pin is `bypassPin`. -/
  bypass : Nat := 1
  bypassPin : Bool := false
  /-- Abort code answered to the last entry write, 0 done (11 R297, 12 R319). -/
  answer : BitVec 32 := 0
  /-- The word last returned on a cell's register page or by a read-clear (03 R81). -/
  regOut : Word := 0
  /-- JTAG: instruction in use and boundary register, bypass bit (14 R369). -/
  tapInst : Nat := 0
  tapBoundary : List Bool := []
  tapBypass : Bool := false
  deriving DecidableEq, Repr

/-- The cause tree (spec/11 R292-R294) and the emergency queue (spec/12 R322, R323). -/
structure Causes where
  /-- Leaf bits of CAUSE_<group>, by group. -/
  leaf : Tab Word := []
  /-- MASK_<group>; HMP resets to 0x800, others to 0 (11 R295). -/
  mask : Tab Word := [(4, 0x800)]
  maskSum : Word := 0
  streamSlot : Tab Word := []
  maskStreamSlot : Tab Word := []
  istFailed : Word := 0
  maskIstFailed : Word := 0
  istUntested : Word := 0
  maskIstUntested : Word := 0
  info : Tab Word := []
  /-- LATE_INFO[n]: records, last context; NOTICE_LOST[n] (11 R293). -/
  lateCount : Tab Nat := []
  lateLast : Tab Nat := []
  noticeLost : Tab Nat := []
  /-- 0x2020:02, :03 (12 R335), waiting messages, sequence number, bit 0 of 0x1001 as last seen. -/
  emEnable : BitVec 32 := 0x1FFFF
  emDiscarded : Nat := 0
  emQueue : List EmMsg := []
  emSeq : Nat := 0
  emPending : Bool := false
  /-- The message last put into SM1. -/
  emSent : Option EmMsg := none
  deriving DecidableEq, Repr

/-! ### Cells -/

inductive CellSt where
  | idle | running | halted | faulted
  deriving DecidableEq, Repr

/-- Retirement statuses of a job's program (spec/08 R206). -/
inductive JobFault where
  | illegalOp | syncRange | pcOverrun | laceError | threadAddr
  deriving DecidableEq, Repr

/-- An open hardware loop (spec/04 R99): first body index, ENDLOOP index, passes left, pass number. -/
structure LoopFrame where
  body : Nat
  endIdx : Nat
  left : Nat
  pass : Nat
  deriving DecidableEq, Repr

/-- One output tile as the array hands it off (spec/03 R65): 64 rows of 64 lanes, and the tile's status bits. -/
structure TileOut where
  rows : List (List (BitVec 32))
  sat : Bool
  nanIn : Bool
  t5bInv : Nat
  /-- Elements GAP clipped or narrowed from NaN (06 R154). -/
  clip : Nat := 0
  nan : Nat := 0
  deriving DecidableEq, Repr

/-- A pending TPOST binding (spec/04 R94). -/
structure Bind where
  peer : Nat
  sig : Nat
  inc : Nat
  dst : Nat
  lines : Nat
  local_ : Bool
  deriving DecidableEq, Repr

/-- An effective operand descriptor (spec/04 R89) after its loop steps. -/
structure Desc where
  tscale : F32
  tzp : Byte
  zpAddr : Nat
  scAddr : Nat
  k : Nat
  extent : Nat
  stride : Nat
  base : Nat
  smode : Nat
  gsize : Nat
  format : Nat
  noclip : Bool
  layer : Nat
  height : Nat
  lstep : Int
  sstep : Int
  deriving DecidableEq, Repr

inductive MatKind where
  | mma | mmat | conv | dwc | gap | vrun
  deriving DecidableEq, Repr

/-- An eyelet entry (03 R67): its data, the 4-bit block tag, a parity bit for each word of data and one for the tag. The 36 data bits
of an A or B eyelet are four words of 9; those of the scale eyelet are 128 words of 16. -/
structure EyeEntry where
  data : List (BitVec 16)
  tag : BitVec 4
  parity : List Bool
  tagParity : Bool
  deriving DecidableEq, Repr

/-- A matrix macro-operation, GAP or VRUN whose stitches are not all past (spec/04 R85, spec/05 R112). -/
structure MatOp where
  kind : MatKind
  idx : Nat
  order : Nat
  /-- Issue stitch s, stitches per tile B, number of tiles NT, final stitch, counted from START. -/
  issue : Nat
  b : Nat
  nt : Nat
  final : Nat
  /-- Epilogue or VRUN program, prologue program: entry and length; 0 when not bound. -/
  entry : Nat
  len : Nat
  proEntry : Nat
  proLen : Nat
  chain : Nat
  /-- A first stage of a chain writes scores and row maxima. -/
  first : Bool
  post : Option Bind
  src : Desc
  dst : Desc
  /-- Column tiles of the output; rows and columns inside the tensor. -/
  colTiles : Nat
  rowsTotal : Nat
  colsTotal : Nat
  tiles : List TileOut
  /-- Row sums a second chain stage leaves (05 R129, R133), empty otherwise. -/
  rsums : List F32 := []
  /-- Reduction stitches per tile, and stitches per block of the tag check (03 R64, R69). -/
  kst : Nat := 64
  per : Nat := 32
  /-- Stitches an eyelet entry lasts; the scale eyelet takes part (03 R67, R68). -/
  hold : Nat := 1
  scaled : Bool := false
  /-- Entries the feeders have still to write, by eyelet (03 R67); in DWC the groups of 16 channels still to come, by row
  operand register (06 R147). -/
  feed : Tab (List EyeEntry) := []
  rowFeed : Tab (List (List (BitVec 9))) := []
  /-- The accumulators are INT32 (02 R46). -/
  int : Bool := false
  deriving DecidableEq, Repr

/-- The vector engine's place in a tile program (spec/05 R111-R117). -/
structure VCtx where
  /-- Issue order of the macro-operation, its index; 0 epilogue, 1 prologue, 2 VRUN. -/
  order : Nat
  idx : Nat
  kind : Nat
  tile : Nat
  colTile : Nat
  rowTile : Nat
  src : Desc
  dst : Desc
  post : Option Bind
  /-- Rows and columns of the destination. -/
  rowsTotal : Nat
  colsTotal : Nat
  pos : Nat
  vldd : Nat
  /-- Bytes a posted tile has gathered (05 R136, R137). -/
  gathered : Mem
  cover : Tab Bool := []
  /-- A posted tile holds a place of the TPOST path since its first VSTD (05 R136). -/
  place : Bool := false
  deriving DecidableEq, Repr

/-- The half of an MX block of 128 elements that was stored first: which half, INT32 lanes, lanes (02 R35). -/
structure HalfBlock where
  half : Nat
  int : Bool
  lanes : List (Option (BitVec 32))
  deriving DecidableEq, Repr

/-- What holds the macro-operation at PC before its issue interval ends (spec/04 R93-R98). -/
inductive Wait where
  /-- DRAIN or HALT: mask, first stitch after its interval, HALT. -/
  | drain (mask : Nat) (until_ : Nat) (halt : Bool)
  | signal (counter : Nat) (target : BitVec 32) (equal consume : Bool)
  | barrier (net : Nat)
  /-- The word cannot be taken yet: Lacer, Awl queue, threads or TPOST path. -/
  | retry (w : BitVec 128) (cause : Nat)
  /-- LACE with WAIT: Lacer number and transfer tag. -/
  | lace (lacer : Nat) (tag : Nat)
  deriving DecidableEq, Repr

/-- A region or tile on a cell's TPOST path (spec/04 R94). -/
structure Post where
  peer : Nat
  sig : Nat
  inc : Nat
  dst : Nat
  data : Mem
  /-- Offsets the data cover. -/
  cover : Tab Bool
  deriving DecidableEq, Repr

/-- A hardware thread (spec/05 R118, R119). 0 off, 1 ready, 2 waiting for a load. -/
structure Thread where
  status : Nat := 0
  pc : Nat := 0
  tbank : Nat := 0
  regs : Tab (List (BitVec 32)) := []
  preds : Tab (BitVec 32) := []
  sig : Nat := 0
  inc : Nat := 0
  loadVd : Nat := 0
  loadLanes : List (BitVec 32) := []
  loadMask : BitVec 128 := 0
  deriving DecidableEq, Repr

/-- A SIGSET or SIGADD held for release (spec/04 R96). -/
structure Held where
  counter : Nat
  add : Bool
  value : BitVec 32
  /-- Every earlier tail and store is past at this stitch, and so many posts sent earlier must have landed. -/
  after : Nat
  posts : Nat
  deriving DecidableEq, Repr

/-- A sentinel mark (spec/03 R79): issue order and index of X, X is a transfer, space, line, reads, writes, last stitch. -/
structure Mark where
  order : Nat
  idx : Nat
  lace : Bool
  space : Nat
  line : Nat
  reads : Bool
  writes : Bool
  until_ : Nat
  deriving DecidableEq, Repr

/-- A sentinel log entry (spec/03 R81). -/
structure SentEntry where
  stitch : Nat
  kind : Nat
  space : Nat
  line : Nat
  first : Nat
  second : Nat
  firstLace : Bool
  secondLace : Bool
  /-- Issue order of X, by which entries of one stitch are sorted (R79). -/
  x : Nat
  deriving DecidableEq, Repr

/-- A pending hint (spec/09 R247): stitch its phase starts, level, stitches, and whether the Shank has acted on it. -/
structure HintEntry where
  start : Nat
  level : Nat
  length : Nat
  acted : Bool := false
  deriving DecidableEq, Repr

/-- The job start block (spec/04 R84). -/
structure StartBlock where
  place : Tab Nat := []
  base : Nat := 0
  count : Nat := 0
  bars : Tab Nat := []
  tag : BitVec 16 := 0
  ctx : Nat := 0
  job : Nat := 0
  /-- Number of the run of the job: a replay's counts are its own (02 R51). -/
  run : Nat := 0
  deriving DecidableEq, Repr

/-- Per-layer counts of a run (spec/02 R50, spec/05 R140). -/
structure RunCounts where
  written : Tab Nat := []
  clipped : Tab Nat := []
  nanOut : Nat := 0
  accSat : Nat := 0
  t5b : Nat := 0
  stallTime : Tab Nat := []
  stallEvents : Tab Nat := []
  cold : Bool := false
  deriving DecidableEq, Repr

/-- One cell (spec/03 R81 register page, R71 to R75 memories; spec/05 R104 vector engine). -/
structure CellState where
  /-- CELL_CTRL.FENCE, TBANK, IBANK; a HALT_REQ waiting; a START held (03 R81, 04 R101). -/
  fence : Bool := false
  tbank : Nat := 0
  ibank : Nat := 0
  haltReq : Bool := false
  startHeld : Bool := false
  /-- Tags of the transfers a held START waits for (04 R101). -/
  startFor : List Nat := []
  /-- CELL_STATE fields. -/
  st : CellSt := .idle
  pc : Nat := 0
  loops : List LoopFrame := []
  actT : Nat := 0
  actI : Nat := 0
  stalls : BitVec 8 := 0
  fault : BitVec 10 := 0
  faultInfo : BitVec 38 := 0
  hangLimit : Nat := 20
  /-- The limit in force until the next START after a write of 0x2604:01 (10 R270). -/
  hangHeld : Option Nat := none
  ceOther : Nat := 0
  ceBbuf : Nat := 0
  ceStore : Nat := 0
  /-- The step request is held by pacing (03 R62). -/
  pacing : Bool := false
  /-- The stitch whose overdue tile-program instructions have executed in its freeze (05 R115). -/
  late : Option Nat := none
  /-- Expected block tag and the eyelets' entries: 0-63 A, 64-127 B, 128 scale (03 R67, R69). -/
  tag : Nat := 0
  eyes : Tab (List EyeEntry) := []
  /-- The 64 row operand registers of DWC: elements of the present tap (06 R147). -/
  rowReg : Tab (List (BitVec 9)) := []
  /-- Halves of MX blocks of 128 that wait for the other, by address of the scale byte (02 R35). -/
  halves : Tab HalfBlock := []
  /-- TILE_STATUS, 64 bits, and the tile it is of: issue order of its operation, number (03 R81). -/
  tileStatus : Word := 0
  tileNow : Option (Nat × Nat) := none
  /-- STITCH_COUNT and the stitches since START. -/
  stitchCount : Nat := 0
  since : Nat := 0
  frozenTime : Nat := 0
  paceTime : Nat := 0
  runTime : Nat := 0
  stallTime : Tab Nat := []
  stallEvents : Tab Nat := []
  /-- Stall counters as handed to the Tacker at the last full DRAIN (05 R140). -/
  handedTime : Tab Nat := []
  handedEvents : Tab Nat := []
  /-- SENT_CTRL as written and as in force since START, SENT_STATUS, log, latched high word (03 R79-R81). -/
  sentCtrl : BitVec 3 := 0
  sentOn : BitVec 3 := 0
  violations : Nat := 0
  sentLost : Nat := 0
  sentLog : List SentEntry := []
  sentLatch : Option (Nat × BitVec 64) := none
  marks : List Mark := []
  orders : Nat := 0
  /-- Start block, counts of the run, why the program stopped. -/
  sb : StartBlock := {}
  counts : RunCounts := {}
  prog : Option JobFault := none
  /-- A completion report waits for the Tacker (04 R93). -/
  report : Bool := false
  /-- DC time at which its program ended or the cell failed (10 R264). -/
  reportAt : Nat := 0
  lastLayer : Option Nat := none
  layersDone : Nat := 0
  /-- Memories (03 R71, R75; 04 R100): store 4 MiB; B buffer data 64 x 2048 then side 64 x 512; two instruction banks of
  16 KiB; two tile-program banks of 8 KiB. Bytes not written read 0. -/
  store : Mem := []
  bbuf : Mem := []
  imem : Mem := []
  tmem : Mem := []
  /-- Words that read as uncorrectable: memory by CELL_FAULT bit 0-4, byte address (03 R77, 10 R256, R262). -/
  badWords : List (Nat × Nat) := []
  /-- The slot program whose banks, descriptors and resident data were loaded last (08 R227). -/
  resident : Option SlotProg := none
  /-- Sequencer. -/
  next : Nat := 0
  nextPc : Nat := 0
  /-- DC time at which a stitch last completed or a stall cause or pacing last held (03 R63). -/
  progressAt : Nat := 0
  wait : Option Wait := none
  mats : List MatOp := []
  chainOpen : Nat := 0
  bind : Option Bind := none
  /-- Column and row scale registers (03 R68). -/
  colScale : Tab F32 := []
  rowScale : F32 := 0
  posts : List Post := []
  postsLanded : Nat := 0
  postsSent : Nat := 0
  held : List Held := []
  /-- Vector engine (05 R104): v0-v63, p1-p7, drain buffer by half x 32 + slice, row statistics, history. -/
  vreg : Tab (List (BitVec 32)) := []
  pred : Tab (BitVec 128) := []
  drainBuf : Tab (List (BitVec 32)) := []
  rmax : Tab F32 := []
  rsum : Tab F32 := []
  rscl : Tab F32 := []
  hist : Tab (F32 × Bool) := []
  seed : Tab F32 := []
  vctx : List VCtx := []
  threads : Tab Thread := []
  threadRR : Nat := 0
  /-- Pacing level 0-15 (09 R245) and pending hints (09 R247). -/
  pace : Nat := 0
  hints : List HintEntry := []
  /-- Claim: Laster and job; a Tacker's own claim for a test or restart (01 R20, 10 R268). -/
  claim : Option (Nat × Nat) := none
  tackerClaim : Bool := false
  /-- 0x2610+g (10 R270). -/
  service : Nat := 0
  failures : Nat := 0
  lastFault : Nat := 0
  lastInfo : Nat := 0
  lastFail : Nat := 0
  firstFail : Option Nat := none
  lastTest : Nat := 0
  lastTestAt : Nat := 0
  corrected : Nat := 0
  /-- Idle since this DC time; tested in the present cycle; under a forced test (10 R268). -/
  idleSince : Nat := 0
  tested : Bool := false
  forced : Bool := false
  /-- Due at the end of the last cycle, and not tested since: a forced slot is owed (10 R268). -/
  overdue : Bool := false
  /-- Stretches of the last second in which it ran, latest first (10 R268). -/
  runMark : List (Nat × Nat) := []
  deriving DecidableEq, Repr

/-! ### Quarter fabrics, memory and links -/

/-- A counter update on its way to its quarter fabric (spec/04 R96). -/
structure Update where
  /-- The cell that issued it. -/
  cell : Nat
  counter : Nat
  add : Bool
  value : BitVec 32
  deriving DecidableEq, Repr

/-- A barrier network (spec/04 R98). -/
structure Barrier where
  members : List Nat := []
  arrived : List Nat := []
  gen : Nat := 0
  deriving DecidableEq, Repr

/-- A transfer a Lacer holds (spec/04 R95): tag, submitter, cells of the submitter's job, descriptor and where it lies. -/
structure Transfer where
  tag : Nat
  by_ : Submitter
  desc : BitVec 512
  descAddr : Nat
  sb : StartBlock
  wait : Bool
  /-- Index of its LACE, and its issue order among the operations of each cell whose store it names (03 R79). -/
  idx : Nat
  orders : List (Nat × Nat) := []
  /-- A Tacker's transfer brings a slot's program and resident data to a cell (08 R227). -/
  load : Option (Nat × SlotProg) := none
  deriving DecidableEq, Repr

/-- A command of an Awl's queue (spec/06 R149). -/
structure AwlCmd where
  cell : Nat
  addr : Nat
  block : BitVec 512
  sig : Nat
  inc : Nat
  sb : StartBlock
  /-- Begun, and refused at the check (06 R151). -/
  begun : Bool
  refused : Bool
  deriving DecidableEq, Repr

/-- The quarter fabrics and the memories behind them: signal counters, barriers, Lacers, Awls, map store, LPDDR6
and its owner tags (spec/04 R95 to R98; spec/06 R149, R155; spec/10 R254 to R257). -/
structure Fabric where
  /-- 16,384 signal counters of 32 bits; after reset 0 (04 R96). -/
  counter : Tab (BitVec 32) := []
  /-- Updates on the way, by quarter, oldest first. -/
  updates : Tab (List Update) := []
  barrier : Tab Barrier := []
  /-- Lacer q x 4 + l: its transfers, oldest first; next tag. -/
  lacer : Tab (List Transfer) := []
  tag : Nat := 0
  awl : Tab (List AwlCmd) := []
  /-- Map store, byte address q x 2^25 + a (06 R155). LPDDR6 by byte address, owner tag by 32-byte line (10 R255). -/
  mapStore : Mem := []
  lpddr : Mem := []
  tags : Tab (BitVec 16) := []
  /-- Uncorrectable words: space code of R95, byte address; and those that failed before (10 R257). -/
  bad : List (Nat × Nat) := []
  failedBefore : List (Nat × Nat) := []
  /-- Run of a job that last wrote each 32-byte line, by space x 2^40 + line (10 R257). -/
  writer : Tab Nat := []
  /-- 64 KiB pages withdrawn from allocation (10 R257): space, page. -/
  withdrawn : List (Nat × Nat) := []
  /-- Map-store pages reserved, by quarter (06 R155): context, pages. -/
  mapPages : Tab (List (Nat × Nat)) := []
  /-- Links fenced by number of R293 order; links of quarters to the I/O die trained (01 R15, 13 R338). -/
  linkFenced : List Nat := []
  linkUp : List Nat := []
  lost : List Nat := []
  deriving DecidableEq, Repr

/-! ### Tackers, Lasters, jobs -/

/-- A job's retirement as the Tacker's job table holds it (spec/08 R231). -/
structure Retire where
  fault : Option JobFault
  t : Nat
  deriving DecidableEq, Repr

inductive JobPhase where
  | waiting | claiming | claimed | running | retired | halting
  deriving DecidableEq, Repr

/-- A job (spec/08 R209, R218 to R228). -/
structure Job where
  id : Nat
  ctx : Nat
  tag : Nat
  tInput : Nat
  /-- 0 a batch (its VOID positions and buffers by position), 1 host input. -/
  src : Nat
  inAddr : Nat
  inLen : Nat
  arg : List Byte
  /-- When a batch close gave it the argument object's value (12 R316). -/
  argAt : Option Nat := none
  voidPos : List Nat
  buffers : List (List Byte)
  cold : Bool
  /-- The batch buffer that it reads (07 R191). -/
  buf : Option Nat := none
  /-- Its number among the context's jobs: a D1 replica receives every r-th (08 R213). -/
  ord : Nat := 0
  phase : JobPhase := .waiting
  replica : Nat := 0
  /-- It was placed on the context's reservation or on a home set (08 R213). -/
  home : Bool := false
  cells : List Nat := []
  stripe : Bool := true
  /-- The present run's cells do not hold the weights, and it runs the streamed plan (08 R199). -/
  streamed : Bool := false
  tStart : Option Nat := none
  /-- Cells that have reported, and the retirement. -/
  done : List Nat := []
  counts : List RunCounts := []
  hists : Tab (F32 × Bool) := []
  retire : Option Retire := none
  /-- Number of the present run, counted up at every start over (02 R51). -/
  runs : Nat := 0
  replayed : Bool := false
  needReplay : Bool := false
  late : Bool := false
  overRate : Bool := false
  cancelled : Bool := false
  evicted : Bool := false
  /-- Deadline moments still armed (08 R219): 0 is T_ls, 1 is T_dl - 20 us. -/
  armed : List Nat := []
  /-- Cells whose claims came back CLAIM_BUSY. -/
  busy : List Nat := []
  /-- Layers whose CLIP_SHARE event is posted (02 R52). -/
  clipPosted : List Nat := []
  deriving DecidableEq, Repr

/-- A command of a Laster to a Tacker (spec/01 R19): a claim of a cell, the START of a job's cells, HALT_REQ to a cell. -/
inductive TackCmd where
  | claim (g job : Nat)
  | start (t job : Nat)
  | halt (g job : Nat)
  deriving DecidableEq, Repr

/-- One Tacker (spec/01 R19, spec/10 R264, R270). -/
structure Tacker where
  /-- 0 running, 1 restarting, 2 out of service. -/
  state : Nat := 0
  restarts : Nat := 0
  failed : Nat := 0
  /-- Commands waiting, by Laster, and the Laster whose queue is next in round-robin order. -/
  queues : Tab (List TackCmd) := []
  rr : Nat := 0
  deriving DecidableEq, Repr

/-- One Laster (spec/08 R229, R230; spec/10 R265). -/
structure Laster where
  /-- 0 running, 1 being replaced. -/
  state : Nat := 0
  replacements : Nat := 0
  fifo : List Notice := []
  /-- Next sequence number of each source, as it writes and as the Laster expects it, by source key. -/
  sent : Tab Nat := []
  seen : Tab Nat := []
  /-- A notice was overwritten since the last reconciliation (R231). -/
  lostSeen : Bool := false
  /-- Commands waiting because a Tacker queue is full (01 R19) or the active-cell limit holds a claim (09 R238). -/
  waiting : List TackCmd := []
  deriving DecidableEq, Repr

/-! ### Contexts and queues -/

inductive CtxSt where
  | empty | loading | admitted | active | suspended | unadmitted | refused
  deriving DecidableEq, Repr

/-- A sample of a view (spec/07 R180, R191). -/
structure Sample where
  seq : Nat
  tInput : Nat
  cold : Bool
  data : List Byte
  deriving DecidableEq, Repr

/-- A batch (spec/07 R191): samples by position, opening time. -/
structure Batch where
  samples : Tab Sample
  opened : Nat
  tInput : Nat
  voidPos : List Nat
  closedAt : Nat := 0
  /-- Its batch buffer in LPDDR6, by number in the package (07 R191). -/
  buf : Option Nat := none
  /-- The deadline unit has written its LATE record before a job was formed (10 R265). -/
  late : Bool := false
  deriving DecidableEq, Repr

/-- One context (spec/08 R195 to R217). -/
structure Ctx where
  desc : Mem := []
  st : CtxSt := .empty
  reason : Nat := 0
  launch : Nat := 0
  tJob : Nat := 0
  floorUsed : Nat := 0
  retired : Nat := 0
  lates : Nat := 0
  replays : Nat := 0
  evictions : Nat := 0
  overRate : Nat := 0
  budget : Nat := 0
  nanOut : Nat := 0
  accSat : Nat := 0
  t5b : Nat := 0
  quant : Tab Nat := []
  clip : Tab Nat := []
  stallTime : Tab Nat := []
  stallEvents : Tab Nat := []
  queueResult : BitVec 128 := 0
  pkg : Option Package := none
  gen : Nat := 0
  allocAt : Nat := 0
  loadOrder : Nat := 0
  withdrawn : Bool := false
  byHost : Bool := false
  spill : Bool := false
  /-- Reservation or home sets: cells of each replica, whether it runs the stripe plan, counter base, networks. -/
  replicas : List (List Nat) := []
  stripes : List Bool := []
  counterBase : List Nat := []
  nets : List (List Nat) := []
  launchAt : Option Nat := none
  launched : Nat := 0
  openBatch : Option Batch := none
  batches : List Batch := []
  lowArmed : Bool := true
  taken : Tab Nat := []
  jobNo : Nat := 0
  /-- Jobs formed since the load (08 R213). -/
  formed : Nat := 0
  lastInput : Option Nat := none
  cellTime : Nat := 0
  hist : Tab (F32 × Bool) := []
  deriving DecidableEq, Repr

inductive QType where
  | submit | complete | event
  deriving DecidableEq, Repr

/-- One queue (spec/08 R200 to R203, R208). -/
structure Queue where
  ctx : Nat
  typ : QType
  k : Nat
  version : Nat
  ch : Nat
  mask : BitVec 32
  page : Nat
  /-- Totals since creation; the indices of R201 are their low 32 bits, the lap of R202 comes from the whole. -/
  prod : Nat := 0
  cons : Nat := 0
  lost : Nat := 0
  held : List (List Byte) := []
  droppedSince : Nat := 0
  /-- Doorbells that cover records not yet taken: end of the covered range, DC time at which each was seen. -/
  rings : List (Nat × Nat) := []
  deriving DecidableEq, Repr

/-! ### Streams -/

/-- Tables of a descriptor as copied into staging: static defects (x, y), tone table, mesh nodes by view (07 R173, R178), and
virtual cameras by view (R176). -/
structure SlotTabs where
  defects : List (Nat × Nat) := []
  tone : List Nat := []
  mesh : Tab (List (Int × Int)) := []
  cams : Tab (List Byte) := []
  deriving DecidableEq, Repr

/-- An accepted camera frame with the descriptor it runs under (07 R166, R193). -/
structure Frame where
  lines : List (List Nat)
  tInput : Nat
  desc : Mem
  tabs : SlotTabs
  deriving DecidableEq, Repr

/-- One stream slot (spec/07 R163). -/
structure Slot where
  st : Nat := 0
  reason : Nat := 0
  /-- 0x2300+s:04, none for the default s / 8. -/
  group : Option Nat := none
  desc : Mem := []
  shadow : Option (Mem × Bool) := none
  overrun : Nat := 0
  accepted : Nat := 0
  dropped : Nat := 0
  timeouts : Nat := 0
  calib : Nat := 0
  hostCal : List Byte := []
  expo : List Byte := []
  gcmd : List Byte := []
  gcmdStatus : Nat := 0
  gcmdAddr : Nat := 0
  gcmdWidth : Nat := 1
  instance_ : Option Nat := none
  /-- START waits for calibration and meshes; a GCMD read runs (START, REREAD_CAL or a timeout); read again after a timeout. -/
  starting : Bool := false
  reading : Bool := false
  /-- What its reads that wait or run are for, oldest first: 0 START, 1 REREAD_CAL, 2 frames that return (07 R162, R169, R190). -/
  reads : List Nat := []
  timedOut : Bool := false
  moduleId : List Byte := []
  meshWait : List Nat := []
  tabs : SlotTabs := {}
  shadowTabs : SlotTabs := {}
  /-- DC time of the last Frame Start, or of entering RUNNING (07 R190). -/
  seenAt : Nat := 0
  /-- Receiver: inside a frame, the frame is dropped, lines so far. -/
  inFrame : Bool := false
  dropFrame : Bool := false
  lines : List (List Nat) := []
  buffered : Option Frame := none
  /-- Temporal filter and exposure state (07 R174). -/
  tf : Option (List (List (Nat × Nat × Nat))) := none
  smooth : Option Nat := none
  viewOut : Tab (List Sample) := []
  seq : Nat := 0
  /-- Host source: pages, frame-entry indices, doorbells (end of range, DC time), the entry in decoding, decoder. Waiting for
  the first Frame Start after START, or the first Frame Start or IRAP picture after RESUME or a timeout (07 R189). -/
  pages : Nat := 0
  page : List Nat := []
  prod : BitVec 32 := 0
  cons : BitVec 32 := 0
  rings : List (BitVec 32 × Nat) := []
  decoding : Bool := false
  waiting : Bool := false
  decoder : Option Nat := none
  deriving DecidableEq, Repr

/-- Camera port, bus, trigger and recording objects (spec/07 R167, R168, R186). -/
structure Port where
  lanes : Nat := 2
  maxRate : Nat := 4500
  deskewed : Bool := false
  ulps : Bool := false
  deriving DecidableEq, Repr

/-- A transfer on a camera bus: a host command, or the read of a slot's GCMD memory at an address with a word address of so
many bytes (spec/07 R168, R169). -/
inductive BusReq where
  | host (command : List Byte)
  | gcmd (slot address width : Nat)
  deriving DecidableEq, Repr

/-- A camera bus (spec/07 R168). -/
structure Bus where
  mode : Nat := 2
  scl : Nat := 1000
  result : List Byte := []
  /-- Transfers in order of arrival; the first one runs. -/
  waiting : List BusReq := []
  deriving DecidableEq, Repr

/-- A camera trigger output (spec/07 R168). -/
structure Trig where
  enable : Bool := false
  t0 : Nat := 0
  period : Nat := 0
  width : Nat := 10
  polarity : Nat := 1
  /-- Configuration waiting for the next active edge: T0, P, w, polarity. -/
  pend : Option (Nat × Nat × Nat × Nat) := none
  nextEdge : Option Nat := none
  pulseUntil : Option Nat := none
  deriving DecidableEq, Repr

/-- A recording stream (spec/07 R186). -/
structure Rec where
  source : BitVec 16 := 0
  addr : Nat := 0
  size : Nat := 0
  gop : Nat := 30
  rate : Nat := 0
  qp : Nat := 30
  bitrate : Nat := 8000
  prod : BitVec 32 := 0
  cons : BitVec 32 := 0
  oldest : BitVec 32 := 0
  overwritten : Nat := 0
  /-- Starts of the GOPs in the ring, oldest first, and settings in force for the present GOP. -/
  gops : List (BitVec 32) := []
  inForce : Nat × Nat × Nat × Nat := (30, 0, 30, 8000)
  /-- Pictures of the present GOP. -/
  inGop : Nat := 0
  deriving DecidableEq, Repr

/-- Stream slots, ports, buses, triggers and recordings (spec/07). -/
structure Streams where
  slot : Tab Slot := []
  port : Tab Port := []
  bus : Tab Bus := []
  trig : Tab Trig := []
  rec_ : Tab Rec := []
  deriving DecidableEq, Repr

/-! ### Host memory port -/

/-- A posted write of one channel not yet performed (spec/11 R278). -/
structure Posted where
  off : Nat
  data : List Byte
  mask : List Bool
  deriving DecidableEq, Repr

/-- An arm slot of the bulk window (spec/11 R287, R288). -/
structure ArmSlot where
  reg : Word := 0
  state : Nat := 0
  err : Nat := 0
  arms : BitVec 32 := 0
  /-- Staged bytes by offset in the slot; lines of the slot that read 0x5A under 11 R288; bytes copied when in error. -/
  data : Mem := []
  fill : List Nat := []
  readable : Nat := 0
  deriving DecidableEq, Repr

/-- One channel of the host memory port (spec/11 R272 to R288, R296). -/
structure Chan where
  /-- 0 idle, 1 self-refresh, 2 power-down (11 R298); the WCK clock synchronised; training. -/
  power : Nat := 0
  wckSync : Bool := false
  cbt : Bool := false
  wckLevel : Bool := false
  mr : Tab Byte := []
  wfifo : List Byte := []
  undefined : Bool := false
  resetLow : Bool := false
  /-- Data last driven on DQ by a read. -/
  dq : List Byte := []
  /-- Port staging SRAM of the channel: ring pool from 0, by byte offset of the ring window; stream pool by page. -/
  ring : Mem := []
  stream : Mem := []
  bad : List Nat := []
  fixes : List Nat := []
  /-- Posted writes not yet performed (11 R278, R286). -/
  buffer : List Posted := []
  /-- Bulk control (11 R286, R287). -/
  bulkMap : Word := 0
  mapErr : Nat := 0
  arm : Tab ArmSlot := []
  /-- Mailbox (11 R296). -/
  mbSeq : BitVec 16 := 0
  mbReq : Mem := []
  mbResp : Mem := []
  mbState : Nat := 0
  mbDone : BitVec 16 := 0
  /-- The request and its SEQ as the last GO took them. -/
  mbAsk : Mem := []
  mbAskSeq : BitVec 16 := 0
  /-- A segmented write in progress: index, sub, bytes so far. -/
  mbPart : Option (Nat × Nat × List Byte) := none
  deriving DecidableEq, Repr

/-- The host memory port: its channels and the version negotiation (spec/11 R281, R300). -/
structure Hmp where
  chan : Tab Chan := []
  /-- NEG_SELECT, NEG_STATUS (11 R281); RESTARTING in BOOT (11 R300). -/
  negSelect : Word := 0
  major : Nat := 0
  minor : Nat := 0
  negState : Nat := 3
  /-- Channels whose mailbox requests wait, in order of arrival (11 R296). -/
  mbOrder : List Nat := []
  deriving DecidableEq, Repr

/-! ### Power -/

/-- A claim that a Tacker holds until a zone reports power-good (spec/01 R21): the Laster, the cell and the job, and whether
the Tacker itself placed the job's replay there (spec/10 R260). -/
structure HeldClaim where
  laster : Nat
  cell : Nat
  job : Nat
  replay : Bool := false
  deriving DecidableEq, Repr

/-- A rail zone (spec/09 R240; spec/10 R263). -/
structure Zone where
  on : Bool := true
  failed : Bool := false
  firstFail : Option Nat := none
  retired : Bool := false
  /-- Claims held until power-good (01 R21). -/
  held : List HeldClaim := []
  /-- Ungating asked for. -/
  waking : Bool := false
  deriving DecidableEq, Repr

/-- Rail, estimate and state of one quarter (spec/09 R234 to R252). -/
structure QPower where
  setpoint : Nat := 0
  readMv : Nat := 0
  readMa : Nat := 0
  estimate : Nat := 0
  /-- Estimate summed over the present millisecond, uW x 4. -/
  sum : Nat := 0
  c : Nat := 1024
  tq : Int := 0
  paceLevel : Nat := 0
  state : Nat := 0
  bad : Nat := 0
  noAnswer : Nat := 0
  mismatch : Nat := 0
  held : Bool := false
  setAt : Nat := 0
  /-- The output limit of its regulator, which Cobbler programs at boot, in mV (09 R248, 14 R363). -/
  limitMv : Nat := 0
  paceSince : Option Nat := none
  /-- Rail raised for hinted phases, mV (09 R247). -/
  hintMv : Nat := 0
  /-- The model predicts derating within 1 ms (09 R246). -/
  derateSoon : Bool := false
  deriving DecidableEq, Repr

/-- Power and thermal settings and their control (spec/09; spec/11 R299). -/
structure Power where
  cap : Nat := 60000
  order : Nat := 0
  linkRes : Nat := 7000
  memRes : Nat := 12000
  cellLimit : Nat := 64
  tjLimit : Int := 105
  lowBound : Int := -40
  /-- 0x2202 (09 R252). -/
  floorRate : Nat := 0
  floorMv : Nat := 0
  share : Nat := 41000
  counted : Nat := 64
  valid : Bool := false
  /-- The floor held after an over-limit, and whether one is in force (09 R249). -/
  overFloor : Option Nat := none
  /-- 0x2204, and the last 249 device estimates, newest first (09 R248). -/
  devEst : Nat := 0
  window : List Nat := []
  highest : Nat := 0
  cold : Bool := true
  predictions : Nat := 0
  quarter : Tab QPower := []
  zone : Tab Zone := []
  /-- Sensors, 0.1 degC; those that have reported since power-up or wake; those that fail (09 R242, R249). -/
  sensor : Tab Int := []
  reported : List Nat := []
  failing : List Nat := []
  model : Tab Int := []
  clusterMw : Tab Nat := []
  linkLimited : Bool := false
  memLimited : Bool := false
  /-- The link and memory estimates of the last interval, mW (09 R241, R243). -/
  linkMw : Nat := 0
  memMw : Nat := 0
  hardPower : Bool := false
  /-- 0x2230: 0 RUN, 2 STANDBY, 3 DEEP SLEEP; a DEEP SLEEP request waiting (11 R299). -/
  pstate : Nat := 0
  sleepAsked : Option Nat := none
  /-- 0x2240:01-06. -/
  pacings : Nat := 0
  throttles : Nat := 0
  capExceeded : Nat := 0
  hardCount : Nat := 0
  derates : Nat := 0
  trips : Nat := 0
  /-- Settings written in the present 4 us interval, not yet applied (09 R244). -/
  dirty : Bool := false
  /-- The cap or the Tj limit has changed, and admission is still to be checked for it (08 R216). -/
  recheckDue : Bool := false
  /-- Activity of the last interval, by quarter (09 R241). -/
  activity : List (List Nat) := []
  /-- Every sensor at least 2 degC below the limit since this time (09 R249). -/
  coolSince : Option Nat := none
  /-- The estimate exceeds the cap with every domain at its reserve (09 R243). -/
  capOver : Bool := false
  /-- Telemetry checks failed in a row by fixed rail: no answer, voltage (09 R234). -/
  railSilent : Tab Nat := []
  railBad : Tab Nat := []
  deriving DecidableEq, Repr

/-- A LATE record of a job that is not over-rate, under the finish policy: its context, output, tag and input time, and the job's
deadline (spec/10 R253). -/
structure LateOpen where
  ctx : Nat
  out : Nat
  tag : Nat
  tInput : Nat
  due : Nat
  deriving DecidableEq, Repr

/-- Resilience objects and settings (spec/10 R270). -/
structure Resil where
  unavailable : Nat := 0
  observed : Nat := 0
  /-- 0x2601:01-09. -/
  count : Tab Nat := []
  sramCycles : Nat := 0
  sramEnd : Nat := 0
  lpCycles : Nat := 0
  lpEnd : Nat := 0
  testCycle : Nat := 60
  forcedOn : Bool := true
  idleTime : Nat := 100
  hangLimit : Nat := 20
  /-- DC time at which the present test cycle began (10 R267). -/
  cycleFrom : Nat := 0
  /-- Words corrected in the present and in the last scrub cycle (10 R258). -/
  fixedNow : List (Nat × Nat) := []
  fixedLast : List (Nat × Nat) := []
  /-- DC times of the corrected errors of the last second, newest first, of LPDDR6 and of on-chip SRAM (11 R293 CE_RATE). -/
  ceMem : List Nat := []
  ceSram : List Nat := []
  /-- First ACTIVATE seen; intervals lost to cancelled late jobs (10 R253). Both times of 0x2600 are held in ns. -/
  observing : Bool := false
  windows : List (Nat × Nat) := []
  /-- LATE records whose SECOND record has not landed yet (10 R253). -/
  lateOpen : List LateOpen := []
  deriving DecidableEq, Repr

/-! ### Field port -/

/-- Data types of CiA 301 that entries have; a size in bytes, for strings the fixed size or the largest (spec/00 R11). -/
inductive OdType where
  | boolean
  | signed (n : Nat)
  | unsigned (n : Nat)
  | visible (n : Nat)
  | octet (n : Nat)
  | domain (n : Nat)
  deriving DecidableEq, Repr

inductive OdAccess where
  | ro | rw | wo | const
  deriving DecidableEq, Repr

/-- An answer of SDO Information (spec/12 R320). -/
inductive OdInfo where
  | list (indices : List Nat)
  | lengths (l : List Nat)
  | object (index highest : Nat)
  /-- Type, bit length, access, mappable (0 no, 1 into a TxPDO, 2 into an RxPDO), default, least and greatest value. -/
  | entry (typ : OdType) (bitLength : Nat) (access : OdAccess) (mapping : Nat) (default : List Byte) (range : Option (Int × Int))
  deriving DecidableEq, Repr

/-- A result object (spec/12 R315). -/
structure Result where
  binding : BitVec 32 := 0
  seq : BitVec 16 := 0
  status : Nat := 0
  flags : Nat := 0
  code : Nat := 0
  tag : Nat := 0
  tInput : Nat := 0
  tPost : Nat := 0
  payload : List Byte := []
  deriving DecidableEq, Repr

/-- An argument object (spec/12 R316). -/
structure Argument where
  binding : BitVec 16 := 0
  value : Mem := []
  deriving DecidableEq, Repr

/-- A segmented SDO transfer in progress (spec/12 R319). -/
structure SdoSeg where
  upload : Bool
  index : Nat
  sub : Nat
  total : Nat
  /-- What is left to send, or what has arrived. -/
  data : List Byte
  toggle : Bool
  since : Nat
  deriving DecidableEq, Repr

/-- An FoE transfer in progress (spec/12 R321): kind 0 FIRMWARE write, 1 PLM write, 2 PLM read, 3 FIRMWARE in the flash. -/
structure FoeSt where
  kind : Nat
  addr : Nat
  packet : Nat
  data : List Byte
  deriving DecidableEq, Repr

/-- The field port: ESC, mappings, synchronisation, captures, SDO and FoE (spec/12). -/
structure FieldPort where
  esc : EscConfig := ⟨[], false, 0, {}⟩
  /-- Process-data RAM by ESC address, 0x1000 to 0x4FFF (12 R301, R302). -/
  ram : Mem := []
  /-- PDO mapping and assignment (12 R317, R334): key index x 256 + sub. -/
  pdo : Tab Nat := [(0x1600 * 256, 1), (0x1600 * 256 + 1, 0x20000010), (0x1A00 * 256, 1), (0x1A00 * 256 + 1, 0x20010010),
    (0x1A01 * 256, 12), (0x1A01 * 256 + 1, 0x60000210), (0x1A01 * 256 + 2, 0x60000308), (0x1A01 * 256 + 3, 0x60000408),
    (0x1A01 * 256 + 4, 0x60000508), (0x1A01 * 256 + 5, 0x60000620), (0x1A01 * 256 + 6, 0x60000740),
    (0x1A01 * 256 + 7, 0x60000840), (0x1A01 * 256 + 8, 0x60000940), (0x1A01 * 256 + 9, 0x60000A40),
    (0x1A01 * 256 + 10, 0x60000B40), (0x1A01 * 256 + 11, 0x60000C40), (0x1A01 * 256 + 12, 0x60000D40),
    (0x1C12 * 256, 1), (0x1C12 * 256 + 1, 0x1600), (0x1C13 * 256, 2), (0x1C13 * 256 + 1, 0x1A00),
    (0x1C13 * 256 + 2, 0x1A01)]
  /-- 0x1C32, 0x1C33: type, cycle, shift, too small, sync error (12 R334). -/
  outType : Nat := 0
  inType : Nat := 0
  outCycle : Nat := 62500
  inCycle : Nat := 62500
  outShift : Nat := 0
  inShift : Nat := 0
  outSmall : Nat := 0
  inSmall : Nat := 0
  outErr : Bool := false
  inErr : Bool := false
  sm2Written : Bool := false
  /-- DC time of the last SM2 buffer exchange (12 R334). -/
  sm2At : Option Nat := none
  sm3 : List Byte := []
  latchAt : Option Nat := none
  /-- Captures: LATCH0 rise, fall, LATCH1 rise, fall (12 R311, R335). -/
  latch : Tab Nat := []
  /-- DC time plus 1 of the last edge of each kind, captured or not; 0 none. -/
  latchLast : Tab Nat := []
  links : BitVec 4 := 0
  /-- DC times of the last edges of FP_SYNC0 and FP_SYNC1 (12 R310). -/
  syncEdges : Tab Nat := []
  /-- DC times at which a SYNC0 makes the input latch and the output apply due; the last apply (12 R314). -/
  inDue : Option Nat := none
  outDue : Option Nat := none
  applyAt : Option Nat := none
  result : Tab Result := []
  arg : Tab Argument := []
  sdo : Option SdoSeg := none
  foe : Option FoeSt := none
  /-- The last mailbox answer in SM1: abort or error code, data. -/
  ansCode : BitVec 32 := 0
  ansData : List Byte := []
  /-- That answer is FoE BUSY (12 R321). -/
  ansBusy : Bool := false
  /-- The ESC's EEPROM error indication (12 R303). -/
  eepromError : Bool := false
  /-- The last answer of SDO Information (12 R320). -/
  info : Option OdInfo := none
  deriving DecidableEq, Repr

/-! ### Boot -/

/-- An update in progress (spec/13 R350). -/
structure Upd where
  image : List Byte
  target : Nat
  foe : Bool
  deriving DecidableEq, Repr

/-- A monotonic counter in the embedded flash: the half of its share of the counter sector in use, and its log there, each value with its
CRC (spec/13 R340). -/
structure CounterLog where
  half : Bool := false
  entries : List (BitVec 32 × BitVec 32) := []
  deriving DecidableEq, Repr

/-- Flash, boot, update and attestation (spec/13). -/
structure Boot where
  /-- External flash by byte address; erased bytes read 0xFF (13 R342). -/
  flash : Mem := []
  /-- Anti-rollback counter, identity leaf index (13 R340). -/
  rollLog : CounterLog := {}
  leafLog : CounterLog := {}
  slot : Nat := 2
  seq : Nat := 0
  /-- Header of the running image, key latch open, flags and reasons (13 R346, R358). -/
  header : List Byte := []
  /-- The body in the running-image buffer, and the working memory of Cobbler and the Lasters (13 R339). -/
  body : List Byte := []
  work : Mem := []
  /-- The section each hart runs and its release word, by hart: 0 Cobbler, 1 to 4 Lasters, 16 to 31 Tackers (13 R338). -/
  code : Tab (List Byte) := []
  release : Tab (Option (BitVec 32)) := []
  /-- Reason of the warm restart that led to this boot, 0 none (11 R294). -/
  reason : Nat := 0
  latchOpen : Bool := false
  unverified : Bool := false
  goldenUsed : Bool := false
  fastPath : Bool := false
  reasons : BitVec 32 := 0
  noImage : Bool := false
  released : Bool := false
  /-- Retained boot digest: slot, header digest, whole digest (13 R352). -/
  retained : Option (Nat × List Byte × List Byte) := none
  fastWake : Bool := false
  arith : BitVec 16 := 0
  interp : BitVec 16 := 0
  seqs : Tab Nat := []
  committed : Nat := 0
  updAddr : Nat := 0
  updLen : Nat := 0
  step : Nat := 0
  failure : Nat := 0
  upd : Option Upd := none
  activation : Nat := 0
  activating : List Nat := []
  /-- The image that a live activation puts in place: slot, SEQ, and the check buffer's header and body. -/
  nextSlot : Nat := 2
  nextSeq : Nat := 0
  nextHeader : List Byte := []
  nextBody : List Byte := []
  log : List (List Byte) := []
  entries : Nat := 0
  chain : List Byte := []
  truncated : Bool := false
  nonce : Option (List Byte) := none
  /-- The quote as its read formed it (13 R357). -/
  quote : List Byte := []
  deriving DecidableEq, Repr

/-! ### The whole -/

structure State where
  pending : List Instr := []
  /-- The model's own counter of free values drawn; its reset value is a DESIGN CHOICE (notes/assumptions/3). -/
  free : Nat := 0
  dev : Dev := {}
  causes : Causes := {}
  cells : Tab CellState := []
  fabric : Fabric := {}
  tackers : Tab Tacker := []
  lasters : Tab Laster := []
  jobs : List Job := []
  jobIds : Nat := 0
  ctxs : Tab Ctx := []
  loads : Nat := 0
  queues : Tab Queue := []
  streams : Streams := {}
  hmp : Hmp := {}
  power : Power := {}
  resil : Resil := {}
  field : FieldPort := {}
  boot : Boot := {}
  deriving DecidableEq, Repr

/-- Right after POR_N is released (spec/14 R365): BOOT, DC time 0, AL INIT, every object at its default. -/
def State.reset : State := {}

end Sys2Proof.Machine
end

