-- ==== Sys2Proof/Machine/Operands.lean ====
section
/-! DEFINITION. The operand forms: macro-operation and Plamor-V word fields and their run-time check (spec/04 R82, R83,
spec/05 R107, R110), operand descriptors (R89), strips of A and B operands along K, the stationary B buffer (spec/03
R71 to R73), the windows of convolutions (spec/06 R141 to R147) and the storing of a row (spec/05 R121, R137). -/

namespace Sys2Proof.Machine

/-- Free value `i` of the block of values that draw `n` names (notes/assumptions/3). -/
def freeAt (w n i : Nat) : BitVec w := Config.freeValue w (n * 4294967296 + i)

/-! ### Words -/

/-- Bits h down to l of a macro-operation word. -/
def fld (w : BitVec 128) (h l : Nat) : Nat := bits w.toNat h l

def opcode (w : BitVec 128) : Nat := fld w 127 120

/-- A word whose bits outside the listed fields are 0: each field is (high, low). -/
def onlyBits (n v : Nat) (fs : List (Nat × Nat)) : Bool := v % 2 ^ n == (fs.map (fun f => at_ (bits v f.1 f.2) f.2)).sum

/-- Opcodes of the operation table (R91). -/
def opTable : List Nat := [0x00, 0x01, 0x02, 0x03, 0x04, 0x08, 0x09, 0x10, 0x11, 0x12, 0x13, 0x14, 0x18, 0x20, 0x21, 0x28,
  0x29, 0x30, 0x31, 0x32, 0x33]

/-- Fields of each macro-operation beside the opcode ("Encodings" of spec/04). -/
def opFields (op : Nat) : List (Nat × Nat) :=
  match op with
  | 0x02 => [(111, 88)]
  | 0x03 => [(119, 116)]
  | 0x04 => [(111, 88), (87, 80), (79, 56)]
  | 0x08 => [(119, 119), (111, 96), (95, 74), (73, 64)]
  | 0x10 | 0x11 => [(119, 113), (111, 95), (94, 78), (77, 61), (60, 51), (50, 41)]
  | 0x12 | 0x13 => [(119, 113), (111, 95), (94, 78), (77, 61), (60, 51), (50, 41), (40, 5)]
  | 0x14 => [(111, 95), (77, 61)]
  | 0x18 => [(111, 95), (94, 81), (80, 73)]
  | 0x20 => [(111, 95), (77, 61), (60, 51), (40, 25)]
  | 0x21 => [(111, 95), (94, 81), (80, 73), (60, 51), (50, 44), (43, 38)]
  | 0x28 => [(111, 95), (94, 92), (91, 90), (89, 89)]
  | 0x29 => [(119, 118), (111, 106), (105, 92), (91, 84), (83, 62), (61, 40), (39, 24)]
  | 0x30 | 0x31 => [(119, 119), (111, 98), (95, 64)]
  | 0x32 => [(119, 118), (111, 98), (95, 64)]
  | 0x33 => [(111, 109)]
  | _ => []

/-- Field values outside the range an encoding gives (R83). -/
def opRangeOk (w : BitVec 128) : Bool :=
  match opcode w with
  | 0x02 => fld w 111 88 != 0
  | 0x08 => fld w 95 74 % 2 == 0
  | 0x10 | 0x11 | 0x12 | 0x13 => fld w 114 113 != 3
  | 0x20 => fld w 40 25 != 0
  | 0x21 => decide (1 ≤ fld w 50 44 ∧ fld w 50 44 ≤ 64 ∧ fld w 43 38 + fld w 50 44 ≤ 64)
  | 0x28 => fld w 111 95 % 2 == 0 && decide (fld w 94 92 ≤ 4)
  | 0x29 => fld w 61 40 % 512 == 0 &&
      (fld w 119 119 == 1 || (decide (1 ≤ fld w 39 24 ∧ fld w 39 24 ≤ 8192) && fld w 83 62 % 512 == 0))
  | _ => true

/-- The sequencer's check of a word: opcode, reserved bits, field values (R83). -/
def wordOk (w : BitVec 128) : Bool :=
  opTable.contains (opcode w) && onlyBits 120 w.toNat (opFields (opcode w)) && opRangeOk w

/-! ### Cell memories -/

/-- One byte of a cell store, addresses modulo 4 MiB (R90). -/
def storeByte (c : CellState) (a : Nat) : Byte := readByte c.store (a % 0x400000)

/-- Little-endian value of n bytes of a reader. -/
def rdLE (rd : Nat → Byte) (a n : Nat) : Nat := leNat ((List.range n).map (fun i => rd (a + i)))

/-- Element j of a packed run at byte address a (R34). -/
def elemAt (rd : Nat → Byte) (f a j : Nat) : Nat :=
  match formatBits f with
  | 4 => bits (rd (a + j / 2)).toNat (4 * (j % 2) + 3) (4 * (j % 2))
  | 6 => bits (rdLE rd (a + 3 * (j / 4)) 3) (6 * (j % 4) + 5) (6 * (j % 4))
  | w => rdLE rd (a + j * (w / 8)) (w / 8)

/-- Write bytes into a cell store, addresses modulo 4 MiB. -/
def storeBytes (m : Mem) (a : Nat) (l : List Byte) : Mem :=
  (l.mapIdx (fun i b => (i, b))).foldl (fun m p => writeByte m ((a + p.1) % 0x400000) p.2) m

/-! ### Operand descriptors -/

/-- The effective descriptor in pass n of the innermost loop (R89). -/
def decodeDesc (d n : Nat) : Desc :=
  let step := fun (base : Nat) (by_ : Int) => (((base : Int) + by_) % 0x400000).toNat
  let sst := (n : Int) * signed 16 (bits d 31 16)
  { tscale := BitVec.ofNat 32 (bits d 255 224), tzp := BitVec.ofNat 8 (bits d 223 216),
    zpAddr := step (bits d 213 192) sst, scAddr := step (bits d 191 170) sst, k := bits d 169 150,
    extent := bits d 149 134, stride := bits d 133 112,
    base := step (bits d 111 90) (512 * (n : Int) * signed 16 (bits d 47 32)), smode := bits d 89 86,
    gsize := bits d 85 84, format := bits d 83 79, noclip := bits d 76 76 == 1, layer := bits d 73 64,
    height := bits d 63 48, lstep := signed 16 (bits d 47 32), sstep := signed 16 (bits d 31 16) }

def passOf (c : CellState) : Nat := match c.loops with | [] => 0 | l :: _ => l.pass

/-- The descriptor at pointer dp, as read at the issue stitch. -/
def readDesc (c : CellState) (dp : Nat) : Desc := decodeDesc (rdLE (storeByte c) (dp * 32) 32) (passOf c)

def isMx (f : Nat) : Bool := decide (4 ≤ f ∧ f ≤ 9)
def isFp8 (f : Nat) : Bool := decide (f = 2 ∨ f = 3)
def isInt (f : Nat) : Bool := decide (f = 0 ∨ f = 1)
def isFloat (f : Nat) : Bool := isMx f || isFp8 f || decide (f = 0x0B ∨ f = 0x0C ∨ f = 0x0D)

/-- Block or group size along K (GSIZE table). -/
def groupSize (d : Desc) : Nat := if d.format = 0x0A then 40 * 2 ^ d.gsize else 32 * 2 ^ d.gsize

/-- Entries of the scale array per row: MX blocks, groups along K, one otherwise. -/
def entries (d : Desc) : Nat := if isMx d.format || d.smode = 4 || d.format = 0x0A then ceilDiv d.k (groupSize d) else 1

/-- Accumulation paths (spec/02 R38, R46). `unstated`: a pair for which no rule states a sum. -/
inductive Path where
  | mx (block : Nat)
  | bf16
  | int
  | group (g : Nat)
  | unstated
  deriving DecidableEq, Repr

def pathOf (a b : Desc) : Path :=
  if b.format = 0x0A then (if a.format = 0 ∧ a.smode = 1 then .group (groupSize b) else .unstated)
  else if a.format = 0x0B ∧ b.format = 0x0B then .bf16
  else if (isFp8 a.format || isMx a.format) && (isFp8 b.format || isMx b.format) then
    .mx (if isMx a.format then groupSize a else if isMx b.format then groupSize b else 32)
  else if (isFp8 a.format && isInt b.format && b.smode != 4) || (isInt a.format && a.smode != 4 && isFp8 b.format) then .mx 32
  else if isInt a.format && isInt b.format then
    (if a.smode = 4 then .group (groupSize a) else if b.smode = 4 then .group (groupSize b) else .int)
  else .unstated

/-- Reduction stitches per tile (spec/03 R64). -/
def kstOf (a b : Desc) (k : Nat) : Nat :=
  if b.format = 0x0A then ceilDiv k 4
  else if a.format = 0x0B then 4 * k
  else if decide (formatBits a.format ≤ 6) && decide (formatBits b.format ≤ 6) then ceilDiv k 2 else k

/-! ### Strips along K -/

/-- n elements at byte address `addr` whose scale entries start at index `ent`; `chan` is the output channel (R34, R39). -/
def rowStrip (rd : Nat → Byte) (d : Desc) (addr n ent chan : Nat) : Strip :=
  let codes := (List.range n).map (elemAt rd d.format addr)
  let g := groupSize d
  let zp := fun (j : Nat) =>
    if d.smode = 1 then d.tzp.toInt else if d.smode = 2 then (rd (d.zpAddr + chan)).toInt
    else if d.smode = 4 then (rd (d.zpAddr + ent + j / g)).toInt else 0
  let grouped := decide (d.format = 0x0A) || (isInt d.format && d.smode == 4)
  { vals := if isFloat d.format then codes.map (elemVal d.format) else []
    ints := if d.format = 0x0A then
        ((List.range (ceilDiv n 5)).flatMap (fun j => (t5bDecode (rd (addr + j)).toNat).1)).take n
      else if isInt d.format then codes.mapIdx (fun j q => signed (formatBits d.format) q - zp j) else []
    scales := if isMx d.format then (List.range (ceilDiv n g)).map (fun i => (rd (d.scAddr + ent + i)).toNat)
      else if grouped then (List.range (ceilDiv n g)).map (fun i => rdLE rd (d.scAddr + 2 * (ent + i)) 2) else []
    tscale := if d.smode = 2 then BitVec.ofNat 32 (rdLE rd (d.scAddr + 4 * chan) 4) else d.tscale }

/-- A padded run of n elements contributes an exact zero (spec/06 R143). -/
def padStrip (d : Desc) (n : Nat) : Strip :=
  { vals := if isFloat d.format then List.replicate n (.fin false 0 1) else []
    ints := if isFloat d.format then [] else List.replicate n 0
    scales := if isMx d.format then List.replicate (ceilDiv n (groupSize d)) 0x7F
      else if d.smode = 4 then List.replicate (ceilDiv n (groupSize d)) 0x3C00 else []
    tscale := d.tscale }

def Strip.append (a b : Strip) : Strip := ⟨a.vals ++ b.vals, a.ints ++ b.ints, a.scales ++ b.scales, a.tscale⟩

/-- Row r of a matrix operand. -/
def matStrip (rd : Nat → Byte) (d : Desc) (r : Nat) : Strip :=
  if r < d.extent then rowStrip rd d (d.base + r * d.stride) d.k (r * entries d) r else padStrip d d.k

/-- Invalid T5B bytes of a packed run of n trits (spec/02 R43). -/
def t5bBad (rd : Nat → Byte) (addr n : Nat) : Nat :=
  ((List.range (ceilDiv n 5)).filter (fun j => (t5bDecode (rd (addr + j)).toNat).2)).length

/-! ### Convolution geometry -/

/-- The geometry fields of CONV, DWC and the Awl, from 36 bits laid out as bits 40:5 of CONV. -/
structure Geo where
  kh : Nat
  kw : Nat
  sh : Nat
  sw : Nat
  dh : Nat
  dw : Nat
  pt : Nat
  pb : Nat
  pl : Nat
  pr : Nat
  deriving DecidableEq, Repr

def decodeGeo (v : Nat) : Geo :=
  ⟨bits v 35 32 + 1, bits v 31 28 + 1, bits v 27 25 + 1, bits v 24 22 + 1, bits v 21 19 + 1, bits v 18 16 + 1,
    bits v 15 12, bits v 11 8, bits v 7 4, bits v 3 0⟩

/-- Output size along one axis, floor toward minus infinity (R142). -/
def outSize (n before after d k s : Nat) : Int := ((n : Int) + before + after - d * (k - 1) - 1) / s + 1

def Geo.ho (g : Geo) (h : Nat) : Nat := (outSize h g.pt g.pb g.dh g.kh g.sh).toNat
def Geo.wo (g : Geo) (w : Nat) : Nat := (outSize w g.pl g.pr g.dw g.kw g.sw).toNat

/-- Input pixel that feeds output pixel p at tap t, or none for a padded position (R143). -/
def Geo.pixel (g : Geo) (h w p t : Nat) : Option Nat :=
  let iy : Int := (p / g.wo w : Nat) * g.sh - g.pt + (t / g.kw : Nat) * g.dh
  let ix : Int := (p % g.wo w : Nat) * g.sw - g.pl + (t % g.kw : Nat) * g.dw
  if 0 ≤ iy ∧ iy < h ∧ 0 ≤ ix ∧ ix < w then some (iy.toNat * w + ix.toNat) else none

/-- The taps of output pixel p in order, each from the strip of its pixel; a padded position gives `pad` (R143, R145). -/
def windowStrip (pixel : Nat → Strip) (pad : Strip) (d : Desc) (g : Geo) (p : Nat) : Strip :=
  let one := fun (t : Nat) =>
    match if p < g.ho d.height * g.wo d.extent then g.pixel d.height d.extent p t else none with
    | some px => pixel px
    | none => pad
  (List.range (g.kh * g.kw)).foldl (fun (s : Strip) t => s.append (one t)) ⟨[], [], [], d.tscale⟩

/-- The channels of pixel px. -/
def pixelStrip (rd : Nat → Byte) (d : Desc) (px : Nat) : Strip := rowStrip rd d (d.base + px * d.stride) d.k (px * entries d) 0

/-- One channel of pixel px (R147). -/
def channelStrip (rd : Nat → Byte) (d : Desc) (ch px : Nat) : Strip :=
  let code := elemAt rd d.format (d.base + px * d.stride) ch
  if isInt d.format then ⟨[], [signed (formatBits d.format) code - (if d.smode = 1 then d.tzp.toInt else 0)], [], d.tscale⟩
  else ⟨[elemVal d.format code], [], [], d.tscale⟩

/-- The window of output pixel p: taps in order, channels fastest (R145). -/
def convStrip (rd : Nat → Byte) (d : Desc) (g : Geo) (p : Nat) : Strip := windowStrip (pixelStrip rd d) (padStrip d d.k) d g p

/-- Channel ch of the window of output pixel p (R147). -/
def dwcStrip (pixel : Nat → Strip) (d : Desc) (g : Geo) (p ch : Nat) : Strip :=
  let pad := padStrip { d with smode := 1 } 1
  { windowStrip (if ch < d.k then pixel else fun _ => pad) pad d g p with scales := [] }

/-- Input rows, or columns, that some tap of some output feeds on (R144). -/
def tapsOf (n out s before k dil : Nat) : List Nat :=
  (List.range n).filter (fun i => (List.range out).any (fun o => (List.range k).any (fun t => o * s + t * dil == i + before)))

/-- Input pixels that enter the array; a stride skips the others (R144). -/
def Geo.pixelsRead (g : Geo) (h w : Nat) : List Nat :=
  let xs := tapsOf w (g.wo w) g.sw g.pl g.kw g.dw
  (tapsOf h (g.ho h) g.sh g.pt g.kh g.dh).flatMap (fun y => xs.map (fun x => y * w + x))

/-! ### The stationary B buffer -/

/-- Bytes of a strip, of its scale entries and its zero points in a lane. -/
def stripBytes (b : Desc) (k : Nat) : Nat := packedBytes b.format k
def sideScale (b : Desc) : Nat := if isMx b.format then entries b else if b.format = 0x0A ∨ b.smode = 4 then 2 * entries b else 0
def sideZp (b : Desc) : Nat := if b.format = 0x0A then 0 else if b.smode = 4 then entries b else if b.smode = 2 then 1 else 0

/-- Side area of lane j (R71); its order is the model's (notes/assumptions/14). -/
def sideBase (j : Nat) : Nat := 131072 + j * 512

/-- The B loader (R71, R72, R92): each column's strip, scales and zero points; bytes beyond a lane are not loaded. -/
def loadB (c : CellState) (b : Desc) : Mem :=
  let cts := ceilDiv b.extent 64
  let rd := storeByte c
  (List.range b.extent).foldl (fun m n =>
    let j := n % 64
    let t := n / 64
    let sb := stripBytes b b.k
    let put1 := fun (m : Mem) (lane size off from_ len : Nat) =>
      writeBytes m (lane + off) ((List.range (min len (size - off))).map (fun i => rd (from_ + i)))
    let m := put1 m (j * 2048) 2048 (t * sb) (b.base + n * b.stride) sb
    let ss := sideScale b
    let m := put1 m (sideBase j) 512 (t * ss) (b.scAddr + n * ss) ss
    put1 m (sideBase j) 512 (cts * ss + t * sideZp b) (b.zpAddr + n * sideZp b) (sideZp b)) c.bbuf

/-- The strip of column n in the buffer; its FP32 scale by the column scale registers (R68). -/
def bStrip (c : CellState) (b : Desc) (n : Nat) : Strip :=
  if n < b.extent then
    let j := n % 64
    let t := n / 64
    let cts := ceilDiv b.extent 64
    let s := rowStrip (readByte c.bbuf)
      { b with scAddr := sideBase j + t * sideScale b, zpAddr := sideBase j + cts * sideScale b + t * sideZp b }
      (j * 2048 + t * stripBytes b b.k) b.k 0 0
    { s with tscale := if b.smode = 2 then BitVec.ofNat 32 (rdLE (storeByte c) (b.scAddr + 4 * n) 4) else b.tscale }
  else padStrip b b.k

/-- Lane elements that a B descriptor places in each lane (R73). -/
def laneElems (b : Desc) : Nat := ceilDiv b.extent 64 * b.k

/-- Output column n of MMAT: element n of each of the 64 lanes (R73). -/
def mmatStrip (c : CellState) (b : Desc) (n : Nat) : Strip :=
  let one := fun (lane : Nat) =>
    if b.k = 0 then 0 else
    elemAt (readByte c.bbuf) b.format (lane * 2048 + (n / b.k) * stripBytes b b.k) (n % b.k)
  let codes := (List.range 64).map one
  { vals := if isFloat b.format then codes.map (elemVal b.format) else []
    ints := if isInt b.format then codes.map (fun q => signed (formatBits b.format) q - b.tzp.toInt) else []
    scales := [], tscale := b.tscale }

/-! ### Storing a row -/

/-- Narrowed lanes of a row segment: a code per stored lane, a scale per block with a stored lane, counts (R121, R35). -/
structure Seg where
  codes : List (Option Nat)
  scales : List (Option Nat)
  written : Nat
  clipped : Nat
  nans : Nat
  deriving DecidableEq, Repr

/-- What the lanes of a segment hold: codes an instruction has narrowed, FP32 values, or INT32 accumulators. -/
inductive LaneKind where
  | code | f32 | i32
  deriving DecidableEq, Repr

def laneVal (int : Bool) (x : BitVec 32) : FVal := if int then FVal.ofInt x.toInt else f32 x

/-- An accumulator narrowed by the drain to INT8 or INT4: R41 with the destination's scale and zero point for FP32, R32's
saturation for INT32 (notes/assumptions/32). -/
def drainInt (d : Desc) (int : Bool) (s : FVal) (z : Int) (x : BitVec 32) : Narrowed :=
  let w := formatBits d.format
  let r := if int then narrowInt (-(2 ^ (w - 1) : Int)) (2 ^ (w - 1) - 1) 0 (laneVal int x) else quantInt w (f32 x) s z
  ⟨pattern w r.1, r.2.1, r.2.2⟩

/-- One MX block of lanes: scale, codes, clipped and NaN counts (R35). Lanes that are not stored count as +0, and a block
with no stored lane leaves its scale byte: the model's choice (notes/assumptions/15). -/
def mxLanes (d : Desc) (int : Bool) (l : List (Option (BitVec 32))) : Option Nat × List (Option Nat) × Nat × Nat :=
  let q := mxQuant d.format d.noclip (l.map (fun o => match o with | some x => laneVal int x | none => .fin false 0 1))
  (if l.any Option.isSome then some q.1 else none, (l.zip q.2.1).map (fun p => p.1.map (fun _ => p.2)), q.2.2)

/-- What VSTD or the drain stores for a segment; a lane that is not stored is none, and counts as +0 in its MX block, whose
scale is written where any lane is stored (the model's choice, notes/assumptions/15). `sz` is the scale and zero point of a
lane's element. In a block of 128 the segment is one half: its block is narrowed in `storeHalf`, and here, for a posted
tile, as a block of the tile's own. -/
def narrowSeg (kind : LaneKind) (d : Desc) (sz : Nat → FVal × Int) (lanes : List (Option (BitVec 32))) : Seg :=
  let cnt := (lanes.filter Option.isSome).length
  let int := decide (kind = .i32)
  let of := fun (r : List (Option Narrowed)) => (⟨r.map (fun o => o.map (·.code)), [], cnt,
    (r.filter (fun o => match o with | some x => x.clipped | none => false)).length,
    (r.filter (fun o => match o with | some x => x.nan | none => false)).length⟩ : Seg)
  if d.format = 0x0D ∨ d.format = 0x0E then ⟨lanes.map (fun o => o.map (·.toNat)), [], 0, 0, 0⟩
  else if isInt d.format then
    (if kind = .code then ⟨lanes.map (fun o => o.map (fun x => x.toNat % 2 ^ formatBits d.format)), [], cnt, 0, 0⟩
     else of (lanes.mapIdx (fun i o => o.map (drainInt d int (sz i).1 (sz i).2))))
  else if isMx d.format then
    let bl := (chunks (min 64 (groupSize d)) (lanes.length + 1) lanes).map (mxLanes d int)
    ⟨bl.flatMap (fun b => b.2.1), bl.map (fun b => b.1), cnt, (bl.map (fun b => b.2.2.1)).sum, (bl.map (fun b => b.2.2.2)).sum⟩
  else if isFloat d.format then of (lanes.map (fun o => o.map (fun x => narrowElem d.format (laneVal int x))))
  else ⟨lanes.map (fun _ => none), [], 0, 0, 0⟩

/-- Put element codes of a segment at a byte address, from element e0. -/
def putSeg (m : Mem) (f a e0 : Nat) (codes : List (Option Nat)) : Mem :=
  (codes.mapIdx (fun i o => (i, o))).foldl (fun m p => match p.2 with
    | some v => writeElem m a (formatBits f) (e0 + p.1) v
    | none => m) m

/-- Bytes per row of a posted tile (R137). -/
def postRow (f : Nat) : Nat := 8 * formatBits f

/-- Whether a destination is posted, and whether it is written locally (R94, R136). -/
def writesLocal (post : Option Bind) : Bool := match post with | none => true | some b => b.local_

/-- Address of the scale byte of the block at column `col` of a row (R89). -/
def mxScaleAddr (d : Desc) (row col : Nat) : Nat := d.scAddr + row * ceilDiv d.k (groupSize d) + col / groupSize d

/-- Block scales of a segment, each at its own offset from `a`. -/
def scalePairs (s : Seg) : List (Nat × Nat) := (s.scales.mapIdx (fun i v => (i, v))).filterMap (fun p => p.2.map (fun v => (p.1, v)))

/-- Store a segment of row `row` from column `col0` at the local destination. -/
def putLocal (store : Mem) (d : Desc) (row col0 : Nat) (s : Seg) : Mem :=
  let m := putSeg store d.format ((d.base + row * d.stride) % 0x400000) col0 s.codes
  (scalePairs s).foldl (fun m p => storeBytes m (mxScaleAddr d row col0 + p.1) [BitVec.ofNat 8 p.2]) m

/-- Scale and zero point of column `col` of row `row` of an integer destination (R39). -/
def destScale (rd : Nat → Byte) (d : Desc) (row col : Nat) : FVal × Int :=
  if d.smode = 4 then
    let e := row * entries d + col / groupSize d
    (decodeF fp16 (rdLE rd (d.scAddr + 2 * e) 2), (rd (d.zpAddr + e)).toInt)
  else (f32 d.tscale, d.tzp.toInt)

/-- Gather a segment of tile row r of a posted tile (R137). -/
def putPosted (g : Mem) (d : Desc) (r : Nat) (s : Seg) : Mem :=
  let m := putSeg g d.format (r * postRow d.format) 0 s.codes
  (scalePairs s).foldl (fun m p => writeByte m (64 * postRow d.format + r * s.scales.length + p.1) (BitVec.ofNat 8 p.2)) m

/-- Byte offsets that a segment's stored elements and scales take in a posted tile. -/
def coverSeg (t : Tab Bool) (d : Desc) (r : Nat) (s : Seg) : Tab Bool :=
  let w := formatBits d.format
  let t := (s.codes.mapIdx (fun i o => (i, o))).foldl (fun t p => if p.2.isSome then
      fillRange false t (r * postRow d.format + p.1 * w / 8) (ceilDiv (p.1 * w + w) 8 - p.1 * w / 8) true else t) t
  (scalePairs s).foldl (fun t p => put false t (64 * postRow d.format + r * s.scales.length + p.1) true) t

/-- Counts of quantising operations; with `tile` they are those of the tile last handed off, in the CLIP and NAN_OUT fields
of TILE_STATUS (R50, R81). -/
def countNarrow (c : CellState) (tile : Bool) (layer written clipped nans : Nat) : CellState :=
  let ts := c.tileStatus.toNat
  let cl := min 4096 (bits ts 31 19 + clipped)
  let nn := min 4096 (bits ts 18 6 + nans)
  { c with
    counts := { c.counts with written := bump 32 c.counts.written layer written,
                              clipped := bump 32 c.counts.clipped layer clipped, nanOut := satAdd 32 c.counts.nanOut nans }
    tileStatus := if tile then BitVec.ofNat 64 (at_ (bits ts 63 32) 32 + at_ cl 19 + at_ nn 6 + bits ts 5 0) else c.tileStatus }

def countSeg (c : CellState) (tile : Bool) (layer : Nat) (s : Seg) : CellState := countNarrow c tile layer s.written s.clipped s.nans

/-- Half h of a block of 128 at a row: it waits for the other half, and the second to come narrows the whole block with one
shared exponent and stores it (R35; what memory holds between the two is the model's choice, notes/assumptions/15). -/
def storeHalf (c : CellState) (tile int : Bool) (d : Desc) (row col0 : Nat) (lanes : List (Option (BitVec 32))) : CellState :=
  if !lanes.any Option.isSome then c else
  let a := mxScaleAddr d row col0 % 0x400000
  let h := col0 / 64 % 2
  match c.halves.find? (fun p => p.1 == a && p.2.half != h) with
  | none => { c with halves := insertKey (erase c.halves a) a ⟨h, int, lanes⟩ }
  | some (_, x) =>
    let q := mxLanes d int (if h = 0 then lanes ++ x.lanes else x.lanes ++ lanes)
    let codes := q.2.1
    let s : Seg := ⟨codes, [q.1], (codes.filter Option.isSome).length, q.2.2.1, q.2.2.2⟩
    countSeg { c with halves := erase c.halves a, store := putLocal c.store d row (col0 / 128 * 128) s } tile d.layer s

/-- Store a row segment at the local destination, and count it. -/
def storeRow (c : CellState) (tile : Bool) (kind : LaneKind) (d : Desc) (row col0 : Nat) (lanes : List (Option (BitVec 32))) : CellState :=
  if isMx d.format && decide (64 < groupSize d) then storeHalf c tile (decide (kind = .i32)) d row col0 lanes
  else
    let s := narrowSeg kind d (fun i => destScale (storeByte c) d row (col0 + i)) lanes
    countSeg { c with store := putLocal c.store d row col0 s } tile d.layer s

/-! ### Eyelets (spec/03 R67 to R70) -/

/-- The matrix macro-operation whose tiles the array reduces in the next stitch. -/
def reducing (c : CellState) : Option MatOp :=
  c.mats.find? (fun m => decide (m.kind ≠ .vrun ∧ m.kind ≠ .gap ∧ m.issue ≤ c.since ∧ c.since < m.issue + m.nt * m.b))

/-- Whether eyelet e takes part in an operation (R68; the A eyelets take none in DWC, R147). -/
def takesPart (m : MatOp) (e : Nat) : Bool :=
  if e < 64 then m.kind != .dwc else if e < 128 then true else e == 128 && m.scaled

/-- Whether eyelet e pops an entry in stitch r of a tile (R67). -/
def popsAt (m : MatOp) (r e : Nat) : Bool :=
  takesPart m e && decide (r < m.kst) && (if e = 128 then (r + 1) % m.per == 0 else r % m.hold == 0)

/-- The stitch the cell is at takes an entry of eyelet e. -/
def takesNow (c : CellState) (e : Nat) : Bool :=
  match reducing c with
  | some m => popsAt m ((c.since - m.issue) % m.b) e
  | none => false

/-- An eyelet whose entry the stitch takes is empty (R68). -/
def eyeEmpty (c : CellState) (e : Nat) : Bool := takesNow c e && (lookup [] c.eyes e).isEmpty

/-- Eyelet e pops an entry in the stitch the cell is at. -/
def popsNow (c : CellState) (e : Nat) : Bool := takesNow c e && !(lookup [] c.eyes e).isEmpty

/-- A row operand register of DWC lacks channels of the present tap: it takes 16 of them for each of the tap's four stitches (R147;
which stitch needs which is the model's choice, notes/assumptions/131). -/
def rowsShort (c : CellState) : Bool :=
  match reducing c with
  | some m =>
    let r := (c.since - m.issue) % m.b
    m.kind == .dwc && decide (r < m.kst) && (List.range 64).any (fun i => decide ((lookup [] c.rowReg i).length < 16 * (r % 4 + 1)))
  | none => false

/-- Stall causes of the feeders at a requested stitch: FEED_A_EMPTY, FEED_B_EMPTY, SCALE_EMPTY (R68, R147). -/
def feedStalls (c : CellState) : BitVec 8 :=
  (if (List.range 64).any (eyeEmpty c) || rowsShort c then 1 else 0) |||
  (if (List.range 64).any (fun j => eyeEmpty c (64 + j)) then 2 else 0) ||| (if eyeEmpty c 128 then 4 else 0)

/-- Even parity of a word; the sense is the model's (notes/assumptions/20). -/
def parityBit (v : Nat) : Bool := (List.range 16).foldl (fun p i => p != v.testBit i) false

/-- An entry as a feeder writes it: data, tag and their check bits (R67, R69). -/
def eyeEntry (data : List Nat) (tag : Nat) : EyeEntry :=
  ⟨data.map (BitVec.ofNat 16), BitVec.ofNat 4 tag, data.map parityBit, parityBit (tag % 16)⟩

/-- The check bits of an entry hold. -/
def EyeEntry.sound (x : EyeEntry) : Bool :=
  x.parity == x.data.map (fun d => parityBit d.toNat) && x.tagParity == parityBit x.tag.toNat

/-- What an operand element looks like in an A or B eyelet: its code, a 9-bit difference, or two bits of a trit (R67). -/
def elemBits (f : Nat) (s : Strip) (k : Nat) : Nat :=
  if s.vals.isEmpty then pattern (if f = 0x0A then 2 else 9) (s.ints.getD k 0) else (narrowElem f (s.vals.getD k (.fin false 0 1))).code

/-- The 36 data bits of an entry of n elements from index k, as four words of 9: one element to a word, four trits or a BF16 from
the lowest bit; the places are the model's choice (notes/assumptions/20). -/
def operandData (f : Nat) (s : Strip) (k n : Nat) : List Nat :=
  let v := ((List.range n).map (fun i => elemBits f s (k + i) * 2 ^ ((if f = 0x0A then 2 else 9) * i))).sum
  (List.range 4).map (fun i => v / 512 ^ i % 512)

/-- The feeder of eyelet e writes its next entry where its queue of 16 has a place, or the next 16 channels of a row operand register
where the present tap lacks them; a stall cause of an eyelet that is no longer empty ends (R67, R68, R78, R147). -/
def feedEye (c : CellState) (e : Nat) : CellState :=
  match reducing c with
  | none => c
  | some m =>
    let with_ := fun (x : MatOp) => c.mats.map (fun y => if y.order = m.order then x else y)
    let c := if m.kind = .dwc ∧ e < 64 then
        match lookup [] m.rowFeed e with
        | l :: rest => if 64 ≤ (lookup [] c.rowReg e).length then c else
            { c with rowReg := put [] c.rowReg e (lookup [] c.rowReg e ++ l), mats := with_ { m with rowFeed := put [] m.rowFeed e rest } }
        | [] => c
      else match lookup [] m.feed e with
        | x :: rest => if 16 ≤ (lookup [] c.eyes e).length then c else
            { c with eyes := put [] c.eyes e (lookup [] c.eyes e ++ [x]), mats := with_ { m with feed := put [] m.feed e rest } }
        | [] => c
    { c with stalls := c.stalls &&& (feedStalls c ||| ~~~(7 : BitVec 8)) }

/-- The popped heads leave their eyelets; a tap's last stitch empties the row operand registers (R67, R147). -/
def popEyes (c : CellState) : CellState :=
  { c with
    eyes := (c.eyes.map (fun p => if takesNow c p.1 then (p.1, p.2.drop 1) else p)).filter (fun p => !p.2.isEmpty)
    rowReg := match reducing c with
      | some m => if m.kind = .dwc ∧ (c.since - m.issue) % m.b < m.kst ∧ (c.since - m.issue) % m.b % 4 = 3 then [] else c.rowReg
      | none => c.rowReg }

/-- The expected-tag counter after a completed stitch: 0 at the start of a tile, one more past a block boundary (R69). -/
def nextTag (c : CellState) : Nat :=
  match reducing c with
  | none => c.tag
  | some m =>
    let r := (c.since - m.issue) % m.b
    if r + 1 = m.b ∧ (c.since - m.issue) / m.b + 1 < m.nt then 0
    else if r < m.kst ∧ (r + 1) % m.per = 0 then (c.tag + 1) % 16 else c.tag

/-- The lowest eyelet whose popped entry is wrong, and the failure bit: a parity error, or a tag other than the expected one (R69, R70). -/
def popBad (c : CellState) : Option (Nat × Nat) :=
  ((List.range 129).filter (popsNow c)).findSome? (fun e =>
    match lookup [] c.eyes e with
    | x :: _ => if !x.sound then some (5, e) else if x.tag.toNat ≠ c.tag then some (6, e) else none
    | [] => none)

end Sys2Proof.Machine
end

