-- ==== Sys2Proof/Machine/Ops.lean ====
section
/-! DEFINITION. Named reads and writes of the parts of State, and the shared operations of cells and of the quarter
fabric: halting and failing a cell (spec/03 R81, spec/04 R83, spec/10 R259), stall causes (spec/03 R78), counter updates
and their waiters (spec/04 R96, R97). -/

namespace Sys2Proof.Machine

/-! ### Parts of the state -/

def State.cell (s : State) (g : Nat) : CellState := lookup {} s.cells g
def State.setCell (s : State) (g : Nat) (c : CellState) : State := { s with cells := put {} s.cells g c }
def State.modCell (s : State) (g : Nat) (f : CellState → CellState) : State := s.setCell g (f (s.cell g))

def State.tacker (s : State) (t : Nat) : Tacker := lookup {} s.tackers t
def State.setTacker (s : State) (t : Nat) (x : Tacker) : State := { s with tackers := put {} s.tackers t x }

def State.laster (s : State) (n : Nat) : Laster := lookup {} s.lasters n
def State.setLaster (s : State) (n : Nat) (x : Laster) : State := { s with lasters := put {} s.lasters n x }

def State.ctx (s : State) (c : Nat) : Ctx := lookup {} s.ctxs c
def State.setCtx (s : State) (c : Nat) (x : Ctx) : State := { s with ctxs := put {} s.ctxs c x }
def State.modCtx (s : State) (c : Nat) (f : Ctx → Ctx) : State := s.setCtx c (f (s.ctx c))

def State.slot (s : State) (n : Nat) : Slot := lookup {} s.streams.slot n
def State.setSlot (s : State) (n : Nat) (x : Slot) : State :=
  { s with streams := { s.streams with slot := put {} s.streams.slot n x } }

def State.chan (s : State) (n : Nat) : Chan := lookup {} s.hmp.chan n
def State.setChan (s : State) (n : Nat) (x : Chan) : State := { s with hmp := { s.hmp with chan := put {} s.hmp.chan n x } }

/-- A slot goes IDLE and gives up what it held (spec/07 R162). -/
def Slot.idle (x : Slot) : Slot :=
  { x with st := 0, starting := false, reading := false, reads := [], timedOut := false, instance_ := none, decoder := none,
           pages := 0, page := [], tabs := {}, shadow := none, shadowTabs := {}, meshWait := [], inFrame := false, dropFrame := false, lines := [],
           buffered := none, decoding := false, waiting := false, rings := [], calib := 0 }

/-- DC system time (spec/12 R308). -/
def State.now (s : State) : Nat := s.dev.dc.toNat

/-- The next block of free values is drawn (notes/assumptions/3). -/
def State.draw (s : State) : State := { s with free := s.free + 1 }

/-- Quarter, cluster and position of a global cell number (spec/00 R6). -/
def quarterOf (g : Nat) : Nat := g / 16
def clusterOf (g : Nat) : Nat := g / 4 % 4
def positionOf (g : Nat) : Nat := g % 4
/-- Tacker Q x 4 + C and rail zone Q x 4 + L of a cell (spec/01 R17). -/
def tackerOf (g : Nat) : Nat := g / 4
def zoneOf (g : Nat) : Nat := quarterOf g * 4 + positionOf g

/-- Key of a 32-byte line of LPDDR6 or a map store, and the address `bad` names. -/
def flatAddr (space p a : Nat) : Nat := if space = 1 then p * 33554432 + a else a
def lineKey (space addr : Nat) : Nat := space * 1099511627776 + addr / 32

/-! ### Cells -/

/-- A cell that completes stitches: RUNNING and not fenced (spec/03 R81). -/
def CellState.live (c : CellState) : Bool := c.st == .running && !c.fence

/-- Set the active stall causes, counting each onset (R78); a cell that freezes is no longer paced (R62). -/
def setStalls (c : CellState) (m : BitVec 8) : CellState :=
  { c with
    stallEvents := (List.range 8).foldl (fun t i =>
      if m.getLsbD i && !c.stalls.getLsbD i then bump 32 t i 1 else t) c.stallEvents
    stalls := m
    pacing := c.pacing && m == 0 }

/-- The stall counters since the last hand-over go to the layer of the last matrix macro-operation (spec/05 R140, R78); that those
before any go to layer 0, and that the end of a run hands over the rest, is the model's choice (notes/assumptions/129). -/
def handStalls (c : CellState) : CellState :=
  let l := c.lastLayer.getD 0
  let add := fun (t now_ before : Tab Nat) =>
    (List.range 8).foldl (fun t i => bump 32 t (l * 8 + i) (lookup 0 now_ i - lookup 0 before i)) t
  { c with
    counts := { c.counts with stallTime := add c.counts.stallTime c.stallTime c.handedTime,
                              stallEvents := add c.counts.stallEvents c.stallEvents c.handedEvents }
    handedTime := c.stallTime, handedEvents := c.stallEvents }

/-- What every end of a run drops: loops, tails, threads, what waits (R99, R81). The sentinel keeps the lines of transfers that are
still in their Lacers (R79). -/
def stopRun (c : CellState) : CellState :=
  { c with loops := [], mats := [], wait := none, bind := none, vctx := [], threads := [], haltReq := false,
           hints := [], marks := c.marks.filter (·.lace), chainOpen := 0, stalls := 0, pacing := false, late := none, eyes := [],
           rowReg := [], halves := [],
           next := c.since }

/-- A program error halts the cell at the current macro-operation (spec/04 R83). -/
def haltProg (now : Nat) (c : CellState) (why : JobFault) : CellState :=
  { stopRun (handStalls c) with st := .halted, prog := some why, report := true, reportAt := now }

/-- A HALT_REQ is obeyed (R81). -/
def haltReqObeyed (c : CellState) : CellState := { stopRun (handStalls c) with st := .halted }

/-- A failure bit is set: the first one fills FAULT_INFO, the cell is FAULTED and reports to its Tacker (R81, R259). -/
def cellFail (now : Nat) (c : CellState) (bit addr eyelet : Nat) : CellState :=
  let info := if c.fault.toNat % 256 = 0 then BitVec.ofNat 38 (at_ (addr % 4194304) 16 + at_ (eyelet % 256) 8 + bit) else c.faultInfo
  { stopRun c with fault := c.fault ||| (1 <<< bit), faultInfo := info, st := .faulted, report := true, reportAt := now }

/-- A word of a cell's memory is uncorrectable: it stays so until it is written, and the cell fails (R77, spec/10 R256). -/
def wordFails (now : Nat) (c : CellState) (memory addr : Nat) : CellState :=
  { cellFail now c memory addr 0 with badWords := (c.badWords ++ [(memory, addr)]).dedup }

/-- FAULT_INFO.SOURCE order of the memories an uncorrectable error names: store, B buffer, IMEM, TMEM, vector registers. -/
def failuresOf (c : CellState) : Nat := c.fault.toNat % 256

/-! ### Counters -/

def State.counter (s : State) (k : Nat) : BitVec 32 := lookup 0 s.fabric.counter k
def State.setCounter (s : State) (k : Nat) (v : BitVec 32) : State :=
  { s with fabric := { s.fabric with counter := put 0 s.fabric.counter k v } }

/-- The condition of SIGWAIT (R97). -/
def sigHolds (v target : BitVec 32) (equal : Bool) : Bool := if equal then v == target else decide (0 ≤ (v - target).toInt)

/-- Updates of counter k that cell g issued and that are not applied yet. -/
def ownPending (s : State) (g k : Nat) : Bool :=
  (lookup [] s.fabric.updates (k / 4096)).any (fun u => u.cell == g && u.counter == k) || (s.cell g).held.any (fun h => h.counter == k)

/-- The condition of a SIGWAIT of cell g is met: a test that consumes is an update, and follows the cell's own (R96, R97). -/
def sigMet (s : State) (g k : Nat) (target : BitVec 32) (equal consume : Bool) : Bool :=
  sigHolds (s.counter k) target equal && !(consume && ownPending s g k)

/-- A waiting cell tests its counter; satisfied, it consumes and is released (R97). -/
def testWaiter (s : State) (g : Nat) : State :=
  let c := s.cell g
  match c.wait with
  | some (.signal k target equal consume) =>
    if sigMet s g k target equal consume then
      let s := if consume then s.setCounter k (s.counter k - target) else s
      s.setCell g { c with wait := none, stalls := 0 }
    else s
  | _ => s

/-- Cells frozen in SIGWAIT on counter k. -/
def waitersOf (s : State) (k : Nat) : List Nat :=
  (List.range 64).filter (fun g => match (s.cell g).wait with | some (.signal k' ..) => k' == k | _ => false)

/-- Which of several waiting cells tests first is open (R97): the order turns by a free value. -/
def testOrder (s : State) (l : List Nat) : List Nat :=
  if l.length ≤ 1 then l else let r := (freeAt 6 s.free 0).toNat % l.length; l.drop r ++ l.take r

/-- An update is applied at its quarter fabric, and the waits it satisfies are released (R96, R97). -/
def applyUpdate (s : State) (k : Nat) (add : Bool) (v : BitVec 32) : State :=
  let s := s.setCounter k (if add then s.counter k + v else v)
  let l := waitersOf s k
  let s' := (testOrder s l).foldl testWaiter s
  if l.length ≤ 1 then s' else s'.draw

/-- The device counter of job-relative counter i (R84). -/
def StartBlock.device (sb : StartBlock) (i : Nat) : Option Nat := if i < sb.count then some (sb.base + i) else none
/-- The cell of a placement slot; the barrier network of a barrier. Unlisted is invalid. -/
def StartBlock.cellOf (sb : StartBlock) (p : Nat) : Option Nat := let g := lookup 64 sb.place p; if g < 64 then some g else none
def StartBlock.netOf (sb : StartBlock) (b : Nat) : Option Nat := let n := lookup 64 sb.bars b; if n < 64 then some n else none

/-- Apply a list of updates in order. -/
def applyUpdates (s : State) (l : List Update) : State := l.foldl (fun s u => applyUpdate s u.counter u.add u.value) s

/-- The updates of counter k that cell g issued and that are on their way arrive before a later one of its own (R96). -/
def arriveOwn (s : State) (g k : Nat) : State :=
  let q := k / 4096
  let l := lookup [] s.fabric.updates q
  let mine := fun (u : Update) => u.cell == g && u.counter == k
  applyUpdates { s with fabric := { s.fabric with updates := put [] s.fabric.updates q (l.filter (fun u => !mine u)) } } (l.filter mine)

/-- A completion update of cell g, behind every update of that counter it issued before; an increment of 0 is none (R88, R96). -/
def bumpSignal (s : State) (g sig inc : Nat) : State :=
  if inc = 0 then s
  else if (s.cell g).held.any (fun h => h.counter == sig) then
    s.modCell g (fun c => { c with held := c.held ++ [⟨sig, true, BitVec.ofNat 32 inc, 0, 0⟩] })
  else applyUpdate (arriveOwn s g sig) sig true (BitVec.ofNat 32 inc)

/-- The number under which a run of a job is remembered as the writer of a line (spec/10 R257). -/
def runKey (sb : StartBlock) : Nat := sb.job * 65536 + sb.run % 65536 + 1

/-- The transfer, command or post belongs to the run the cell is in: a replay's run is another (spec/02 R51). -/
def sameRun (c : CellState) (sb : StartBlock) : Bool := c.sb.job == sb.job && c.sb.run == sb.run

/-! ### Monotonic counters (spec/13 R340) -/

/-- A counter reads as the largest value of its log whose CRC is good. -/
def CounterLog.read (l : CounterLog) : Nat :=
  (l.entries.filter (fun p => decide (p.2 = crc32 (leBytes 4 p.1.toNat)))).foldl (fun m p => max m p.1.toNat) 0

/-- A value is appended; where the half is full, the other one takes it and the full one is erased. The room of a half is the model's
choice (notes/assumptions/149). -/
def CounterLog.push (l : CounterLog) (v : Nat) : CounterLog :=
  let e := (BitVec.ofNat 32 v, crc32 (leBytes 4 (v % 2 ^ 32)))
  if l.entries.length < 2048 then { l with entries := l.entries ++ [e] } else ⟨!l.half, [e]⟩

/-- A counter that rises to a value, and stays where it stands above. -/
def CounterLog.raiseTo (l : CounterLog) (v : Nat) : CounterLog := if l.read < v then l.push v else l

def Boot.rollback (b : Boot) : Nat := b.rollLog.read
def Boot.leaf (b : Boot) : Nat := b.leafLog.read

/-! ### Supplies (spec/14 R362 to R366) -/

/-- A rail's place in the table of R362, from 0: VDD_Q0 to VDD_Q3, then the fixed rails. -/
def railNumber : Rail → Nat
  | .vddQ q => q.val
  | .fixed n => 4 + n.val

/-- The always-on supply stands, the clock runs, and neither POR_N nor a rail that left its limits holds the part. -/
def supplied (d : Dev) : Bool := !d.railsOut.contains (.fixed 8) && !d.railReset && d.refclk && !d.porLow

end Sys2Proof.Machine
end

