-- ==== Sys2Proof/Machine/Sentinel.lean ====
section
/-! DEFINITION. The hazard sentinel (spec/03 R79 to R81): marks of the lines of issued operations, and the log of
accesses that break the windows. It changes nothing but its own log. -/

namespace Sys2Proof.Machine

/-- Entries of one stitch stand in the issue order of X, those of one X by rising line (R79). -/
def sentBefore (a e : SentEntry) : Bool :=
  decide (a.stitch < e.stitch ∨ (a.stitch = e.stitch ∧ (a.x < e.x ∨ (a.x = e.x ∧ a.line ≤ e.line))))

/-- Put an entry into its place in a log. -/
def insertEntry (e : SentEntry) : List SentEntry → List SentEntry
  | [] => [e]
  | a :: l => if sentBefore a e then a :: insertEntry e l else e :: a :: l

/-- A violation is counted and logged; MODE 0 keeps the first 32, MODE 1 the latest 32 (R81). -/
def logViolation (c : CellState) (e : SentEntry) : CellState :=
  let l := insertEntry e c.sentLog
  let c := { c with violations := satAdd 32 c.violations 1 }
  if l.length ≤ 32 then { c with sentLog := l }
  else { c with sentLost := satAdd 8 c.sentLost 1, sentLog := if c.sentOn.getLsbD 2 then l.drop 1 else l.take 32 }

/-- Lines of a byte range, 512 bytes each, modulo the store. -/
def linesOf (a n : Nat) : List Nat :=
  if n = 0 then [] else (List.range ((a + n - 1) / 512 - a / 512 + 1)).map (fun i => (a / 512 + i) % 8192)

/-- The same lines in rising order, each once. -/
def lineSet (l : List Nat) : List Nat := (l.foldl (fun t x => put false t x true) ([] : Tab Bool)).map (·.1)

/-- Kind of the violation of an access to a line that X still reads or writes (R79). -/
def violation (write xReads xWrites : Bool) : Option Nat :=
  if write then (if xWrites then some 2 else if xReads then some 1 else none) else if xWrites then some 0 else none

/-- Operation `order` at index `idx` touches lines: every earlier operation that still marks one gives a violation. -/
def touch (c : CellState) (order idx : Nat) (lace : Bool) (space : Nat) (write : Bool) (lines : List Nat) : CellState :=
  if !c.sentOn.getLsbD 0 || (lace && !c.sentOn.getLsbD 1) then c else
  let live := c.marks.filter (fun m => decide (m.order < order) && m.space == space && decide (c.since ≤ m.until_))
  let xs := (live.map (·.order)).dedup
  let ls := lineSet lines
  xs.foldl (fun c x => ls.foldl (fun c l =>
    let ms := live.filter (fun m => m.order == x && m.line == l)
    match violation write (ms.any (·.reads)) (ms.any (·.writes)), ms with
    | some k, m :: _ => logViolation c ⟨c.since, k, space, l, m.idx, idx, m.lace, lace, x⟩
    | _, _ => c) c) c

/-- Mark lines of an operation until stitch `until_`. -/
def mark (c : CellState) (order idx : Nat) (lace : Bool) (space : Nat) (reads writes : Bool) (until_ : Nat) (lines : List Nat) : CellState :=
  if !c.sentOn.getLsbD 0 || (lace && !c.sentOn.getLsbD 1) then c
  else { c with marks := c.marks ++ (lineSet lines).map (fun l => ⟨order, idx, lace, space, l, reads, writes, until_⟩) }

/-- Marks that no later access can meet are dropped. -/
def dropMarks (c : CellState) : CellState := { c with marks := c.marks.filter (fun m => decide (c.since ≤ m.until_)) }

end Sys2Proof.Machine
end

