-- ==== Sys2Proof/Machine/Vector.lean ====
section
/-! DEFINITION. The vector engine: lane operations (spec/05 R105, R109), validity of an instruction where it executes
(R110), tile programs (R108, R111 to R117, R121, R122, R131, R134, R136) and hardware threads (R118, R119). -/

namespace Sys2Proof.Machine

/-! ### Words -/

def vOp (w : Word) : Nat := bits w.toNat 63 56
def vD (w : Word) : Nat := bits w.toNat 55 50
def vA (w : Word) : Nat := bits w.toNat 49 44
def vB (w : Word) : Nat := bits w.toNat 43 38
def vC (w : Word) : Nat := bits w.toNat 37 32
def vPred (w : Word) : Nat := bits w.toNat 31 29
def vNeg (w : Word) : Bool := w.getLsbD 28
def vLane (w : Word) : Nat := bits w.toNat 27 26
def vImm (w : Word) : Nat := bits w.toNat 25 0

/-- Row of R109: IMM bits used, INT32 and INT8 forms exist, places allowed (1 epilogue, 2 prologue, 4 VRUN, 8 thread). -/
def vRow (op : Nat) : Option (Nat × Bool × Nat) :=
  match op with
  | 0x00 | 0x01 => some (0, false, 15)
  | 0x02 | 0x03 => some (0, true, 15)
  | 0x04 => some (16, false, 15)
  | 0x10 | 0x11 | 0x12 | 0x13 | 0x14 | 0x15 | 0x18 => some (0, true, 15)
  | 0x16 | 0x17 | 0x20 | 0x21 | 0x22 | 0x23 | 0x24 => some (0, false, 15)
  | 0x30 => some (6, true, 15)
  | 0x31 => some (3, true, 15)
  | 0x38 => some (5, false, 15)
  | 0x39 => some (13, false, 15)
  | 0x3A => some (0, false, 15)
  | 0x40 => some (0, false, 7)
  | 0x41 => some (5, false, 7)
  | 0x50 => some (0, false, 1)
  | 0x51 => some (5, false, 4)
  | 0x52 => some (5, false, 5)
  | 0x53 | 0x54 | 0x55 => some (13, false, 7)
  | 0x56 => some (0, false, 5)
  | 0x58 | 0x59 | 0x5A => some (0, false, 8)
  | 0x60 | 0x61 => some (4, false, 7)
  | 0x68 => some (0, false, 7)
  | 0x69 => some (5, false, 7)
  | _ => none

/-- Registers an instruction names. -/
def vRegs (w : Word) : List Nat :=
  match vOp w with
  | 0x00 | 0x01 | 0x68 => []
  | 0x02 | 0x04 | 0x50 | 0x51 | 0x53 | 0x55 | 0x60 => [vD w]
  | 0x03 | 0x17 | 0x18 | 0x20 | 0x21 | 0x22 | 0x23 | 0x24 | 0x38 | 0x40 | 0x41 | 0x58 | 0x69 => [vD w, vA w]
  | 0x13 | 0x3A => [vD w, vA w, vB w, vC w]
  | 0x30 | 0x59 | 0x5A => [vA w, vB w]
  | 0x52 | 0x54 | 0x56 | 0x61 => [vA w]
  | _ => [vD w, vA w, vB w]

/-- The run-time check of R110 for place `p` (1, 2, 4 or 8). -/
def vOk (p : Nat) (w : Word) : Bool :=
  match vRow (vOp w) with
  | none => false
  | some (ib, ints, pl) =>
    decide (vImm w < 2 ^ ib) && (vLane w == 0 || (ints && vLane w != 3)) && decide ((pl / p) % 2 = 1) &&
    (match vOp w with
      | 0x30 => bits (vImm w) 5 3 != 7
      | 0x38 => decide (vImm w ≤ 0x0E)
      | 0x39 | 0x41 => decide (bits (vImm w) 4 0 ≤ 1)
      | _ => true) &&
    (p != 8 || ((vRegs w).all (fun r => decide (r ≤ 15)) && decide (vPred w ≤ 3) &&
      (!(vOp w == 0x30 || vOp w == 0x31) || decide (bits (vImm w) 2 0 ≤ 3))))

/-! ### Lanes -/

/-- Integer lanes are exact and saturate (R105). -/
def intLane (op w : Nat) (a b c : Int) : Int :=
  satInt (-(2 ^ (w - 1) : Int)) (2 ^ (w - 1) - 1)
    (match op with
      | 0x10 => a + b
      | 0x11 => a - b
      | 0x12 => a * b
      | 0x13 => a * b + c
      | 0x14 => max a b
      | 0x15 => min a b
      | 0x18 => |a|
      | _ => a)

/-- What an instruction takes from outside its cell: the draw of its free values, and the version of the interpolation tables that
the bit-exactness key names (spec/02 R49). -/
structure VEnv where
  n : Nat
  tab : BitVec 16
  deriving DecidableEq, Repr

/-- e^x: exact at the zeros and infinities, else the interpolation table (R109, R49). -/
def expF32 (tab : BitVec 16) (x : F32) : F32 :=
  if x = 0 ∨ x = 0x80000000 then 0x3F800000 else if x = 0xFF800000 then 0 else if x = 0x7F800000 then 0x7F800000
  else Config.tableExp tab x

/-- max and min; a NaN operand gives NaN, and -0 is below +0 (notes/assumptions/16). -/
def maxF32 (a b : F32) : F32 :=
  if (f32 a).isNan || (f32 b).isNan then 0x7FC00000
  else match (f32 a).cmp (f32 b) with
    | 1 => a
    | 0 => if a = 0x80000000 then b else a
    | _ => b
def minF32 (a b : F32) : F32 :=
  if (f32 a).isNan || (f32 b).isNan then 0x7FC00000
  else match (f32 a).cmp (f32 b) with
    | 1 => b
    | 0 => if a = 0x80000000 then a else b
    | _ => a

/-- Result of one lane: value, clipped, NaN output. -/
structure LaneOut where
  v : BitVec 32
  clipped : Bool := false
  nan : Bool := false
  deriving DecidableEq, Repr

/-- A code in the low bits of a lane; the bits above it are the operand's alone and not stated (notes/assumptions/17). -/
def openAbove (f : Nat) (x : F32) (code : Nat) : BitVec 32 :=
  let w := formatBits f
  BitVec.ofNat 32 ((Config.operandValue 32 1 [f, x.toNat]).toNat / 2 ^ w * 2 ^ w + code)

/-- VCVT (R32): integers sign-extended; T5B, which the device never writes (R44), gives no stated code. -/
def cvtLane (f : Nat) (x : F32) : LaneOut :=
  if f = 0x0D then ⟨x, false, false⟩
  else if f = 0x00 ∨ f = 0x01 ∨ f = 0x0E then
    let w := if f = 0x0E then 32 else formatBits f
    let r := narrowInt (-(2 ^ (w - 1) : Int)) (2 ^ (w - 1) - 1) 0 (f32 x)
    ⟨BitVec.ofInt 32 r.1, r.2.1, r.2.2⟩
  else if f = 0x0A then ⟨Config.operandValue 32 2 [x.toNat], false, false⟩
  else
    let r := narrowElem f (f32 x)
    ⟨openAbove f x r.code, r.clipped, r.nan⟩

/-- VCVT to an MX code (R35): blocks of 32 or 64 lanes, in OCP mode, each with its shared exponent; a lane that does not act
counts as +0. The scale bytes go nowhere: R109 gives them no place (notes/assumptions/17). -/
def cvtMx (f : Nat) (l : List (Bool × F32)) : List LaneOut :=
  (chunks (if Config.vcvtWide then 64 else 32) (l.length + 1) l).flatMap (fun b =>
    let vs := b.map (fun p => if p.1 then f32 p.2 else .fin false 0 1)
    let x := (mxQuant f false vs).1
    b.mapIdx (fun i p =>
      let v := vs.getD i .nan
      if x = 0xFF then ⟨openAbove f p.2 0, false, v.isNan⟩
      else
        let r := narrowElem f (v.mul (dyadic false 1 (127 - (x : Int))))
        ⟨openAbove f p.2 r.code, r.clipped, r.nan⟩))

/-- One lane of a lane-wise instruction (R109). -/
def laneOp (tab : BitVec 16) (w : Word) (a b c : BitVec 32) : LaneOut :=
  let op := vOp w
  match vLane w with
  | 1 => ⟨BitVec.ofInt 32 (if op = 0x02 then 0 else intLane op 32 a.toInt b.toInt c.toInt), false, false⟩
  | 2 =>
    let sub := fun (i : Nat) => pattern 8 (if op = 0x02 then 0 else
      intLane op 8 (signed 8 (a.toNat / 256 ^ i)) (signed 8 (b.toNat / 256 ^ i)) (signed 8 (c.toNat / 256 ^ i)))
    ⟨BitVec.ofNat 32 (sub 0 + 256 * sub 1 + 65536 * sub 2 + 16777216 * sub 3), false, false⟩
  | _ =>
    match op with
    | 0x03 => ⟨a, false, false⟩
    | 0x04 => ⟨BitVec.ofNat 32 (at_ (bits (vImm w) 15 0) 16), false, false⟩
    | 0x10 => ⟨addF32 a b, false, false⟩
    | 0x11 => ⟨subF32 a b, false, false⟩
    | 0x12 => ⟨mulF32 a b, false, false⟩
    | 0x13 => ⟨fmaF32 a b c, false, false⟩
    | 0x14 => ⟨maxF32 a b, false, false⟩
    | 0x15 => ⟨minF32 a b, false, false⟩
    | 0x16 => ⟨divF32 a b, false, false⟩
    | 0x17 => ⟨BitVec.ofNat 32 (sqrtF32 (f32 a)), false, false⟩
    | 0x18 => ⟨a &&& 0x7FFFFFFF, false, false⟩
    | 0x20 => ⟨expF32 tab a, false, false⟩
    | 0x21 => ⟨Config.tableLog tab a, false, false⟩
    | 0x22 => ⟨Config.tableRsqrt tab a, false, false⟩
    | 0x23 => ⟨Config.tableSigm tab a, false, false⟩
    | 0x24 => ⟨Config.tableTanh tab a, false, false⟩
    | 0x38 => cvtLane (vImm w) a
    | 0x39 =>
      let r := quantInt (if bits (vImm w) 4 0 = 0 then 8 else 4) (f32 a) (f32 b) (signed 8 (bits (vImm w) 12 5))
      ⟨BitVec.ofInt 32 r.1, r.2.1, r.2.2⟩
    | 0x3A => ⟨toF32 ((f32 b).mul (FVal.ofInt (a.toInt - c.toInt))), false, false⟩
    | _ => ⟨0, false, false⟩

/-- A lane-wise instruction over all lanes of a register: whether each acts, and its operands (R108, R109). -/
def laneOps (tab : BitVec 16) (w : Word) (n : Nat) (act : Nat → Bool) (a b c : Nat → BitVec 32) : List LaneOut :=
  if vOp w = 0x38 ∧ isMx (vImm w) then cvtMx (vImm w) ((List.range n).map (fun i => (act i, a i)))
  else (List.range n).map (fun i => laneOp tab w (a i) (b i) (c i))

/-- Clipped and NaN lanes of an instruction that narrows: VCVT and VQNT (R121). -/
def laneCounts (w : Word) (act : Nat → Bool) (r : List LaneOut) : Nat × Nat :=
  if vOp w = 0x38 ∨ vOp w = 0x39 then
    let l := ((r.mapIdx (fun i o => (i, o))).filter (fun p => act p.1)).map (·.2)
    ((l.filter (·.clipped)).length, (l.filter (·.nan)).length)
  else (0, 0)

/-- A comparison of R109: 0 EQ, 1 NE, 2 LT, 3 LE, 4 GT, 5 GE, 6 unordered. -/
def condHolds (cond : Nat) (unordered : Bool) (o : Int) : Bool :=
  match cond with
  | 0 => !unordered && o == 0
  | 1 => unordered || o != 0
  | 2 => !unordered && decide (o < 0)
  | 3 => !unordered && decide (o ≤ 0)
  | 4 => !unordered && decide (0 < o)
  | 5 => !unordered && decide (0 ≤ o)
  | _ => unordered

/-- VCMP of one lane; one predicate bit for four INT8 sub-lanes is not stated (notes/assumptions/17). -/
def cmpLane (w : Word) (a b : BitVec 32) : Bool :=
  let cond := bits (vImm w) 5 3
  match vLane w with
  | 0 => condHolds cond ((f32 a).isNan || (f32 b).isNan) ((f32 a).cmp (f32 b))
  | 1 => condHolds cond false (if a.toInt < b.toInt then -1 else if a = b then 0 else 1)
  | _ => (Config.operandValue 1 3 [cond, a.toNat, b.toNat]).getLsbD 0

/-- A predicate made lane by lane. -/
def predOf (lanes : Nat) (f : Nat → Bool) : Nat := ((List.range lanes).map (fun i => if f i then 2 ^ i else 0)).sum

/-- Instructions whose result is computed lane by lane into vd. -/
def laneWise (op : Nat) : Bool :=
  decide (op = 0x02 ∨ op = 0x03 ∨ op = 0x04 ∨ (0x10 ≤ op ∧ op ≤ 0x18) ∨ (0x20 ≤ op ∧ op ≤ 0x24) ∨ (0x38 ≤ op ∧ op ≤ 0x3A))

/-- Largest magnitude of the lanes that are not NaN, with lane 0 of vd (VAMAX). That a NaN in lane 0 of vd gives NaN, and that lanes
which are all NaN leave lane 0, is the model's choice (notes/assumptions/34). -/
def amaxLanes (d0 : F32) (l : List F32) : F32 :=
  (l.filter (fun x => !(f32 x).isNan)).foldl (fun m x => maxF32 m (x &&& 0x7FFFFFFF)) d0

/-! ### Tile programs -/

/-- Register and predicate read of tile mode. -/
def vreg (c : CellState) (r : Nat) (lane : Nat) : BitVec 32 := (lookup [] c.vreg r).getD lane 0
def vpred (c : CellState) (p lane : Nat) : Bool := p = 0 || (lookup 0 c.pred p).getLsbD lane

/-- Whether a lane acts (PRED, PNEG). -/
def acts (c : CellState) (w : Word) (lane : Nat) : Bool := vpred c (vPred w) lane != vNeg w

/-- Write vd where the predicate lets it (R108). -/
def setVreg (c : CellState) (w : Word) (f : Nat → BitVec 32) : CellState :=
  let lanes := (List.range 128).map (fun i => if acts c w i then f i else vreg c (vD w) i)
  { c with vreg := put [] c.vreg (vD w) lanes }

/-- Replace the current tile program's place. -/
def setVctx (c : CellState) (x : VCtx) : CellState := { c with vctx := x :: c.vctx.drop 1 }

/-- One row of the drain buffer or of a slice: unwritten drain words are free (R104). -/
def drainLane (n : Nat) (c : CellState) (key lane : Nat) : BitVec 32 :=
  match (lookup [] c.drainBuf key)[lane]? with
  | some v => v
  | none => freeAt 32 n (268435456 + key * 128 + lane)

/-- A lane of slice k of VRUN source tile (R117): elements decoded, scales not applied, a NaN block reading as NaN (R36);
outside the tensor the value is not stated (notes/assumptions/18). -/
def sourceLane (c : CellState) (x : VCtx) (k lane : Nat) : BitVec 32 :=
  let d := x.src
  let row := x.rowTile * 64 + 2 * k + lane / 64
  let col := x.colTile * 64 + lane % 64
  let rows := if d.height = 0 then d.extent else d.extent * d.height
  if rows ≤ row ∨ d.k ≤ col then Config.operandValue 32 4 [d.base, d.stride, d.k, d.extent, d.format, row, col] else
  let a := d.base + row * d.stride
  if d.format = 0x0A then BitVec.ofInt 32 ((t5bDecode (storeByte c (a + col / 5)).toNat).1.getD (col % 5) 0)
  else
    let code := elemAt (storeByte c) d.format a col
    if d.format = 0x0D ∨ d.format = 0x0E then BitVec.ofNat 32 code
    else if isInt d.format then BitVec.ofInt 32 (signed (formatBits d.format) code)
    else if isMx d.format ∧ storeByte c (mxScaleAddr d row col) = 0xFF then toF32 .nan
    else toF32 (elemVal d.format code)

/-- Invalid T5B bytes that VLDS reads for slice k (spec/02 R43). -/
def sliceBad (c : CellState) (x : VCtx) (k : Nat) : Nat :=
  let d := x.src
  if d.format ≠ 0x0A then 0 else
  let rows := if d.height = 0 then d.extent else d.extent * d.height
  let c0 := x.colTile * 64
  ([0, 1].map (fun h =>
    let row := x.rowTile * 64 + 2 * k + h
    if rows ≤ row ∨ d.k ≤ c0 then 0
    else
      let e := min (c0 + 64) d.k
      t5bBad (storeByte c) (d.base + row * d.stride + c0 / 5) (5 * (ceilDiv e 5 - c0 / 5)))).sum

/-- The place of a tile in the source operand of VRUN: tile n is counted in DA's own column tiles (R117). -/
def srcTile (x : VCtx) : VCtx :=
  let t := max 1 (ceilDiv x.src.k 64)
  { x with colTile := x.tile % t, rowTile := x.tile / t }

/-- Lines of the elements of one row of a column tile, and of its MX scale bytes (R89). -/
def rowTileLines (d : Desc) (row colTile : Nat) : List Nat :=
  let n := min 64 (d.k - colTile * 64)
  linesOf ((d.base + row * d.stride + packedBytes d.format (colTile * 64)) % 0x400000) (packedBytes d.format n) ++
  (if isMx d.format ∧ n ≠ 0 then linesOf (mxScaleAddr d row (colTile * 64) % 0x400000) (ceilDiv n (groupSize d)) else [])

/-- Lines a slice touches in a tensor. -/
def sliceLines (d : Desc) (x : VCtx) (k : Nat) : List Nat :=
  [0, 1].flatMap (fun h => rowTileLines d (x.rowTile * 64 + 2 * k + h) x.colTile)

/-- Lines of the scales and zero points that VSTS writes for a tile (R122). -/
def scaleLines (d : Desc) (x : VCtx) (rowsTotal : Nat) : List Nat :=
  let per := ceilDiv d.k 64
  (List.range (min 64 (rowsTotal - x.rowTile * 64))).flatMap (fun r =>
    let e := (x.rowTile * 64 + r) * per + x.colTile
    linesOf ((d.scAddr + 2 * e) % 0x400000) 2 ++ linesOf ((d.zpAddr + e) % 0x400000) 1)

/-- Lanes of half h of slice k that a store writes: those that act, inside the tensor. -/
def storeLanes (c : CellState) (x : VCtx) (w : Word) (h : Nat) : List (Option (BitVec 32)) :=
  let row := x.rowTile * 64 + 2 * vImm w + h
  (List.range 64).map (fun i =>
    if acts c w (64 * h + i) && decide (row < x.rowsTotal ∧ x.colTile * 64 + i < x.colsTotal) then some (vreg c (vA w) (64 * h + i)) else none)

/-- The tile whose program this is stands in TILE_STATUS: it is the one handed off last (spec/03 R81). -/
def VCtx.latest (x : VCtx) (c : CellState) : Bool := x.kind == 0 && c.tileNow == some (x.order, x.tile)

/-- One half of VSTD's slice: row 2k + h of the tile. -/
def storeHalfSlice (x : VCtx) (w : Word) (lanes : List (Option (BitVec 32))) (c : CellState) (h : Nat) : CellState :=
  let r := 2 * vImm w + h
  let y := match c.vctx with | y :: _ => y | [] => x
  let s := narrowSeg .code x.dst (fun _ => (.nan, 0)) lanes
  let c := if x.post.isSome then
      setVctx c { y with gathered := putPosted y.gathered x.dst r s, cover := coverSeg y.cover x.dst r s } else c
  if writesLocal x.post then storeRow c (x.latest c) .code x.dst (x.rowTile * 64 + r) (x.colTile * 64) lanes
  else countSeg c (x.latest c) x.dst.layer s

/-- VSTD: slice k of va to the destination tile, the peer's tile, or both (R121, R136). -/
def storeSlice (c : CellState) (x : VCtx) (w : Word) : CellState :=
  [0, 1].foldl (fun c' h => storeHalfSlice x w (storeLanes c x w h) c' h) c

/-- VSTS: FP16 scales and zero points of the tile's rows for the group of its column tile; a row's entries are written where
the predicate holds for its lane (R122, R108; which lanes stand for a row is the model's choice, notes/assumptions/99). -/
def storeScales (c : CellState) (x : VCtx) (w : Word) : CellState :=
  let s := (narrowF fp16 (f32 (vreg c (vA w) 0))).code
  let rows := (List.range (min 64 (x.rowsTotal - x.rowTile * 64))).filter (fun r => acts c w r)
  let per := ceilDiv x.dst.k 64
  let c := if writesLocal x.post then
      { c with store := rows.foldl (fun m r =>
          let e := (x.rowTile * 64 + r) * per + x.colTile
          storeBytes (storeBytes m (x.dst.scAddr + 2 * e) (leBytes 2 s)) (x.dst.zpAddr + e) [0]) c.store }
    else c
  if x.post.isSome then
    let r0 := 64 * postRow x.dst.format
    let all := (List.range 64).filter (fun r => acts c w r)
    setVctx c { x with cover := all.foldl (fun t r => fillRange false (put false t (r0 + 128 + r) true) (r0 + 2 * r) 2 true) x.cover,
                       gathered := all.foldl (fun m r => writeByte (writeLE m (r0 + 2 * r) 2 s) (r0 + 128 + r) 0) x.gathered }
  else c

/-- Places of the TPOST path in use: posted regions and tiles, and tiles whose first VSTD is past (R94, R136). -/
def places (c : CellState) : Nat := c.posts.length + (c.vctx.filter (·.place)).length

/-- How an instruction ended. -/
inductive VEnd where
  | ok (c : CellState)
  /-- Invalid where it executes (R110): the cell as the instructions before it have left it. -/
  | invalid (c : CellState)
  /-- The first VSTD of a posted tile finds no TPOST place (R136). -/
  | noPlace
  deriving DecidableEq, Repr

/-- Place number of a tile program for R109's last column. -/
def placeOf (x : VCtx) : Nat := if x.kind = 0 then 1 else if x.kind = 1 then 2 else 4

/-- A tile program's VEND: the program is over, and a posted tile leaves with what its VSTD wrote (R108, R136). -/
def endTile (c : CellState) (x : VCtx) (rest : List VCtx) : VEnd :=
  let c := { c with vctx := rest }
  match x.kind, x.post with
  | 0, some b =>
    if !x.place && decide (4 ≤ places c) then .noPlace else
    .ok { c with posts := c.posts ++ [⟨b.peer, b.sig, b.inc, b.dst + x.tile * b.lines * 512, x.gathered, x.cover⟩],
                 postsSent := c.postsSent + 1 }
  | _, _ => .ok c

/-- One tile-mode instruction at its stitch, the cell's current program being the head of vctx. The predicate holds lanes and stores
(R108); that VHPUT and VRSRST, which have neither, act whatever it says is the model's choice (notes/assumptions/130). -/
def vTile (v : VEnv) (c : CellState) (w : Word) : VEnd :=
  match c.vctx with
  | [] => .ok c
  | x :: rest =>
    let op := vOp w
    let imm := vImm w
    if !vOk (placeOf x) w then .invalid c else
    let c := { c with vctx := { x with pos := x.pos + 1 } :: rest }
    let rd := fun (l : List Nat) => touch c x.order x.idx false 0 false l
    if laneWise op then
      let r := laneOps v.tab w 128 (acts c w) (vreg c (vA w)) (vreg c (vB w)) (vreg c (vC w))
      let k := laneCounts w (acts c w) r
      .ok (countNarrow (setVreg c w (fun i => (r.getD i ⟨0, false, false⟩).v)) (x.latest c) x.dst.layer 0 k.1 k.2)
    else
    match op with
    | 0x01 => endTile c x rest
    | 0x30 =>
      let p := bits imm 2 0
      if p = 0 then .ok c else
      .ok { c with pred := put 0 c.pred p (BitVec.ofNat 128 (predOf 128 (fun i =>
        if acts c w i then cmpLane w (vreg c (vA w) i) (vreg c (vB w) i) else vpred c p i))) }
    | 0x31 => .ok (setVreg c w (fun i => if vpred c (bits imm 2 0) i then vreg c (vA w) i else vreg c (vB w) i))
    | 0x40 =>
      let m := amaxLanes (vreg c (vD w) 0) ((List.range 128).map (vreg c (vA w)))
      .ok (setVreg c w (fun _ => m))
    | 0x41 =>
      let s := vscale (f32 (vreg c (vA w) 0)) (if bits imm 4 0 = 0 then 127 else 7)
      .ok (setVreg c w (fun _ => toF32 (decodeF fp16 s)))
    | 0x50 =>
      if 32 ≤ x.vldd ∨ x.pos < 2 * x.vldd + 2 then .invalid c else
      let k := (x.tile % 2) * 32 + x.vldd
      .ok (setVctx (setVreg c w (drainLane v.n c k)) { x with pos := x.pos + 1, vldd := x.vldd + 1 })
    | 0x51 =>
      let c' := rd (sliceLines x.src (srcTile x) imm)
      let c' := { c' with counts := { c'.counts with t5b := satAdd 32 c'.counts.t5b (sliceBad c (srcTile x) imm) } }
      .ok (setVreg c' w (sourceLane c (srcTile x) imm))
    | 0x52 =>
      if x.post.isSome && !x.place && decide (4 ≤ places c) then .noPlace else
      let c := if writesLocal x.post then touch c x.order x.idx false 0 true (sliceLines x.dst x imm) else c
      let y := { x with pos := x.pos + 1, place := x.post.isSome }
      .ok (storeSlice (setVctx c y) y w)
    | 0x53 => .ok (setVreg (rd [imm]) w (fun i => BitVec.ofNat 32 (rdLE (storeByte c) (imm * 512 + 4 * i) 4)))
    | 0x54 =>
      let c := touch c x.order x.idx false 0 true [imm]
      .ok { c with store := (List.range 128).foldl (fun m i =>
        if acts c w i then storeBytes m (imm * 512 + 4 * i) (leBytes 4 (vreg c (vA w) i).toNat) else m) c.store }
    | 0x55 =>
      let a := imm * 512 + 256 * x.colTile
      .ok (setVreg (rd (linesOf a 256)) w (fun i => BitVec.ofNat 32 (rdLE (storeByte c) (a + 4 * (i % 64)) 4)))
    | 0x56 =>
      let c := if writesLocal x.post then touch c x.order x.idx false 0 true (scaleLines x.dst x x.rowsTotal) else c
      .ok (storeScales c { x with pos := x.pos + 1 } w)
    | 0x60 =>
      let e := lookup (0, true) c.hist imm
      let c := if e.2 then { c with counts := { c.counts with cold := true } } else c
      .ok (setVreg c w (fun _ => if e.2 then lookup 0 c.seed imm else e.1))
    | 0x61 => .ok { c with hist := put (0, true) c.hist imm (vreg c (vA w) 0, false) }
    | 0x68 => .ok { c with rmax := [], rsum := [], rscl := [] }
    | 0x69 =>
      .ok (setVreg c w (fun i =>
        let l := lookup 0 c.rsum (2 * imm + i / 64)
        if l = 0 then 0 else mulF32 (vreg c (vA w) i) (divF32 0x3F800000 l)))
    | _ => .ok c

/-! ### Threads -/

/-- What a thread instruction does beside the cell: the map store of its quarter, a counter update, a program error. -/
structure ThreadOut where
  c : CellState
  map : Mem
  upd : Option (Nat × Nat) := none
  bad : Option JobFault := none
  deriving DecidableEq, Repr

def treg (t : Thread) (r lane : Nat) : BitVec 32 := (lookup [] t.regs r).getD lane 0
def tpred (t : Thread) (p lane : Nat) : Bool := p = 0 || (lookup 0 t.preds p).getLsbD lane
def tacts (t : Thread) (w : Word) (lane : Nat) : Bool := tpred t (vPred w) lane != vNeg w

def setTreg (t : Thread) (w : Word) (f : Nat → BitVec 32) : Thread :=
  { t with regs := put [] t.regs (vD w) ((List.range 32).map (fun i => if tacts t w i then f i else treg t (vD w) i)) }

def setThread (c : CellState) (k : Nat) (t : Thread) : CellState := { c with threads := put {} c.threads k t }

/-- Space code and address of a thread access: bits [31:30] and [24:0]; bits [29:25] carry nothing (R119). -/
def threadSpace (a : BitVec 32) : Nat := a.toNat / 1073741824
def threadOff (a : BitVec 32) : Nat := a.toNat % 33554432

/-- A thread address is good: space 0 or 1, inside the space (R119). R119 asks for a multiple of 4 and does not say what
another address does; that it ends the thread too is the model's choice (notes/assumptions/100). -/
def threadAddrOk (a : BitVec 32) : Bool :=
  decide (threadSpace a ≤ 1) && decide (threadOff a % 4 = 0) && decide (threadOff a < (if threadSpace a = 0 then 0x400000 else 0x2000000))

/-- Word read and write at a thread address; `q` is the cell's quarter. -/
def threadRead (c : CellState) (map : Mem) (q : Nat) (a : BitVec 32) : BitVec 32 :=
  BitVec.ofNat 32 (if threadSpace a = 0 then readLE c.store (threadOff a) 4 else readLE map (q * 33554432 + threadOff a) 4)
def threadWrite (c : CellState) (map : Mem) (q : Nat) (a v : BitVec 32) : CellState × Mem :=
  if threadSpace a = 0 then ({ c with store := writeLE c.store (threadOff a) 4 v.toNat }, map)
  else (c, writeLE map (q * 33554432 + threadOff a) 4 v.toNat)

/-- Elements that an instruction of a thread narrows for storing: those of VQNT, and of VCVT to a narrow format. A thread stores words
and has no VSTD, so its quantising operation counts where it narrows: the model's choice (spec/02 R50, notes/assumptions/33). -/
def threadWritten (w : Word) (act : Nat → Bool) : Nat :=
  if vOp w = 0x39 ∨ (vOp w = 0x38 ∧ vImm w ≠ 0x0D ∧ vImm w ≠ 0x0E) then ((List.range 32).filter act).length else 0

/-- One instruction of thread k (R118, R119). -/
def vThread (tab : BitVec 16) (q : Nat) (map : Mem) (c : CellState) (k : Nat) (w : Word) : ThreadOut :=
  let t := lookup {} c.threads k
  let op := vOp w
  let imm := vImm w
  let stop := fun (f : JobFault) => ({ c := setThread c k { t with status := 0 }, map := map, bad := some f } : ThreadOut)
  if !vOk 8 w then stop .illegalOp else
  let t := { t with pc := t.pc + 1 }
  let done := fun (t : Thread) => ({ c := setThread c k t, map := map } : ThreadOut)
  let act := (List.range 32).filter (fun i => tacts t w i)
  let addrs := act.map (fun i => treg t (vA w) i)
  if laneWise op then
    let r := laneOps tab w 32 (tacts t w) (treg t (vA w)) (treg t (vB w)) (treg t (vC w))
    let n := laneCounts w (tacts t w) r
    let o := done (setTreg t w (fun i => (r.getD i ⟨0, false, false⟩).v))
    { o with c := countNarrow o.c false (c.lastLayer.getD 0) (threadWritten w (tacts t w)) n.1 n.2 }
  else
  match op with
  | 0x01 => { c := setThread c k { t with status := 0 }, map := map, upd := if t.inc = 0 then none else some (t.sig, t.inc) }
  | 0x30 =>
    let p := bits imm 2 0
    if p = 0 then done t else
    done { t with preds := put 0 t.preds p (BitVec.ofNat 32 (predOf 32 (fun i =>
      if tacts t w i then cmpLane w (treg t (vA w) i) (treg t (vB w) i) else tpred t p i))) }
  | 0x31 => done (setTreg t w (fun i => if tpred t (bits imm 2 0) i then treg t (vA w) i else treg t (vB w) i))
  | 0x58 =>
    if !addrs.all threadAddrOk then stop .threadAddr else
    done { t with status := 2, loadVd := vD w, loadMask := BitVec.ofNat 128 (predOf 32 (fun i => tacts t w i)),
                  loadLanes := (List.range 32).map (fun i => if tacts t w i then threadRead c map q (treg t (vA w) i) else 0) }
  | 0x59 =>
    if !addrs.all threadAddrOk then stop .threadAddr else
    let r := act.foldl (fun (p : CellState × Mem) i => threadWrite p.1 p.2 q (treg t (vA w) i) (treg t (vB w) i)) (c, map)
    { c := setThread r.1 k t, map := r.2 }
  | 0x5A =>
    if !addrs.all threadAddrOk then stop .threadAddr else
    let r := act.foldl (fun (p : CellState × Mem) i =>
      let a := treg t (vA w) i
      threadWrite p.1 p.2 q a (addF32 (threadRead p.1 p.2 q a) (treg t (vB w) i))) (c, map)
    { c := setThread r.1 k t, map := r.2 }
  | _ => done t

/-- A waiting thread's load returns (R119). -/
def threadReturn (c : CellState) (k : Nat) : CellState :=
  let t := lookup {} c.threads k
  if t.status = 2 then
    let lanes := (List.range 32).map (fun i => if t.loadMask.getLsbD i then t.loadLanes.getD i 0 else treg t t.loadVd i)
    setThread c k { t with status := 1, loadLanes := [], loadMask := 0, loadVd := 0, regs := put [] t.regs t.loadVd lanes }
  else c

/-- The instruction word at index i of the active tile-program bank (R107). -/
def tword (c : CellState) (i : Nat) : Word := BitVec.ofNat 64 (readLE c.tmem (c.actT * 8192 + 8 * i) 8)

/-- Length of the program at `entry` up to its first VEND; one more than the bank holds where it has none (R108, R110). -/
def progLen (c : CellState) (entry : Nat) : Nat :=
  match (List.range (1024 - entry)).find? (fun i => vOp (tword c (entry + i)) == 1) with
  | some i => i + 1
  | none => 1025 - entry

/-- Position j of a program executes; an index beyond 1,023 is invalid (R110). -/
def vAt (v : VEnv) (c : CellState) (entry j : Nat) : VEnd :=
  if 1023 < entry + j then .invalid c else vTile v c (tword c (entry + j))

end Sys2Proof.Machine
end

