-- ==== Sys2Proof/Machine/Matrix.lean ====
section
/-! DEFINITION. The matrix macro-operations: tiles of MMA, MMAT, CONV, DWC and GAP (spec/03 R64 to R66, spec/04 R92,
spec/06 R145, R147, R154), chain stages (spec/05 R127 to R133), and what the drain and the vector engine do in each
stitch of an operation (spec/05 R111 to R115, R136). -/

namespace Sys2Proof.Machine

/-- A cell with the map stores, its quarter and what the vector engine takes from outside. -/
structure Env where
  c : CellState
  map : Mem
  q : Nat
  v : VEnv
  deriving DecidableEq, Repr

/-- Byte of the quarter's own map store; chain addresses are taken modulo its size. -/
def mapByte (e : Env) (a : Nat) : Byte := readByte e.map (e.q * 33554432 + a % 33554432)

/-! ### Tiles -/

/-- Integer differences as exact elements of a block path (R38, R40). -/
def Strip.exact (s : Strip) : Strip := if s.vals.isEmpty then { s with vals := s.ints.map FVal.ofInt } else s

/-- A strip as numbers, for a sum that no rule states. -/
def Strip.nats (s : Strip) : List Nat := s.vals.map (fun v => (toF32 v).toNat) ++ s.ints.map (pattern 32) ++ s.scales ++ [s.tscale.toNat]

/-- Dot product of two strips on a path from a start value (R37, R46). -/
def dotPath (p : Path) (a b : Strip) (start : BitVec 32) : Acc :=
  match p with
  | .mx blk => mxDot blk a.exact b.exact ⟨start, false, false, false⟩
  | .bf16 => bf16Dot a b ⟨start, false, false, false⟩
  | .int => intDot a b ⟨start, false, false, false⟩
  | .group g => groupDot g a b ⟨start, false, false, false⟩
  | .unstated => ⟨Config.operandValue 32 0 (start.toNat :: a.nats ++ b.nats), false, false, false⟩

/-- The exact value of a destination's element: codes of an INT32 path are the sums themselves, others stand for
s x (q - z), an MX element for its block's multiple (R33, R36, R39). -/
def destValue (c : CellState) (int : Bool) (d : Desc) (row col : Nat) : FVal :=
  let code := elemAt (storeByte c) d.format (d.base + row * d.stride) col
  if isInt d.format then
    let q := signed (formatBits d.format) code
    if int then FVal.ofInt q else
    let sz := destScale (storeByte c) d row col
    sz.1.mul (FVal.ofInt (q - sz.2))
  else if isMx d.format then mxVal d.format (storeByte c (mxScaleAddr d row col)).toNat code
  else elemVal d.format code

/-- The destination's current value as a start value, and whether it saturates: an MXFP8 gradient beyond FP32 takes the bound
(R66, spec/02 R53). -/
def startValue (c : CellState) (int : Bool) (d : Desc) (row col : Nat) : BitVec 32 × Bool :=
  if d.format = 0x0D ∨ d.format = 0x0E then
    (BitVec.ofNat 32 (elemAt (storeByte c) d.format (d.base + row * d.stride) col), false)
  else
    match destValue c int d row col with
    | .fin s n e =>
      if int then (BitVec.ofInt 32 (narrowInt (-2147483648) 2147483647 0 (.fin s n e)).1, false)
      else let r := narrowF fp32 (.fin s n e); (BitVec.ofNat 32 r.code, r.clipped)
    | v => (toF32 v, false)

/-- What a matrix macro-operation needs for its tiles. -/
structure MatIn where
  kind : MatKind
  a : Desc
  b : Desc
  d : Desc
  g : Geo
  acc : Bool
  chain : Nat
  first : Bool
  rows : Nat
  cols : Nat
  k : Nat
  kst : Nat
  path : Path
  deriving DecidableEq, Repr

/-- The accumulators are INT32 (R46). -/
def MatIn.int (x : MatIn) : Bool := x.path == .int

/-- Score S_j of row i as a second stage reads it (R129, R133). -/
def scoreAt (e : Env) (x : MatIn) (i j : Nat) : F32 :=
  if x.chain = 1 then BitVec.ofNat 32 (rdLE (mapByte e) (x.a.base * 8 + i * (x.a.stride * 8) + 4 * j) 4)
  else BitVec.ofNat 32 (rdLE (storeByte e.c) (x.a.base + i * x.a.stride + 4 * j) 4)

/-- Exponentials e_j of row i against its RMAX (R129, R133). -/
def expsOf (e : Env) (x : MatIn) (i : Nat) : List F32 :=
  let m := lookup 0xFF800000 e.c.rmax i
  (List.range x.a.k).map (fun j =>
    if x.chain = 1 ∧ m = 0xFF800000 then 0 else expF32 e.v.tab (subF32 (scoreAt e x i j) m))

/-- Row sums that the second stage leaves (R129, R133). -/
def rowSums (e : Env) (x : MatIn) : List F32 :=
  (List.range x.rows).map (fun i =>
    let es := expsOf e x i
    if x.chain = 1 then es.foldl addF32 (lookup 0 e.c.rsum i)
    else fmaF32 (lookup 0x3F800000 e.c.rscl i) (lookup 0 e.c.rsum i) (es.foldl addF32 0))

/-- Is this a second chain stage? -/
def MatIn.second (x : MatIn) : Bool := x.chain != 0 && !x.first

/-- Row i of P, narrowed into the eyelets: the exponentials of the row of S (R129, R133). -/
def pRow (e : Env) (x : MatIn) (i : Nat) : List FVal := (expsOf e x i).map (fun v => elemVal x.a.format (narrowElem x.a.format (f32 v)).code)

/-- The A strip of row r; the pixels of a map that is a second stage's S are rows of P. -/
def aStrip (e : Env) (x : MatIn) (r : Nat) : Strip :=
  match x.kind with
  | .conv =>
    if x.second then windowStrip (fun px => ⟨pRow e x px, [], [], x.a.tscale⟩) (padStrip x.a x.a.k) x.a x.g r
    else convStrip (storeByte e.c) x.a x.g r
  | _ =>
    if x.second then (if r < x.rows then ⟨pRow e x r, [], [], x.a.tscale⟩ else padStrip x.a x.a.k)
    else matStrip (storeByte e.c) x.a r

/-- The A operand of row r and channel ch of a depthwise product (R147). -/
def aChannel (e : Env) (x : MatIn) (r ch : Nat) : Strip :=
  dwcStrip (fun px => if x.second then ⟨[(pRow e x px).getD ch (.fin false 0 1)], [], [], x.a.tscale⟩ else channelStrip (storeByte e.c) x.a ch px)
    x.a x.g r ch

/-- The B strip of column n. -/
def colStrip (c : CellState) (x : MatIn) (n : Nat) : Strip :=
  match x.kind with
  | .mmat => mmatStrip c x.b n
  | _ => bStrip c x.b n

/-- One tile's outputs: rows of 64 lanes as the drain passes them, and its status (R65, R128, R129). -/
def tileOut (e : Env) (x : MatIn) (rsums : List F32) (n : Nat) : TileOut :=
  let ct := ceilDiv x.cols 64
  let r0 := n / ct * 64
  let c0 := n % ct * 64
  let bs := (List.range 64).map (fun j => colStrip e.c x (c0 + j))
  let accs := (List.range 64).map (fun i =>
    let r := r0 + i
    let sa := if x.kind = .dwc then ⟨[], [], [], 0⟩ else aStrip e x r
    (List.range 64).map (fun j =>
      let col := c0 + j
      let inside := decide (r < x.rows ∧ col < x.cols)
      let v := if x.acc && inside then startValue e.c x.int x.d r col else (0, false)
      let start := if x.acc && inside && x.second && x.chain == 2 then mulF32 (lookup 0x3F800000 e.c.rscl r) v.1 else v.1
      let sa := if x.kind = .dwc then aChannel e x r col else sa
      let a := dotPath x.path sa (bs.getD j ⟨[], [], [], 0⟩) start
      ({ a with sat := a.sat || v.2 }, inside)))
  let out := fun (i : Nat) (a : Acc) =>
    if x.chain != 0 && x.first then
      toF32 ((f32 x.d.tscale).mul (if x.path = .int then FVal.ofInt a.val.toInt else f32 a.val))
    else if x.second && x.chain == 1 then
      let l := rsums.getD (r0 + i) 0
      if l = 0 then 0 else divF32 a.val l
    else a.val
  let flat := accs.flatten.filter (·.2)
  { rows := accs.mapIdx (fun i l => l.map (fun p => out i p.1))
    sat := flat.any (fun p => p.1.sat), nanIn := flat.any (fun p => p.1.nanIn)
    t5bInv := if x.b.format = 0x0A then
      ((List.range 64).map (fun j => if c0 + j < x.b.extent then
        t5bBad (readByte e.c.bbuf) (j * 2048 + (n % ct) * stripBytes x.b x.b.k) x.b.k else 0)).sum else 0 }

/-- Destinations for which R154 states a result: FP32, BF16, FP16, and INT8 with one scale. -/
def gapStated (d : Desc) : Bool := d.format == 0x0D || d.format == 0x0B || d.format == 0x0C || (d.format == 0 && d.smode != 4)

/-- The term of pixel p in channel ch, with its scale: q - z for integers, decoded elements for FP8. Groups along the channels
take their own scale and zero point, which R154 does not state (notes/assumptions/101). -/
def gapTerm (rd : Nat → Byte) (a : Desc) (p ch : Nat) : FVal :=
  let q := elemAt rd a.format (a.base + p * a.stride) ch
  if isInt a.format then
    let i := signed (formatBits a.format) q
    if a.smode = 4 then
      let e := p * entries a + ch / groupSize a
      (decodeF fp16 (rdLE rd (a.scAddr + 2 * e) 2)).mul (FVal.ofInt (i - (rd (a.zpAddr + e)).toInt))
    else FVal.ofInt (i - (if a.smode = 1 then a.tzp.toInt else 0))
  else elemVal a.format q

/-- One GAP result: code, clipped, NaN (R154). -/
def gapOut (c : CellState) (a d : Desc) (ch : Nat) : Narrowed :=
  let hw := a.height * a.extent
  let s : FVal := if (isFp8 a.format && a.smode == 0) || a.smode == 4 then .fin false 1 1 else f32 a.tscale
  let m := gapMean ((List.range hw).map (fun p => gapTerm (storeByte c) a p ch)) s hw
  if !gapStated d then ⟨(Config.operandValue 32 5 [d.format, d.smode, (toF32 m).toNat]).toNat % 2 ^ formatBits d.format, false, false⟩
  else if d.format = 0 then
    let r := narrowInt (-128) 127 d.tzp.toInt (m.div (f32 d.tscale))
    ⟨pattern 8 r.1, r.2.1, r.2.2⟩
  else narrowElem d.format m

/-! ### Issue -/

/-- Lines of rows of an operand. -/
def rowLines (d : Desc) (from_ n bytes : Nat) : List Nat :=
  (List.range n).flatMap (fun i => linesOf ((d.base + (from_ + i) * d.stride) % 0x400000) bytes)

/-- Hand-off stitch of tile n (R112). -/
def handOff (s b n : Nat) : Nat := s + (n + 1) * b - 1

/-- Pixels of a map whose bytes are fetched for their own sake: those that some tap reads (R144), all of them for GAP. -/
def mapPixels (x : MatIn) : List Nat := x.g.pixelsRead x.a.height x.a.extent

/-- Lines of rows, or pixels, of an operand. -/
def pixelLines (d : Desc) (l : List Nat) : List Nat := l.flatMap (fun p => linesOf ((d.base + p * d.stride) % 0x400000) (packedBytes d.format d.k))

/-- Rows of A and lines that tiles of row tile rt read. -/
def sourceLines (x : MatIn) (rt : Nat) : List Nat :=
  match x.kind with
  | .mma | .mmat => rowLines x.a (rt * 64) (min 64 (x.rows - rt * 64)) (packedBytes x.a.format x.a.k)
  | _ => if rt = 0 then pixelLines x.a (mapPixels x) else []

/-- Lines of the scale and zero-point arrays of some rows, or pixels, of an operand (R61, R89, spec/06 R141). -/
def auxLines (d : Desc) (rows : List Nat) : List Nat :=
  let of := fun (a per size : Nat) => rows.flatMap (fun r => linesOf ((a + r * per * size) % 0x400000) (per * size))
  (if isMx d.format then of d.scAddr (entries d) 1 else if d.format = 0x0A ∨ d.smode = 4 then of d.scAddr (entries d) 2
    else if d.smode = 2 then of d.scAddr 1 4 else []) ++
  (if d.format = 0x0A then [] else if d.smode = 4 then of d.zpAddr (entries d) 1 else if d.smode = 2 then of d.zpAddr 1 1 else [])

/-- Rows of an operand as `auxLines` takes them. -/
def auxRows (x : MatIn) : List Nat := match x.kind with | .conv | .dwc => mapPixels x | _ => List.range x.a.extent

/-- Lines that tile-mode instruction w loads or stores, and whether it stores (R87, R109). -/
def memLines (x : VCtx) (w : Word) : Option (Bool × List Nat) :=
  match vOp w with
  | 0x51 => some (false, sliceLines x.src (srcTile x) (vImm w))
  | 0x52 => if writesLocal x.post then some (true, sliceLines x.dst x (vImm w)) else none
  | 0x53 => some (false, [vImm w])
  | 0x54 => some (true, [vImm w])
  | 0x55 => some (false, linesOf (vImm w * 512 + 256 * x.colTile) 256)
  | 0x56 => if writesLocal x.post then some (true, scaleLines x.dst x x.rowsTotal) else none
  | _ => none

/-- Marks of a tile program: each line until the stitch of the instruction that takes it (R79, R87). -/
def markProg (c : CellState) (x : VCtx) (entry len : Nat) (at_ : Nat → Nat) : CellState :=
  (List.range len).foldl (fun c j =>
    match memLines x (tword c (entry + j)) with
    | some (w, l) => mark c x.order x.idx false 0 (!w) w (at_ j) l
    | none => c) c

/-- Marks of the epilogues and prologues of a matrix macro-operation, at the stitches of R112; a step beyond its window takes
the first stitch of the next (R115). -/
def markPrograms (c : CellState) (order idx s b nt : Nat) (x : MatIn) (post : Option Bind) (entry le proEntry lp : Nat) : CellState :=
  let ct := max 1 (ceilDiv x.cols 64)
  let ctx := fun (k n : Nat) => (⟨order, idx, k, n, n % ct, n / ct, x.a, x.d, if k = 0 then post else none, x.rows, x.cols, 0, 0, [], [], false⟩ : VCtx)
  (List.range (nt + 1)).foldl (fun c n =>
    let stitch := fun (o : Nat) => s + n * b + (if n < nt then min o b else o)
    let c := if 1 ≤ n then markProg c (ctx 0 (n - 1)) entry le stitch else c
    if n < nt then markProg c (ctx 1 n) proEntry lp (fun j => stitch (le + j)) else c) c

/-- Marks and read accesses of a matrix macro-operation at its issue (R61, R79, notes/assumptions/19). -/
def sentMat (c : CellState) (order idx : Nat) (x : MatIn) (bstat epi : Bool) (post : Option Bind) (s b nt : Nat) : CellState :=
  if !c.sentOn.getLsbD 0 then c else
  let ct := ceilDiv x.cols 64
  let rt := ceilDiv x.rows 64
  let bl := if bstat then [] else rowLines x.b 0 x.b.extent (packedBytes x.b.format x.b.k) ++ auxLines x.b (List.range x.b.extent)
  let bregs := (List.range (min 64 x.b.extent)).flatMap (fun j =>
    (List.range (ceilDiv (ceilDiv x.b.extent 64 * stripBytes x.b x.b.k) 512)).map (fun i => 4 * j + min 3 i) ++
    (if sideScale x.b + sideZp x.b = 0 then [] else [256 + j]))
  let aLines := fun (i : Nat) => if x.chain = 1 ∧ !x.first then [] else sourceLines x i
  let outLines := fun (n i : Nat) => rowTileLines { x.d with k := x.cols } (n / ct * 64 + i) (n % ct)
  let inRows := fun (n : Nat) => List.range (min 64 (x.rows - n / ct * 64))
  let starts := fun (n : Nat) => if x.acc then (inRows n).flatMap (outLines n) else []
  let c := touch c order idx false 0 false ((List.range rt).flatMap aLines ++ auxLines x.a (auxRows x) ++ bl ++ (List.range nt).flatMap starts)
  let c := touch c order idx false 1 (!bstat) bregs
  let c := (List.range rt).foldl (fun c i =>
    mark c order idx false 0 true false (if x.kind = .mma ∨ x.kind = .mmat then handOff s b ((i + 1) * ct - 1) else handOff s b (nt - 1))
      (aLines i)) c
  let c := mark c order idx false 0 true false (handOff s b (nt - 1)) (auxLines x.a (auxRows x) ++ bl)
  let c := mark c order idx false 1 true (!bstat) (handOff s b (nt - 1)) bregs
  let c := (List.range nt).foldl (fun c n => mark c order idx false 0 true false (s + n * b) (starts n)) c
  if epi ∨ !writesLocal post ∨ (x.chain = 1 ∧ x.first) then c else
  (List.range nt).foldl (fun c n =>
    (inRows n).foldl (fun c i => mark c order idx false 0 false true (handOff s b n + 1 + i) (outLines n i)) c) c

/-- Whether the fields of a chain stage are those R127 asks for. -/
def chainOk (c : CellState) (x : MatIn) (epi : Bool) : Bool :=
  if x.chain = 0 then true
  else decide (x.rows ≤ 64) &&
    (if x.first then !epi && x.d.format == 0x0D && x.d.smode == 1
     else decide (c.chainOpen = x.chain) && (x.a.format == 0x0B || isFp8 x.a.format) && x.a.smode == 0 &&
      decide (x.path ≠ .unstated) && (x.chain == 1 || (x.d.format == 0x0D && !epi)))

/-- Inputs of MMA, MMAT, CONV and DWC from the word's descriptors (R89, R145, R147, R73). -/
def matIn (c : CellState) (kind : MatKind) (w : BitVec 128) : MatIn :=
  let a := readDesc c (fld w 111 95)
  let b := readDesc c (fld w 94 78)
  let d := readDesc c (fld w 77 61)
  let g := decodeGeo (fld w 40 5)
  let px := g.ho a.height * g.wo a.extent
  let chain := fld w 114 113
  let rows := match kind with | .conv | .dwc => px | _ => a.extent
  let cols := match kind with | .mmat => laneElems b | .dwc => a.k | _ => b.extent
  let k := match kind with | .mmat => 64 | .conv => a.k * g.kh * g.kw | .dwc => g.kh * g.kw | _ => a.k
  { kind := kind, a := a, b := b, d := d, g := g, acc := fld w 119 119 == 1, chain := chain, first := decide (c.chainOpen = 0),
    rows := rows, cols := cols, k := k, kst := if kind = .dwc then 4 * k else kstOf a b k, path := pathOf a b }

/-- Block or group size of the tag check: of T5B weights, of an MX operand, of integers grouped along K, 32 for all other formats
(spec/03 R69). -/
def tagBlock (x : MatIn) : Nat :=
  if x.b.format = 0x0A then groupSize x.b
  else if isMx x.a.format then groupSize x.a else if isMx x.b.format then groupSize x.b
  else if isInt x.a.format ∧ x.a.smode = 4 then groupSize x.a
  else if isInt x.b.format ∧ x.b.smode = 4 then groupSize x.b else 32

/-- Elements in an entry of an A or B eyelet (spec/03 R67). -/
def entryElems (x : MatIn) : Nat :=
  if x.b.format = 0x0A then 4
  else if x.kind ≠ .dwc ∧ formatBits x.a.format ≤ 6 ∧ formatBits x.b.format ≤ 6 then 2 else 1

/-- Stitches that an entry lasts: 4 for BF16 and for the weights of a tap in DWC (spec/03 R67, spec/06 R147). -/
def entryHold (x : MatIn) : Nat := if x.kind = .dwc ∨ x.a.format = 0x0B then 4 else 1

/-- Stitches between two block boundaries of the tag check: b elements at the pair's rate (spec/03 R64, R69). -/
def tagStitches (x : MatIn) : Nat :=
  let b := tagBlock x
  if x.kind = .dwc ∨ x.a.format = 0x0B then 4 * b
  else if x.b.format = 0x0A then b / 4
  else if formatBits x.a.format ≤ 6 ∧ formatBits x.b.format ≤ 6 then b / 2 else b

/-- What the feeder of eyelet y writes for tile n: an entry for each pop, with the tag of its first element; the scale eyelet takes the
scales of the tile's rows and columns, 0 for a side that carries none (spec/03 R67 to R69). -/
def tileFeed (e : Env) (x : MatIn) (y n : Nat) : List EyeEntry :=
  let ct := ceilDiv x.cols 64
  let r0 := n / ct * 64
  let c0 := n % ct * 64
  let b := tagBlock x
  if y = 128 then
    let sa := (List.range 64).map (fun i => (aStrip e x (r0 + i)).scales)
    let sb := (List.range 64).map (fun j => (colStrip e.c x (c0 + j)).scales)
    (List.range (ceilDiv x.kst (tagStitches x))).map (fun i => eyeEntry ((sa ++ sb).map (fun l => l.getD i 0)) (i % 16))
  else
    let s := if y < 64 then aStrip e x (r0 + y) else colStrip e.c x (c0 + (y - 64))
    let f := if y < 64 then x.a.format else x.b.format
    let k := entryElems x
    (List.range (ceilDiv x.kst (entryHold x))).map (fun i => eyeEntry (operandData f s (k * i) k) (k * i / b % 16))

/-- What the A feeder writes into row operand register i in tile n: 16 channels at a time, for each tap (spec/06 R147). -/
def tileRows (e : Env) (x : MatIn) (i n : Nat) : List (List (BitVec 9)) :=
  let ct := ceilDiv x.cols 64
  let ch := (List.range 64).map (fun j => aChannel e x (n / ct * 64 + i) (n % ct * 64 + j))
  (List.range x.k).flatMap (fun t => (List.range 4).map (fun q =>
    ((ch.drop (16 * q)).take 16).map (fun s => BitVec.ofNat 9 (elemBits x.a.format s t))))

/-- Everything the feeders write for an operation of nt tiles. -/
def feedOf (e : Env) (x : MatIn) (m : MatOp) : MatOp :=
  { m with
    feed := ((List.range 129).filter (takesPart m)).map (fun y => (y, (List.range m.nt).flatMap (tileFeed e x y)))
    rowFeed := if x.kind = .dwc then (List.range 64).map (fun i => (i, (List.range m.nt).flatMap (tileRows e x i))) else [] }

/-- Issue of MMA, MMAT, CONV or DWC at the present stitch: none is ILLEGAL_OP (R94, R127); else the cell with the operation
in flight and its interval. -/
def startMat (e : Env) (kind : MatKind) (w : BitVec 128) : Option (CellState × Nat) :=
  let c := e.c
  let x := matIn c kind w
  let epi := fld w 117 117 == 1
  let pro := fld w 116 116 == 1
  let posted := fld w 115 115 == 1
  let bstat := fld w 118 118 == 1
  if (posted && c.bind.isNone) || !chainOk c x epi then none else
  let s := c.since
  let b := max x.kst 64
  let nt := ceilDiv x.rows 64 * ceilDiv x.cols 64
  let le := if epi then progLen c (fld w 60 51) else 0
  let lp := if pro then progLen c (fld w 50 41) else 0
  let final := handOff s b (nt - 1) + max 64 le
  let post := if posted then c.bind else none
  let c := sentMat c c.orders c.pc x bstat epi post s b nt
  let c := if c.sentOn.getLsbD 0 then markPrograms c c.orders c.pc s b nt x post (fld w 60 51) le (fld w 50 41) lp else c
  let c := if bstat then c else { c with bbuf := loadB c x.b }
  let colScale := fun (j : Nat) => if x.b.smode = 2 then
    (if j < x.b.extent then BitVec.ofNat 32 (rdLE (storeByte c) (x.b.scAddr + 4 * j) 4) else 0) else x.b.tscale
  let c := { c with colScale := (List.range 64).foldl (fun t j => put 0 t j (colScale j)) [], rowScale := x.a.tscale }
  let c := if x.chain = 1 ∧ x.first then { c with rmax := [], rsum := [] } else c
  let c := { c with tag := 0, eyes := [], rowReg := [] }
  let e := { e with c := c }
  let rs := if x.second then rowSums e x else []
  let op : MatOp :=
    { kind := kind, idx := c.pc, order := c.orders, issue := s, b := b, nt := nt, final := final,
      entry := fld w 60 51, len := le, proEntry := fld w 50 41, proLen := lp, chain := x.chain,
      first := x.chain != 0 && x.first, post := post, src := x.a, dst := x.d,
      colTiles := ceilDiv x.cols 64, rowsTotal := x.rows, colsTotal := x.cols,
      tiles := (List.range nt).map (tileOut e x rs), rsums := rs, kst := x.kst, per := tagStitches x
      hold := entryHold x
      scaled := isMx x.a.format || isMx x.b.format || x.a.smode == 4 || x.b.smode == 4 || x.b.format == 0x0A
      int := x.int && x.chain == 0 }
  some ({ c with
      orders := c.orders + 1, mats := c.mats ++ [feedOf e x op], bind := if posted then none else c.bind,
      chainOpen := if x.chain = 0 then c.chainOpen else if x.first then x.chain else 0,
      lastLayer := some x.d.layer }, max 1 (nt * b))

/-- Issue of GAP (R154). -/
def startGap (c : CellState) (w : BitVec 128) : CellState × Nat :=
  let a := readDesc c (fld w 111 95)
  let d := readDesc c (fld w 77 61)
  let rs := (List.range a.k).map (gapOut c a d)
  let i := max 1 (ceilDiv a.k 64 * a.height * a.extent)
  let final := c.since + i + 1
  let px := List.range (a.height * a.extent)
  let lines := pixelLines a px ++ auxLines a px
  let c := touch c c.orders c.pc false 0 false lines
  let c := mark c c.orders c.pc false 0 true false (c.since + i - 1) lines
  let c := mark c c.orders c.pc false 0 false true final (linesOf d.base (packedBytes d.format a.k))
  let t : TileOut := ⟨[rs.map (fun r => BitVec.ofNat 32 r.code)], false, false, 0,
    (rs.filter (·.clipped)).length, (rs.filter (·.nan)).length⟩
  let op : MatOp :=
    { kind := .gap, idx := c.pc, order := c.orders, issue := c.since, b := i, nt := 0, final := final, entry := 0, len := 0,
      proEntry := 0, proLen := 0, chain := 0, first := false, post := none, src := a, dst := d, colTiles := 1,
      rowsTotal := 1, colsTotal := a.k, tiles := [t] }
  ({ c with orders := c.orders + 1, mats := c.mats ++ [op], lastLayer := some d.layer }, i)

/-- Issue of VRUN (R117). -/
def startVrun (c : CellState) (w : BitVec 128) : CellState × Nat :=
  let a := readDesc c (fld w 111 95)
  let d := readDesc c (fld w 77 61)
  let nt := fld w 40 25
  let l := progLen c (fld w 60 51)
  let rows := fun (d : Desc) => if d.height = 0 then d.extent else d.extent * d.height
  let s := c.since
  let final := s + nt * l
  let ct := fun (d : Desc) => max 1 (ceilDiv d.k 64)
  let c := if !c.sentOn.getLsbD 0 then c else (List.range nt).foldl (fun c n =>
    markProg c ⟨c.orders, c.pc, 2, n, n % ct d, n / ct d, a, d, none, rows d, d.k, 0, 0, [], [], false⟩ (fld w 60 51) l
      (fun j => s + 1 + n * l + j)) c
  let op : MatOp :=
    { kind := .vrun, idx := c.pc, order := c.orders, issue := s, b := l, nt := nt, final := final, entry := fld w 60 51, len := l,
      proEntry := 0, proLen := 0, chain := 0, first := false, post := none, src := a, dst := d,
      colTiles := max 1 (ceilDiv d.k 64), rowsTotal := rows d, colsTotal := d.k, tiles := [] }
  ({ c with orders := c.orders + 1, mats := c.mats ++ [op] }, 1 + nt * l)

/-! ### A stitch of an operation -/

/-- What is due on the vector engine: program kind, tile, entry, position. -/
structure Due where
  kind : Nat
  tile : Nat
  entry : Nat
  j : Nat
  deriving DecidableEq, Repr

/-- The instruction at offset o of vector window n (R112). -/
def dueAt (m : MatOp) (n o : Nat) : List Due :=
  if 1 ≤ n ∧ o < m.len then [⟨0, n - 1, m.entry, o⟩]
  else if n < m.nt ∧ m.len ≤ o ∧ o < m.len + m.proLen then [⟨1, n, m.proEntry, o - m.len⟩] else []

/-- The instruction of an operation that stitch t is scheduled to execute (R112, R87). -/
def dues (m : MatOp) (t : Nat) : List Due :=
  if t < m.issue ∨ m.final < t then [] else
  let r := t - m.issue
  match m.kind with
  | .gap => []
  | .vrun => if r = 0 then [] else [⟨2, (r - 1) / m.len, m.entry, (r - 1) % m.len⟩]
  | _ => let n := min (r / m.b) m.nt; dueAt m n (r - n * m.b)

/-- Instructions of the window before that are still due at stitch t, the first of a window (R115). -/
def lateDues (m : MatOp) (t : Nat) : List Due :=
  if t < m.issue ∨ m.final < t ∨ m.kind = .gap ∨ m.kind = .vrun then [] else
  let n := min ((t - m.issue) / m.b) m.nt
  if t - m.issue = n * m.b ∧ 1 ≤ n then (List.range (m.len + m.proLen - m.b)).flatMap (fun i => dueAt m (n - 1) (m.b + i)) else []

/-- The instructions that stitch t waits for in a VEC_BUSY freeze; none once they have executed (R115). -/
def overdue (c : CellState) : List (MatOp × List Due) :=
  if c.late = some c.since then [] else (c.mats.map (fun m => (m, lateDues m c.since))).filter (fun p => !p.2.isEmpty)

/-- The tile program a due instruction belongs to comes to the head of vctx, made at its first instruction. -/
def bringCtx (c : CellState) (m : MatOp) (d : Due) : CellState :=
  match c.vctx.find? (fun x => x.order == m.order && x.kind == d.kind && x.tile == d.tile) with
  | some x => { c with vctx := x :: c.vctx.filter (fun y => !(y == x)) }
  | none =>
    let dcols := max 1 m.colTiles
    let x : VCtx :=
      { order := m.order, idx := m.idx, kind := d.kind, tile := d.tile, colTile := d.tile % dcols, rowTile := d.tile / dcols,
        src := m.src, dst := m.dst, post := if d.kind = 0 then m.post else none, rowsTotal := m.rowsTotal, colsTotal := m.colsTotal,
        pos := d.j, vldd := 0, gathered := [] }
    { c with vctx := x :: c.vctx }

/-- Run the due instructions of one operation. -/
def runDues (v : VEnv) (c : CellState) (m : MatOp) : List Due → VEnd
  | [] => .ok c
  | d :: l =>
    match vAt v (bringCtx c m d) d.entry d.j with
    | .ok c => runDues v c m l
    | e => e

/-- How the vector phase of a stitch ended: the cell, and why it cannot complete. -/
inductive Phase where
  | ok (c : CellState)
  | invalid (c : CellState)
  | blocked
  /-- Overdue instructions have executed in a freeze of the stitch on VEC_BUSY (R115). -/
  | busy (c : CellState)
  /-- An eyelet or a row operand register that the stitch takes from is empty (spec/03 R68): the stall causes. -/
  | starved (causes : BitVec 8)
  /-- A popped entry is wrong (spec/03 R69, R70): the failure bit, its eyelet. -/
  | wrong (bit eyelet : Nat)
  deriving DecidableEq, Repr

/-- The due instructions of the operations in flight; what ran before an invalid one in the same freeze stays (R110, R115). -/
def runAll (v : VEnv) (c : CellState) : List (MatOp × List Due) → Phase
  | [] => .ok c
  | (m, d) :: l =>
    match runDues v c m d with
    | .ok c => runAll v c l
    | .invalid c => .invalid c
    | .noPlace => .blocked

/-- What the vector engine does in stitch t: overdue instructions freeze it, else the scheduled ones execute. -/
def vectorPhase (v : VEnv) (t : Nat) (c : CellState) (l : List MatOp) : Phase :=
  match overdue c with
  | [] => runAll v c (l.map (fun m => (m, dues m t)))
  | o => match runAll v c o with
    | .ok c => .busy { c with late := some t }
    | e => e

/-- Hand-off of tile n: the tile's status, the Tacker's counts, and the row sums of a second stage (R65, R81, R129, R133). -/
def handOffTile (c : CellState) (m : MatOp) (n : Nat) : CellState :=
  let t := m.tiles.getD n ⟨[], false, false, 0, 0, 0⟩
  let seq := (bits c.tileStatus.toNat 63 48 + 1) % 65536
  let c := { c with
    tileNow := some (m.order, n)
    tileStatus := BitVec.ofNat 64 (at_ seq 48 + at_ (min t.t5bInv 65535) 32 + (if t.nanIn then 2 else 0) + (if t.sat then 1 else 0))
    counts := { c.counts with accSat := satAdd 32 c.counts.accSat (if t.sat then 1 else 0), t5b := satAdd 32 c.counts.t5b t.t5bInv } }
  if n = 0 ∧ m.rsums ≠ [] then { c with rsum := (m.rsums.mapIdx (fun i v => (i, v))).foldl (fun t p => put 0 t p.1 p.2) c.rsum } else c

/-- Lanes of a row that lie inside the tensor. -/
def rowLanes (m : MatOp) (n i : Nat) : List (Option (BitVec 32)) :=
  let l := (m.tiles.getD n ⟨[], false, false, 0, 0, 0⟩).rows.getD i []
  l.mapIdx (fun j v => if n / m.colTiles * 64 + i < m.rowsTotal ∧ n % m.colTiles * 64 + j < m.colsTotal then some v else none)

/-- What the drain's lanes hold. -/
def laneKind (m : MatOp) : LaneKind := if m.int then .i32 else .f32

/-- A row as the drain narrows it (R32, R35, R41). -/
def drainSeg (c : CellState) (m : MatOp) (row c0 : Nat) (lanes : List (Option (BitVec 32))) : Seg :=
  narrowSeg (laneKind m) m.dst (fun i => destScale (storeByte c) m.dst row (c0 + i)) lanes

/-- Row i of tile n leaves the array (R66, R111, R113, R128). -/
def drainRow (e : Env) (m : MatOp) (n i : Nat) : Env :=
  let row := n / m.colTiles * 64 + i
  let c0 := n % m.colTiles * 64
  let lanes := rowLanes m n i
  if m.len ≠ 0 then
    let k := (n % 2) * 32 + i / 2
    let raw := (m.tiles.getD n ⟨[], false, false, 0, 0, 0⟩).rows.getD i []
    let old := lookup [] e.c.drainBuf k
    { e with c := { e.c with drainBuf := put [] e.c.drainBuf k (if i % 2 = 0 then raw ++ old.drop 64 else old.take 64 ++ raw) } }
  else if m.first ∧ m.chain = 1 then
    let vals := lanes.filterMap id
    let a := m.dst.base * 8 + row * (m.dst.stride * 8) + 4 * c0
    let map := (vals.mapIdx (fun j v => (j, v))).foldl (fun t p =>
      writeLE t (e.q * 33554432 + (a + 4 * p.1) % 33554432) 4 p.2.toNat) e.map
    { e with map := map, c := { e.c with rmax := put 0xFF800000 e.c.rmax i (vals.foldl maxF32 (lookup 0xFF800000 e.c.rmax i)) } }
  else
    let c := if row < m.rowsTotal ∧ writesLocal m.post then
        touch e.c m.order m.idx false 0 true (rowTileLines { m.dst with k := m.colsTotal } row (n % m.colTiles))
      else e.c
    { e with c := if writesLocal m.post then storeRow c true (laneKind m) m.dst row c0 lanes
                  else countSeg c true m.dst.layer (drainSeg c m row c0 lanes) }

/-- The bytes of a whole posted tile without an epilogue (R136, R137). -/
def postedTile (e : Env) (m : MatOp) (n : Nat) : Mem × Tab Bool :=
  (List.range 64).foldl (fun g i =>
    let s := drainSeg e.c m (n / m.colTiles * 64 + i) (n % m.colTiles * 64) (rowLanes m n i)
    (putPosted g.1 m.dst i s, coverSeg g.2 m.dst i s)) ([], [])

/-- An RC first stage forms the running maximum and rescale at its final stitch (R132). -/
def rcMaxima (tab : BitVec 16) (c : CellState) (m : MatOp) : CellState :=
  (List.range (min 64 m.rowsTotal)).foldl (fun c i =>
    let ss := (List.range m.nt).flatMap (fun n => (rowLanes m n i).filterMap id)
    let m0 := lookup 0xFF800000 c.rmax i
    let m1 := ss.foldl maxF32 m0
    { c with rscl := put 0x3F800000 c.rscl i (if m1 = 0xFF800000 then 0x3F800000 else expF32 tab (subF32 m0 m1)),
             rmax := put 0xFF800000 c.rmax i m1 }) c

/-- GAP writes its results in its second tail stitch (R154). -/
def gapWrite (e : Env) (m : MatOp) : Env :=
  let t := m.tiles.getD 0 ⟨[], false, false, 0, 0, 0⟩
  let codes := (t.rows.getD 0 []).map (fun v => some v.toNat)
  let c := touch e.c m.order m.idx false 0 true (linesOf m.dst.base (packedBytes m.dst.format m.colsTotal))
  let c := { c with store := putSeg c.store m.dst.format m.dst.base 0 codes }
  { e with c := countNarrow c false m.dst.layer codes.length t.clip t.nan }

/-- The drain's part of stitch t for one operation: the row that leaves in it, which is still of the tile before where a tile is
handed off in the same stitch, and the hand-off (R65, R81). -/
def drainMat (e : Env) (t : Nat) (m : MatOp) : Env :=
  match m.kind with
  | .vrun => e
  | .gap => if t = m.final then gapWrite e m else e
  | _ =>
    let r := t - m.issue
    -- the rows of tile n leave in the 64 stitches after its hand-off
    let e := if m.b ≤ r ∧ m.nt ≠ 0 then
        let n := min (r / m.b) m.nt - 1
        let i := r - (n + 1) * m.b
        if i < 64 then
          let e := drainRow e m n i
          if i = 63 ∧ m.len = 0 then
            match m.post with
            | some b =>
              let p : Post := ⟨b.peer, b.sig, b.inc, b.dst + n * b.lines * 512, (postedTile e m n).1, (postedTile e m n).2⟩
              { e with c := { e.c with postsSent := e.c.postsSent + 1, posts := e.c.posts ++ [p] } }
            | none => e
          else e
        else e
      else e
    let e := if t < m.issue + m.nt * m.b ∧ (r + 1) % m.b = 0 then { e with c := handOffTile e.c m ((r + 1) / m.b - 1) } else e
    if t = m.final ∧ m.first ∧ m.chain = 2 then { e with c := rcMaxima e.v.tab e.c m } else e

/-- A posted tile's last row finds no TPOST place (R94, R136). -/
def drainBlocked (c : CellState) (t : Nat) (m : MatOp) : Bool :=
  m.post.isSome && m.len == 0 && decide (4 ≤ places c) && decide (m.issue + m.b ≤ t) &&
  decide (t - m.issue - (min ((t - m.issue) / m.b) m.nt) * m.b = 63)

/-- Whether stitch t of the cell can complete, and with what effects of the operations in flight: the eyelets must hold what it takes,
their entries must be right, and a posted tile that ends in it must find a place beside those the tile programs take in the same
stitch (R68 to R70, R94, R136). -/
def advance (e : Env) : Phase × Mem :=
  let t := e.c.since
  if feedStalls e.c ≠ 0 then (.starved (feedStalls e.c), e.map) else
  match popBad e.c with
  | some y => (.wrong y.1 y.2, e.map)
  | none =>
  match vectorPhase e.v t e.c e.c.mats with
  | .ok c =>
    if c.mats.any (drainBlocked c t) then (.blocked, e.map) else
    let e := c.mats.foldl (fun e m => drainMat e t m) { e with c := popEyes c }
    (.ok (dropMarks { e.c with
      tag := nextTag e.c, since := t + 1, stitchCount := satAdd 64 e.c.stitchCount 1, pacing := false,
      mats := e.c.mats.filter (fun m => decide (t < m.final)) }), e.map)
  | p => (p, e.map)

end Sys2Proof.Machine
end

