-- ==== Sys2Proof/Machine/Flags.lean ====
section
/-! DEFINITION. Status words: a cell's register page as it reads (spec/03 R81) and the expected block tag (R69). -/

namespace Sys2Proof.Machine

/-- STATE of CELL_STATE: FENCED while FENCE is 1 (R81). -/
def stateCode (c : CellState) : Nat :=
  if c.fence then 4 else match c.st with | .idle => 0 | .running => 1 | .halted => 2 | .faulted => 3

/-- Entries in eyelet e, and the least and greatest number in a run of eyelets (R81). -/
def eyeFill (c : CellState) (e : Nat) : Nat := (lookup [] c.eyes e).length
def eyeMin (c : CellState) (e0 n : Nat) : Nat := (List.range n).foldl (fun m i => min m (eyeFill c (e0 + i))) (eyeFill c e0)
def eyeMax (c : CellState) (e0 n : Nat) : Nat := (List.range n).foldl (fun m i => max m (eyeFill c (e0 + i))) (eyeFill c e0)

/-- EYELET_STATUS: expected tag and fills. -/
def eyeStatus (c : CellState) : Nat :=
  at_ c.tag 25 + at_ (eyeFill c 128) 20 + at_ (eyeMax c 64 64) 15 + at_ (eyeMin c 64 64) 10 + at_ (eyeMax c 0 64) 5 + eyeMin c 0 64

/-- The word at an offset of the page. -/
def cellReg (s : State) (g off : Nat) : Word :=
  let c := s.cell g
  let v : Nat :=
    if off = 0x000 then at_ 0xB1 16 + at_ g 8 + at_ (quarterOf g) 4 + at_ (clusterOf g) 2 + positionOf g
    else if off = 0x008 then (if c.fence then 0x20 else 0) + 2 * c.tbank + c.ibank
    else if off = 0x010 then at_ c.pc 22 + at_ c.loops.length 19 + at_ c.actT 18 + at_ c.actI 17 +
      (if c.stalls = 0 then 0 else 0x10000) + at_ c.stalls.toNat 8 + stateCode c
    else if off = 0x018 then c.fault.toNat
    else if off = 0x020 then c.faultInfo.toNat
    else if off = 0x028 then c.hangLimit
    else if off = 0x030 then at_ c.ceOther 32 + at_ c.ceBbuf 16 + c.ceStore
    else if off = 0x040 then c.tileStatus.toNat
    else if off = 0x048 then eyeStatus c
    else if off = 0x050 then c.stitchCount
    else if off = 0x058 then c.frozenTime
    else if off = 0x060 then c.paceTime
    else if off = 0x068 then c.runTime
    else if 0x080 ≤ off ∧ off < 0x0C0 ∧ off % 8 = 0 then lookup 0 c.stallTime ((off - 0x080) / 8)
    else if 0x0C0 ≤ off ∧ off < 0x100 ∧ off % 8 = 0 then lookup 0 c.stallEvents ((off - 0x0C0) / 8)
    else if off = 0x100 then c.sentCtrl.toNat
    else if off = 0x108 then at_ c.violations 32 + at_ c.sentLost 8 + c.sentLog.length
    else 0
  BitVec.ofNat 64 v

/-- SENT_LOG[e], 128 bits; an entry beyond COUNT reads 0. -/
def sentEntry (c : CellState) (e : Nat) : Nat :=
  match c.sentLog[e]? with
  | none => 0
  | some x => at_ (x.stitch % 2 ^ 48) 80 + at_ x.kind 78 + at_ x.space 76 + at_ x.line 63 + at_ x.first 53 + at_ x.second 43 +
      (if x.firstLace then 2 ^ 42 else 0) + (if x.secondLace then 2 ^ 41 else 0)

end Sys2Proof.Machine
end

