-- ==== Sys2Proof/Machine/Causes.lean ====
section
/-! DEFINITION. The cause tree (spec/11 R292 to R295), emergency messages (spec/12 R322, R323), and the counts of
corrected and uncorrectable errors (spec/10 R257, R258, R270). -/

namespace Sys2Proof.Machine

/-- Group numbers of R293. -/
def gCell : Nat := 0
def gQuarter : Nat := 1
def gMem : Nat := 2
def gSram : Nat := 3
def gHmp : Nat := 4
def gField : Nat := 5
def gStream : Nat := 6
def gCodec : Nat := 7
def gClicker : Nat := 8
def gSched : Nat := 9
def gPower : Nat := 10
def gThermal : Nat := 11
def gBoot : Nat := 12
def gFw : Nat := 13
def gIst : Nat := 14
def gLate : Nat := 15
def gNotice : Nat := 16

/-- A leaf of the tree. -/
inductive Leaf where
  | main (g b : Nat)
  | slot (s b : Nat)
  | istFailed (g : Nat)
  | istUntested (g : Nat)
  deriving DecidableEq, Repr

def bit64 (b : Nat) : Word := 1 <<< b

/-- Group, its bit in CAUSE, and the bit in a leaf register, 255 where there is none (R322). -/
def Leaf.group : Leaf → Nat
  | .main g _ => g
  | .slot .. => gStream
  | _ => gIst
def Leaf.bit : Leaf → Nat
  | .main _ b => b
  | .slot s _ => s
  | .istFailed _ => 0
  | .istUntested _ => 1
def Leaf.sub : Leaf → Nat
  | .main .. => 255
  | .slot _ b => b
  | .istFailed g => g
  | .istUntested g => g

def leafIsSet (c : Causes) : Leaf → Bool
  | .main g b => (lookup 0 c.leaf g).getLsbD b
  | .slot s b => (lookup 0 c.streamSlot s).getLsbD b
  | .istFailed g => c.istFailed.getLsbD g
  | .istUntested g => c.istUntested.getLsbD g

def setLeaf (c : Causes) : Leaf → Causes
  | .main g b => { c with leaf := put 0 c.leaf g (lookup 0 c.leaf g ||| bit64 b) }
  | .slot s b => { c with streamSlot := put 0 c.streamSlot s (lookup 0 c.streamSlot s ||| bit64 b) }
  | .istFailed g => { c with istFailed := c.istFailed ||| bit64 g }
  | .istUntested g => { c with istUntested := c.istUntested ||| bit64 g }

/-- Every leaf of a group is clear. -/
def groupClear (c : Causes) (g : Nat) : Bool :=
  lookup 0 c.leaf g == 0 &&
  (if g = gStream then (List.range 32).all (fun s => lookup 0 c.streamSlot s == 0)
   else if g = gIst then c.istFailed == 0 && c.istUntested == 0 else true)

/-- CAUSE of a group with its RO bits over leaf registers (R292). -/
def causeReg (c : Causes) (g : Nat) : Word :=
  lookup 0 c.leaf g |||
  (if g = gStream then (List.range 32).foldl (fun w s =>
      if lookup 0 c.streamSlot s &&& ~~~(lookup 0 c.maskStreamSlot s) ≠ 0 then w ||| bit64 s else w) 0
   else if g = gIst then
     (if c.istFailed &&& ~~~c.maskIstFailed ≠ 0 then 1 else 0) ||| (if c.istUntested &&& ~~~c.maskIstUntested ≠ 0 then 2 else 0)
   else 0)

/-- Mask of a group; HMP masks MB_DONE at reset (R293). -/
def maskReg (c : Causes) (g : Nat) : Word := lookup 0 c.mask g

def sumstat (c : Causes) : Word :=
  (List.range 17).foldl (fun w g => if causeReg c g &&& ~~~(maskReg c g) ≠ 0 then w ||| bit64 g else w) 0

/-- SUMSTAT and its mask; IRQ_N is low while it is not 0 (R291). -/
def pendingSum (c : Causes) : Word := sumstat c &&& ~~~c.maskSum
def irqAsserted (c : Causes) : Bool := pendingSum c != 0

/-- The error register 0x1001 (R322). -/
def errorRegister (c : Causes) : Nat :=
  let p := pendingSum c
  let special := [gPower, gThermal, gField, gHmp]
  (if p ≠ 0 then 1 else 0) + (if p.getLsbD gPower then 4 else 0) + (if p.getLsbD gThermal then 8 else 0) +
  (if p.getLsbD gField || p.getLsbD gHmp then 16 else 0) +
  (if (List.range 17).any (fun g => p.getLsbD g && !special.contains g) then 128 else 0)

/-- Queue an emergency message; a seventeenth discards the oldest (R323). -/
def queueEmergency (s : State) (m : EmMsg) : State :=
  if s.dev.al = .init then s else
  let c := s.causes
  let q := if 16 ≤ c.emQueue.length then c.emQueue.drop 1 else c.emQueue
  let lost := if 16 ≤ c.emQueue.length then satAdd 32 c.emDiscarded 1 else c.emDiscarded
  { s with causes := { c with emQueue := q ++ [{ m with seq := c.emSeq }], emSeq := (c.emSeq + 1) % 256, emDiscarded := lost } }

/-- Bit 0 of 0x1001 may have fallen: a message with code 0 is sent (R323). -/
def settle (s : State) : State :=
  let p := irqAsserted s.causes
  let s' := { s with causes := { s.causes with emPending := p } }
  if s.causes.emPending && !p then queueEmergency s' ⟨0, 0, 0, 0, 0, 0⟩ else s'

/-- A leaf is set: INFO records the first of its group, a change from 0 to 1 sends an emergency message (R294, R323). -/
def raiseWith (s : State) (l : Leaf) (arg addr emArg : Nat) : State :=
  if leafIsSet s.causes l then s else
  let c := s.causes
  let g := l.group
  let info := if groupClear c g then
      put 0 c.info g (BitVec.ofNat 64 (at_ (if l.sub = 255 then l.bit else l.sub) 56 + at_ (arg % 65536) 40 + addr % 2 ^ 40)) else c.info
  let s := { s with causes := { setLeaf c l with info := info } }
  settle (if c.emEnable.getLsbD g then queueEmergency s ⟨0xFF00 + g, 0, l.bit, l.sub, emArg % 65536, 0⟩ else s)

def raise (s : State) (l : Leaf) (arg addr : Nat) : State := raiseWith s l arg addr arg

/-- The AL error flag with a code sets AL_ERROR (spec/12 R335). -/
def alRefuse (s : State) (code : Nat) : State :=
  raise { s with dev := { s.dev with alError := true, alCode := code } } (.main gField 2) 0 0

/-- Kept for the reset of counters: entry k of 0x2601 counts up (R270). -/
def count2601 (s : State) (k n : Nat) : State := { s with resil := { s.resil with count := bump 32 s.resil.count k n } }

/-- The corrected errors of the last second, with the one of now; 65 of them show that there were more than 64. -/
def lastSecond (now : Nat) (l : List Nat) : List Nat := ((now :: l).filter (fun u => decide (now < u + 1000000000))).take 65

/-- A corrected error in a cell's memory: counted (R270). -/
def correctedCell (s : State) : State := count2601 s 5 1

/-- A corrected error of an LPDDR6 word, with its owner tag and address: counted, CE_RATE beyond 64 in one second (R293, R294). -/
def correctedLpddr (s : State) (tag addr : Nat) : State :=
  let s := count2601 s 7 1
  let l := lastSecond s.now s.resil.ceMem
  let s := { s with resil := { s.resil with ceMem := l } }
  if 64 < l.length then raise s (.main gMem 4) tag addr else s

/-- The same of on-chip SRAM beside the cells, which has no owner tag. -/
def correctedSram (s : State) (addr : Nat) : State :=
  let s := count2601 s 5 1
  let l := lastSecond s.now s.resil.ceSram
  let s := { s with resil := { s.resil with ceSram := l } }
  if 64 < l.length then raise s (.main gSram 4) 0 addr else s

/-- A CELL cause; its emergency message carries the CELL_FAULT bits (R322). -/
def raiseCell (s : State) (g : Nat) : State := raiseWith s (.main gCell g) 0 0 (s.cell g).fault.toNat

end Sys2Proof.Machine
end

