-- ==== Sys2Proof/Machine/Records.lean ====
section
/-! DEFINITION. Context descriptors (spec/08 R195), queues and their rings (R200 to R202, R208), result records (R205,
R206), event records (R207), bound result objects (spec/12 R315), and the end of a layer of a job (spec/02 R52). -/

namespace Sys2Proof.Machine

/-! ### Context descriptor (R195) -/

def Ctx.byte (x : Ctx) (i : Nat) : Nat := (readByte x.desc i).toNat
def Ctx.cls (x : Ctx) : Nat := x.byte 0
def Ctx.group (x : Ctx) : Nat := x.byte 1
def Ctx.npos (x : Ctx) : Nat := x.byte 2
def Ctx.startMode (x : Ctx) : Nat := x.byte 3
def Ctx.cancels (x : Ctx) : Bool := (x.byte 4).testBit 0
def Ctx.replayMargin (x : Ctx) : Bool := (x.byte 4).testBit 1
def Ctx.depth (x : Ctx) : Nat := x.byte 5
def Ctx.lowWater (x : Ctx) : Nat := x.byte 6
def Ctx.reps (x : Ctx) : Nat := x.byte 7
def Ctx.deadline (x : Ctx) : Nat := readLE x.desc 8 4
def Ctx.period (x : Ctx) : Nat := readLE x.desc 12 4
def Ctx.window (x : Ctx) : Nat := readLE x.desc 16 4
def Ctx.mask (x : Ctx) : Nat := readLE x.desc 20 8
def Ctx.powerMw (x : Ctx) : Nat := readLE x.desc 28 2
def Ctx.clipThresh (x : Ctx) : Nat := readLE x.desc 30 2
def Ctx.cq (x : Ctx) : Nat := readLE x.desc 32 2
def Ctx.eq (x : Ctx) : Nat := readLE x.desc 34 2
def Ctx.sq (x : Ctx) : Nat := readLE x.desc 36 2
def Ctx.weight (x : Ctx) : Nat := x.byte 38
/-- Position p: slot and view. -/
def Ctx.pos (x : Ctx) (p : Nat) : Nat × Nat := (x.byte (40 + 2 * p), x.byte (41 + 2 * p))
def Ctx.positions (x : Ctx) : List (Nat × Nat) := (List.range x.npos).map x.pos
def Ctx.seedScale (x : Ctx) (h : Nat) : F32 := BitVec.ofNat 32 (readLE x.desc (72 + 8 * h) 4)
def Ctx.seedTarget (x : Ctx) (h : Nat) : Nat := x.byte (76 + 8 * h)
def Ctx.pkgAddr (x : Ctx) : Nat := readLE x.desc 200 8
def Ctx.pkgLen (x : Ctx) : Nat := readLE x.desc 208 4
def Ctx.deadlineClass (x : Ctx) : Bool := decide (x.cls < 2)
/-- Output records of the package. -/
def Ctx.outs (x : Ctx) : List OutRec := match x.pkg with | some p => p.outs | none => []

/-- The slot is running or stopped with its group as the object holds it (spec/07 R163). -/
def slotGroup (s : State) (n : Nat) : Nat := (s.slot n).group.getD (n / 8)

/-- The owner tag of a context's current load (spec/10 R255). -/
def ctxTag (c : Nat) (x : Ctx) : BitVec 16 := BitVec.ofNat 16 (x.gen * 4096 + c)

/-! ### Rings -/

/-- Queue q, none where it does not exist. -/
def State.queue? (s : State) (q : Nat) : Option Queue := (s.queues.find? (fun p => p.1 == q)).map (·.2)
/-- Set an existing or new queue. -/
def State.setQueue (s : State) (q : Nat) (x : Queue) : State := { s with queues := insertKey (erase s.queues q) q x }
def State.dropQueue (s : State) (q : Nat) : State := { s with queues := erase s.queues q }

def Queue.entries (x : Queue) : Nat := 2 ^ x.k
/-- Byte offset of the status line and of entry index i in the channel's ring window (R201). -/
def Queue.base (x : Queue) : Nat := x.page * 4096
def Queue.entryAt (x : Queue) (i : Nat) : Nat := x.base + 64 + 64 * (i % x.entries)
def Queue.pages (x : Queue) : Nat := ceilDiv (64 + x.entries * 64) 4096
/-- LAP of index i (R202). -/
def Queue.lap (x : Queue) (i : Nat) : Byte := BitVec.ofNat 8 (i / x.entries % 255 + 1)
def Queue.room (x : Queue) : Bool := decide (x.prod - x.cons < x.entries)

/-- Write bytes into the ring pool of a channel; a write makes an uncorrectable word readable. -/
def ringWrite (s : State) (ch a : Nat) (l : List Byte) : State :=
  let c := s.chan ch
  s.setChan ch { c with ring := writeBytes c.ring a l,
                        bad := c.bad.filter (fun w => !decide (0x10000 + a < w / 8 * 8 + 8 ∧ w / 8 * 8 < 0x10000 + a + l.length)) }

/-- The status line as the device writes it (R201). -/
def statusLine (x : Queue) : List Byte :=
  leBytes 4 (x.prod % 2 ^ 32) ++ leBytes 4 (x.cons % 2 ^ 32) ++ leBytes 4 x.lost ++ leBytes 2 x.held.length ++ List.replicate 50 0

/-- Store a queue's data and its status line. -/
def commitQueue (s : State) (q : Nat) (x : Queue) : State := ringWrite (s.setQueue q x) x.ch x.base (statusLine x)

/-- Overwrite bytes of a record. -/
def patch (r : List Byte) (i : Nat) (v : List Byte) : List Byte := r.take i ++ v ++ r.drop (i + v.length)

/-- The LATE record of one output of a job has its SECOND record (spec/10 R253). -/
def closeLate (s : State) (c out tag tInput : Nat) : State :=
  { s with resil := { s.resil with lateOpen := s.resil.lateOpen.filter (fun w =>
      !decide (w.ctx = c ∧ w.out = out ∧ w.tag = tag ∧ w.tInput = tInput)) } }

/-- A result record with SECOND ends the interval of its LATE record (R205, spec/10 R253). -/
def closeSecond (s : State) (r : List Byte) : State :=
  let n := fun (a k : Nat) => leNat ((r.drop a).take k)
  if n 1 1 / 16 = 1 ∧ n 2 1 / 64 % 2 = 1 then closeLate s (n 4 2 % 4096) (n 4 2 / 4096) (n 6 4) (n 10 8) else s

/-- Write a record at the producer index with its lap and check byte (R202); the ring has room. -/
def landRaw (s : State) (q : Nat) (x : Queue) (r : List Byte) : State :=
  let s := closeSecond s r
  let r := patch (patch r 0 [x.lap x.prod]) 63 [x.lap x.prod]
  commitQueue (ringWrite s x.ch (x.entryAt x.prod) r) q { x with prod := x.prod + 1 }

/-- T_POST of a result record is filled at its landing (R205). -/
def stampPost (version now : Nat) (r : List Byte) : List Byte :=
  if version = 1 then patch r 18 (leBytes 8 now)
  else patch r 18 (leBytes 4 (min (now - leNat ((r.drop 10).take 8)) (2 ^ 32 - 1)))

/-! ### Events (R207) -/

def evClipShare : Nat := 1
def evBatchLow : Nat := 2
def evBatchDiscard : Nat := 3
def evUnloaded : Nat := 4
def evAdmitLost : Nat := 5
def evAdmitRegained : Nat := 6
def evPlacementMoved : Nat := 7
def evSlotStopped : Nat := 8
def evCompleteDropped : Nat := 9
def evOverRate : Nat := 10
def evBudgetOverrun : Nat := 11

def eventRecord (code ctx now : Nat) (data : List Byte) : List Byte :=
  [0, 0x20] ++ leBytes 2 code ++ leBytes 2 ctx ++ [0, 0] ++ leBytes 8 now ++ padTo 46 data ++ [0, 0]

/-- An event goes to the context's EVENT queue where its mask selects the code; a full ring drops it (R207, R208). -/
def postEvent (s : State) (c code : Nat) (data : List Byte) : State :=
  let q := (s.ctx c).eq
  match s.queue? q with
  | none => s
  | some x =>
    if x.typ ≠ .event ∨ x.ctx ≠ c ∨ !x.mask.getLsbD (code - 1) then s
    else if x.room then landRaw s q x (eventRecord code c s.now data)
    else commitQueue s q { x with lost := satAdd 32 x.lost 1 }

/-- COMPLETE_DROPPED waits for room in the EVENT queue (R208). -/
def reportDropped (s : State) (c : Nat) : State :=
  let cq := (s.ctx c).cq
  match s.queue? cq, s.queue? (s.ctx c).eq with
  | some x, some e =>
    if x.droppedSince = 0 ∨ x.ctx ≠ c then s
    else if e.ctx ≠ c ∨ e.typ ≠ .event ∨ !e.mask.getLsbD (evCompleteDropped - 1) then s.setQueue cq { x with droppedSince := 0 }
    else if e.room then postEvent (s.setQueue cq { x with droppedSince := 0 }) c evCompleteDropped (leBytes 4 (min x.droppedSince (2 ^ 32 - 1)))
    else s
  | _, _ => s

/-! ### Result records (R205) -/

/-- What a result record says before it lands. `size` is the output's size, 0 where the record carries no result; its
bytes and, for one too long, its address are free values (notes/assumptions/21). -/
structure RecIn where
  status : Nat
  flags : Nat
  code : Nat
  out : Nat
  tag : Nat
  tInput : Nat
  size : Nat
  free : Nat
  /-- The moment of posting: the close of the batch for a VOID record, the present otherwise (R210). -/
  moment : Nat
  deriving DecidableEq, Repr

def stOk : Nat := 1
def stLate : Nat := 2
def stVoid : Nat := 3
def stFault : Nat := 4

/-- Payload of `lim` bytes and whether it is the pointer form (R205). -/
def RecIn.payload (r : RecIn) (lim : Nat) : List Byte × Bool :=
  if r.size ≤ lim then (padTo lim ((List.range r.size).map (fun i => freeAt 8 r.free (r.out * 64 + i))), false)
  else (padTo lim (leBytes 8 (freeAt 36 r.free (r.out * 64)).toNat ++ leBytes 4 r.size), true)

def RecIn.bytes (r : RecIn) (version ctx : Nat) : List Byte :=
  let lim := if version = 1 then 32 else 40
  let p := r.payload lim
  let head := [0, BitVec.ofNat 8 (16 + r.status), BitVec.ofNat 8 (r.flags + if p.2 then 128 else 0), BitVec.ofNat 8 r.code] ++
    leBytes 2 (if version = 1 then ctx else r.out * 4096 + ctx) ++ leBytes 4 r.tag ++ leBytes 8 r.tInput
  if version = 1 then head ++ List.replicate 8 0 ++ p.1 ++ List.replicate 6 0
  else head ++ List.replicate 4 0 ++ p.1 ++ [0, 0]

/-- Every bound result object receives the record at the moment of posting (spec/12 R315). -/
def updateResults (s : State) (c : Nat) (r : RecIn) : State :=
  let p := r.payload 40
  let upd := fun (o : Result) =>
    if o.binding.getLsbD 31 && decide (bits o.binding.toNat 11 0 = c ∧ bits o.binding.toNat 19 16 = r.out) then
      { o with seq := o.seq + 1, status := r.status, flags := r.flags + (if p.2 then 128 else 0), code := r.code, tag := r.tag,
               tInput := r.tInput, tPost := r.moment, payload := p.1 }
    else o
  { s with field := { s.field with result := s.field.result.map (fun k => (k.1, upd k.2)) } }

/-- A LATE record counts, toggles LATE_TGL and raises the LATE leaf of its Laster (R198, spec/11 R293, spec/12 R331). -/
def noteLate (s : State) (c : Nat) : State :=
  let n := (s.ctx c).group % 4
  let s := s.modCtx c (fun x => { x with lates := satAdd 32 x.lates 1 })
  raise { s with
    dev := { s.dev with lateToggle := !s.dev.lateToggle }
    causes := { s.causes with lateCount := bump 32 s.causes.lateCount n 1, lateLast := put 0 s.causes.lateLast n c } } (.main gLate n) 0 0

/-- A record is posted: objects, then the COMPLETE ring, the hold of 16, or the count of dropped records (R208, R315). A SECOND record
that never lands ends the interval of R253 where it is dropped. -/
def postRecord (s : State) (c : Nat) (r : RecIn) : State :=
  let x := s.ctx c
  let r := { r with flags := r.flags ||| (if x.st = .unadmitted then 4 else 0) }
  let s := updateResults s c r
  let s := if r.status = stLate then noteLate s c else s
  let gone := fun (s : State) => if 64 ≤ r.flags % 128 then closeLate s c r.out r.tag r.tInput else s
  match s.queue? x.cq with
  | none => gone s
  | some q =>
    if q.typ ≠ .complete ∨ q.ctx ≠ c then gone s else
    let b := r.bytes q.version c
    if q.held.isEmpty && q.room then landRaw s x.cq q (stampPost q.version r.moment b)
    else if q.held.length < 16 then commitQueue s x.cq { q with held := q.held ++ [b] }
    else
      let s := commitQueue (gone s) x.cq { q with lost := satAdd 32 q.lost 1, droppedSince := q.droppedSince + 1 }
      reportDropped (raise s (.main gSched 1) c 0) c

/-- Held records land in posting order as entries are freed; `n` bounds the work. -/
def landHeld (s : State) (q : Nat) : Nat → State
  | 0 => s
  | n + 1 =>
    match s.queue? q with
    | none => s
    | some x =>
      match x.held with
      | [] => s
      | r :: rest => if x.room then landHeld (landRaw s q { x with held := rest } (stampPost x.version s.now r)) q n else s

/-! ### The end of a layer -/

/-- Cell g has been given the present run of a job: what it counts belongs to that run (spec/02 R51). -/
def inRun (s : State) (j : Job) (g : Nat) : Bool := (s.cell g).sb.job == j.id && (s.cell g).sb.run == j.runs

/-- Cells of the present run that have not reported. -/
def openCells (s : State) (j : Job) : List Nat := j.cells.filter (fun g => !j.done.contains g && inRun s j g)

/-- Elements written and clipped in layer l by the job's cells, those that have reported and, until it retires, the others (spec/02
R52). -/
def layerCounts (s : State) (j : Job) (l : Nat) : Nat × Nat :=
  let runs := j.counts ++ (if j.retire.isSome then [] else (openCells s j).map (fun g => (s.cell g).counts))
  (min (2 ^ 32 - 1) ((runs.map (fun r => lookup 0 r.written l)).sum), min (2 ^ 32 - 1) ((runs.map (fun r => lookup 0 r.clipped l)).sum))

def State.modJob (s : State) (id : Nat) (f : Job → Job) : State :=
  { s with jobs := s.jobs.map (fun (j : Job) => if j.id = id then f j else j) }
def State.job? (s : State) (id : Nat) : Option Job := s.jobs.find? (fun (j : Job) => j.id == id)

/-- CLIP_SHARE of one layer, once a job (R52). -/
def clipCheck (s : State) (id l : Nat) : State :=
  match s.job? id with
  | none => s
  | some j =>
    let t := (s.ctx j.ctx).clipThresh
    let k := layerCounts s j l
    if j.clipPosted.contains l ∨ !clipShare k.2 k.1 t then s
    else postEvent (s.modJob id (fun j => { j with clipPosted := j.clipPosted ++ [l] })) j.ctx evClipShare
      (leBytes 2 l ++ leBytes 4 k.2 ++ leBytes 4 k.1 ++ leBytes 4 j.tag)

/-- A full DRAIN of a cell: the layer ends for its job once every cell of it has come as far (R52, spec/05 R139). -/
def layerEnd (s : State) (g : Nat) : State :=
  let c := s.cell g
  match s.job? c.sb.job, c.lastLayer with
  | some j, some l =>
    if inRun s j g && j.cells.all (fun h => (inRun s j h && decide (c.layersDone ≤ (s.cell h).layersDone)) || j.done.contains h) then clipCheck s j.id l else s
  | _, _ => s

/-! ### Words of the port staging SRAM (spec/11 R290) -/

def State.modChan (s : State) (ch : Nat) (f : Chan → Chan) : State := s.setChan ch (f (s.chan ch))

/-- An HMP leaf with its channel and address (R294). -/
def hmpLeaf (s : State) (ch b addr : Nat) : State := raise s (.main gHmp b) (at_ ch 8) addr

/-- A word of staging with an uncorrectable error holds the byte (R290). -/
def stagingBad (c : Chan) (o : Nat) : Bool := c.bad.any (fun w => w / 8 == o / 8)

/-- The queue whose pages hold a ring-window offset. -/
def queueAt (s : State) (ch o : Nat) : Option (Nat × Queue) :=
  s.queues.find? (fun p => p.2.ch == ch && decide (p.2.base ≤ o ∧ o < p.2.base + p.2.pages * 4096))

/-- The offset lies in the ring's entries. -/
def inEntries (x : Queue) (o : Nat) : Bool := decide (x.base + 64 ≤ o ∧ o < x.base + 64 + 64 * x.entries)

/-- A word of the ring pool: an unread COMPLETE or EVENT record that holds it is lost (spec/11 R290). -/
def stagingLost (s : State) (ch o : Nat) : State :=
  match queueAt s ch o with
  | none => s
  | some (q, x) =>
    if x.typ = .submit ∨ !inEntries x o then s else
    let e := (o - x.base - 64) / 64
    let unread := (List.range (x.prod - x.cons)).any (fun i => (x.cons + i) % x.entries == e)
    if !unread then s else
    let s := commitQueue s q { x with lost := satAdd 32 x.lost 1, droppedSince := if x.typ = .complete then x.droppedSince + 1 else 0 }
    let s := ringWrite s ch (x.base + 64 + 64 * e) (List.replicate 64 0)
    if x.typ = .complete then reportDropped s x.ctx else s

/-- An uncorrectable word of the port staging SRAM (spec/11 R290). -/
def scrubStaging (s : State) (ch a : Nat) : State :=
  let c := s.chan ch
  if stagingBad c a then s else
  let s := count2601 (hmpLeaf s ch 9 a) 6 1
  if a < 0x10000 then s
  else
    let s := s.modChan ch (fun c => { c with bad := c.bad ++ [a / 8 * 8] })
    if a < 0x500000 then stagingLost s ch (a - 0x10000) else s

end Sys2Proof.Machine
end

