-- ==== Sys2Proof/Machine/Sequencer.lean ====
section
/-! DEFINITION. The sequencer of a cell: issue of each macro-operation (spec/04 R83 to R100), the stitch (spec/03 R57 to
R59, R85), DRAIN and HALT (R93), and the meanings of the macro-operations as commands. A command's word is the one the
sequencer holds at a macro-operation boundary; a command whose occasion is not there changes nothing
(notes/assumptions/2). -/

namespace Sys2Proof.Machine

/-! ### Issue -/

/-- The cell is at a macro-operation boundary and may issue. -/
def atBoundary (c : CellState) : Bool := c.live && c.wait.isNone && decide (c.next ≤ c.since)

/-- What the vector engines take from outside their cells: the next draw, and the running image's interpolation tables. -/
def vEnv (s : State) : VEnv := ⟨s.free, s.boot.interp⟩

def envOf (s : State) (g : Nat) : Env := ⟨s.cell g, s.fabric.mapStore, quarterOf g, vEnv s⟩

/-- The present stitch of the cell completes, or shows why it cannot (R57, R58, spec/03 R68 to R70). -/
def completeStitch (s : State) (g : Nat) : State :=
  match advance (envOf s g) with
  | (.ok c, map) =>
    ({ s with fabric := { s.fabric with mapStore := map } }.setCell g { c with stalls := 0, progressAt := s.now }).draw
  | (.invalid c, _) => s.setCell g (haltProg s.now c .illegalOp)
  | (.blocked, _) => s.modCell g (fun c => setStalls { c with progressAt := s.now } (c.stalls ||| 0x08))
  | (.busy c, _) => (s.setCell g (setStalls { c with progressAt := s.now } (c.stalls ||| 0x10))).draw
  | (.starved m, _) => s.modCell g (fun c => setStalls { c with progressAt := s.now } (c.stalls ||| m))
  | (.wrong b e, _) => s.modCell g (fun c => cellFail s.now c b 0 e)

/-- The macro-operation takes i stitches from here; its issue stitch completes (R85). -/
def issued (s : State) (g i : Nat) : State :=
  completeStitch (s.modCell g (fun c => { c with next := c.since + i, nextPc := c.pc + 1, wait := none })) g

/-- The macro-operation is held in its issue stitch. -/
def holdIssue (s : State) (g : Nat) (x : Wait) (causes : BitVec 8) : State :=
  s.modCell g (fun c => setStalls { c with next := c.since + 1, nextPc := c.pc + 1, wait := some x, progressAt := s.now } causes)

/-- A macro-operation that cannot be taken yet is tried again (R94, R95, R118, R149). -/
def holdRetry (s : State) (g : Nat) (w : BitVec 128) (cause : Nat) : State := holdIssue s g (.retry w cause) (1 <<< cause)

def progError (s : State) (g : Nat) (why : JobFault) : State := s.modCell g (fun c => haltProg s.now c why)

/-- The counter a SIGINC names, or SYNC_RANGE; an increment of 0 names none (R84). -/
def signalOf (c : CellState) (sig inc : Nat) : Option Nat := if inc = 0 then some 0 else c.sb.device sig

def opNop (s : State) (g : Nat) (_w : BitVec 128) : State := issued s g 1

def opWaits (s : State) (g : Nat) (w : BitVec 128) : State := issued s g (fld w 111 88)

/-- Hints whose phase has not ended at stitch `now` of the run. -/
def liveHints (now : Nat) (l : List HintEntry) : List HintEntry := l.filter (fun h => decide (now < h.start + h.length))

/-- A pending hint more: level 0 cancels them, a third replaces the older (spec/09 R247). -/
def addHint (l : List HintEntry) (start level len : Nat) : List HintEntry :=
  if level = 0 then [] else (if 2 ≤ l.length then l.drop 1 else l) ++ [⟨start, level, len, false⟩]

/-- HINT names a coming phase and changes nothing else (R93, spec/09 R247). -/
def opHint (s : State) (g : Nat) (w : BitVec 128) : State :=
  issued (s.modCell g (fun c => { c with hints := addHint (liveHints c.since c.hints) (c.since + fld w 111 88) (fld w 87 80) (fld w 79 56) })) g 1

/-- Opcode of the word at index i of the active instruction bank (R82, R100). -/
def imemWord (c : CellState) (i : Nat) : BitVec 128 := BitVec.ofNat 128 (readLE c.imem (c.actI * 16384 + 16 * i) 16)

/-- Index of the ENDLOOP that closes a LOOP whose body begins at `i`, `d` inner loops open (R99). -/
def matchingEnd (c : CellState) : Nat → Nat → Nat → Option Nat
  | 0, _, _ => none
  | f + 1, i, d =>
    if 1023 < i then none
    else if opcode (imemWord c i) = 0x08 then matchingEnd c f (i + 1) (d + 1)
    else if opcode (imemWord c i) = 0x09 then (if d = 0 then some i else matchingEnd c f (i + 1) (d - 1))
    else matchingEnd c f (i + 1) d

def opLoop (s : State) (g : Nat) (w : BitVec 128) : State :=
  let c := s.cell g
  let endIdx := fld w 73 64
  if 4 ≤ c.loops.length ∨ matchingEnd c 1024 (c.pc + 1) 0 ≠ some endIdx then progError s g .illegalOp else
  let ind := fld w 119 119 == 1
  let a := fld w 95 74
  let n := if ind then rdLE (storeByte c) a 2 else fld w 111 96
  let c := if ind then touch c c.orders c.pc false 0 false (linesOf a 2) else c
  let c := if n = 0 then c else { c with loops := ⟨c.pc + 1, endIdx, n, 0⟩ :: c.loops }
  let c := { c with next := c.since + 1, nextPc := if n = 0 then endIdx + 1 else c.pc + 1, orders := c.orders + 1, wait := none }
  completeStitch (s.setCell g c) g

def opEndloop (s : State) (g : Nat) (_w : BitVec 128) : State :=
  let c := s.cell g
  match c.loops with
  | [] => progError s g .illegalOp
  | l :: rest =>
    if l.endIdx ≠ c.pc then progError s g .illegalOp else
    let c := if 1 < l.left then
        { c with loops := { l with left := l.left - 1, pass := l.pass + 1 } :: rest, next := c.since + 1, nextPc := l.body }
      else { c with loops := rest, next := c.since + 1, nextPc := c.pc + 1 }
    completeStitch (s.setCell g c) g

/-- A matrix macro-operation issues, or raises ILLEGAL_OP (R83, R94, R127). -/
def opMatrix (kind : MatKind) (s : State) (g : Nat) (w : BitVec 128) : State :=
  match startMat (envOf s g) kind w with
  | none => progError s g .illegalOp
  | some (c, i) =>
    -- rows of a MEM first stage are the job's own words of the map store (spec/10 R257)
    let writer := match c.mats.getLast? with
      | some m => if m.first ∧ m.chain = 1 then
          (List.range m.rowsTotal).foldl (fun t r => fillRange 0 t
            (lineKey 1 (flatAddr 1 (quarterOf g) ((m.dst.base * 8 + r * (m.dst.stride * 8)) % 33554432))) (ceilDiv m.colsTotal 8) (runKey c.sb))
            s.fabric.writer else s.fabric.writer
      | none => s.fabric.writer
    issued ({ s with fabric := { s.fabric with writer := writer } }.setCell g c) g i

def opGap (s : State) (g : Nat) (w : BitVec 128) : State :=
  let r := startGap (s.cell g) w
  issued (s.setCell g r.1) g r.2

def opVrun (s : State) (g : Nat) (w : BitVec 128) : State :=
  let r := startVrun (s.cell g) w
  issued (s.setCell g r.1) g r.2

/-- AWL copies its command block into the queue of the quarter, which holds 16 (spec/06 R149). -/
def opAwl (s : State) (g : Nat) (w : BitVec 128) : State :=
  let c := s.cell g
  let q := quarterOf g
  let l := lookup [] s.fabric.awl q
  match signalOf c (fld w 94 81) (fld w 80 73) with
  | none => progError s g .syncRange
  | some k =>
    if 16 ≤ l.length then holdRetry s g w 7 else
    let a := fld w 111 95 * 32
    let blk := BitVec.ofNat 512 (rdLE (storeByte c) a 64)
    let x : AwlCmd := ⟨g, a, blk, k, fld w 80 73, c.sb, false, false⟩
    let c := { c with store := storeBytes c.store (a + 62) [storeByte c (a + 62) &&& 0x7F] }
    issued ({ s with fabric := { s.fabric with awl := put [] s.fabric.awl q (l ++ [x]) } }.setCell g c) g 1

/-- VTHR starts hardware threads; one still running holds it (spec/05 R118). -/
def opVthr (s : State) (g : Nat) (w : BitVec 128) : State :=
  let c := s.cell g
  match signalOf c (fld w 94 81) (fld w 80 73) with
  | none => progError s g .syncRange
  | some k =>
    let base := fld w 43 38
    let n := fld w 50 44
    if (List.range n).any (fun i => (lookup {} c.threads (base + i)).status != 0) then holdRetry s g w 4 else
    let arg := (List.range 32).map (fun i => BitVec.ofNat 32 (rdLE (storeByte c) (fld w 111 95 * 32 + 4 * i) 4))
    let c := (List.range n).foldl (fun c i =>
      setThread c (base + i)
        { status := 1, pc := fld w 60 51, tbank := c.actT, regs := put [] (put [] [] 0 arg) 1 (List.replicate 32 (BitVec.ofNat 32 i)),
          preds := [], sig := k, inc := fld w 80 73 }) c
    issued (s.setCell g c) g 1

/-! ### Transfers -/

/-- A cell number as a submitter's name. -/
def cellNo (g : Nat) : CellNo := ⟨g % 64, Nat.mod_lt _ (by decide)⟩

def tfield (d : BitVec 512) (h l : Nat) : Nat := bits d.toNat h l

/-- Cell that a selector of spaces 2 to 4 names: a slot for a cell, a global number for a Tacker (R95). -/
def selCell (by_ : Submitter) (sb : StartBlock) (sel : Nat) : Option Nat :=
  match by_ with
  | .cell _ => sb.cellOf (sel % 64)
  | .tacker _ => some (sel % 64)

/-- The slots a descriptor names are valid (R84). -/
def slotsOk (sb : StartBlock) (d : BitVec 512) : Bool :=
  let ok := fun (space sel : Nat) => decide (space < 2 ∨ 4 < space) || (sb.cellOf (sel % 64)).isSome
  ok (tfield d 139 136) (tfield d 147 140) && ok (tfield d 191 188) (tfield d 199 192)

/-- Row start addresses of a transfer side, signed. -/
def rowStarts (d : BitVec 512) (dst : Bool) : List Int :=
  let cnt := fun (i : Nat) => max 1 (tfield d (239 + 16 * (i - 1)) (224 + 16 * (i - 1)))
  let str := fun (i : Nat) => let o := (if dst then 368 else 272) + 32 * (i - 1); signed 32 (tfield d (o + 31) o)
  let a0 : Int := if dst then tfield d 187 148 else tfield d 135 96
  (List.range (cnt 3)).flatMap (fun z => (List.range (cnt 2)).flatMap (fun y => (List.range (cnt 1)).map (fun x =>
    a0 + z * str 3 + y * str 2 + x * str 1)))

/-- A side of a transfer names the cell store of cell h. -/
def sideIn (by_ : Submitter) (sb : StartBlock) (d : BitVec 512) (dst : Bool) (h : Nat) : Bool :=
  let space := if dst then tfield d 191 188 else tfield d 139 136
  let sel := if dst then tfield d 199 192 else tfield d 147 140
  space == 2 && decide (selCell by_ sb sel = some h)

/-- Cells whose stores a cell's transfer names. -/
def storeCells (sb : StartBlock) (d : BitVec 512) : List Nat :=
  [(tfield d 139 136, tfield d 147 140), (tfield d 191 188, tfield d 199 192)].filterMap (fun p =>
    if p.1 = 2 then sb.cellOf (p.2 % 64) else none)

/-- Lines of a side of a transfer. -/
def sideLines (d : BitVec 512) (dst : Bool) : List Nat := (rowStarts d dst).flatMap (fun r => linesOf r.toNat (tfield d 223 200))

/-- Issue order of a transfer among the operations of cell h. -/
def Transfer.orderIn (x : Transfer) (h : Nat) : Nat := match x.orders.find? (fun p => p.1 == h) with | some p => p.2 | none => 0

/-- A submitted transfer marks its lines in a cell's store, named by its LACE (spec/03 R79). -/
def markTransfer (x : Transfer) (s : State) (h : Nat) : State :=
  s.modCell h (fun c =>
    let m := fun (c : CellState) (dst : Bool) =>
      if sideIn x.by_ x.sb x.desc dst h then mark c (x.orderIn h) x.idx true 0 (!dst) dst (c.since + 2 ^ 48) (sideLines x.desc dst) else c
    { m (m c false) true with orders := c.orders + 1 })

/-- LACE: the descriptor is copied, DONE is cleared, and the transfer joins its Lacer (R95). -/
def opLace (s : State) (g : Nat) (w : BitVec 128) : State :=
  let c := s.cell g
  let a := fld w 111 95 * 32
  let d := BitVec.ofNat 512 (rdLE (storeByte c) a 64)
  let q := if fld w 94 92 = 4 then quarterOf g else fld w 94 92
  let n := q * 4 + fld w 91 90
  let l := lookup [] s.fabric.lacer n
  if 256 ≤ l.length ∨ s.fabric.lost.contains q then holdRetry s g w 7 else
  match signalOf c (tfield d 495 482) (tfield d 481 474) with
  | none => progError s g .syncRange
  | some _ =>
    if !slotsOk c.sb d then progError s g .syncRange else
    let wait := fld w 89 89 == 1
    let hs := (g :: storeCells c.sb d).dedup
    let x : Transfer := { tag := s.fabric.tag, by_ := .cell (cellNo g), desc := d, descAddr := a, sb := c.sb, wait := wait, idx := c.pc,
                          orders := hs.map (fun h => (h, (s.cell h).orders)) }
    let s := s.setCell g { c with store := storeBytes c.store (a + 62) [storeByte c (a + 62) &&& 0x7F] }
    let s := { s with fabric := { s.fabric with lacer := put [] s.fabric.lacer n (l ++ [x]), tag := s.fabric.tag + 1 } }
    let s := hs.foldl (markTransfer x) s
    if wait then holdIssue s g (.lace n x.tag) 0x80 else issued s g 1

/-- TPOST: a region leaves now, its lines read in this stitch (spec/03 R79), or a binding waits for the next posting matrix
macro-operation (R94). -/
def opTpost (s : State) (g : Nat) (w : BitVec 128) : State :=
  let c := s.cell g
  match c.sb.cellOf (fld w 111 106), signalOf c (fld w 105 92) (fld w 91 84) with
  | some peer, some k =>
    if fld w 119 119 = 1 then
      issued (s.setCell g { c with bind := some ⟨peer, k, fld w 91 84, fld w 61 40, fld w 39 24, fld w 118 118 == 1⟩ }) g 1
    else if 4 ≤ places c then holdRetry s g w 3 else
    let n := fld w 39 24 * 512
    let lines := linesOf (fld w 83 62) n
    let c := mark (touch c c.orders c.pc false 0 false lines) c.orders c.pc false 0 true false c.since lines
    let data := writeBytes [] 0 ((List.range n).map (fun i => storeByte c (fld w 83 62 + i)))
    let p : Post := ⟨peer, k, fld w 91 84, fld w 61 40, data, (List.range n).map (fun i => (i, true))⟩
    issued (s.setCell g { c with posts := c.posts ++ [p], postsSent := c.postsSent + 1, orders := c.orders + 1 }) g 1
  | _, _ => progError s g .syncRange

/-- Every earlier tail and tile-mode store is past after this stitch. -/
def lastFinal (c : CellState) : Nat := c.mats.foldl (fun m x => max m x.final) 0

/-- SIGSET and SIGADD: an update leaves for its fabric; with REL, or behind a held one, it is held (R96). The posts it waits for are
those sent before its issue stitch; that tiles which an earlier operation hands out later in its tail are not among them is the
model's choice (notes/assumptions/132). -/
def opSignal (add : Bool) (s : State) (g : Nat) (w : BitVec 128) : State :=
  let c := s.cell g
  match c.sb.device (fld w 111 98) with
  | none => progError s g .syncRange
  | some k =>
    let v := BitVec.ofNat 32 (fld w 95 64)
    let rel := fld w 119 119 == 1
    if rel || c.held.any (fun h => h.counter == k) then
      let h : Held := ⟨k, add, v, if rel then lastFinal c else 0, if rel then c.postsSent else 0⟩
      issued (s.setCell g { c with held := c.held ++ [h] }) g 1
    else
      let q := k / 4096
      issued { s with fabric := { s.fabric with updates := put [] s.fabric.updates q (lookup [] s.fabric.updates q ++ [⟨g, k, add, v⟩]) } } g 1

/-- SIGWAIT: satisfied at once, or frozen on SIGNAL_WAIT (R97). -/
def opSigwait (s : State) (g : Nat) (w : BitVec 128) : State :=
  match (s.cell g).sb.device (fld w 111 98) with
  | none => progError s g .syncRange
  | some k =>
    let target := BitVec.ofNat 32 (fld w 95 64)
    let equal := fld w 118 118 == 1
    let consume := fld w 119 119 == 1
    if sigMet s g k target equal consume then
      issued (if consume then s.setCounter k (s.counter k - target) else s) g 1
    else holdIssue s g (.signal k target equal consume) 0x20

/-- The last member's arrival releases every member and advances the generation (R98). -/
def releaseBarrier (s : State) (n : Nat) : State :=
  let b := lookup {} s.fabric.barrier n
  let s := { s with fabric := { s.fabric with barrier := put {} s.fabric.barrier n { b with arrived := [], gen := b.gen + 1 } } }
  b.members.foldl (fun s m => s.modCell m (fun c =>
    if c.wait = some (.barrier n) then { c with wait := none, stalls := 0 } else c)) s

/-- The stitch that a cell c has just moved on from stays requested: what its drain has moved is moved, and it is not counted until it
completes (spec/03 R58). -/
def stayRequested (s : State) (g : Nat) (c : CellState) (x : Option Wait) (causes : BitVec 8) : State :=
  s.modCell g (fun d => setStalls { d with since := c.since, stitchCount := c.stitchCount, stalls := c.stalls, wait := x, progressAt := s.now } causes)

/-- The cell arrives at network n, its stitch's own work being done: the last arrival releases every member and completes the stitch,
another leaves it requested (R98). -/
def arriveAt (s : State) (g : Nat) (c : CellState) (n : Nat) : State :=
  let b := lookup {} s.fabric.barrier n
  let arr := if b.arrived.contains g then b.arrived else b.arrived ++ [g]
  let s := { s with fabric := { s.fabric with barrier := put {} s.fabric.barrier n { b with arrived := arr } } }
  if b.members.all (fun m => arr.contains m) then releaseBarrier (s.modCell g (fun d => { d with wait := none })) n
  else stayRequested s g c (some (.barrier n)) 0x20

/-- BARRIER: it releases as R96 says, so it arrives when the row or tile that leaves in its own stitch is through and every earlier post
has landed; the frozen stitch moves a longer tail no further (R98, notes/assumptions/35). -/
def opBarrier (s : State) (g : Nat) (w : BitVec 128) : State :=
  let c := s.cell g
  match c.sb.netOf (fld w 111 109) with
  | none => progError s g .syncRange
  | some n =>
    if !(lookup {} s.fabric.barrier n).members.contains g then progError s g .syncRange else
    if c.mats.any (fun m => decide (c.since < m.final)) then holdRetry s g w 5 else
    let s' := completeStitch (s.setCell g { c with next := c.since + 1, nextPc := c.pc + 1, wait := some (.retry w 5) }) g
    let d := s'.cell g
    if d.since ≤ c.since ∨ d.st ≠ .running then s'
    else if !d.posts.isEmpty then stayRequested s' g c (some (.retry w 5)) 0x20
    else arriveAt s' g c n

/-! ### DRAIN and HALT -/

/-- Parts named in MASK that are not complete, by the cause that shows them (R93). -/
def partsLeft (s : State) (g mask : Nat) : BitVec 8 :=
  let c := s.cell g
  (if mask.testBit 1 && s.fabric.lacer.any (fun p => p.2.any (fun x => x.by_ = .cell (cellNo g))) then 0x80 else 0) |||
  (if mask.testBit 2 && !c.posts.isEmpty then 0x08 else 0) |||
  (if mask.testBit 3 && c.threads.any (fun t => t.2.status != 0) then 0x10 else 0)

/-- A full DRAIN hands the stall counters of the layer to the Tacker (spec/05 R140). -/
def handCounters (c : CellState) : CellState := { handStalls c with layersDone := c.layersDone + 1 }

/-- DRAIN or HALT is over. -/
def drainDone (s : State) (g mask : Nat) (halt : Bool) : State :=
  let c := { s.cell g with wait := none }
  let c := if mask = 15 then handCounters c else c
  let s := s.setCell g (if halt then { stopRun c with st := .idle, report := true, reportAt := s.now } else c)
  if mask = 15 then layerEnd s g else s

/-- A stitch of DRAIN or HALT: in the last one every tail is past, and it completes only when the parts are complete; until
then it stays requested, and what its drain has moved is moved (R93). -/
def drainStitch (s : State) (g mask until_ : Nat) (halt : Bool) : State :=
  let c := s.cell g
  let s' := completeStitch s g
  let c' := s'.cell g
  if c.since + 1 < until_ ∨ c'.since ≤ c.since ∨ c'.st ≠ .running then s' else
  let left := partsLeft s' g mask
  if left ≠ 0 then stayRequested s' g c c'.wait left
  else drainDone s' g mask halt

def opDrain (mask : Nat) (halt : Bool) (s : State) (g : Nat) (_w : BitVec 128) : State :=
  let c := s.cell g
  let r := c.mats.foldl (fun r m => max r (m.final + 1 - c.since)) 0
  let u := c.since + max 1 r
  let s := s.setCell g { c with wait := some (.drain mask u halt), next := u, nextPc := c.pc + 1 }
  drainStitch s g mask u halt

/-! ### Every macro-operation by its opcode -/

/-- What the sequencer does with a word that passed the check of R83. -/
def perform (s : State) (g : Nat) (w : BitVec 128) : State :=
  match opcode w with
  | 0x00 => opNop s g w
  | 0x01 => opDrain 15 true s g w
  | 0x02 => opWaits s g w
  | 0x03 => opDrain (fld w 119 116) false s g w
  | 0x04 => opHint s g w
  | 0x08 => opLoop s g w
  | 0x09 => opEndloop s g w
  | 0x10 => opMatrix .mma s g w
  | 0x11 => opMatrix .mmat s g w
  | 0x12 => opMatrix .conv s g w
  | 0x13 => opMatrix .dwc s g w
  | 0x14 => opGap s g w
  | 0x18 => opAwl s g w
  | 0x20 => opVrun s g w
  | 0x21 => opVthr s g w
  | 0x28 => opLace s g w
  | 0x29 => opTpost s g w
  | 0x30 => opSignal false s g w
  | 0x31 => opSignal true s g w
  | 0x32 => opSigwait s g w
  | 0x33 => opBarrier s g w
  | _ => progError s g .illegalOp

/-- The sequencer issues a word at a boundary (R83, R85): a waiting HALT_REQ is obeyed instead, a tile program's
instruction that is invalid in this stitch halts first, a word that breaks R83 halts the cell. -/
def issueWith (op : State → Nat → BitVec 128 → State) (s : State) (g : Nat) (w : BitVec 128) : State :=
  let c := s.cell g
  if c.haltReq then s.setCell g (haltReqObeyed c) else
  if 1023 < c.nextPc then s.setCell g (haltProg s.now c .pcOverrun) else
  match vectorPhase (vEnv s) c.since c c.mats with
  | .invalid c' => s.setCell g (haltProg s.now { c' with pc := c.nextPc } .illegalOp)
  | .blocked => s.setCell g (setStalls { c with progressAt := s.now } (c.stalls ||| 0x08))
  | .busy c' => (s.setCell g (setStalls { c' with progressAt := s.now } (c'.stalls ||| 0x10))).draw
  | .starved m => s.setCell g (setStalls { c with progressAt := s.now } (c.stalls ||| m))
  | .wrong b e => s.setCell g (cellFail s.now c b 0 e)
  | .ok _ =>
    let s := s.setCell g { c with pc := c.nextPc }
    if !wordOk w then progError s g .illegalOp else op s g w

/-- STITCH with every participant done (R57, R85, R100). -/
def stitchDone (s : State) (g : Nat) : State :=
  let c := s.cell g
  if !c.live then s else
  match c.wait with
  | some (.retry w _) => perform (s.setCell g { c with wait := none }) g w
  | some (.drain mask u halt) => drainStitch s g mask u halt
  | some _ => s
  | none =>
    if c.since < c.next then completeStitch s g
    else issueWith perform s g (imemWord c c.nextPc)

/-! ### The macro-operations as commands -/

/-- A macro-operation command: the word must be of the row; it acts at a boundary of a running cell. -/
def macroOp (code : Nat) (op : State → Nat → BitVec 128 → State) (g : CellNo) (w : BitVec 128) (s : State) :
    Host.Outcome State Fault Refusal :=
  if opcode w ≠ code then .refused .illFormed
  else .next (if atBoundary (s.cell g) then issueWith op s g w else s)

def execNop (g : CellNo) (w : BitVec 128) (s : State) : Host.Outcome State Fault Refusal := macroOp 0x00 opNop g w s
def execHalt (g : CellNo) (w : BitVec 128) (s : State) : Host.Outcome State Fault Refusal := macroOp 0x01 (opDrain 15 true) g w s
def execWaits (g : CellNo) (w : BitVec 128) (s : State) : Host.Outcome State Fault Refusal := macroOp 0x02 opWaits g w s
def execDrain (g : CellNo) (w : BitVec 128) (s : State) : Host.Outcome State Fault Refusal :=
  macroOp 0x03 (opDrain (fld w 119 116) false) g w s
def execHint (g : CellNo) (w : BitVec 128) (s : State) : Host.Outcome State Fault Refusal := macroOp 0x04 opHint g w s
def execLoop (g : CellNo) (w : BitVec 128) (s : State) : Host.Outcome State Fault Refusal := macroOp 0x08 opLoop g w s
def execEndloop (g : CellNo) (w : BitVec 128) (s : State) : Host.Outcome State Fault Refusal := macroOp 0x09 opEndloop g w s
def execMma (g : CellNo) (w : BitVec 128) (s : State) : Host.Outcome State Fault Refusal := macroOp 0x10 (opMatrix .mma) g w s
def execMmat (g : CellNo) (w : BitVec 128) (s : State) : Host.Outcome State Fault Refusal := macroOp 0x11 (opMatrix .mmat) g w s
def execConv (g : CellNo) (w : BitVec 128) (s : State) : Host.Outcome State Fault Refusal := macroOp 0x12 (opMatrix .conv) g w s
def execDwc (g : CellNo) (w : BitVec 128) (s : State) : Host.Outcome State Fault Refusal := macroOp 0x13 (opMatrix .dwc) g w s
def execGap (g : CellNo) (w : BitVec 128) (s : State) : Host.Outcome State Fault Refusal := macroOp 0x14 opGap g w s
def execAwl (g : CellNo) (w : BitVec 128) (s : State) : Host.Outcome State Fault Refusal := macroOp 0x18 opAwl g w s
def execVrun (g : CellNo) (w : BitVec 128) (s : State) : Host.Outcome State Fault Refusal := macroOp 0x20 opVrun g w s
def execVthr (g : CellNo) (w : BitVec 128) (s : State) : Host.Outcome State Fault Refusal := macroOp 0x21 opVthr g w s
def execLace (g : CellNo) (w : BitVec 128) (s : State) : Host.Outcome State Fault Refusal := macroOp 0x28 opLace g w s
def execTpost (g : CellNo) (w : BitVec 128) (s : State) : Host.Outcome State Fault Refusal := macroOp 0x29 opTpost g w s
def execSigset (g : CellNo) (w : BitVec 128) (s : State) : Host.Outcome State Fault Refusal := macroOp 0x30 (opSignal false) g w s
def execSigadd (g : CellNo) (w : BitVec 128) (s : State) : Host.Outcome State Fault Refusal := macroOp 0x31 (opSignal true) g w s
def execSigwait (g : CellNo) (w : BitVec 128) (s : State) : Host.Outcome State Fault Refusal := macroOp 0x32 opSigwait g w s
def execBarrier (g : CellNo) (w : BitVec 128) (s : State) : Host.Outcome State Fault Refusal := macroOp 0x33 opBarrier g w s

/-- A word whose opcode R91 does not list halts the cell with ILLEGAL_OP (R83). -/
def execUnassignedOpcode (g : CellNo) (w : BitVec 128) (s : State) : Host.Outcome State Fault Refusal :=
  if opTable.contains (opcode w) then .refused .illFormed
  else .next (if atBoundary (s.cell g) then issueWith (fun s g _ => progError s g .illegalOp) s g w else s)

end Sys2Proof.Machine
end

