-- ==== Sys2Proof/Machine/Cell.lean ====
section
/-! DEFINITION. A cell's own steps and its register page: STITCH, STITCH_HANG, HALT_OBEYED, START, HALT_REQ, FENCE,
CNT_CLR, the reads that clear, and the sentinel log (spec/03 R57 to R81, spec/04 R100, R101). -/

namespace Sys2Proof.Machine

/-- CELL_FAULT.BAD_CMD and IMEM_BUSY are not failures (R81). -/
def badCmd (c : CellState) : CellState := { c with fault := c.fault ||| 0x200 }

/-- A transfer's destination is a bank that START of cell g selects (spec/04 R101). -/
def intoBank (c : CellState) (g : Nat) (x : Transfer) : Bool :=
  let space := tfield x.desc 191 188
  let sel := tfield x.desc 199 192
  decide (selCell x.by_ x.sb sel = some g) && ((space == 3 && sel / 128 == c.ibank) || (space == 4 && sel / 128 == c.tbank))

/-- The oldest transfer of each submitter on a Lacer: those whose data may be on the move. -/
def headTransfers : List Transfer → List Transfer
  | [] => []
  | x :: l => x :: (headTransfers l).filter (fun y => y.by_ != x.by_)

/-- Tags of the Lacer writes into a selected bank that are in progress (spec/04 R101). -/
def bankWrites (s : State) (g : Nat) : List Nat :=
  s.fabric.lacer.flatMap (fun p => ((headTransfers p.2).filter (intoBank (s.cell g) g)).map (·.tag))

/-- START: macro-operation 0 of bank IBANK, state at START of R100, R104, R80 and R127. The sentinel's numbers go on, so that a transfer
submitted before it stays earlier than every operation of the run (R79). -/
def startRun (now : Nat) (c : CellState) : CellState :=
  { c with
    st := .running, pc := 0, nextPc := 0, since := 0, next := 0, actT := c.tbank, actI := c.ibank, loops := [], wait := none,
    mats := [], chainOpen := 0, bind := none, threads := [], threadRR := 0, vreg := [], pred := [], drainBuf := [],
    rmax := [], rsum := [], rscl := [], vctx := [], marks := c.marks.filter (·.lace), tileNow := none, violations := 0, sentLost := 0, sentLog := [],
    sentLatch := none, sentOn := c.sentCtrl, tileStatus := c.tileStatus &&& 0xFFFFFFFFFFFF, counts := {}, prog := none, report := false, haltReq := false,
    startHeld := false, startFor := [], pacing := false, late := none, eyes := [], rowReg := [], halves := [], handedTime := c.stallTime, handedEvents := c.stallEvents, lastLayer := none, layersDone := 0,
    stalls := 0, hints := [], held := [], postsSent := c.postsLanded + c.posts.length, progressAt := now, hangHeld := none }

def startCell (s : State) (g : Nat) : State :=
  let c := s.cell g
  if c.fence || decide (c.st = .running) || decide (c.st = .faulted) then s.setCell g (badCmd c)
  else if !(bankWrites s g).isEmpty then s.setCell g { c with startHeld := true, startFor := bankWrites s g }
  else s.setCell g (startRun s.now c)

/-- A transfer is over: a START held for it goes on once no other holds it (spec/04 R101). -/
def releaseStarts (s : State) (tag : Nat) : State :=
  (List.range 64).foldl (fun s g =>
    let c := s.cell g
    if !c.startHeld then s else
    let c := { c with startFor := c.startFor.filter (fun t => t != tag) }
    if c.startFor.isEmpty then s.setCell g (startRun s.now c) else s.setCell g c) s

/-- HALT_REQ: at once on SIGNAL_WAIT or LACE_WAIT, else at the next boundary; no effect where no run is (R81). -/
def haltRequest (s : State) (g : Nat) : State :=
  let c := s.cell g
  if c.fence ∨ c.st ≠ .running then s
  else if c.stalls &&& 0xA0 ≠ 0 then s.setCell g (haltReqObeyed c)
  else s.setCell g { c with haltReq := true }

/-- FENCE set: no stitch completes, what leaves the cell is dropped, the barriers it is a member of reset and the members
waiting there halt (R81, spec/04 R98). -/
def fenceCell (s : State) (g : Nat) : State :=
  let s := s.modCell g (fun c => { c with fence := true, posts := [], postsSent := c.postsLanded, held := [], startHeld := false,
                                          startFor := [] })
  let left := (s.fabric.updates.map (fun p => (p.1, p.2.filter (fun u => u.cell != g)))).filter (fun p => !p.2.isEmpty)
  let s := { s with fabric := { s.fabric with updates := left } }
  (List.range 64).foldl (fun s n =>
    let b := lookup {} s.fabric.barrier n
    if b.members.contains g then
      let s := b.members.foldl (fun s m => s.modCell m (fun c => if c.wait = some (.barrier n) then haltReqObeyed c else c)) s
      { s with fabric := { s.fabric with barrier := put {} s.fabric.barrier n { b with arrived := [] } } }
    else s) s

/-- FENCE cleared: FAULTED with a failure bit, IDLE otherwise (R81). -/
def unfenceCell (s : State) (g : Nat) : State :=
  s.modCell g (fun c => if c.fence then { stopRun c with fence := false, st := if failuresOf c ≠ 0 then .faulted else .idle } else c)

/-- CNT_CLR: all time and stall counters except STITCH_COUNT (R78, R81). -/
def clearCounters (c : CellState) : CellState :=
  { c with frozenTime := 0, paceTime := 0, runTime := 0, stallTime := [], stallEvents := [], handedTime := [], handedEvents := [] }

/-- A whole-word write of CELL_CTRL (R81): fence, banks, counters, halt, start. -/
def writeCtrl (s : State) (g : Nat) (v : Word) : State :=
  let s := if v.getLsbD 5 then (if (s.cell g).fence then s else fenceCell s g) else unfenceCell s g
  let s := s.modCell g (fun c => { c with tbank := bits v.toNat 1 1, ibank := bits v.toNat 0 0 })
  let s := if v.getLsbD 7 then s.modCell g clearCounters else s
  let s := if v.getLsbD 6 then haltRequest s g else s
  if v.getLsbD 4 then startCell s g else s

/-- A whole-word write of a cell's page; RO and reserved bits ignore it (R7, R8, R81). -/
def writeCell (s : State) (g off : Nat) (v : Word) : State :=
  if off = 0x008 then writeCtrl s g v
  else if off = 0x018 then
    s.modCell g (fun c =>
      let f := c.fault &&& ~~~(v.setWidth 10)
      { c with fault := f, faultInfo := if f.toNat % 256 = 0 then 0 else c.faultInfo })
  else if off = 0x028 then s.modCell g (fun c => { c with hangLimit := max 2 (bits v.toNat 9 0), hangHeld := none })
  else if off = 0x100 then s.modCell g (fun c => { c with sentCtrl := v.setWidth 3 })
  else s

/-- Whether the participant that a stall cause names can hold the present stitch: an empty eyelet or row operand register, the feeder
of a GAP, the drain of an operation in flight or its vector engine, which VRUN cannot freeze, the fetch at a boundary; the waits of
causes 5 and 7 begin with their macro-operations (spec/03 R66, R68; spec/04 R91, R100; spec/06 R147, R154). -/
def freezeOk (c : CellState) (cause : Nat) : Bool :=
  match cause with
  | 0 => (feedStalls c).getLsbD 0 || c.mats.any (fun m => m.kind == .gap && decide (c.since < m.issue + m.b))
  | 1 => (feedStalls c).getLsbD 1
  | 2 => (feedStalls c).getLsbD 2
  | 3 => c.mats.any (fun m => m.kind != .vrun)
  | 4 => c.mats.any (fun m => m.kind != .vrun && decide (m.len + m.proLen ≠ 0))
  | 6 => c.wait.isNone && decide (c.next ≤ c.since)
  | _ => false

/-- Stall causes that hold on by themselves: an empty eyelet, a posted tile without a place, the parts a DRAIN waits for, and what the
present macro-operation waits for (R68, spec/04 R93 to R98). -/
def heldCauses (s : State) (g : Nat) : BitVec 8 :=
  let c := s.cell g
  feedStalls c ||| (if c.mats.any (drainBlocked c c.since) then 8 else 0) |||
  (match c.wait with
    | some (.retry _ k) => 1 <<< k
    | some (.drain mask _ _) => partsLeft s g mask
    | some (.signal ..) | some (.barrier _) => 0x20
    | some (.lace ..) => 0x80
    | none => 0)

/-- A stall cause ends: its participant is ready, and nothing holds on to it (R78). -/
def causeEnds (s : State) (g cause : Nat) : State :=
  let m := s.cell g |>.stalls
  if (s.cell g).live && m.getLsbD cause && !(heldCauses s g).getLsbD cause then s.modCell g (fun c => { c with stalls := m &&& ~~~((1 : BitVec 8) <<< cause) }) else s

/-- The words of a split sum: each partial's word i, and their sum in ascending partition order (spec/02 R48). -/
def splitAcc (c : CellState) (x : SplitSum) (i : Nat) : Acc :=
  match x.parts.map (fun a => BitVec.ofNat 32 (rdLE (storeByte c) (a.toNat + 4 * i) 4)) with
  | [] => ⟨0, false, false, false⟩
  | p :: l => if x.int then splitSumI l ⟨p, false, false, false⟩ else splitSumF l ⟨p, false, false, (f32 p).isNan⟩

/-- The partial results that a split reduction leaves in the cell store are added word by word; a sum that took a bound marks the tile
with ACC_SAT, one that met a NaN with NAN_IN (spec/02 R47, R48). That one event performs the sum of a tile is the model's choice
(notes/assumptions/25). -/
def addPartials (c : CellState) (x : SplitSum) : CellState :=
  let l := (List.range x.words.val).map (splitAcc c x)
  let sat := l.any (·.sat)
  { c with
    store := storeBytes c.store x.dst.toNat (l.flatMap (fun a => leBytes 4 a.val.toNat))
    tileStatus := c.tileStatus ||| (if l.any (·.nanIn) then 2 else 0) ||| (if sat then 1 else 0)
    counts := if sat then { c.counts with accSat := satAdd 32 c.counts.accSat 1 } else c.counts }

/-- What a stitch event does (R57, R58, R62, R67, R70, R77, R78). -/
def stitchEvent (s : State) (g : Nat) : StitchEvent → State
  | .done => stitchDone s g
  | .freeze cause =>
    s.modCell g (fun c => if !c.live || !freezeOk c cause.val then c else setStalls { c with progressAt := s.now } (c.stalls ||| (1 <<< cause.val)))
  | .ready cause => causeEnds s g cause.val
  | .feed e => s.modCell g (fun c => if !c.live then c else feedEye c e.val)
  | .combine x => s.modCell g (fun c => if !c.live then c else addPartials c x)
  | .paced => s.modCell g (fun c => if !c.live || c.stalls != 0 then c else { c with pacing := true, progressAt := s.now })
  | .skew e => s.modCell g (fun c => if !c.live || !popsNow c e.val then c else cellFail s.now c 6 0 e.val)
  | .parity e => s.modCell g (fun c => if !c.live || !popsNow c e.val then c else cellFail s.now c 5 0 e.val)
  | .uncorrectable m a => count2601 (s.modCell g (fun c => wordFails s.now c m.val a.toNat)) 6 1
  | .corrected m =>
    correctedCell (s.modCell g (fun c =>
      let c := { c with corrected := satAdd 32 c.corrected 1 }
      match m.val with
      | 0 => { c with ceStore := satAdd 16 c.ceStore 1 }
      | 1 => { c with ceBbuf := satAdd 16 c.ceBbuf 1 }
      | _ => { c with ceOther := satAdd 16 c.ceOther 1 }))

def execStitch (g : CellNo) (ev : StitchEvent) (s : State) : Host.Outcome State Fault Refusal := .next (stitchEvent s g.val ev)

/-- STITCH_HANG: RUNNING, no stall cause, no stitch, stall or pacing for LIMIT_US (R63). -/
def hang (s : State) (g : Nat) : State :=
  s.modCell g (fun c =>
    if c.live && c.stalls == 0 && decide (c.hangHeld.getD c.hangLimit * 1000 ≤ s.now - c.progressAt) then cellFail s.now c 7 0 0 else c)

def execStitchHang (g : CellNo) (s : State) : Host.Outcome State Fault Refusal := .next (hang s g.val)

def execStart (g : CellNo) (s : State) : Host.Outcome State Fault Refusal := .next (startCell s g.val)

def execHaltReq (g : CellNo) (s : State) : Host.Outcome State Fault Refusal := .next (haltRequest s g.val)

def execCntClr (g : CellNo) (s : State) : Host.Outcome State Fault Refusal := .next (s.modCell g.val clearCounters)

/-- The read of an RC field returns it and clears it; an event in the same window is counted after the clear (R7, R9). -/
def readClear (s : State) (f : RcField) (n : Nat) : State :=
  match f with
  | .eccCe g bbuf other =>
    let v := cellReg s g.val 0x030
    let s := s.modCell g.val (fun c => { c with ceOther := min other 65535, ceBbuf := min bbuf 65535, ceStore := min n 65535 })
    { s with dev := { s.dev with regOut := v } }
  | .lateInfo k =>
    let v := at_ (lookup 0 s.causes.lateCount k.val) 32 + lookup 0 s.causes.lateLast k.val
    { s with causes := { s.causes with lateCount := put 0 s.causes.lateCount k.val (min n (2 ^ 32 - 1)) },
             dev := { s.dev with regOut := BitVec.ofNat 64 v } }
  | .noticeLost k =>
    { s with causes := { s.causes with noticeLost := put 0 s.causes.noticeLost k.val (min n (2 ^ 32 - 1)) },
             dev := { s.dev with regOut := BitVec.ofNat 64 (lookup 0 s.causes.noticeLost k.val) } }
  | .highestWindow =>
    { s with power := { s.power with highest := n }, dev := { s.dev with regOut := BitVec.ofNat 64 s.power.highest } }

def execReadClear (f : RcField) (concurrent : Nat) (s : State) : Host.Outcome State Fault Refusal := .next (readClear s f concurrent)

/-- A SENT_LOG word: the low word latches the high word of the same entry (R81). -/
def sentRead (s : State) (g e : Nat) (high : Bool) : State :=
  let c := s.cell g
  let v := sentEntry c e
  if high then
    let h := match c.sentLatch with | some (e', h) => if e' = e then h else BitVec.ofNat 64 (v / 2 ^ 64) | none => BitVec.ofNat 64 (v / 2 ^ 64)
    let latch := match c.sentLatch with | some (e', x) => if e' = e then none else some (e', x) | none => none
    { s.setCell g { c with sentLatch := latch } with dev := { s.dev with regOut := h } }
  else { s.setCell g { c with sentLatch := some (e, BitVec.ofNat 64 (v / 2 ^ 64)) } with dev := { s.dev with regOut := BitVec.ofNat 64 v } }

def execSentLogRead (g : CellNo) (e : Fin 32) (high : Bool) (s : State) : Host.Outcome State Fault Refusal :=
  .next (sentRead s g.val e.val high)

end Sys2Proof.Machine
end

