-- ==== Sys2Proof/Machine/Fabric.lean ====
section
/-! DEFINITION. The quarter fabric: Lacer transfers (spec/04 R95, R101; spec/06 R157), the Awl (spec/06 R148 to R151),
TPOST landing (spec/04 R94, spec/05 R137), counter updates (R96) and the steps of hardware threads (spec/05 R119). -/

namespace Sys2Proof.Machine

/-! ### Memory outside the cells -/

/-- Bytes of LPDDR6 of the grade (spec/00 R1, R2). -/
def lpddrSize : Nat := if Config.grade64 then 0x1000000000 else 0x800000000

/-- Bytes of LPDDR6 in a quarter's region (spec/01 R16). -/
def quarterRegion : Nat := lpddrSize / 4

/-- The address lies in the channels of a lost quarter (spec/01 R25, R26). -/
def lostAddr (s : State) (a : Nat) : Bool := s.fabric.lost.contains (a / quarterRegion)

/-- Uncorrectable LPDDR6 words among n bytes, and whether some of them lie in a lost quarter. -/
def badIn (s : State) (a n : Nat) : List Nat := (s.fabric.bad.filter (fun p => p.1 == 0 && decide (a < p.2 + 8 ∧ p.2 < a + n))).map (·.2)
def lostIn (s : State) (a n : Nat) : Bool :=
  (List.range 4).any (fun q => s.fabric.lost.contains q && decide (q * quarterRegion < a + n ∧ a < (q + 1) * quarterRegion))

/-- Bytes of a space of R95. -/
def spaceSize (space : Nat) : Nat :=
  match space with
  | 0 => lpddrSize
  | 1 | 5 => 0x2000000
  | 2 => 0x400000
  | 3 => 0x4000
  | 4 => 0x2000
  | _ => 0

/-- Where a selector of a space points: quarter of a map store, or cell (and bank in bit 7 of sel). -/
def placeOf' (by_ : Submitter) (sb : StartBlock) (space sel : Nat) : Option Nat :=
  match space with
  | 0 | 5 => some 0
  | 1 => some (if sel = 4 then (match by_ with | .cell g => quarterOf g.val | .tacker t => t.val / 4) else sel)
  | 2 | 3 | 4 => selCell by_ sb sel
  | _ => none

/-- Parts of a channel's staging SRAM, in the order of R276: a write there lands in the part it falls in. -/
def stagingRead (ch : Chan) (o : Nat) : Byte :=
  if o < 0x10000 then 0 else if o < 0x500000 then readByte ch.ring (o - 0x10000)
  else if o < 0x800000 then readByte ch.stream (o - 0x500000)
  else readByte (lookup {} ch.arm ((o - 0x800000) / 0x400000)).data ((o - 0x800000) % 0x400000)
def stagingWrite (ch : Chan) (o : Nat) (b : Byte) : Chan :=
  if o < 0x10000 then ch else if o < 0x500000 then { ch with ring := writeByte ch.ring (o - 0x10000) b }
  else if o < 0x800000 then { ch with stream := writeByte ch.stream (o - 0x500000) b }
  else
    let k := (o - 0x800000) / 0x400000
    let x := lookup {} ch.arm k
    { ch with arm := put {} ch.arm k { x with data := writeByte x.data ((o - 0x800000) % 0x400000) b } }

/-- One byte of a space; `p` is its place, `sel` carries the bank. -/
def spaceRead (s : State) (space p sel a : Nat) : Byte :=
  match space with
  | 0 => readByte s.fabric.lpddr a
  | 1 => readByte s.fabric.mapStore (p * 33554432 + a)
  | 2 => readByte (s.cell p).store a
  | 3 => readByte (s.cell p).imem (sel / 128 * 16384 + a)
  | 4 => readByte (s.cell p).tmem (sel / 128 * 8192 + a)
  | _ => stagingRead (s.chan (a / 16777216)) (a % 16777216)

/-- A write makes an uncorrectable word readable again and remembers that it once failed (spec/10 R256, R257). -/
def rewritten (s : State) (space addr len : Nat) : State :=
  let hit := s.fabric.bad.filter (fun p => p.1 == space && decide (addr ≤ p.2 ∧ p.2 < addr + len))
  if hit.isEmpty then s else
  { s with fabric := { s.fabric with bad := s.fabric.bad.filter (fun p => !hit.contains p),
                                     failedBefore := (s.fabric.failedBefore ++ hit).dedup } }

/-- A write into a memory of a cell makes its words readable again (spec/10 R256). -/
def readable (c : CellState) (memory addr len : Nat) : CellState :=
  { c with badWords := c.badWords.filter (fun b => !(b.1 == memory && decide (addr / 8 * 8 ≤ b.2 ∧ b.2 < addr + len))) }

/-- Write bytes into a space. -/
def spaceWrite (s : State) (space p sel a : Nat) (l : List Byte) : State :=
  match space with
  | 0 => rewritten { s with fabric := { s.fabric with lpddr := writeBytes s.fabric.lpddr a l } } 0 a l.length
  | 1 => rewritten { s with fabric := { s.fabric with mapStore := writeBytes s.fabric.mapStore (p * 33554432 + a) l } } 1 (p * 33554432 + a) l.length
  | 2 => s.modCell p (fun c => readable { c with store := writeBytes c.store a l } 0 a l.length)
  | 3 => s.modCell p (fun c => readable { c with imem := writeBytes c.imem (sel / 128 * 16384 + a) l } 2 (sel / 128 * 16384 + a) l.length)
  | 4 => s.modCell p (fun c => readable { c with tmem := writeBytes c.tmem (sel / 128 * 8192 + a) l } 3 (sel / 128 * 8192 + a) l.length)
  | _ => (l.mapIdx (fun i b => (i, b))).foldl (fun s q =>
      let ad := a + q.1
      s.setChan (ad / 16777216) (stagingWrite (s.chan (ad / 16777216)) (ad % 16777216) q.2)) s

/-- Owner tag of an LPDDR6 line (spec/10 R255). -/
def ownerTag (s : State) (addr : Nat) : BitVec 16 := lookup 0 s.fabric.tags (addr / 32)

/-- The words of all spaces on one line each: an address by space, place and bank, as `Fabric.bad` names it. -/
def wordKey (space p sel a : Nat) : Nat :=
  match space with
  | 2 => p * 0x400000 + a
  | 3 => p * 0x8000 + sel / 128 * 0x4000 + a
  | 4 => p * 0x4000 + sel / 128 * 0x2000 + a
  | _ => flatAddr space p a

/-- The space and key of a word that an event names; a memory no transfer reads has none. -/
def eventKey : ScrubPlace → Option (Nat × Nat)
  | .lpddr a => some (0, a.toNat)
  | .mapStore q a => some (1, q.val * 33554432 + a.toNat)
  | .cell g m a =>
    match m.val with
    | 0 => some (2, g.val * 0x400000 + a.toNat)
    | 2 => some (3, g.val * 0x8000 + a.toNat % 0x8000)
    | 3 => some (4, g.val * 0x4000 + a.toNat % 0x4000)
    | _ => none
  | .staging ch a => some (5, ch.val * 16777216 + a.toNat)
  | .retained _ | .firmware _ => none

/-! ### Errors of the map store and of LPDDR6 -/

/-- The job of a cell retires FAULT with a code: its cell reports to its Tacker (spec/04 R95). -/
def jobFault (s : State) (g : Nat) (why : JobFault) : State :=
  s.modCell g (fun c => if c.prog.isSome then c else { c with prog := some why, report := true, reportAt := s.now })

/-- The job of a cell's present run is brought into a replay: the cell reports to its Tacker (spec/04 R94, spec/10 R257). -/
def jobReplay (s : State) (g : Nat) : State :=
  let sb := (s.cell g).sb
  { s with jobs := s.jobs.map (fun (j : Job) => if j.id = sb.job ∧ j.runs = sb.run then { j with needReplay := true } else j) }.modCell g
    (fun c => { c with report := true, reportAt := s.now })

/-- An uncorrectable word of the map store or LPDDR6 is recorded (spec/10 R257): counted, UE raised with the owner tag; a
word that fails again after a rewrite is HARD and its 64 KiB page is withdrawn. -/
def memUncorrectable (s : State) (space addr : Nat) : State :=
  let lp := decide (space = 0)
  let grp := if lp then gMem else gSram
  let tag := if lp then (ownerTag s addr).toNat else 0
  let s := count2601 s (if lp then 8 else 6) 1
  let s := raise s (.main grp 0) tag addr
  let again := s.fabric.failedBefore.any (fun p => p.1 == space && p.2 == addr)
  if again then
    raise { s with fabric := { s.fabric with withdrawn := (s.fabric.withdrawn ++ [(space, addr / 65536)]).dedup } } (.main grp 3) tag addr
  else s

/-- A job's read met such a word: replay on the same placement where the job wrote it in this run, else FAULT. -/
def jobUncorrectable (s : State) (g space addr : Nat) : State :=
  let again := s.fabric.failedBefore.any (fun p => p.1 == space && p.2 == addr)
  let own := decide (lookup 0 s.fabric.writer (lineKey space addr) = runKey (s.cell g).sb)
  let s := memUncorrectable s space addr
  if own && !again then jobReplay s g else jobFault s g .laceError

/-- A word of a cell's memory that a Lacer or the Awl read is uncorrectable: that cell fails (spec/03 R77). -/
def cellWordBad (s : State) (space key : Nat) : State :=
  let size := if space = 2 then 0x400000 else if space = 3 then 0x8000 else 0x4000
  count2601 (s.modCell (key / size) (fun c => wordFails s.now c (if space = 2 then 0 else space - 1) (key % size))) 6 1

/-- The read of a cell's job met an uncorrectable word (R95, spec/06 R151, spec/10 R257). What it does to the job where the
word lies in the port staging SRAM is the model's choice (notes/assumptions/102). -/
def sourceBad (s : State) (g : Nat) (same : Bool) (space key : Nat) : State :=
  let s := if space = 5 then scrubStaging s (key / 16777216) (key % 16777216) else s
  if 2 ≤ space ∧ space ≤ 4 then cellWordBad s space key
  else if !same then (if space ≤ 1 then memUncorrectable s space key else s)
  else if space ≤ 1 then jobUncorrectable s g space key
  else jobFault s g .laceError

/-- The uncorrectable words of a space that a reader meets: those known, and the one that now fails. -/
def badWords (s : State) (space : Nat) (e : TransferErr) : List Nat :=
  let known := if space = 5 then [0, 1].flatMap (fun ch => (s.chan ch).bad.map (fun o => ch * 16777216 + o))
    else if 2 ≤ space then s.cells.flatMap (fun p => (p.2.badWords.filter (fun b => decide (b.1 = (if space = 2 then 0 else space - 1)))).map
      (fun b => p.1 * (if space = 2 then 0x400000 else if space = 3 then 0x8000 else 0x4000) + b.2))
    else (s.fabric.bad.filter (fun b => b.1 == space)).map (·.2)
  match e with
  | .word p => (match eventKey p with | some k => if k.1 = space then known ++ [k.2] else known | none => known)
  | _ => known

/-- A word that failed stands uncorrectable until it is rewritten (spec/10 R257). -/
def remember (s : State) (space key : Nat) : State :=
  if 1 < space ∨ s.fabric.bad.contains (space, key) then s else { s with fabric := { s.fabric with bad := s.fabric.bad ++ [(space, key)] } }

/-! ### Lacer transfers -/

def codecOf (d : BitVec 512) : Nat := tfield d 473 471
def count0 (d : BitVec 512) : Nat := tfield d 223 200

/-- Whether a selector is one its space has (R95). -/
def selOk (space sel : Nat) : Bool :=
  match space with
  | 0 | 5 => sel == 0
  | 1 => decide (sel ≤ 4)
  | 2 => decide (sel < 64)
  | 3 | 4 => decide (sel % 128 < 64)
  | _ => false

/-- The stride fields a transfer uses: CODEC 1 and 2 ignore those of the destination, 3 and 4 those of the source
(spec/06 R157). Field i stands at bit 272 + 32 i. -/
def stridesUsed (d : BitVec 512) : List Nat :=
  (if codecOf d = 3 ∨ codecOf d = 4 then [] else [0, 1, 2]) ++ (if codecOf d = 1 ∨ codecOf d = 2 then [] else [3, 4, 5])

/-- Reserved codes and bits and misaligned fields (R95), and the rules of FMC transfers (spec/06 R157). -/
def descValid (d : BitVec 512) : Bool :=
  onlyBits 512 d.toNat [(511, 503), (495, 471), (463, 96)] && decide (codecOf d ≤ 4) &&
  selOk (tfield d 139 136) (tfield d 147 140) && selOk (tfield d 191 188) (tfield d 199 192) &&
  decide (count0 d % 32 = 0) && decide (32 ≤ count0 d) && decide (tfield d 135 96 % 32 = 0) && decide (tfield d 187 148 % 32 = 0) &&
  (stridesUsed d).all (fun i => decide (tfield d (272 + 32 * i + 31) (272 + 32 * i) % 32 = 0)) &&
  (codecOf d == 0 || decide (count0 d % 128 = 0))

/-- Bytes moved on the full side. -/
def totalBytes (d : BitVec 512) : Nat := (rowStarts d false).length * count0 d

/-- Contiguous or strided rows of a side: (start, bytes), as CODEC asks (R157). -/
def sideRows (d : BitVec 512) (dst : Bool) : List (Int × Nat) :=
  let packed := fun (a : Nat) => [((a : Int), totalBytes d / (if codecOf d % 2 = 1 then 2 else 4))]
  if dst && (codecOf d == 1 || codecOf d == 2) then packed (tfield d 187 148)
  else if !dst && (codecOf d == 3 || codecOf d == 4) then packed (tfield d 135 96)
  else (rowStarts d dst).map (fun a => (a, count0 d))

def rangeOk (space : Nat) (rows : List (Int × Nat)) : Bool :=
  rows.all (fun r => decide (0 ≤ r.1 ∧ r.1 + r.2 ≤ spaceSize space))

/-- Bursts of 32 bytes of a side. -/
def burstsOf (rows : List (Int × Nat)) : List Nat :=
  rows.flatMap (fun r => (List.range (r.2 / 32)).map (fun i => r.1.toNat + 32 * i))

/-- Reading the source until a tag mismatch (4) or an uncorrectable word (5): bytes, status, address. -/
def readBursts (s : State) (tag : BitVec 16) (bad : List Nat) (space p sel : Nat) : List Nat → List Byte → List Byte × Nat × Nat
  | [], acc => (acc, 0, 0)
  | a :: l, acc =>
    if space = 0 ∧ ownerTag s a ≠ tag then (acc, 4, a) else
    match bad.find? (fun b => decide (wordKey space p sel a ≤ b ∧ b < wordKey space p sel a + 32)) with
    | some b => (acc, 5, b)
    | none => readBursts s tag bad space p sel l (acc ++ (List.range 32).map (fun i => spaceRead s space p sel (a + i)))

/-- Writing the destination until a tag mismatch. -/
def writeBursts (s : State) (sb : StartBlock) (space p sel : Nat) : List Nat → List Byte → State × Nat × Nat
  | [], _ => (s, 0, 0)
  | a :: l, bs =>
    if bs.length < 32 then (s, 0, 0)
    else if space = 0 ∧ ownerTag s a ≠ sb.tag then (s, 4, a)
    else
      let s := spaceWrite s space p sel a (bs.take 32)
      let s := if space ≤ 1 then
          { s with fabric := { s.fabric with writer := put 0 s.fabric.writer (lineKey space (flatAddr space p a)) (runKey sb) } } else s
      writeBursts s sb space p sel l (bs.drop 32)

/-- A space that names a fenced cell, or memory of a lost quarter, which is fenced whole (spec/01 R26). -/
def fencedPlace (s : State) (space p : Nat) (rows : List (Int × Nat)) : Bool :=
  match space with
  | 0 => s.fabric.lost.any (fun q => rows.any (fun r => decide (r.1 < (q + 1) * quarterRegion ∧ (q * quarterRegion : Int) < r.1 + r.2)))
  | 1 => s.fabric.lost.contains p
  | 2 | 3 | 4 => (s.cell p).fence
  | _ => false

/-- The destination is a bank that runs, or one that a held START has selected and waits for other transfers (R101). -/
def bankActive (c : CellState) (tag space sel : Nat) : Bool :=
  let b := sel / 128
  ((space == 3 && b == (if c.startHeld then c.ibank else c.actI)) || (space == 4 && b == (if c.startHeld then c.tbank else c.actT))) &&
  (c.st == .running || (c.startHeld && !c.startFor.contains tag))

/-- Lacer accesses to a cell's store meet the sentinel under the number of their LACE (spec/03 R79). -/
def touchSide (x : Transfer) (dst : Bool) (s : State) (h : Nat) : State :=
  if sideIn x.by_ x.sb x.desc dst h then s.modCell h (fun c => touch c (x.orderIn h) x.idx true 0 dst (sideLines x.desc dst)) else s

/-- The transfer's data move, and its status (R95). -/
def moveData (s : State) (x : Transfer) (e : TransferErr) : State × Nat × Nat :=
  let d := x.desc
  let ss := tfield d 139 136
  let ds := tfield d 191 188
  let ssel := tfield d 147 140
  let dsel := tfield d 199 192
  let src := sideRows d false
  let dst := sideRows d true
  if !descValid d then (s, 3, 0) else
  match placeOf' x.by_ x.sb ss ssel, placeOf' x.by_ x.sb ds dsel with
  | some sp, some dp =>
    if !rangeOk ss src || !rangeOk ds dst then (s, 2, 0)
    else if fencedPlace s ss sp src || fencedPlace s ds dp dst then (s, 6, 0)
    else if bankActive (s.cell dp) x.tag ds dsel then
      (raiseCell (s.modCell dp (fun c => { c with fault := c.fault ||| 0x100 })) dp, 1, 0)
    else
      let s := (x.orders.map (·.1)).foldl (touchSide x true) ((x.orders.map (·.1)).foldl (touchSide x false) s)
      let r := readBursts s x.sb.tag (badWords s ss e) ss sp ssel (burstsOf src) []
      let w := writeBursts s x.sb ds dp dsel (burstsOf dst) (fmcCode (codecOf d) r.1)
      if w.2.1 ≠ 0 then w else (w.1, r.2)
  | _, _ => (s, 3, 0)

/-- A completed transfer's status and DONE land in the descriptor of a submitting cell (R95). -/
def writeStatus (s : State) (g a status : Nat) : State :=
  s.modCell g (fun c => { c with store := storeBytes (storeBytes c.store (a + 62) [storeByte c (a + 62) ||| 0x80]) (a + 63) [BitVec.ofNat 8 status] })

/-- A transfer's marks go in every cell whose store it named (spec/03 R79). -/
def dropTransfer (x : Transfer) (s : State) (h : Nat) : State :=
  s.modCell h (fun c => { c with marks := c.marks.filter (fun m => !(m.lace && m.order == x.orderIn h)) })

/-- What the end of a transfer does in the cell that submitted it: status, program error, counter update, and the release
of LACE with WAIT; a cell in another run of its job has nothing to do with it but the word (R95). -/
def tellSubmitter (s : State) (n g : Nat) (x : Transfer) (status space key : Nat) : State :=
  let c := s.cell g
  if c.fence then (if status = 5 then sourceBad s g false space key else s) else
  let same := sameRun c x.sb
  let s := writeStatus s g x.descAddr status
  let s := if status = 2 ∨ status = 3 ∨ status = 4 then (if same then jobFault s g .laceError else s)
    else if status = 5 then sourceBad s g same space key else s
  let s := if status = 5 ∨ status = 6 then s
    else match x.sb.device (tfield x.desc 495 482) with | some k => bumpSignal s g k (tfield x.desc 481 474) | none => s
  if status = 2 ∨ status = 3 ∨ status = 4 then s
  else s.modCell g (fun c => if c.wait = some (.lace n x.tag) then { c with wait := none, stalls := 0 } else c)

/-! ### Programs and resident data that a Tacker brings in (R101, spec/08 R227) -/

/-- Bytes of a list of words. -/
def wordBytes (n : Nat) (l : List Nat) : List Byte := l.flatMap (leBytes n)

/-- The cell's store holds the slot's resident weights (spec/08 R199). -/
def holdsWeights (c : CellState) (p : SlotProg) : Bool := p.weights.all (fun d => readByte c.store d.1 == d.2)

def imBytes (p : SlotProg) : List Byte := wordBytes 16 (p.imem.map (·.toNat))
def tmBytes (p : SlotProg) : List Byte := wordBytes 8 (p.tmem.map (·.toNat))

/-- The selected banks and the store hold the slot's program and resident data. -/
def holdsProgram (c : CellState) (p : SlotProg) : Bool :=
  c.resident == some p && holdsWeights c p && readBytes c.imem (c.ibank * 16384) (imBytes p).length == imBytes p &&
  readBytes c.tmem (c.tbank * 8192) (tmBytes p).length == tmBytes p

/-- The slot's program in instruction bank ib and the other tile-program bank, which are selected, and its resident data. -/
def loadProgram (ib : Nat) (p : SlotProg) (c : CellState) : CellState :=
  let tb := 1 - c.tbank
  let st := p.weights.foldl (fun m d => writeByte m d.1 d.2) c.store
  let st := p.data.foldl (fun m d => writeByte m d.1 d.2) st
  let st := p.descs.foldl (fun m d => writeBytes m (d.1 * 32) (leBytes 32 d.2.toNat)) st
  let st := p.awls.foldl (fun m d => writeBytes m (d.1 * 32) (leBytes 64 d.2.toNat)) st
  { c with ibank := ib, tbank := tb, imem := writeBytes c.imem (ib * 16384) (imBytes p), tmem := writeBytes c.tmem (tb * 8192) (tmBytes p), store := st,
           resident := some p }

/-- The descriptor of a load: n bytes of LPDDR6 at a into an instruction bank of cell g. -/
def loadDesc (g ib a n : Nat) : BitVec 512 := BitVec.ofNat 512 (at_ n 200 + at_ (ib * 128 + g) 192 + at_ 3 188 + at_ a 96)

/-- The Lacer of a quarter that takes a Tacker's transfer: the first with a free place (R95). -/
def lacerFor (s : State) (q : Nat) : Nat :=
  q * 4 + ((List.range 4).find? (fun l => decide ((lookup [] s.fabric.lacer (q * 4 + l)).length < 256))).getD 0

/-- The Tacker of cell g submits a load of n bytes at a; its transfers take their owner tag from the Laster (R95). Where in an
allocation a slot's program stands, and that one transfer stands for all that a slot needs, are the model's choices
(notes/assumptions/134). -/
def submitLoad (s : State) (g : Nat) (p : SlotProg) (sb : StartBlock) (a n : Nat) : State :=
  let l := lacerFor s (quarterOf g)
  let x : Transfer := { tag := s.fabric.tag, by_ := .tacker (Fin.ofNat 16 (g / 4)), desc := loadDesc g (1 - (s.cell g).ibank) a n, descAddr := 0,
                        sb := sb, wait := false, idx := 0, load := some (g, p) }
  { s with fabric := { s.fabric with lacer := put [] s.fabric.lacer l (lookup [] s.fabric.lacer l ++ [x]), tag := s.fabric.tag + 1 } }

/-- The tag of a load of p to cell g that is on its way. -/
def loadTag (s : State) (g : Nat) (p : SlotProg) : Option Nat :=
  (s.fabric.lacer.flatMap (·.2)).findSome? (fun x => if x.load = some (g, p) then some x.tag else none)

/-- The START that waited for a load is not made. -/
def dropStart (s : State) (g : Nat) : State := s.modCell g (fun c => { c with startHeld := false, startFor := [] })

/-- The end of a load: it is handled with the job for which it was made (R95, spec/10 R257). -/
def loadDone (s : State) (x : Transfer) (g : Nat) (p : SlotProg) (e : TransferErr) : State :=
  let c := s.cell g
  let a := tfield x.desc 135 96
  let n := count0 x.desc
  let sel := tfield x.desc 199 192
  let mine := c.startHeld && c.startFor.contains x.tag
  if fencedPlace s 0 0 [((a : Int), n)] || c.fence then dropStart s g
  else if bankActive c x.tag 3 sel then raiseCell (s.modCell g (fun c => { c with fault := c.fault ||| 0x100 })) g
  else
    let r := (readBursts s x.sb.tag (badWords s 0 e) 0 0 0 (burstsOf [((a : Int), n)]) []).2
    if r.1 = 0 then s.modCell g (loadProgram (sel / 128) p)
    else
      let s := if mine then dropStart s g else s
      let s := if r.1 = 4 then raise (count2601 s 9 1) (.main gMem 1) (ownerTag s r.2).toNat r.2 else remember s 0 r.2
      if r.1 = 4 then (if mine then jobFault s g .laceError else s)
      else if mine then jobUncorrectable s g 0 r.2 else memUncorrectable s 0 r.2

/-- The end of a transfer that moves data: status, counter update, program error, release of LACE with WAIT (R95). -/
def dataDone (s : State) (n : Nat) (x : Transfer) (e : TransferErr) : State :=
  let ss := tfield x.desc 139 136
  let r := moveData s x e
  let s := (x.orders.map (·.1)).foldl (dropTransfer x) r.1
  let status := r.2.1
  let s := if status = 4 then raise (count2601 s 9 1) (.main gMem 1) (ownerTag s r.2.2).toNat r.2.2 else s
  let s := if status = 5 then remember s ss r.2.2 else s
  match x.by_ with
  | .tacker _ => if status = 5 then sourceBad s 0 false ss r.2.2 else s
  | .cell g => tellSubmitter s n g.val x status ss r.2.2

/-- The end of a transfer, and the release of the STARTs it held (R95, R101). -/
def transferDone (s : State) (n : Nat) (x : Transfer) (e : TransferErr) : State :=
  let s := { s with fabric := { s.fabric with lacer := put [] s.fabric.lacer n ((lookup [] s.fabric.lacer n).filter (fun y => y.tag != x.tag)) } }
  releaseStarts (match x.load with | some (g, p) => loadDone s x g p e | none => dataDone s n x e) x.tag

/-- LACER_TRANSFER_COMPLETE: the oldest transfer of the submitter on Lacer l of quarter q. -/
def lacerComplete (s : State) (n : Nat) (by_ : Submitter) (e : TransferErr) : State :=
  match (if s.fabric.lost.contains (n / 4) then none else (lookup [] s.fabric.lacer n).find? (fun x => x.by_ = by_)) with
  | none => s
  | some x => transferDone s n x e

/-! ### The Awl -/

/-- Fields of a command block (R149). -/
structure AwlArgs where
  inFmt : Nat
  outFmt : Nat
  g : Geo
  cin : Nat
  cout : Nat
  h : Nat
  w : Nat
  inZp : Int
  outZp : Int
  layer : Nat
  inSpace : Nat
  inSel : Nat
  inAddr : Nat
  outSpace : Nat
  outSel : Nat
  outAddr : Nat
  wAddr : Nat
  pAddr : Nat
  inStride : Nat
  outStride : Nat
  deriving DecidableEq, Repr

def awlArgs (b : BitVec 512) : AwlArgs :=
  { inFmt := tfield b 495 491, outFmt := tfield b 490 486, g := decodeGeo (tfield b 485 450), cin := tfield b 449 440 + 1,
    cout := tfield b 439 430 + 1, h := tfield b 429 414, w := tfield b 413 398, inZp := signed 8 (tfield b 397 390),
    outZp := signed 8 (tfield b 389 382), layer := tfield b 381 372, inSpace := tfield b 371 368, inSel := tfield b 367 360,
    inAddr := tfield b 359 335, outSpace := tfield b 334 331, outSel := tfield b 330 323, outAddr := tfield b 322 298,
    wAddr := tfield b 297 276, pAddr := tfield b 275 254, inStride := tfield b 253 238, outStride := tfield b 237 222 }

def AwlArgs.pixels (a : AwlArgs) : Nat := a.g.ho a.h * a.g.wo a.w
def elemBytes (f : Nat) : Nat := formatBits f / 8
def AwlArgs.taps (a : AwlArgs) : Nat := a.g.kh * a.g.kw
def AwlArgs.wRow (a : AwlArgs) : Nat := ceilDiv (a.taps * a.cin * elemBytes a.inFmt) 32 * 32

/-- Place of an Awl space and selector: own quarter's map store, or a cell of the quarter. -/
def awlPlace (q : Nat) (sb : StartBlock) (space sel : Nat) : Option Nat :=
  if space = 1 then (if sel = 4 then some q else none)
  else if space = 2 ∧ sel < 64 then (match sb.cellOf sel with | some g => if quarterOf g = q then some g else none | none => none)
  else none

/-- The Awl's check when it begins a command (R151). R149 gives addresses and strides as multiples of the element size, and
R151 does not list another value among its refusals: that the command is then performed is the model's choice
(notes/assumptions/103). -/
def awlOk (q : Nat) (sb : StartBlock) (b : BitVec 512) : Bool :=
  let a := awlArgs b
  onlyBits 512 b.toNat [(511, 503), (495, 222)] && (a.inFmt == 0x00 || a.inFmt == 0x0B) && [0x00, 0x0B, 0x0D, 0x0E].contains a.outFmt &&
  decide (a.cin ≤ 8 ∨ a.cout ≤ 8) && (awlPlace q sb a.inSpace a.inSel).isSome && (awlPlace q sb a.outSpace a.outSel).isSome &&
  decide (a.h * a.w = 0 ∨ a.inAddr + (a.h * a.w - 1) * a.inStride + a.cin * elemBytes a.inFmt ≤ spaceSize a.inSpace) &&
  decide (a.pixels = 0 ∨ a.outAddr + (a.pixels - 1) * a.outStride + a.cout * elemBytes a.outFmt ≤ spaceSize a.outSpace) &&
  decide (a.wAddr + a.cout * a.wRow ≤ 0x400000) && decide (a.pAddr + 8 * a.cout ≤ 0x400000)

/-- The accumulator of output pixel p and channel ch (R150). -/
def awlAcc (inp wts : Nat → Byte) (a : AwlArgs) (p ch : Nat) : Acc :=
  (List.range (a.taps * a.cin)).foldl (fun acc k =>
    let wt := rdLE wts (a.wAddr + ch * a.wRow + k * elemBytes a.inFmt) (elemBytes a.inFmt)
    match a.g.pixel a.h a.w p (k / a.cin) with
    | some px =>
      let x := rdLE inp (a.inAddr + px * a.inStride + (k % a.cin) * elemBytes a.inFmt) (elemBytes a.inFmt)
      if a.inFmt = 0 then acc.addI ((signed 8 x - a.inZp) * signed 8 wt) else acc.addF ((decodeF bf16 x).mul (decodeF bf16 wt))
    | none => if a.inFmt = 0 then acc else acc.addF ((FVal.fin false 0 1).mul (decodeF bf16 wt))) ⟨0, false, false, false⟩

/-- An output element: code, clipped, NaN; an INT32 or FP32 output is the accumulator itself (R150). -/
def awlOut (par : Nat → Byte) (a : AwlArgs) (ch : Nat) (acc : Acc) : Narrowed :=
  let v : FVal := if a.inFmt = 0 then FVal.ofInt acc.val.toInt else f32 acc.val
  let m := f32 (BitVec.ofNat 32 (rdLE par (a.pAddr + 8 * ch) 4))
  let b := f32 (BitVec.ofNat 32 (rdLE par (a.pAddr + 8 * ch + 4) 4))
  let y := (m.mul v).add b
  match a.outFmt with
  | 0x00 => let r := narrowInt (-128) 127 a.outZp y; ⟨pattern 8 r.1, r.2.1, r.2.2⟩
  | 0x0B => narrowF bf16 y
  | _ => ⟨acc.val.toNat, false, false⟩

/-- Outputs that are narrowed: they use the parameters and are counted (R150). -/
def AwlArgs.narrows (a : AwlArgs) : Bool := a.outFmt == 0 || a.outFmt == 0x0B

/-- The byte ranges a command reads: space, key of the first byte, length (R149). -/
def awlReads (a : AwlArgs) (ip g : Nat) : List (Nat × Nat × Nat) :=
  let pixels := ((List.range a.pixels).flatMap (fun p => (List.range a.taps).filterMap (fun k => a.g.pixel a.h a.w p k))).dedup
  pixels.map (fun px => (a.inSpace, wordKey a.inSpace ip 0 (a.inAddr + px * a.inStride), a.cin * elemBytes a.inFmt)) ++
  (if a.pixels = 0 then [] else
    (List.range a.cout).map (fun ch => (2, wordKey 2 g 0 (a.wAddr + ch * a.wRow), a.taps * a.cin * elemBytes a.inFmt)) ++
    (if a.narrows then [(2, wordKey 2 g 0 a.pAddr, 8 * a.cout)] else []))

/-- An uncorrectable word of 8 bytes among them. -/
def awlBad (s : State) (a : AwlArgs) (ip g : Nat) (e : TransferErr) : Option (Nat × Nat) :=
  (awlReads a ip g).findSome? (fun r =>
    ((badWords s r.1 e).find? (fun b => decide (b / 8 * 8 < r.2.1 + r.2.2 ∧ r.2.1 < b / 8 * 8 + 8))).map (fun b => (r.1, b)))

/-- Counts of a command's outputs: narrowed elements in LAYER, and ACC_SAT once for a command whose accumulators saturated,
the model's choice of a tile (R150, spec/02 R47, notes/assumptions/29). -/
def awlCounts (c : CellState) (a : AwlArgs) (outs : List Narrowed) (sat : Bool) : CellState :=
  let k := c.counts
  let k := if sat then { k with accSat := satAdd 32 k.accSat 1 } else k
  if !a.narrows then { c with counts := k } else
  { c with counts := { k with
      written := bump 32 k.written a.layer outs.length
      clipped := bump 32 k.clipped a.layer (outs.filter (·.clipped)).length
      nanOut := satAdd 32 k.nanOut (outs.filter (·.nan)).length } }

/-- The Awl performs a command: outputs, the run that wrote them, counts of the run they belong to (R149, R150). -/
def awlPerform (s : State) (x : AwlCmd) (a : AwlArgs) (ip op : Nat) : State :=
  let inp := spaceRead s a.inSpace ip 0
  let own := fun (i : Nat) => storeByte (s.cell x.cell) i
  let accs := (List.range a.pixels).flatMap (fun p => (List.range a.cout).map (fun ch => (p, ch, awlAcc inp own a p ch)))
  let outs := accs.map (fun o => (o.1, o.2.1, awlOut own a o.2.1 o.2.2))
  let es := elemBytes a.outFmt
  let at_ := fun (o : Nat × Nat × Narrowed) => a.outAddr + o.1 * a.outStride + o.2.1 * es
  let s' := outs.foldl (fun s o => spaceWrite s a.outSpace op 0 (at_ o) (leBytes es o.2.2.code)) s
  let s' := if a.outSpace = 1 then { s' with fabric := { s'.fabric with
      writer := outs.foldl (fun t o => put 0 t (lineKey 1 (flatAddr 1 op (at_ o))) (runKey x.sb)) s'.fabric.writer } } else s'
  if sameRun (s'.cell x.cell) x.sb then s'.modCell x.cell (fun c => awlCounts c a (outs.map (·.2.2)) (accs.any (fun o => o.2.2.sat)))
  else s'

/-- The head command of the quarter's Awl ends: outputs, STATUS and DONE, then its counter update (R149 to R151). -/
def awlFinish (s : State) (q : Nat) (x : AwlCmd) (rest : List AwlCmd) (e : TransferErr) : State :=
  let s := { s with fabric := { s.fabric with awl := put [] s.fabric.awl q rest } }
  if (s.cell x.cell).fence then s else
  let a := awlArgs x.block
  let finish := fun (s : State) (status : Nat) => bumpSignal (writeStatus s x.cell x.addr status) x.cell x.sig x.inc
  match awlPlace q x.sb a.inSpace a.inSel, awlPlace q x.sb a.outSpace a.outSel with
  | some ip, some op =>
    if x.refused then finish s 1
    else if fencedPlace s a.inSpace ip [] || fencedPlace s a.outSpace op [] then finish s 6
    else match awlBad s a ip x.cell e with
      | some b => finish (sourceBad (remember s b.1 b.2) x.cell (sameRun (s.cell x.cell) x.sb) b.1 b.2) 5
      | none => finish (awlPerform s x a ip op) 0
  | _, _ => finish s 1

/-- AWL_COMMAND_BEGIN: the Awl takes the head of its queue and checks it (R149, R151). -/
def awlBegin (s : State) (q : Nat) : State :=
  match lookup [] s.fabric.awl q with
  | [] => s
  | x :: rest =>
    if x.begun then s else
    { s with fabric := { s.fabric with awl := put [] s.fabric.awl q ({ x with begun := true, refused := !awlOk q x.sb x.block } :: rest) } }

def execAwlCommandBegin (q : QuarterNo) (s : State) : Host.Outcome State Fault Refusal := .next (awlBegin s q.val)

/-- AWL_COMMAND_COMPLETE: the command that the Awl has begun ends. -/
def awlComplete (s : State) (q : Nat) (e : TransferErr) : State :=
  match lookup [] s.fabric.awl q with
  | [] => s
  | x :: rest => if x.begun then awlFinish s q x rest e else s

/-! ### Posts and counter updates -/

/-- TPOST_LANDED: the oldest region or tile of the cell lands, or a fenced peer refuses it; then its update (R94, R96, R137). -/
def postLanded (s : State) (g : Nat) : State :=
  let c := s.cell g
  match c.posts with
  | [] => s
  | p :: rest =>
    if (s.cell p.peer).fence then jobReplay (s.setCell g { c with posts := rest }) g else
    let s := s.setCell g { c with posts := rest, postsLanded := c.postsLanded + 1 }
    let s := s.modCell p.peer (fun c =>
      readable { c with store := p.cover.foldl (fun m k => storeBytes m (p.dst + k.1) [readByte p.data k.1]) c.store } 0 p.dst p.cover.length)
    bumpSignal s g p.sig p.inc

def execTpostLanded (g : CellNo) (s : State) : Host.Outcome State Fault Refusal := .next (postLanded s g.val)

/-- COUNTER_UPDATE_APPLIED: the oldest update on its way to a quarter is applied (R96). -/
def counterApplied (s : State) (q : Nat) : State :=
  match lookup [] s.fabric.updates q with
  | [] => s
  | u :: rest => applyUpdate { s with fabric := { s.fabric with updates := put [] s.fabric.updates q rest } } u.counter u.add u.value

def execCounterUpdateApplied (q : QuarterNo) (s : State) : Host.Outcome State Fault Refusal := .next (counterApplied s q.val)

/-- RELEASED_UPDATE: a held update is applied once its conditions hold (R96). -/
def releasedUpdate (s : State) (g : Nat) : State :=
  let c := s.cell g
  match c.held with
  | [] => s
  | h :: rest =>
    if h.after < c.since ∧ h.posts ≤ c.postsLanded ∨ (c.mats.isEmpty ∧ h.posts ≤ c.postsLanded) then
      applyUpdate (arriveOwn (s.setCell g { c with held := rest }) g h.counter) h.counter h.add h.value
    else s

def execReleasedUpdate (g : CellNo) (s : State) : Host.Outcome State Fault Refusal := .next (releasedUpdate s g.val)

/-! ### Threads -/

/-- Map-store bytes that the active lanes of an instruction of thread k read or write (R119). -/
def threadMap (s : State) (g k : Nat) (w : Word) : List Nat :=
  let t := lookup {} (s.cell g).threads k
  ((List.range 32).filter (fun i => tacts t w i)).filterMap (fun i =>
    let a := treg t (vA w) i
    if threadSpace a = 1 then some (quarterOf g * 33554432 + threadOff a) else none)

/-- An uncorrectable map-store word that a load of thread k reads (spec/10 R257). -/
def threadBad (s : State) (g k : Nat) (w : Word) : Option Nat :=
  if vOp w ≠ 0x58 ∧ vOp w ≠ 0x5A then none
  else (threadMap s g k w).find? (fun a => (badWords s 1 .clean).any (fun b => b / 8 == a / 8))

/-- Thread k of a cell executes instruction w: registers and memory, counter update at VEND, program error (R118, R119). An
instruction whose load meets an uncorrectable word delivers no data and writes none (spec/10 R254, R257); that its thread ends
is the model's choice (notes/assumptions/133). -/
def threadExec (s : State) (g k : Nat) (w : Word) : State :=
  let r := vThread s.boot.interp (quarterOf g) s.fabric.mapStore (s.cell g) k w
  match (if r.bad.isNone then threadBad s g k w else none) with
  | some a =>
    let c := s.cell g
    jobUncorrectable (s.setCell g (setThread c k { lookup {} c.threads k with status := 0 })) g 1 a
  | none =>
  let stores := r.bad.isNone && (vOp w == 0x59 || vOp w == 0x5A)
  let writer := if stores then (threadMap s g k w).foldl (fun t a => put 0 t (lineKey 1 a) (runKey (s.cell g).sb)) s.fabric.writer
    else s.fabric.writer
  let s := { s with fabric := { s.fabric with mapStore := r.map, writer := writer } }.setCell g r.c
  let s := if stores then (threadMap s g k w).foldl (fun s a => rewritten s 1 a 4) s else s
  match r.bad, r.upd with
  | some f, _ => jobFault s g f
  | none, some (sig, inc) => bumpSignal s g sig inc
  | none, none => s

/-- A ready thread issues its next instruction; one beyond index 1,023 is invalid (R110, R119). -/
def threadIssue (s : State) (g k : Nat) : State :=
  let c := s.cell g
  let t := lookup {} c.threads k
  if 1023 < t.pc then jobFault (s.setCell g (setThread c k { t with status := 0 })) g .illegalOp
  else threadExec s g k (BitVec.ofNat 64 (readLE c.tmem (t.tbank * 8192 + 8 * t.pc) 8))

/-- The addresses of a block of an optimiser step stay in the cell store. -/
def momentInStore (x : MomentStep) : Bool :=
  [(x.grad, 128), (x.gradScale, 4), (x.mCodes, 128), (x.mScale, 2), (x.mZero, 1), (x.vCodes, 128), (x.vScale, 2), (x.vZero, 1)].all
    (fun p => decide (p.1.toNat + p.2 ≤ 0x400000))

/-- The 128 decoded elements of a stored moment (spec/02 R54, R55). -/
def momentsAt (rd : Nat → Byte) (codes scale zp : Nat) : List F32 :=
  (List.range 128).map (fun i => moment0 (rdLE rd scale 2) (rd zp).toInt (rd (codes + i)).toInt)

/-- A requantised moment is stored and its elements are counted in the layer of the step (spec/02 R50, R56). -/
def storeMoments (c : CellState) (layer codes scale zp : Nat) (l : List F32) : CellState :=
  let r := requant (l.map f32)
  let st := storeBytes c.store codes (r.2.2.1.map (BitVec.ofInt 8))
  let st := storeBytes (storeBytes st scale (leBytes 2 r.1)) zp [BitVec.ofInt 8 r.2.1]
  countNarrow { c with store := st } false layer 128 r.2.2.2.1 r.2.2.2.2

/-- One block of an optimiser step: the gradients, both moments, and their requantisation (spec/02 R53 to R56). That one event takes
a block, and where its parts stand, are the model's choices (notes/assumptions/135). -/
def momentBlock (c : CellState) (x : MomentStep) : CellState :=
  let rd := storeByte c
  let gs := (List.range 128).map (fun i => gradient (rd (x.gradScale.toNat + i / 32)).toNat (rd (x.grad.toNat + i)).toNat)
  let g := gs.map (·.1)
  let m := ((momentsAt rd x.mCodes.toNat x.mScale.toNat x.mZero.toNat).zip g).map (fun p => moment1 x.beta1 x.c1 p.1 p.2)
  let v := ((momentsAt rd x.vCodes.toNat x.vScale.toNat x.vZero.toNat).zip g).map (fun p => moment2 x.beta2 x.c2 p.1 p.2)
  let c := if gs.any (·.2) then { c with counts := { c.counts with accSat := satAdd 32 c.counts.accSat 1 } } else c
  let c := storeMoments c x.layer.val x.mCodes.toNat x.mScale.toNat x.mZero.toNat m
  storeMoments c x.layer.val x.vCodes.toNat x.vScale.toNat x.vZero.toNat v

/-- A ready thread takes a block of an optimiser step; an address outside the cell store ends it (R119). -/
def momentStep (s : State) (g : Nat) (x : MomentStep) : State :=
  let c := s.cell g
  let t := lookup {} c.threads x.t.val
  if !c.live || t.status != 1 then s
  else if momentInStore x then s.setCell g (momentBlock c x)
  else jobFault (s.setCell g (setThread c x.t.val { t with status := 0 })) g .threadAddr

/-- THREAD_STEP: up to four ready threads, round robin by hardware thread number (R119). -/
def threadStep (s : State) (g : Nat) : State :=
  let c := s.cell g
  if !c.live then s else
  let order := (List.range 64).map (fun i => (c.threadRR + i) % 64)
  let ready := (order.filter (fun k => (lookup {} c.threads k).status == 1)).take 4
  match ready.getLast? with
  | none => s
  | some l => ready.foldl (fun s k => threadIssue s g k) (s.setCell g { c with threadRR := (l + 1) % 64 })

def execThreadStep (x : ThreadTick) (s : State) : Host.Outcome State Fault Refusal :=
  .next (match x.block with | none => threadStep s x.g.val | some b => momentStep s x.g.val b)

def execThreadLoadReturn (g : CellNo) (t : ThreadNo) (s : State) : Host.Outcome State Fault Refusal :=
  .next (s.modCell g.val (fun c => threadReturn c t.val))

end Sys2Proof.Machine
end

