-- ==== Sys2Proof/Machine/Rates.lean ====
section
/-! DEFINITION. Stitch rates and the floor: the tables of spec/09 R232 and R235, exact interpolation, the three published
figures of R236, sensors as they are read (R249), and what a running job needs (spec/08 R224). -/

namespace Sys2Proof.Machine

/-! ### Tables -/

/-- R232 in units of 10 Mst/s: one row per 50 mV from 0.55 V, columns at -40, 0, 25, 85 and 105 degC. -/
def rateTable : List (List Int) :=
  [[58, 63, 66, 70, 71], [90, 92, 93, 95, 96], [115, 115, 115, 115, 115], [145, 144, 142, 138, 135],
   [176, 173, 170, 160, 154], [196, 192, 189, 178, 171], [215, 211, 207, 195, 187], [231, 227, 223, 210, 202]]

/-- The columns of R232 in 0.1 degC. -/
def rateCols : List Int := [-400, 0, 250, 850, 1050]

/-- Row below a voltage of 550 to 900 mV, and the millivolts above it. -/
def gridRow (mv : Nat) : Nat × Int := let i := min 6 ((mv - 550) / 50); (i, (mv : Int) - 550 - 50 * i)

/-- Rate at a column, interpolated in voltage, in units of 1/50 Mst/s. -/
def rateAtCol (mv j : Nat) : Int :=
  let r := gridRow mv
  let a := (rateTable.getD r.1 []).getD j 0
  let b := (rateTable.getD (r.1 + 1) []).getD j 0
  10 * (50 * a + (b - a) * r.2)

/-- The column pair that a Tj in 0.1 degC lies between; outside the table, the nearest pair (R232). -/
def colPair (t : Int) : Nat := if t < 0 then 0 else if t < 250 then 1 else if t < 850 then 2 else 3

/-- The rate of R232 in units of 1/300,000 Mst/s. -/
def rateExact (mv : Nat) (t : Int) : Int :=
  let j := colPair t
  let t0 := rateCols.getD j 0
  let t1 := rateCols.getD (j + 1) 0
  rateAtCol mv j * 6000 + (rateAtCol mv (j + 1) - rateAtCol mv j) * (t - t0) * (6000 / (t1 - t0))

/-- Least rate over a range of Tj: at a column inside it or at a bound (R236). -/
def leastRate (mv : Nat) (lo hi : Int) : Int :=
  (rateCols.filter (fun c => decide (lo ≤ c ∧ c ≤ hi))).foldl (fun m c => min m (rateExact mv c)) (min (rateExact mv lo) (rateExact mv hi))

/-- Whole Mst/s of an exact rate. -/
def mst (r : Int) : Nat := (r / 300000).toNat

/-- p_cell and p_fab of R235 in mW. -/
def pCell : List Nat := [385, 480, 600, 735, 875, 1040, 1220, 1420]
def pFab : List Nat := [360, 445, 525, 615, 750, 860, 980, 1030]

/-- n x p_cell + 4 x p_fab at a voltage, in units of 1/50 mW. -/
def worstPower (n mv : Nat) : Int :=
  let r := gridRow mv
  let at' := fun (l : List Nat) => 50 * (l.getD r.1 0 : Int) + ((l.getD (r.1 + 1) 0 : Int) - l.getD r.1 0) * r.2
  n * at' pCell + 4 * at' pFab

/-! ### Sensors and quarters -/

def State.sensor (s : State) (i : Nat) : Int := lookup 0 s.power.sensor i
/-- A failing sensor is read as the Tj limit (R249). -/
def sensorRead (s : State) (i : Nat) : Int := if s.power.failing.contains i then 10 * s.power.tjLimit else s.sensor i
/-- Sensors of quarter q: its clusters and its fabric. -/
def quarterSensors (q : Nat) : List Nat := [4 * q, 4 * q + 1, 4 * q + 2, 4 * q + 3, 16 + q]
/-- T_q: the hottest of them (R239). -/
def quarterTemp (s : State) (q : Nat) : Int :=
  ((quarterSensors q).map (sensorRead s)).foldl max (-2730)
def clusterTemp (s : State) (q : Nat) : Int := ((List.range 4).map (fun i => sensorRead s (4 * q + i))).foldl max (-2730)
/-- Every sensor of the quarter has reported since power-up or wake (R242). -/
def quarterKnown (s : State) (q : Nat) : Bool := (quarterSensors q).all (fun i => s.power.reported.contains i)

def State.qpower (s : State) (q : Nat) : QPower := lookup {} s.power.quarter q
def State.setQpower (s : State) (q : Nat) (x : QPower) : State :=
  { s with power := { s.power with quarter := put {} s.power.quarter q x } }
def State.zone (s : State) (z : Nat) : Zone := lookup {} s.power.zone z
def State.setZone (s : State) (z : Nat) (x : Zone) : State := { s with power := { s.power with zone := put {} s.power.zone z x } }

/-- The rate a quarter's cells run at, at its setpoint and its hottest sensor; 0 with the rail down. -/
def quarterRate (s : State) (q : Nat) : Int :=
  let v := (s.qpower q).setpoint
  if v < 550 then 0 else rateExact v (quarterTemp s q)

/-! ### Services of cells -/

/-- Out of service until reset or by its Tacker, or fenced (R259 to R264 of spec/10). -/
def unfenced (s : State) (g : Nat) : Bool :=
  !(s.cell g).fence && decide ((s.cell g).service ≠ 4) && !s.fabric.lost.contains (quarterOf g) && decide ((s.tacker (tackerOf g)).state ≠ 2)

def unfencedCount (s : State) : Nat := ((List.range 64).filter (unfenced s)).length

/-! ### The floor (R236) -/

/-- Compute share C, negative where the cap lies below the reserves. -/
def shareOf (p : Power) : Int := (p.cap : Int) - p.linkRes - p.memRes

/-- The low bound in force: -40 degC while BELOW_BOUND is set (R237). -/
def lowInForce (s : State) : Int := if leafIsSet s.causes (.main gThermal 0) then -400 else 10 * s.power.lowBound

/-- V_F in mV, 0 where no grid voltage passes. -/
def floorVoltage (n : Nat) (share : Int) : Nat :=
  if share < 0 then 0 else
  ((List.range 36).reverse.map (fun i => 550 + 10 * i)).foldr (fun v acc => if worstPower n v ≤ 50 * share then v else acc) 0

/-- V_F, f_F in Mst/s, C as published, N. -/
structure FloorFig where
  mv : Nat
  rate : Nat
  share : Nat
  n : Nat
  deriving DecidableEq, Repr

def floorFig (s : State) : FloorFig :=
  let n := min (unfencedCount s) s.power.cellLimit
  let c := shareOf s.power
  let v := floorVoltage n c
  ⟨v, if v = 0 then 0 else mst (leastRate v (lowInForce s) (10 * s.power.tjLimit)), c.toNat, n⟩

/-! ### Jobs -/

def noPlan : Plan := ⟨⟨0, 0, 0, []⟩, 0, [], 0, []⟩

/-- The plan a placement of a job runs (spec/06 R153, R156, spec/08 R199). -/
def planOf (x : Ctx) (stripe streamed : Bool) : Plan :=
  match x.pkg with
  | none => noPlan
  | some p =>
    if x.spill then p.spill.getD p.stripe
    else if streamed then p.streamed.getD p.stripe
    else if stripe then p.stripe else p.halo.getD p.stripe

/-- The plans a context can be given while it is loaded: the spill plan, or the stripe and halo plans and, where its
weights need not stay in place, the streamed plan (spec/06 R153, R156, spec/08 R199). -/
def plansOf (x : Ctx) : List Plan :=
  match x.pkg with
  | none => []
  | some p =>
    if x.spill then [p.spill.getD p.stripe]
    else p.stripe :: p.halo.toList ++ (if x.cls = 0 then [] else p.streamed.toList)

/-- t_job of R211 for one plan, in ns at a floor rate in Mst/s; a rate of 0 gives no time. -/
def tPlan (rate : Nat) (x : Ctx) (p : Plan) : Nat :=
  10000 + ceilDiv (p.fig.s * 1000) rate + p.fig.f + 10000 + (if x.cls = 1 then ceilDiv p.progBytes 32 else 0)

/-- t_job of a placement: the longer one where it may run the streamed plan. -/
def tJobAt (rate : Nat) (x : Ctx) (stripe : Bool) : Nat :=
  let t := tPlan rate x (planOf x stripe false)
  match (plansOf x).find? (fun p => decide ((x.pkg.bind (·.streamed)) = some p)) with
  | some p => max t (tPlan rate x p)
  | none => t

def noProg : SlotProg := ⟨[], [], [], [], [], []⟩
def indexed {α : Type} (l : List α) : List (Nat × α) := l.mapIdx (fun i x => (i, x))

/-- A D1 or B job whose cells do not hold the weights of its plan runs the package's streamed plan, where it carries one
(R199, R227). -/
def runsStreamed (s : State) (j : Job) : Bool :=
  let x := s.ctx j.ctx
  decide (x.cls ≠ 0) && !x.spill && (x.pkg.bind (·.streamed)).isSome &&
  !(indexed j.cells).all (fun p => holdsWeights (s.cell p.2) ((planOf x j.stripe false).slots.getD p.1 noProg))

/-- Replica k of context c runs no job. -/
def replicaIdle (s : State) (c k : Nat) : Bool :=
  !s.jobs.any (fun (j : Job) => j.ctx == c && decide (j.phase ≠ .waiting) && j.replica == k)

/-- The plan of the placement that a job has, or of the one it waits for: the lowest idle replica of a D0 context, else the
stripe plan where all its replicas run it, and the replica that receives a D1 job (spec/08 R213, R218, R223). -/
def plannedStripe (s : State) (j : Job) : Bool :=
  let x := s.ctx j.ctx
  if j.phase ≠ .waiting then j.stripe
  else if x.cls = 1 then x.stripes.getD (j.ord % max 1 x.reps) true
  else match (List.range x.reps).find? (replicaIdle s j.ctx) with
    | some k => x.stripes.getD k true
    | none => x.stripes.all id

/-- T_dl and T_ls of R218. -/
def jobDeadline (s : State) (j : Job) : Nat := j.tInput + (s.ctx j.ctx).deadline
/-- The plan that a job's placement gives it; one that waits counts on the placement it waits for (spec/08 R199, R218). -/
def jobPlan (s : State) (j : Job) : Plan :=
  let x := s.ctx j.ctx
  let k := { j with cells := if j.phase = .waiting then (if x.cls = 1 then x.replicas.getD (j.ord % max 1 x.reps) [] else []) else j.cells,
                    stripe := plannedStripe s j }
  planOf x k.stripe (if j.tStart.isSome then j.streamed else runsStreamed s k)

def jobTime (s : State) (j : Job) : Nat := tPlan (max 1 s.power.floorRate) (s.ctx j.ctx) (jobPlan s j)

/-- f_req of R224 in Mst/s, rounded up; past the deadline, the highest rate. Layers not yet ended count whole. -/
def jobRate (s : State) (j : Job) : Nat :=
  let f := (jobPlan s j).fig
  let doneLayers := if j.cells.isEmpty then 0 else (j.cells.map (fun g => if j.done.contains g then f.layers.length else if inRun s j g then (s.cell g).layersDone else 0)).foldl min f.layers.length
  let rest := f.layers.drop doneLayers
  let sr := if f.layers.isEmpty then f.s else (rest.map (·.1)).sum
  let fr := if f.layers.isEmpty then f.f else (rest.map (·.2)).sum
  let t : Int := (jobDeadline s j : Int) - s.now - 10000 - fr
  if t ≤ 0 then 65535 else min 65535 (ceilDiv (sr * 1000) t.toNat)

/-- Jobs of deadline classes running in a quarter. -/
def quarterJobs (s : State) (q : Nat) : List Job :=
  s.jobs.filter (fun (j : Job) => (s.ctx j.ctx).deadlineClass && j.phase == .running && j.cells.any (fun g => quarterOf g == q))

/-- f_need of R239 in Mst/s. -/
def quarterNeed (s : State) (q : Nat) : Nat := ((quarterJobs s q).map (jobRate s)).foldl max 0

end Sys2Proof.Machine
end

