-- ==== Sys2Proof/Machine/Admission.lean ====
section
/-! DEFINITION. Admission (spec/08 R211 to R216): placements of a package's slot groups (R228), reservations and home
sets, timing tests, map store (spec/06 R155), counters and barrier networks (R215), and the re-check of R216. -/

namespace Sys2Proof.Machine

/-! ### Lists -/

/-- Insert by a key, before equal keys. -/
def insertBy {α : Type} (f : α → Nat) (x : α) : List α → List α
  | [] => [x]
  | y :: l => if f x ≤ f y then x :: y :: l else y :: insertBy f x l

/-- Stable sort by a key. -/
def sortBy {α : Type} (f : α → Nat) : List α → List α
  | [] => []
  | x :: l => insertBy f x (sortBy f l)

/-! ### Loaded contexts -/

def Ctx.loaded (x : Ctx) : Bool := decide (x.st ≠ .empty ∧ x.st ≠ .loading ∧ x.st ≠ .refused)

/-- Loaded contexts in load order (R216). -/
def loadedCtxs (s : State) : List (Nat × Ctx) := sortBy (fun p => p.2.loadOrder) (s.ctxs.filter (fun p => p.2.loaded))
def loadedOf (s : State) (cls : Nat) : List (Nat × Ctx) := (loadedCtxs s).filter (fun p => p.2.cls == cls)

/-- The D0 context that reserves a cell; a D1 home set that holds it. -/
def reservedBy (s : State) (g : Nat) : Option Nat :=
  ((loadedOf s 0).find? (fun p => p.2.replicas.any (fun r => r.contains g))).map (·.1)
def isReserved (s : State) (g : Nat) : Bool := (reservedBy s g).isSome
def isHome (s : State) (g : Nat) : Bool := (loadedOf s 1).any (fun p => p.2.replicas.any (fun r => r.contains g))

/-! ### Placement (R228) -/

def pkgGroups (x : Ctx) : List (List Nat) := match x.pkg with | some p => p.groups | none => []
def slotCount (x : Ctx) : Nat := ((pkgGroups x).map List.length).sum

/-- The lowest n free cells of quarter q. -/
def takeIn (free : List Nat) (q n : Nat) : Option (List Nat × List Nat) :=
  let l := (free.filter (fun g => quarterOf g == q)).take n
  if l.length = n then some (l, free.filter (fun g => !l.contains g)) else none

/-- Cells for groups of the given sizes, each group in one quarter, quarters in the given order. -/
def fitGroups (qs : List Nat) : List Nat → List Nat → Option (List (List Nat))
  | [], _ => some []
  | n :: gs, free => qs.findSome? (fun q =>
      match takeIn free q n with
      | none => none
      | some (t, rest) => (fitGroups qs gs rest).map (fun l => t :: l))

/-- Cells by slot number from the cells of each group. -/
def bySlot (groups : List (List Nat)) (cells : List (List Nat)) : List Nat :=
  let t := (groups.zip cells).flatMap (fun p => p.1.zip p.2)
  (List.range t.length).map (fun i => lookup 64 t i)

/-- A placement of the whole package in the free cells. -/
def placeIn (qs : List Nat) (x : Ctx) (free : List Nat) : Option (List Nat) :=
  (fitGroups qs ((pkgGroups x).map List.length) free).map (bySlot (pkgGroups x))
def allQuarters : List Nat := [0, 1, 2, 3]

/-- Whether every slot group lies in one quarter; a split group runs the stripe plan (R153). -/
def isSplit (x : Ctx) (cells : List Nat) : Bool :=
  (pkgGroups x).any (fun gr => gr.any (fun i => gr.any (fun j => quarterOf (cells.getD i 0) != quarterOf (cells.getD j 0))))

def maskCells (x : Ctx) : List Nat := (List.range 64).filter (fun g => x.mask.testBit g)
/-- Test 3 of R212: unfenced cells of the mask that no other context reserves and no home set holds. -/
def freeForReserve (s : State) (x : Ctx) : List Nat :=
  (maskCells x).filter (fun g => unfenced s g && !isReserved s g && !isHome s g)
/-- Unreserved cells of the mask that no home set holds. -/
def freeForHome (s : State) (x : Ctx) : List Nat := freeForReserve s x

/-- r whole placements in disjoint cells (R212). -/
def placeReplicas (x : Ctx) (free : List Nat) : Option (List (List Nat)) :=
  let sizes := (pkgGroups x).map List.length
  (fitGroups allQuarters ((List.replicate x.reps sizes).flatten) free).map (fun l =>
    (List.range x.reps).map (fun k => bySlot (pkgGroups x) ((l.drop (k * sizes.length)).take sizes.length)))

/-! ### Timing tests -/

/-- A sum of fractions as one fraction. -/
def sumFrac (l : List (Nat × Nat)) : Nat × Nat := l.foldl (fun a b => (a.1 * b.2 + b.1 * a.2, a.2 * b.2)) (0, 1)

/-- E_B: the largest E among loaded B contexts whose masks meet the cells (R213). -/
def evictLongest (bs : List Ctx) (cells : List Nat) : Nat :=
  ((bs.filter (fun b => cells.any (fun g => b.mask.testBit g))).map (fun b => ((plansOf b).map (·.fig.e)).foldl max 0)).foldl max 0
def evictTime (rate : Nat) (bs : List Ctx) (cells : List Nat) : Nat := ceilDiv (evictLongest bs cells * 1000) rate + 5000

/-- Tests 1 and 2 of R212 for one plan. -/
def d0Time (rate : Nat) (x : Ctx) (stripe : Bool) : Bool :=
  let t := tJobAt rate x stripe
  decide ((if x.replayMargin then 2 * t + 10000 else t) ≤ x.deadline) && decide (t ≤ x.reps * x.period)

/-- Utilisation of a home set by the replicas homed on it (R213). -/
def homeLoad (rate : Nat) (ds : List Ctx) (h : List Nat) : List (Nat × Nat) :=
  ds.flatMap (fun x => ((x.replicas.zip x.stripes).filter (fun r => r.1.any (fun g => h.contains g))).map (fun r =>
    (tJobAt rate x r.2, min (x.reps * x.period) x.deadline)))
def homeFits (rate : Nat) (ds : List Ctx) (h : List Nat) : Bool :=
  let f := sumFrac (homeLoad rate ds h)
  decide (f.1 ≤ f.2)

/-- The second and third tests of R213 for a context whose sets are chosen, among all D1 contexts. -/
def d1Time (rate : Nat) (ds bs : List Ctx) (x : Ctx) : Bool :=
  (x.replicas.zip x.stripes).all (fun r => decide (tJobAt rate x r.2 + evictTime rate bs x.replicas.flatten ≤ x.deadline)) &&
  x.replicas.all (homeFits rate ds)

/-- Home sets of R213: a free set, else the first existing one in load order that admits the replica. -/
def homeSets (rate : Nat) (s : State) (x : Ctx) : Option (List (List Nat)) :=
  let others := (loadedOf s 1).map (·.2)
  (List.range x.reps).foldl (fun acc _ =>
    match acc with
    | none => none
    | some sets =>
      let free := (freeForHome s x).filter (fun g => !sets.any (fun h => h.contains g))
      match placeIn allQuarters x free with
      | some h => some (sets ++ [h])
      | none =>
        let cand := (others.flatMap (fun o => o.replicas)) ++ sets
        let own := fun (hs : List (List Nat)) => { x with replicas := hs, stripes := hs.map (fun _ => false) }
        match cand.findSome? (fun h =>
            if h.length = slotCount x ∧ h.all (fun g => x.mask.testBit g && unfenced s g) then
              (match placeIn allQuarters x (sortBy id h) with
               | some h' => if homeFits rate (others ++ [own (sets ++ [h'])]) h' then some h' else none
               | none => none)
            else none) with
        | some h => some (sets ++ [h])
        | none => none) (some [])

/-! ### Map store, counters, networks (R155, R215) -/

/-- Pages of quarter q that one plan asks of a context with these replicas (spec/06 R155). -/
def planPages (x : Ctx) (q : Nat) (p : Plan) : Nat :=
  if x.cls = 2 then
    (if (List.range 16).any (fun i => x.mask.testBit (16 * q + i)) then p.mapPages.foldl max 0 else 0)
  else (x.replicas.map (fun cells => (((pkgGroups x).zip p.mapPages).map (fun gp =>
      if gp.1.any (fun i => quarterOf (cells.getD i 64) == q) then gp.2 else 0)).sum)).sum

/-- Pages of quarter q that it reserves: enough for every plan it can be given, the spill plan's by the package's figures
(R156, notes/assumptions/107). -/
def pagesNeeded (x : Ctx) (q : Nat) : Nat := ((plansOf x).map (planPages x q)).foldl max 0

/-- Map-store pages of a quarter withdrawn by hard faults (spec/10 R257). -/
def withdrawnPages (s : State) (q : Nat) : Nat := (s.fabric.withdrawn.filter (fun p => p.1 == 1 && p.2 / 512 == q)).length
def pagesHeld (s : State) (c q : Nat) : Nat := (((lookup [] s.fabric.mapPages q).filter (fun p => p.1 != c)).map (·.2)).sum

/-- Pages of a quarter that the context holds: it keeps them, a withdrawn one too, until it is unloaded (spec/10 R257). -/
def pagesOwn (s : State) (c q : Nat) : Nat := (((lookup [] s.fabric.mapPages q).filter (fun p => p.1 == c)).map (·.2)).sum

/-- Every plan's cell stores, and its pages in each quarter; a B context asks none of a lost quarter, where none of its jobs
runs (R214, spec/06 R155). -/
def storeFits (s : State) (c : Nat) (x : Ctx) : Bool :=
  x.pkg.isSome && (plansOf x).all (fun p => decide (p.storeBytes ≤ 0x400000)) &&
  (List.range 4).all (fun q => decide (pagesNeeded x q = 0) || (decide (x.cls = 2) && s.fabric.lost.contains q) ||
    (!s.fabric.lost.contains q && (decide (pagesNeeded x q ≤ pagesOwn s c q) ||
      decide (pagesHeld s c q + withdrawnPages s q + pagesNeeded x q ≤ 512))))

def reservePages (s : State) (c : Nat) (x : Ctx) : State :=
  { s with fabric := { s.fabric with mapPages := (List.range 4).foldl (fun t q =>
      let rest := (lookup [] t q).filter (fun p => p.1 != c)
      put [] t q (if pagesNeeded x q = 0 then rest else rest ++ [(c, pagesNeeded x q)])) s.fabric.mapPages } }

/-- Counter ranges in use, as base and count. -/
def counterRanges (s : State) (c : Nat) : List (Nat × Nat) :=
  ((s.ctxs.filter (fun p => p.1 != c && p.2.loaded)).flatMap (fun p =>
    p.2.counterBase.map (fun b => (b, match p.2.pkg with | some k => k.counters | none => 0))))

/-- A base for n counters within one quarter, clear of the ranges in use. -/
def findBase (lost : List Nat) (used : List (Nat × Nat)) (n : Nat) : Option Nat :=
  let starts := sortBy id ([0, 4096, 8192, 12288] ++ used.map (fun r => r.1 + r.2))
  starts.find? (fun b => decide (b + n ≤ (b / 4096 + 1) * 4096 ∧ b < 16384) && !lost.contains (b / 4096) &&
    used.all (fun r => decide (r.2 = 0 ∨ b + n ≤ r.1 ∨ r.1 + r.2 ≤ b)))

def findBases (lost : List Nat) (used : List (Nat × Nat)) (n : Nat) : Nat → Option (List Nat)
  | 0 => some []
  | k + 1 => match findBase lost used n with
    | none => none
    | some b => (findBases lost (used ++ [(b, n)]) n k).map (fun l => b :: l)

def netsInUse (s : State) (c : Nat) : List Nat :=
  (s.ctxs.filter (fun p => p.1 != c && p.2.loaded)).flatMap (fun p => p.2.nets.flatten)

/-- Counters and networks for every replica, or NO_SYNC (R215). -/
def findSync (s : State) (c : Nat) (x : Ctx) : Option (List Nat × List (List Nat)) :=
  match x.pkg with
  | none => none
  | some p =>
    let nb := p.barriers.length
    let free := (List.range 64).filter (fun n => !(netsInUse s c).contains n)
    match findBases s.fabric.lost (counterRanges s c) p.counters x.reps with
    | none => none
    | some bs => if free.length < nb * x.reps then none
      else some (bs, (List.range x.reps).map (fun k => (free.drop (k * nb)).take nb))

/-! ### Reasons (R196) -/

def rDesc : Nat := 0x0201
def rPackage : Nat := 0x0202
def rGroup : Nat := 0x0203
def rQueue : Nat := 0x0204
def rPlacement : Nat := 0x0205
def rNoCells : Nat := 0x0206
def rNoPower : Nat := 0x0207
def rNoStore : Nat := 0x0208
def rTime : Nat := 0x0209
def rEvict : Nat := 0x020A
def rHistory : Nat := 0x020B
def rNoSync : Nat := 0x020C

/-- POWER_MW, raised to the package's own figure (R195). -/
def powerOf (x : Ctx) : Nat := max x.powerMw (match x.pkg with | some p => p.powerMw | none => 0)
def reservedPower (xs : List Ctx) : Nat := (xs.map (fun x => powerOf x * (x.replicas.map List.length).sum)).sum
def reservedCells (xs : List Ctx) : Nat := (xs.map (fun x => (x.replicas.map List.length).sum)).sum

/-! ### The re-check of R216 -/

/-- Cells a job or a Tacker holds. -/
def isClaimed (s : State) (g : Nat) : Bool := (s.cell g).claim.isSome || (s.cell g).tackerClaim

/-- A cell that a context's reservation or home set no longer has: fenced, or of a home set and taken by a reservation. -/
def cellLost (s : State) (x : Ctx) (g : Nat) : Bool := !unfenced s g || (decide (x.cls = 1) && isReserved s g)

/-- A replacement for a lost cell: the first unfenced, unreserved, unclaimed cell of the mask in the same quarter, else
in another (R228); home sets stay disjoint or equal, so a D1 context takes no cell of another one (R213). -/
def replacement (s : State) (x : Ctx) (cells : List Nat) (old : Nat) : Option Nat :=
  let ok := (maskCells x).filter (fun g => unfenced s g && !isReserved s g && !(decide (x.cls = 1) && isHome s g) &&
    !isClaimed s g && !cells.contains g && decide ((s.cell g).service = 0))
  match ok.find? (fun g => quarterOf g == quarterOf old) with
  | some g => some g
  | none => ok.head?

/-- Slots of a placement that a cell fills: replica, slot. -/
def slotsOn (x : Ctx) (g : Nat) : List (Nat × Nat) :=
  (List.range x.replicas.length).flatMap (fun k =>
    ((List.range ((x.replicas.getD k []).length)).filter (fun i => (x.replicas.getD k []).getD i 64 == g)).map (fun i => (k, i)))

/-- One context's placement has the cell `new` in place of `old`; each slot that moves posts its event (R207, R228). -/
def swapCell (s : State) (c old new : Nat) : State :=
  let x := s.ctx c
  let moved := x.replicas.map (fun r => r.map (fun g => if g = old then new else g))
  (slotsOn x old).foldl (fun s p => postEvent s c evPlacementMoved [BitVec.ofNat 8 p.1, BitVec.ofNat 8 p.2, BitVec.ofNat 8 old, BitVec.ofNat 8 new])
    (s.setCtx c { x with replicas := moved, stripes := moved.map (isSplit x) })

/-- Replace one lost cell of a context; every D1 context homed on the same set follows. -/
def moveSlot (s : State) (c old new : Nat) : State :=
  let sharers := if (s.ctx c).cls = 1 then
      ((loadedOf s 1).filter (fun p => p.1 != c && p.2.replicas.any (fun r => r.contains old) && p.2.mask.testBit new)).map (·.1)
    else []
  (c :: sharers).foldl (fun s d => swapCell s d old new) s

/-- Replace what can be replaced of a D context's reservation or home sets. -/
def replaceLost (s : State) (c : Nat) : State :=
  (List.range (s.ctx c).replicas.length).foldl (fun s k =>
    (List.range ((s.ctx c).replicas.getD k []).length).foldl (fun s i =>
      let x := s.ctx c
      let g := (x.replicas.getD k []).getD i 64
      if !cellLost s x g then s else
      match replacement s x x.replicas.flatten g with
      | some h => moveSlot s c g h
      | none => s) s) s

/-- One replica's counters, reserved again elsewhere where their quarter is lost; false where they cannot be. -/
def resyncOne (s : State) (c k : Nat) : State × Bool :=
  let x := s.ctx c
  let n := match x.pkg with | some p => p.counters | none => 0
  if !s.fabric.lost.contains (x.counterBase.getD k 0 / 4096) then (s, true) else
  match findBase s.fabric.lost (counterRanges s c ++ (x.counterBase.eraseIdx k).map (fun b => (b, n))) n with
  | some b => (s.setCtx c { x with counterBase := setAt x.counterBase k b }, true)
  | none => (s, false)

/-- Counters of a lost quarter are reserved again elsewhere, those of other quarters stay (R215). -/
def resync (s : State) (c : Nat) : State × Bool :=
  (List.range (s.ctx c).counterBase.length).foldl (fun a k => let y := resyncOne a.1 c k; (y.1, a.2 && y.2)) (s, true)

/-- The first reason a loaded context now fails for. `before`: the D0 contexts before it that passed. -/
def failReason (s : State) (c : Nat) (before : List Ctx) (synced : Bool) : Option Nat :=
  let x := s.ctx c
  let rate := s.power.floorRate
  if x.replicas.any (fun r => r.any (cellLost s x)) then some rNoCells
  else if x.cls = 0 ∧ s.power.share < reservedPower (before ++ [x]) then some rNoPower
  else if !storeFits s c x then some rNoStore
  else if rate = 0 ∧ x.cls ≠ 2 then some rTime
  else if x.cls = 0 ∧ x.stripes.any (fun p => !d0Time rate x p) then some rTime
  else if x.cls = 1 ∧ !d1Time rate ((loadedOf s 1).map (·.2)) ((loadedOf s 2).map (·.2)) x then some rTime
  else if !synced then some rNoSync
  else none

/-- t_job the context needs, as ADMIT_LOST carries it: the least of the replicas' times that break a test, else the largest. -/
def neededTime (s : State) (x : Ctx) : Nat :=
  let rate := max 1 s.power.floorRate
  let ts := x.stripes.map (tJobAt rate x)
  let bad := (x.stripes.filter (fun p => x.cls = 0 ∧ !d0Time rate x p)).map (tJobAt rate x)
  min (2 ^ 32 - 1) (match bad with | [] => ts.foldl max 0 | t :: l => l.foldl min t)

def publishedTime (s : State) (x : Ctx) : Nat :=
  min (2 ^ 32 - 1) ((x.stripes.map (tJobAt (max 1 s.power.floorRate) x)).foldl max 0)

/-- Any loaded context with its admission withdrawn keeps ADMIT_LOST set (spec/11 R293). -/
def anyWithdrawn (s : State) : Bool := (loadedCtxs s).any (fun p => p.2.withdrawn)

/-- Admission withdrawn; a context whose admission is withdrawn already only takes the reason of this check (R216). -/
def withdraw (s : State) (c why : Nat) (host : Bool) : State :=
  let x := s.ctx c
  if x.withdrawn then s.setCtx c { x with reason := why } else
  let s := s.setCtx c { x with withdrawn := true, byHost := host, reason := why, st := if x.st = .active then .unadmitted else x.st }
  let s := postEvent s c evAdmitLost (leBytes 2 why ++ leBytes 2 s.power.floorRate ++ leBytes 4 (neededTime s x))
  raise s (.main gSched 0) c 0

/-- Admission restored (R216). -/
def restore (s : State) (c : Nat) : State :=
  let x := s.ctx c
  if !x.withdrawn then s else
  let s := s.setCtx c { x with withdrawn := false, byHost := false, reason := 0, st := if x.st = .unadmitted then .active else x.st }
  postEvent s c evAdmitRegained (leBytes 4 (publishedTime s x))

/-- Check one context again; answers whether it passed. Pages it cannot have are not held against others. -/
def checkOne (host : Bool) (s : State) (c : Nat) (before : List Ctx) : State × Bool :=
  let s := replaceLost s c
  let y := resync s c
  let s := y.1
  let s := s.modCtx c (fun x => { x with tJob := publishedTime s x, floorUsed := s.power.floorRate })
  let s := if storeFits s c (s.ctx c) then reservePages s c (s.ctx c) else s
  match failReason s c before y.2 with
  | some r => (withdraw s c r host, false)
  | none => (restore s c, true)

/-- The device leaves RUN or READY for DEGRADED, or returns (spec/10 R269, spec/12 R325). -/
def isDegraded (s : State) : Bool :=
  !s.fabric.lost.isEmpty || (loadedCtxs s).any (fun p => decide (p.2.st = .unadmitted) && !p.2.byHost)

def setDevState (s : State) (d : DevState) : State :=
  if s.dev.state = d then s else { s with dev := { s.dev with state := d, stateTime := s.now } }

/-- READY or RUN, as the AL state or the host chose. -/
def workState (s : State) : DevState :=
  if s.dev.hostControl = 1 then (if s.dev.hostState = 2 then .run else .ready) else (if s.dev.al = .op then .run else .ready)

def settleState (s : State) : State :=
  match s.dev.state with
  | .ready | .run => if isDegraded s then setDevState s .degraded else s
  | .degraded => if isDegraded s then s else setDevState s (workState s)
  | _ => s

/-- Zones that hold reserved cells are never gated (R212): one that is gated when a cell of it is reserved is woken. -/
def wakeReserved (s : State) : State :=
  (List.range 16).foldl (fun s z =>
    let x := s.zone z
    if !x.on && !x.waking && !x.failed && (List.range 4).any (fun i => isReserved s (z / 4 * 16 + i * 4 + z % 4)) then
      s.setZone z { x with waking := true } else s) s

/-- Every loaded context is checked again, D0 first, then D1, then B, in load order (R216). `host`: caused by a host write
(R253). -/
def recheck (s : State) (host : Bool) : State :=
  let r := ((loadedOf s 0).map (·.1)).foldl (fun (a : State × List Ctx) c =>
    let y := checkOne host a.1 c a.2
    (y.1, if y.2 then a.2 ++ [y.1.ctx c] else a.2)) (s, [])
  let s := ((loadedOf r.1 1).map (·.1) ++ (loadedOf r.1 2).map (·.1)).foldl (fun s c => (checkOne host s c []).1) r.1
  settleState (wakeReserved s)

/-! ### Publishing the floor (spec/09 R236, R249) -/

/-- The derating bound from 100 to 105 degC, in units of 0.1 mV (R249). -/
def derateSlope (vf : Nat) (t : Int) : Int :=
  if t < 1000 then 9000 else max (10 * (vf : Int)) (9000 - (t - 1000) * (9000 - 10 * vf) / 50)

/-- The bound above the Tj limit, in units of 0.1 mV (R249). -/
def overBound (limit : Int) (vf : Nat) (t : Int) : Int :=
  max 5500 ((if limit ≤ 100 then 9000 else derateSlope vf (10 * limit)) - 10 * (t - 10 * limit))

/-- What bounds V_q at a T_q, in units of 0.1 mV: each range of R249 that the temperature lies in. -/
def derateBound (limit : Int) (vf : Nat) (t : Int) : Int :=
  if t ≤ 10 * limit then derateSlope vf t
  else if t ≤ 1050 then min (derateSlope vf t) (overBound limit vf t)
  else overBound limit vf t

def overLimit (s : State) : List Nat :=
  (List.range 4).filter (fun q => !s.fabric.lost.contains q && decide (10 * s.power.tjLimit < quarterTemp s q))

/-- The floor rate as published: that of R236, held down by quarters over their limit (R249). -/
def publishedRate (s : State) (f : FloorFig) : Nat :=
  match s.power.overFloor with
  | none => f.rate
  | some held =>
    match overLimit s with
    | [] => held
    | qs => qs.foldl (fun r q => min r (mst (rateExact (derateBound s.power.tjLimit f.mv (quarterTemp s q) / 10).toNat (quarterTemp s q)))) f.rate

/-- Recompute and publish 0x2202; a change triggers the re-check, and so does a change of the cap or the Tj limit (R236, spec/08 R216).
A host write not yet applied is the cause of what it changes (spec/10 R253). -/
def publish (s : State) (host : Bool) : State :=
  let f := floorFig s
  let p := s.power
  let q := { p with recheckDue := false, share := f.share, counted := f.n, floorMv := if p.valid then f.mv else p.floorMv,
                    floorRate := if p.valid then publishedRate s f else p.floorRate }
  if !p.recheckDue ∧ q.share = p.share ∧ q.counted = p.counted ∧ q.floorMv = p.floorMv ∧ q.floorRate = p.floorRate then { s with power := q }
  else recheck { s with power := q } (host || p.dirty || p.recheckDue)

end Sys2Proof.Machine
end

