-- ==== Sys2Proof/Machine/Jobs.lean ====
section
/-! DEFINITION. Jobs: notices (spec/08 R229, R230), forming (R209, R210, R222), dispatch (R223, R225, R226), claims and
START (spec/01 R19 to R21, spec/04 R84, R96, R98, R123), lateness (R218 to R221), replay (spec/10 R260) and the posting of
a job's records (R205, R217). -/

namespace Sys2Proof.Machine

/-! ### Notices -/

/-- Sources keep their sequence numbers apart. -/
def srcKey : NoticeSrc → Nat
  | .tacker t => t.val
  | .cobbler => 16
  | .stream x => 32 + x.val
  | .hmp c => 64 + c.val
  | .deadline => 70

/-- A notice enters a FIFO of 1,024; a full one loses its oldest entry (R230). -/
def pushNotice (s : State) (n : Nat) (x : Notice) : State :=
  let l := s.laster n
  if l.fifo.length < 1024 then s.setLaster n { l with fifo := l.fifo ++ [x] }
  else
    let s := s.setLaster n { l with fifo := l.fifo.drop 1 ++ [x], lostSeen := true }
    raise { s with causes := { s.causes with noticeLost := bump 32 s.causes.noticeLost n 1 } } (.main gNotice n) 0 0

/-- A source writes a notice with its next sequence number (R229). -/
def sendNotice (s : State) (n : Nat) (src : NoticeSrc) (k : NoticeKind) : State :=
  let l := s.laster n
  let q := lookup 0 l.sent (srcKey src)
  pushNotice (s.setLaster n { l with sent := put 0 l.sent (srcKey src) ((q + 1) % 65536) }) n ⟨q, src, k, s.now⟩

def tackerSrc (t : Nat) : NoticeSrc := .tacker ⟨t % 16, Nat.mod_lt _ (by decide)⟩
def streamSrc (t : Nat) : NoticeSrc := .stream ⟨t % 32, Nat.mod_lt _ (by decide)⟩
def hmpSrc (t : Nat) : NoticeSrc := .hmp ⟨t % 2, Nat.mod_lt _ (by decide)⟩

def ctxLaster (s : State) (c : Nat) : Nat := (s.ctx c).group % 4

/-! ### Records of a job -/

/-- Output records that do not depend on a VOID position (R210). -/
def voidMask (voidPos : List Nat) : Nat := (voidPos.map (fun p => 2 ^ p)).sum
def isVoidOut (voidPos : List Nat) (o : OutRec) : Bool := voidPos.any (fun p => o.mask.testBit p)

/-- The records of a job's live outputs land in OUT order (R210). -/
def postJob (s : State) (j : Job) (status flags code : Nat) (withData : Bool) : State :=
  let live := (indexed (s.ctx j.ctx).outs).filter (fun o => !isVoidOut j.voidPos o.2)
  (live.foldl (fun s o => postRecord s j.ctx
    ⟨status, flags, code, o.1, j.tag, j.tInput, if withData then o.2.size else 0, s.free, s.now⟩) s).draw

/-- COLD and REPLAYED of a job (R205, spec/05 R125). -/
def jobFlags (s : State) (j : Job) : Nat :=
  (if j.cold || j.counts.any (fun r => r.cold) || (openCells s j).any (fun g => (s.cell g).counts.cold) then 1 else 0) +
  (if j.replayed then 2 else 0)

/-- VOID records of a batch, each with the lowest slot of the positions it lacks (R206, R210). -/
def postVoids (s : State) (c tag tInput moment : Nat) (voidPos : List Nat) : State :=
  let x := s.ctx c
  ((indexed x.outs).filter (fun o => isVoidOut voidPos o.2)).foldl (fun s o =>
    let code := ((voidPos.filter (fun p => o.2.mask.testBit p)).map (fun p => (x.pos p).1)).foldl min 31
    postRecord s c ⟨stVoid, 0, code, o.1, tag, tInput, 0, s.free, moment⟩) s

/-! ### Cells of a job -/

def activeCtx (x : Ctx) : Bool := decide (x.st = .active ∨ x.st = .unadmitted)

/-- A claim ends: the cell is idle from here (spec/01 R20); a forced test begins where its zone is on (spec/10 R268). -/
def releaseCell (s : State) (g : Nat) : State :=
  s.modCell g (fun c => { c with claim := none, idleSince := s.now, service := if c.forced && (s.zone (zoneOf g)).on then 3 else c.service })

/-- The cell runs, or a START of it is held (spec/04 R101). -/
def cellRuns (s : State) (g : Nat) : Bool := decide ((s.cell g).st = .running ∨ (s.cell g).startHeld) && !(s.cell g).fence

/-! ### Commands to Tackers (spec/01 R19) -/

/-- A command waits for a Tacker that restarts: in the Laster's queue of 16 there, and where that is full in the Laster. -/
def enqueueCmd (s : State) (t n : Nat) (x : TackCmd) : State :=
  let k := s.tacker t
  let q := lookup [] k.queues n
  if q.length < 16 then s.setTacker t { k with queues := put [] k.queues n (q ++ [x]) }
  else let l := s.laster n; s.setLaster n { l with waiting := l.waiting ++ [x] }

/-- A command of Laster n arrives at Tacker t: it waits while the Tacker restarts; a Tacker that runs performs it, and the
next queue in round-robin order is that of the next Laster. -/
def sendCmd (s : State) (t n : Nat) (x : TackCmd) (act : State → State) : State :=
  if (s.tacker t).state = 1 then enqueueCmd s t n x
  else act (s.setTacker t { s.tacker t with rr := (n + 1) % 4 })

/-- HALT_REQ to one cell of a job. -/
def haltCellOf (s : State) (g id : Nat) : State :=
  if (s.cell g).claim.map (·.2) = some id then (if (s.cell g).startHeld then dropStart s g else haltRequest s g) else s

/-- Free the claims of a job whose cells do not run; a running one is freed when its HALT_REQ is obeyed. -/
def releaseJob (s : State) (j : Job) : State :=
  (List.range 64).foldl (fun s g =>
    if (s.cell g).claim.map (·.2) = some j.id ∧ !cellRuns s g then releaseCell s g else s) s

def dropJob (s : State) (id : Nat) : State := { s with jobs := s.jobs.filter (fun (j : Job) => j.id != id) }

/-- HALT_REQ to every cell of a job that runs (R221, R226), through its Tacker (spec/01 R19). -/
def haltJob (s : State) (j : Job) : State :=
  j.cells.foldl (fun s g =>
    if (s.cell g).claim.map (·.2) = some j.id ∧ !j.done.contains g then
      sendCmd s (tackerOf g) (ctxLaster s j.ctx) (.halt g j.id) (fun s => haltCellOf s g j.id)
    else s) s

/-- Cell-time of a run, from its START to DC time t, counts as received by the context (R223). -/
def creditRun (s : State) (j : Job) (t : Nat) : State :=
  s.modCtx j.ctx (fun x => { x with cellTime := x.cellTime + (t - j.tStart.getD t) * j.cells.length })

/-- A run's progress is forgotten; the job starts again from its input (R226, spec/10 R260). -/
def resetRun (j : Job) : Job :=
  { j with done := [], counts := [], hists := [], retire := none, tStart := none, streamed := false }

/-- A job whose last record is posted, or that is evicted, leaves its cells once they have stopped. -/
def settleJob (s : State) (id : Nat) : State :=
  match s.job? id with
  | none => s
  | some j =>
    if j.phase ≠ .halting ∨ j.cells.any (fun g => (s.cell g).claim.map (·.2) = some id ∧ cellRuns s g) then s
    else if j.cancelled then dropJob (creditRun (releaseJob s j) j s.now) id
    else if j.evicted then
      (creditRun (releaseJob s j) j s.now).modJob id (fun j => { resetRun j with phase := .waiting, evicted := false, cells := [] })
    else s

/-- The job ends without a further run: dequeued, or halted (R221). -/
def abandonJob (s : State) (id : Nat) : State :=
  match s.job? id with
  | none => s
  | some j =>
    let s := haltJob s j
    settleJob (s.modJob id (fun j => { j with phase := .halting, cancelled := true, armed := [] })) id

/-! ### Lateness (R218 to R221) -/

/-- The interval a cancelled late job counts as unavailable (spec/10 R253). -/
def noteWindow (s : State) (j : Job) : State :=
  if j.overRate then s else
  { s with resil := { s.resil with windows := s.resil.windows ++ [(jobDeadline s j, jobDeadline s j + (s.ctx j.ctx).period)] } }

/-- The LATE records of a job open an interval of unavailable time from its deadline (spec/10 R253). -/
def openLate (s : State) (j : Job) : State :=
  if j.overRate then s else
  let live := (indexed (s.ctx j.ctx).outs).filter (fun o => !isVoidOut j.voidPos o.2)
  { s with resil := { s.resil with lateOpen := s.resil.lateOpen ++ live.map (fun o => ⟨j.ctx, o.1, j.tag, j.tInput, jobDeadline s j⟩) } }

/-- The LATE decision, once a job, and the context's policy. -/
def makeLate (s : State) (id : Nat) : State :=
  match s.job? id with
  | none => s
  | some j =>
    if j.late ∨ j.cancelled ∨ !(s.ctx j.ctx).deadlineClass then s else
    let cancel := (s.ctx j.ctx).cancels
    let s := postJob s j stLate (jobFlags s j) (if cancel then 1 else 0) false
    let s := s.modJob id (fun j => { j with late := true, armed := [] })
    if cancel then abandonJob (noteWindow s j) id else openLate s j

/-- T_ls passes before any START, or T_dl - 20 us before the retirement is received (R219). -/
def lateCheck (s : State) (id : Nat) : State :=
  match s.job? id with
  | none => s
  | some j =>
    if !(s.ctx j.ctx).deadlineClass then s
    else if jobDeadline s j ≤ s.now + 20000 then makeLate s id
    else if decide (jobDeadline s j ≤ s.now + jobTime s j) && j.tStart.isNone && !j.replayed && !j.needReplay then makeLate s id
    else s

/-- Deadline moments of a job that have passed. -/
def momentsPassed (s : State) (j : Job) : List Nat :=
  j.armed.filter (fun k => if k = 0 then decide (jobDeadline s j ≤ s.now + jobTime s j) else decide (jobDeadline s j ≤ s.now + 20000))

/-! ### Forming jobs (R209, R210, R222) -/

structure NewJob where
  tag : Nat
  tInput : Nat
  src : Nat
  inAddr : Nat
  inLen : Nat
  arg : List Byte
  voidPos : List Nat
  buffers : List (List Byte)
  buf : Option Nat
  cold : Bool
  late : Bool
  closedAt : Nat
  argAt : Option Nat := none
  deriving DecidableEq, Repr

/-- A job of the context is running (R222). -/
def runningJobs (s : State) (c : Nat) : Nat :=
  (s.jobs.filter (fun (j : Job) => j.ctx == c && decide (j.phase ≠ .waiting) && !j.cancelled)).length

/-- A job is formed: VOID records at once, over-rate test, deadline moments armed. -/
def formJob (s : State) (c : Nat) (x : NewJob) : State :=
  let d := s.ctx c
  let s := if x.voidPos.isEmpty then s else postVoids s c x.tag x.tInput x.closedAt x.voidPos
  let fast := decide (d.reps ≤ runningJobs s c) ||
    (d.deadlineClass && (match d.lastInput with | some t => decide (x.tInput < t + d.period) | none => false))
  if !d.outs.isEmpty && d.outs.all (isVoidOut x.voidPos) then s.modCtx c (fun d => { d with lastInput := some x.tInput }) else
  let id := s.jobIds + 1
  let j : Job := { id := id, ctx := c, ord := d.formed, tag := x.tag, tInput := x.tInput, src := x.src, inAddr := x.inAddr, inLen := x.inLen,
                   arg := x.arg, argAt := x.argAt, voidPos := x.voidPos, buffers := x.buffers, buf := x.buf, cold := x.cold, late := x.late, overRate := fast,
                   armed := if d.deadlineClass && !x.late then [0, 1] else [] }
  let s := { s with jobs := s.jobs ++ [j], jobIds := id }
  let s := s.modCtx c (fun d => { d with lastInput := some x.tInput, formed := d.formed + 1, overRate := if fast then satAdd 32 d.overRate 1 else d.overRate })
  if fast then
    let s := if x.late then (List.range d.outs.length).foldl (fun s o => closeLate s c o x.tag x.tInput) s else s
    postEvent s c evOverRate (leBytes 4 x.tag)
  else s

/-- BATCH_LOW when a job's take leaves exactly Lw batches, armed again above it (R192). -/
def tookBatch (s : State) (c : Nat) : State :=
  let x := s.ctx c
  if x.batches.length = x.lowWater ∧ x.lowArmed then
    postEvent (s.setCtx c { x with lowArmed := false }) c evBatchLow [BitVec.ofNat 8 x.batches.length]
  else s

/-- The argument object bound to a context (spec/12 R316). -/
def boundArg (s : State) (c : Nat) : List Byte :=
  match s.field.arg.find? (fun p => p.2.binding.getLsbD 15 && bits p.2.binding.toNat 11 0 == c) with
  | some p => readBytes p.2.value 0 32
  | none => List.replicate 32 0

/-- Contents of a batch by position; a VOID position takes the value of a black pixel when the job reads it (R210). -/
def batchJob (b : Batch) (npos tag : Nat) (arg : List Byte) : NewJob :=
  { tag := tag, tInput := b.tInput, src := 0, inAddr := 0, inLen := 0, arg := arg, voidPos := b.voidPos,
    buffers := (List.range npos).map (fun p => (lookup ⟨0, 0, false, []⟩ b.samples p).data), buf := b.buf,
    cold := b.samples.any (fun p => p.2.cold), late := b.late, closedAt := b.closedAt }

/-- START_MODE 0: every closed batch starts a job, numbered by the device (R209). A batch that the deadline unit already
cancelled as late becomes none; a Laster being replaced takes none in (spec/10 R265). `n` bounds the work. -/
def formBatches (s : State) (c : Nat) : Nat → State
  | 0 => s
  | n + 1 =>
    let x := s.ctx c
    if !activeCtx x ∨ x.startMode ≠ 0 ∨ (s.laster (ctxLaster s c)).state ≠ 0 then s else
    match x.batches with
    | [] => s
    | b :: rest =>
      let tag := x.jobNo
      let s := s.setCtx c { x with batches := rest, jobNo := (x.jobNo + 1) % 2 ^ 32 }
      let s := tookBatch s c
      formBatches (if b.late && x.cancels then s else formJob s c { batchJob b x.npos tag (boundArg s c) with argAt := some s.now }) c n

/-! ### Dispatch (R223, R225) -/

/-- Cells that jobs of a Laster's group have been placed on and not yet claimed. -/
def plannedCells (s : State) (n : Nat) : List Nat :=
  (s.jobs.filter (fun (j : Job) => decide (ctxLaster s j.ctx = n) && j.phase == .claiming)).flatMap (fun j => j.cells)

/-- Idle, unclaimed, in service. -/
def cellFree (s : State) (n g : Nat) : Bool :=
  unfenced s g && !isClaimed s g && decide ((s.cell g).service = 0) && !(plannedCells s n).contains g && !cellRuns s g

def assign (s : State) (id k : Nat) (cells : List Nat) (stripe : Bool) : State :=
  s.modJob id (fun j => { j with phase := .claiming, replica := k, cells := cells, stripe := stripe, busy := [],
                                 home := (s.ctx j.ctx).deadlineClass && (s.ctx j.ctx).replicas.contains cells })

/-- Quarters in the order of R225 for a job that needs a rate in Mst/s. -/
def quarterOrder (s : State) (need : Nat) : List Nat :=
  sortBy (fun q => if (need : Int) * 300000 ≤ quarterRate s q then 0 else 1)
    (sortBy (fun q => (s.qpower q).setpoint) (sortBy (fun q => (clusterTemp s q + 2730).toNat) allQuarters))

/-- Free unreserved cells of a mask for a B job, or a D1 job outside its home sets; cells whose claims came back busy are
left out. A package that no quarter's unfenced cells can hold is split (R228). -/
def freeSet (s : State) (n : Nat) (x : Ctx) (j : Job) (qs : List Nat) : Option (List Nat) :=
  let free := (maskCells x).filter (fun g => cellFree s n g && !isReserved s g && !j.busy.contains g && qs.contains (quarterOf g))
  let all := (maskCells x).filter (fun g => unfenced s g && !isReserved s g)
  match placeIn qs x free with
  | some c => some c
  | none => if (placeIn allQuarters x all).isNone && decide (slotCount x ≤ free.length) then some (free.take (slotCount x)) else none

/-- A B job on a cell, where one holds it. -/
def bJobOn (s : State) (g : Nat) : Option Job :=
  match (s.cell g).claim with
  | some (_, id) => (s.job? id).filter (fun j => (s.ctx j.ctx).cls == 2)
  | none => none

/-- A B job is evicted (R226). -/
def evict (s : State) (j : Job) : State :=
  if j.phase = .halting ∨ j.phase = .retired then s
  else
    let s := s.modCtx j.ctx (fun x => { x with evictions := satAdd 32 x.evictions 1 })
    let s := haltJob (s.modJob j.id (fun j => { j with phase := .halting, evicted := true })) j
    settleJob s j.id

/-- Every plan of a package. -/
def packagePlans (p : Package) : List Plan := p.stripe :: p.halo.toList ++ p.spill.toList ++ p.streamed.toList

/-- A tile program of the package reads or writes history (spec/05 R124). -/
def packageHistory (p : Package) : Bool :=
  (packagePlans p).any (fun x => x.slots.any (fun sp => sp.tmem.any (fun w => vOp w == 0x60 || vOp w == 0x61)))

/-- Home sets in the order in which a D1 job tries them: that of its replica, then the others (R213, R223). -/
def homeOrder (x : Ctx) (k : Nat) : List (List Nat) := x.replicas.drop k ++ x.replicas.take k

/-- Place one waiting job where R223 lets it go; unchanged where nothing is free. Each D1 replica receives every r-th job
(R213). That a B job uses the counters and networks of the lowest-numbered idle replica is the model's choice
(notes/assumptions/137). -/
def placeJob (s : State) (n : Nat) (j : Job) : State :=
  let x := s.ctx j.ctx
  let idle := (List.range x.reps).filter (replicaIdle s j.ctx)
  let history := match x.pkg with | some p => packageHistory p | none => false
  if history && s.jobs.any (fun (k : Job) => k.ctx == j.ctx && decide (k.phase ≠ .waiting)) then s else
  match x.cls with
  | 0 =>
    match idle.find? (fun k => (x.replicas.getD k []).all (cellFree s n)) with
    | some k => assign s j.id k (x.replicas.getD k []) (x.stripes.getD k true)
    | none => s
  | 1 =>
    let k := j.ord % max 1 x.reps
    if !idle.contains k then s else
      match (homeOrder x k).find? (fun h => h.all (cellFree s n)) with
      | some h => assign s j.id k h (isSplit x h)
      | none =>
        match (homeOrder x k).find? (fun h => h.all (fun g => cellFree s n g || (bJobOn s g).isSome)) with
        | some h => h.foldl (fun s g => match bJobOn s g with | some b => evict s b | none => s) s
        | none =>
          match freeSet s n x j (quarterOrder s (jobRate s j)) with
          | some cells => assign s j.id k cells (isSplit x cells)
          | none => s.modJob j.id (fun j => { j with busy := [] })
  | _ =>
    match idle.head? with
    | none => s
    | some k =>
      match freeSet s n x j ((quarterOrder s 0).filter (fun q => decide (clusterTemp s q < 950))) with
      | some cells => assign s j.id k cells (isSplit x cells)
      | none => s.modJob j.id (fun j => { j with busy := [] })

/-- No unfenced cells of the mask can take the job: FAULT NO_CELL (R206). -/
def noCell (s : State) (j : Job) : Bool :=
  let x := s.ctx j.ctx
  decide (((maskCells x).filter (fun g => unfenced s g &&
    (match reservedBy s g with | some c => c == j.ctx | none => true))).length < slotCount x)

def failNoCell (s : State) (j : Job) : State :=
  let s := raise s (.main gSched 3) j.ctx 0
  let s := postJob s j stFault (jobFlags s j + if j.late then 64 else 0) 7 false
  abandonJob (s.modCtx j.ctx (fun x => { x with retired := satAdd 32 x.retired 1 })) j.id

/-- Waiting jobs of a Laster in the order of R223: D0, then D1, earliest deadline first, then B by received share. -/
def dispatchOrder (s : State) (n : Nat) : List Job :=
  let w := s.jobs.filter (fun (j : Job) => decide (ctxLaster s j.ctx = n) && j.phase == .waiting)
  let of' := fun (k : Nat) => w.filter (fun j => (s.ctx j.ctx).cls == k)
  let edf := fun (l : List Job) => sortBy (fun j => jobDeadline s j) (sortBy (fun j => j.ctx) l)
  let running := fun (c : Nat) => ((s.jobs.filter (fun (k : Job) => k.ctx == c)).map (fun k => (s.now - k.tStart.getD s.now) * k.cells.length)).sum
  let share := fun (j : Job) => let x := s.ctx j.ctx; (x.cellTime + running j.ctx) * 4294967296 / max 1 x.weight
  edf (of' 0) ++ edf (of' 1) ++ sortBy share (sortBy (fun j => j.ctx) (of' 2))

/-- A job of the context that was formed earlier waits for its placement, or for its first START (R209). -/
def behind (s : State) (j : Job) : Bool :=
  s.jobs.any (fun (k : Job) => k.ctx == j.ctx && decide (k.id < j.id) && (k.phase == .waiting || (decide (k.runs = 0) && !k.cancelled)))

/-- One pass over the waiting jobs. Jobs of one context start in the order in which they were formed: each is placed once the one before
it has started, the model's way to keep that order (R209, notes/assumptions/136). -/
def dispatchPass (s : State) (n : Nat) : State :=
  (dispatchOrder s n).foldl (fun s j =>
    if behind s j then s
    else if noCell s j then failNoCell s j else placeJob s n j) s

/-- The Laster dispatches; a Laster being replaced takes no new work (spec/10 R265). -/
def dispatch (s : State) (n : Nat) : State :=
  if (s.laster n).state ≠ 0 then s else
  (List.range (dispatchOrder s n).length).foldl (fun s _ => dispatchPass s n) s

def dispatchAll (s : State) : State := (List.range 4).foldl dispatch s

/-! ### Claims (spec/01 R20, R21, spec/09 R238) -/

/-- Cells that jobs or Tackers have claimed. -/
def claimedCount (s : State) : Nat := ((List.range 64).filter (isClaimed s)).length

/-- No further cell may be claimed under the active-cell limit (spec/09 R238). -/
def atLimit (s : State) : Bool := decide (s.power.cellLimit ≤ claimedCount s)

def answerClaim (s : State) (n g id : Nat) (ok : Bool) : State := sendNotice s n (tackerSrc (tackerOf g)) (.claimResult g id ok)

/-- Cell g of Laster n's claim is taken: by a job or a Tacker, out of service, or reserved for a context of another Laster. -/
def claimBusy (s : State) (n g : Nat) : Bool :=
  isClaimed s g || !unfenced s g || decide ((s.cell g).service ≠ 0) ||
  (match reservedBy s g with | some r => decide (ctxLaster s r ≠ n) | none => false)

/-- A claim waits until its zone reports power-good (spec/01 R21). -/
def holdClaim (s : State) (x : HeldClaim) : State :=
  let z := s.zone (zoneOf x.cell)
  s.setZone (zoneOf x.cell) { z with waking := true, held := z.held ++ [x] }

/-- The Tacker decides a claim. -/
def claimAt (s : State) (n g id : Nat) : State :=
  if claimBusy s n g then answerClaim s n g id false
  else if !(s.zone (zoneOf g)).on then holdClaim s ⟨n, g, id, false⟩
  else if atLimit s then
    let l := s.laster n
    let arg := match s.job? id with | some j => j.ctx | none => 0
    raise (s.setLaster n { l with waiting := l.waiting ++ [.claim g id] }) (.main gSched 4) arg 0
  else answerClaim (s.modCell g (fun c => { c with claim := some (n, id) })) n g id true

/-- A claim reaches its Tacker, or waits for it (R19, spec/10 R264). -/
def claimCell (s : State) (n g id : Nat) : State := sendCmd s (tackerOf g) n (.claim g id) (fun s => claimAt s n g id)

/-- Claims a Tacker out of service can no longer serve come back busy (R20, spec/10 R264). -/
def refuseQueued (s : State) (t : Nat) : State :=
  (s.tacker t).queues.foldl (fun s p => p.2.foldl (fun s x => match x with | .claim g id => answerClaim s p.1 g id false | _ => s) s)
    (s.setTacker t { s.tacker t with queues := [] })

def hasClaim (s : State) (id g : Nat) : Bool := (s.cell g).claim.map (·.2) == some id

/-! ### START -/

/-- Where slot i of a plan stands in the context's allocation: address, bytes (notes/assumptions/134). -/
def loadRange (x : Ctx) (pl : Plan) (i : Nat) : Nat × Nat :=
  let n := ceilDiv pl.progBytes 32 * 32
  let size := match x.pkg with | some p => p.allocBytes | none => 0
  (x.allocAt + min (i * n) size, min n (size - i * n))

/-- The slot's program and resident data, which a transfer of the cell's Tacker brings in unless the cell holds them or they are on
their way (R227, spec/04 R95). -/
def ensureProgram (s : State) (g : Nat) (p : SlotProg) (sb : StartBlock) (r : Nat × Nat) : State :=
  if holdsProgram (s.cell g) p || (loadTag s g p).isSome then s else submitLoad s g p sb r.1 r.2

/-- The job start block (spec/04 R84). -/
def startBlock (s : State) (j : Job) : StartBlock :=
  let x := s.ctx j.ctx
  { place := indexed j.cells, base := x.counterBase.getD j.replica 0, count := (match x.pkg with | some p => p.counters | none => 0),
    bars := indexed (x.nets.getD j.replica []), tag := ctxTag j.ctx x, ctx := j.ctx, job := j.id, run := j.runs }

/-- Before the first START and before a replay: counters 0, networks reset with their members (R96, R98, R215). -/
def resetSync (s : State) (j : Job) : State :=
  let x := s.ctx j.ctx
  match x.pkg with
  | none => s
  | some p =>
    let s := { s with fabric := { s.fabric with counter := s.fabric.counter.filter (fun k =>
      !decide (x.counterBase.getD j.replica 0 ≤ k.1 ∧ k.1 < x.counterBase.getD j.replica 0 + p.counters)) } }
    { s with fabric := { s.fabric with barrier := ((x.nets.getD j.replica []).zip p.barriers).foldl (fun t nb =>
      let b := lookup {} t nb.1
      put {} t nb.1 { b with members := nb.2.map (fun i => j.cells.getD i 64), arrived := [] }) s.fabric.barrier } }

/-- One cell of the job: start block, history, arguments, program, START, which a load still on its way holds (R227, spec/04 R101). -/
def startOne (s : State) (j : Job) (i g : Nat) : State :=
  let x := s.ctx j.ctx
  match x.pkg with
  | none => s
  | some p =>
    let pl := planOf x j.stripe j.streamed
    let slot := pl.slots.getD i noProg
    let s := ensureProgram s g slot (startBlock s j) (loadRange x pl i)
    let c := s.cell g
    let st := (p.argAt.filter (fun a => a.1 == i)).foldl (fun m a => writeBytes m a.2 (padTo 32 j.arg)) c.store
    let c := { c with
      sb := startBlock s j, store := st, counts := {}, layersDone := 0
      hist := (List.range 16).foldl (fun t h => put (0, true) t h (lookup (0, true) x.hist (16 * i + h))) []
      seed := (List.range 16).foldl (fun t h => put 0 t h (seedMax (x.seedScale h) (if x.seedTarget h = 1 then 7 else 127))) [] }
    match loadTag s g slot with
    | some tag => s.setCell g { c with startHeld := true, startFor := [tag] }
    | none => startCell (s.setCell g c) g

/-- The cells of a claimed job under Tacker t start (R84, R227). The first START of a run waits for every cell of the job to
have stopped. -/
def startJob (s : State) (t id : Nat) : State :=
  match s.job? id with
  | none => s
  | some j =>
    if (j.phase ≠ .claimed ∧ j.phase ≠ .running) ∨ !j.cells.all (hasClaim s id) ∨ (s.tacker t).state ≠ 0 then s else
    let mine := (indexed j.cells).filter (fun p => tackerOf p.2 == t && !j.done.contains p.2 && !cellRuns s p.2)
    if mine.isEmpty then s else
    if j.tStart.isSome then
      (mine.filter (fun p => (s.cell p.2).sb.job != id || !(s.cell p.2).report)).foldl (fun s p => startOne s j p.1 p.2) s
    else if j.cells.any (cellRuns s) then s
    else
      let j := { resetRun j with tStart := some s.now, phase := .running, runs := j.runs + 1, streamed := runsStreamed s j,
                                  replayed := j.replayed || j.needReplay, needReplay := false }
      let s := s.modJob id (fun _ => j)
      let s := resetSync s j
      let s := j.cells.foldl (fun s g => s.modCell g (fun c => { c with report := false, prog := none })) s
      dispatch (mine.foldl (fun s p => startOne s j p.1 p.2) s) (ctxLaster s j.ctx)

/-- JOB_COMMAND reaches its Tacker, or waits for it (spec/01 R19). -/
def jobCommand (s : State) (t id : Nat) : State :=
  let n := match s.job? id with | some j => ctxLaster s j.ctx | none => 0
  sendCmd s t n (.start t id) (fun s => startJob s t id)

/-- A command that waited is performed. -/
def performCmd (s : State) (n : Nat) : TackCmd → State
  | .claim g id => claimAt s n g id
  | .start t id => startJob s t id
  | .halt g id => haltCellOf s g id

/-- A command that waited in its Laster is sent again. -/
def resendCmd (s : State) (n : Nat) (x : TackCmd) : State :=
  match x with
  | .claim g id => claimCell s n g id
  | .start t id => jobCommand s t id
  | .halt g id => sendCmd s (tackerOf g) n x (fun s => haltCellOf s g id)

/-- Commands that wait in the Lasters are sent again. -/
def retryWaiting (s : State) : State :=
  (List.range 4).foldl (fun s n =>
    let l := s.laster n
    l.waiting.foldl (fun s x => resendCmd s n x) (s.setLaster n { l with waiting := [] })) s

/-- Cells became free: waiting claims and waiting jobs go on. -/
def afterFree (s : State) : State := dispatchAll (retryWaiting s)

/-! ### The end of a job (R205, R217, spec/05 R123, R140) -/

def addTab (a b : Tab Nat) : Tab Nat := b.foldl (fun t p => bump 32 t p.1 p.2) a

/-- A retired run's counts reach the context once (spec/02 R51). -/
def addCounts (x : Ctx) (r : RunCounts) : Ctx :=
  { x with quant := addTab x.quant r.written, clip := addTab x.clip r.clipped, nanOut := satAdd 32 x.nanOut r.nanOut,
           accSat := satAdd 32 x.accSat r.accSat, t5b := satAdd 32 x.t5b r.t5b,
           stallTime := addTab x.stallTime r.stallTime, stallEvents := addTab x.stallEvents r.stallEvents }

def faultCode : JobFault → Nat
  | .illegalOp => 1
  | .syncRange => 2
  | .pcOverrun => 3
  | .laceError => 4
  | .threadAddr => 5

/-- The Laster reads a retirement and posts the job's records (R220, R221, R231). Of a replayed or evicted job, the run time that R217
compares begins at the START of the run that retired: the model's choice of its first START (notes/assumptions/138). -/
def finishJob (s : State) (id : Nat) : State :=
  match s.job? id with
  | none => s
  | some j =>
    match j.retire with
    | none => s
    | some r =>
      if j.cancelled then s else
      let x := s.ctx j.ctx
      let ran := r.t - j.tStart.getD r.t
      let s := (((j.counts.flatMap (fun k => k.written.map (·.1))).dedup)).foldl (fun s l => clipCheck s id l) s
      let flags := jobFlags s j + if j.late then 64 else 0
      let s := postJob s j (if r.fault.isNone then stOk else stFault) flags (match r.fault with | some f => faultCode f | none => 0) r.fault.isNone
      let long_ := decide (x.tJob < ran + 20000)
      let s := creditRun s j r.t
      let s := s.modCtx j.ctx (fun x =>
        let x := j.counts.foldl addCounts x
        { x with retired := satAdd 32 x.retired 1,
                 budget := if long_ then satAdd 32 x.budget 1 else x.budget,
                 hist := if r.fault.isNone && !x.outs.any (isVoidOut j.voidPos) then
                     j.hists.foldl (fun t h => put (0, true) t h.1 h.2) x.hist else x.hist })
      let s := if long_ then
          postEvent (raise s (.main gSched 2) j.ctx 0) j.ctx evBudgetOverrun
            (leBytes 4 j.tag ++ leBytes 4 (min ran (2 ^ 32 - 1)) ++ leBytes 4 x.tJob)
        else s
      dropJob (releaseJob s j) id

/-! ### Replay (spec/10 R260) -/

/-- The job must run again from its start: its other cells are halted, its barriers reset. -/
def beginReplay (s : State) (id : Nat) : State :=
  match s.job? id with
  | none => s
  | some j =>
    if j.cancelled ∨ j.evicted then s else
    let s := creditRun (haltJob s j) j s.now
    let s := count2601 s 2 1
    let s := s.modCtx j.ctx (fun x => { x with replays := satAdd 32 x.replays 1 })
    s.modJob id (fun j => { resetRun j with needReplay := true, phase := .claiming })

/-- Where a replay goes: on its reservation or home set, the cell that has replaced the lost one there, else the first free cell
(R228). -/
def replayCell (s : State) (j : Job) (i old : Nat) : Option Nat :=
  let x := s.ctx j.ctx
  if unfenced s old then some old else
  let same := fun (r : List Nat) => decide (r.length = j.cells.length) && (r.zip j.cells).all (fun p => p.1 == p.2 || !unfenced s p.2)
  let own := match (if j.home then x.replicas.find? same else none) with | some r => r.getD i 64 | none => 64
  if decide (own < 64) && unfenced s own && !isClaimed s own then some own
  else
    let ok := (maskCells x).filter (fun g => unfenced s g && !isReserved s g && !isClaimed s g && !j.cells.contains g && decide ((s.cell g).service = 0))
    match ok.find? (fun g => quarterOf g == quarterOf old) with
    | some g => some g
    | none => ok.head?

/-- The Laster places a replay; LATE where it cannot end by T_dl (R219). -/
def placeReplay (s : State) (id : Nat) : State :=
  match s.job? id with
  | none => s
  | some j =>
    if !j.needReplay ∨ j.cancelled then s
    else if noCell s j then failNoCell s j
    else
      let s := (indexed j.cells).foldl (fun s p =>
        match s.job? id with
        | none => s
        | some j =>
          if unfenced s p.2 then s else
          match replayCell s j p.1 p.2 with
          | some g => s.modJob id (fun j => { j with cells := j.cells.map (fun h => if h = p.2 then g else h) })
          | none => s) s
      match s.job? id with
      | none => s
      | some j =>
        let j' := { j with stripe := isSplit (s.ctx j.ctx) j.cells, home := j.home && (s.ctx j.ctx).replicas.contains j.cells }
        let s := s.modJob id (fun _ => j')
        let s := if (s.ctx j.ctx).deadlineClass ∧ jobDeadline s j' < s.now + jobTime s j' then makeLate s id else s
        if j'.cells.all (unfenced s) then
          (if j'.cells.all (hasClaim s id) then s.modJob id (fun j => if j.cancelled then j else { j with phase := .claimed }) else s)
        else dispatchAll ((releaseJob s j').modJob id (fun j => if j.cancelled then j else { j with phase := .waiting, cells := [] }))

end Sys2Proof.Machine
end

