-- ==== Sys2Proof/Machine/Tackers.lean ====
section
/-! DEFINITION. Tackers: claims, START, retirement and failure of cells (spec/01 R19, R20; spec/10 R259 to R264), the
in-service test (R267, R268), quarters and links (spec/01 R15, R26), and the unloading of a context (spec/08 R197). -/

namespace Sys2Proof.Machine

/-! ### Unloading -/

/-- The slot holds nothing, what was written to it and the arms it has completed apart (spec/11 R287). -/
def ArmSlot.clear (x : ArmSlot) : ArmSlot := { x with state := 0, err := 0, data := [], fill := [], readable := 0 }

/-- The owner's bulk windows become unmapped (spec/11 R286). -/
def unmapOwner (s : State) (owner : Nat) : State :=
  [0, 1].foldl (fun s ch =>
    let x := s.chan ch
    if x.bulkMap.getLsbD 0 ∧ bits x.bulkMap.toNat 63 48 = owner then
      s.setChan ch { x with bulkMap := x.bulkMap &&& ~~~1, arm := mapKeys {} x.arm 2 ArmSlot.clear } else s) s

/-- The LPDDR6 lines of an allocation become free: tag 0, zeros, which makes their words readable again (spec/10 R255 to R257). -/
def freeLines (s : State) (a n : Nat) : State :=
  rewritten { s with fabric := { s.fabric with
      lpddr := zeroRange s.fabric.lpddr a n, tags := s.fabric.tags.filter (fun p => decide (p.1 * 32 < a ∨ a + n ≤ p.1 * 32)) } } 0 a n

/-- Every job of a context ends with FAULT UNLOADED (R197, R206). -/
def unloadJobs (s : State) (c : Nat) : State :=
  (s.jobs.filter (fun (j : Job) => j.ctx == c)).foldl (fun s j =>
    if j.cancelled then s
    else abandonJob (postJob s j stFault (jobFlags s j + if j.late then 64 else 0) 6 false) j.id) s

/-- UNLOAD: jobs, event, every resource; the queues remain (R197, R203, R215). Reason 1 quarter lost, 2 command. That t_job
and the floor rate used read 0 afterwards is the model's choice (notes/assumptions/115). -/
def unloadCtx (s : State) (c reason : Nat) : State :=
  let s := unloadJobs s c
  let s := postEvent s c evUnloaded [BitVec.ofNat 8 reason]
  let x := s.ctx c
  let s := match x.pkg with | some p => freeLines s x.allocAt p.allocBytes | none => s
  let s := { s with fabric := { s.fabric with
    mapPages := s.fabric.mapPages.map (fun (q : Nat × List (Nat × Nat)) => (q.1, q.2.filter (fun p => p.1 != c))) } }
  let s := { s with fabric := { s.fabric with mapPages := s.fabric.mapPages.filter (fun q => !q.2.isEmpty) } }
  let s := unmapOwner s c
  s.setCtx c { x with st := .empty, reason := 0, pkg := none, withdrawn := false, byHost := false, replicas := [], stripes := [],
                      counterBase := [], nets := [], launchAt := none, openBatch := none, batches := [], hist := [],
                      tJob := 0, floorUsed := 0, spill := false }

/-! ### Fencing -/

/-- The number of unfenced cells changed: figures and admission (spec/09 R244, spec/08 R216). -/
def cellsChanged (s : State) : State := recheck (publish s false) false

/-- A command that may fence a cell or clear its fence: figures and admission follow at once (spec/09 R236, R244). -/
def withFence (s : State) (g : Nat) (f : State → State) : State :=
  let t := f s
  if unfenced t g = unfenced s g then t else cellsChanged t

def execFence (g : CellNo) (s : State) : Host.Outcome State Fault Refusal :=
  .next (withFence s g.val (fun s => if (s.cell g.val).fence then s else fenceCell s g.val))

def execFenceClear (g : CellNo) (s : State) : Host.Outcome State Fault Refusal := .next (withFence s g.val (fun s => unfenceCell s g.val))

/-- A Tacker starts the replay of a job of one cell on a cell of its own, and tells the Laster (R260). -/
def replayHere (s : State) (n h id : Nat) (src : NoticeSrc) (old : Nat) : State :=
  let s := s.modCell h (fun c => { c with claim := some (n, id) })
  let s := s.modJob id (fun j => { j with cells := [h], home := false, phase := .claimed })
  sendNotice (startJob s (tackerOf h) id) n src (.cellFault old id true)

/-- A Tacker's replay on a cell of a gated zone begins at power-good (spec/01 R21). -/
def replayHeld (s : State) (n h id : Nat) (src : NoticeSrc) (old : Nat) : State :=
  let s := s.modJob id (fun j => { j with cells := [h], home := false, phase := .claiming })
  sendNotice (holdClaim s ⟨n, h, id, true⟩) n src (.cellFault old id true)

/-- The job of a failed or isolated cell: replayed unless it is over (R260, R261). -/
def loseCell (s : State) (g : Nat) (src : NoticeSrc) (byTacker : Bool) : State :=
  match (s.cell g).claim with
  | none => s
  | some (n, id) =>
    let s := releaseCell s g
    match s.job? id with
    | none => s
    | some j =>
      if j.cancelled ∨ j.evicted then settleJob s id
      else if j.retire.isSome then s
      else
        let first := !j.needReplay
        let s := if first then beginReplay s id else s
        let x := s.ctx j.ctx
        let own := (List.range 4).map (fun i => tackerOf g * 4 + i)
        let cand := own.find? (fun h => unfenced s h && !isClaimed s h && !cellRuns s h && decide ((s.cell h).service = 0) &&
          !(s.zone (zoneOf h)).failed && x.mask.testBit h && (match reservedBy s h with | some c => c == j.ctx | none => true))
        match (if byTacker && decide ((s.tacker (tackerOf g)).state = 0) && decide (j.cells.length = 1) && !atLimit s then cand else none) with
        | some h => if (s.zone (zoneOf h)).on then replayHere s n h id src g else replayHeld s n h id src g
        | none => sendNotice s n src (.cellFault g id false)

/-- 0x2610 + g: a failure is recorded, and the rule of a second failure within 1 h (R262, R270). -/
def recordFailure (s : State) (g : Nat) : State :=
  let s := count2601 s 1 1
  s.modCell g (fun c => { c with failures := satAdd 16 c.failures 1, lastFault := c.fault.toNat, lastInfo := c.faultInfo.toNat, lastFail := c.reportAt })

def hour : Nat := 3600000000000
def secondFailure (s : State) (g : Nat) : Bool :=
  match (s.cell g).firstFail with | some t => decide ((s.cell g).reportAt ≤ t + hour) | none => false

/-- A Tacker's claim of a cell ends: the cell is idle from here (spec/09 R240). -/
def endTackerClaim (now : Nat) (c : CellState) : CellState :=
  { c with tackerClaim := false, forced := false, idleSince := if c.tackerClaim then now else c.idleSince }

/-- A Tacker takes a cell for the test (R268), within the active-cell limit (spec/09 R238): at once where the cell is
unclaimed, and when its zone is on (spec/01 R21). -/
def beginTest (s : State) (g : Nat) : State :=
  let z := s.zone (zoneOf g)
  if (s.cell g).claim.isNone && atLimit s then s
  else if z.on then s.modCell g (fun c => { c with tackerClaim := true, service := if c.claim.isNone then 3 else c.service })
  else (s.setZone (zoneOf g) { z with waking := true }).modCell g (fun c => { c with tackerClaim := true, forced := true })

/-- Due: in service and not tested in the present cycle. -/
def testDue (s : State) (g : Nat) : Bool :=
  let c := s.cell g
  unfenced s g && !c.tested && decide (c.service = 0)

/-- RUN_TIME of the last second, in ns. -/
def lastLoad (now : Nat) (c : CellState) : Nat := (c.runMark.map (fun p => p.2 - max p.1 (now - 1000000000))).sum

/-- A forced slot at Tacker t: the least-loaded unreserved cell of its cluster that a slot is owed to (R268). -/
def forcedCell (s : State) (t : Nat) : Option Nat :=
  let l := ((List.range 4).map (fun i => 4 * t + i)).filter (fun g =>
    (s.cell g).overdue && testDue s g && !isReserved s g && !isHome s g && !(s.cell g).tackerClaim)
  if (s.tacker t).state ≠ 0 then none else (sortBy (fun g => lastLoad s.now (s.cell g)) l).head?

/-- The next forced slot of quarter q, where none is under way (R268). -/
def forceNext (s : State) (q : Nat) : State :=
  if (List.range 16).any (fun i => (s.cell (q * 16 + i)).forced) then s else
  match (List.range 4).findSome? (fun i => forcedCell s (4 * q + i)) with
  | none => s
  | some g => let t := beginTest s g; t.modCell g (fun c => { c with forced := c.tackerClaim })

/-- A test that fails: result, cause, retirement (R267). -/
def testFailed (s : State) (g : Nat) : State :=
  let s := if (s.cell g).fence then s else fenceCell s g
  let s := s.modCell g (fun c => { endTackerClaim s.now c with service := 4, lastTest := 2, lastTestAt := s.now, tested := true,
                                                                 overdue := false })
  forceNext (afterFree (cellsChanged (raise s (.istFailed g) 0 0))) (quarterOf g)

/-- TACKER_CELL_FAILURE (R260): a retired cell's failure is only recorded; one under test has failed its test. A cell that no job
held is claimed for its restart as the active-cell limit allows (spec/09 R238). -/
def cellFailure (s : State) (g : Nat) : State :=
  let c := s.cell g
  if failuresOf c = 0 ∨ !c.report ∨ (s.tacker (tackerOf g)).state ≠ 0 then s else
  let s := s.modCell g (fun c => { c with report := false })
  if c.service = 4 then raiseCell (recordFailure s g) g
  else if c.service = 3 then raiseCell (testFailed s g) g
  else
    let again := secondFailure s g
    let s := recordFailure s g
    let s := if (s.cell g).fence then s else fenceCell s g
    let s := s.modCell g (fun c => { endTackerClaim s.now c with
      firstFail := some (if again then c.firstFail.getD c.reportAt else c.reportAt)
      service := if again then 4 else 2, tackerClaim := !again && (c.tackerClaim || c.claim.isSome || !atLimit s) })
    let s := raiseCell s g
    let s := loseCell s g (tackerSrc (tackerOf g)) true
    cellsChanged s

def execTackerCellFailure (g : CellNo) (s : State) : Host.Outcome State Fault Refusal := .next (cellFailure s g.val)

/-- Restart of a fenced cell: logic, failure bits and memories; the cell store keeps its readable words (R262). -/
def restartCell (c : CellState) : CellState :=
  let good := (c.badWords.filter (fun b => b.1 == 0)).foldl (fun m b => zeroRange m (b.2 / 8 * 8) 8) c.store
  { stopRun c with fault := c.fault &&& 0x300, faultInfo := 0, st := .idle, store := good, bbuf := [], imem := [], tmem := [],
                   badWords := [], resident := none, tackerClaim := true, vreg := [], pred := [], drainBuf := [], rmax := [], rsum := [], rscl := [], hist := [], seed := [],
                   colScale := [], rowScale := 0, posts := [], held := [], report := false, prog := none, service := 3 }

def execCellRestartDone (g : CellNo) (s : State) : Host.Outcome State Fault Refusal :=
  let c := s.cell g.val
  .next (if c.service = 2 && (c.tackerClaim || !atLimit s) then s.modCell g.val restartCell else s)

/-- Contents that a test leaves are free (R262, R267; notes/assumptions/22). -/
def freeMem (n size : Nat) : Mem :=
  (List.range size).filterMap (fun i => if freeAt 8 n i = 0 then none else some (i, freeAt 8 n i))

/-- Cells of a rail zone (spec/01 R17). -/
def zoneCells (z : Nat) : List Nat := (List.range 4).map (fun c => z / 4 * 16 + c * 4 + z % 4)

/-- A cell that passed returns to service (R262). -/
def returnCell (s : State) (g : Nat) : State :=
  let fenced := (s.cell g).fence
  let s := unfenceCell s g
  let s := s.modCell g (fun c => { c with service := 0, idleSince := s.now })
  afterFree (if fenced then cellsChanged s else s)

/-- A test that passes; the cells of a failed zone return once all four have passed (R262, R263). -/
def testPassed (s : State) (g : Nat) : State :=
  let s := s.modCell g (fun c => { endTackerClaim s.now c with
    service := 1, lastTest := 1, lastTestAt := s.now, tested := true, overdue := false, bbuf := freeMem s.free 163840,
    tmem := if freeAt 1 s.free 163840 = 0 then c.tmem else freeMem (s.free + 1) 16384, resident := none
    vreg := [], pred := [], drainBuf := [], rmax := [], rsum := [], rscl := [] })
  let s := s.draw.draw
  let z := zoneOf g
  let back := fun (s : State) => forceNext s (quarterOf g)
  if (s.zone z).failed then
    back (if (zoneCells z).all (fun h => decide ((s.cell h).service = 1 ∧ (s.cell h).lastTest = 1) && (s.cell h).tested) then
      (zoneCells z).foldl returnCell (s.setZone z { s.zone z with failed := false })
    else s)
  else back (returnCell s g)

def execInServiceTestDone (g : CellNo) (passed : Bool) (s : State) : Host.Outcome State Fault Refusal :=
  .next (if (s.cell g.val).service ≠ 3 then s else if passed then testPassed s g.val else testFailed s g.val)

def idleTest (s : State) (g : Nat) : State :=
  let c := s.cell g
  if testDue s g && !isReserved s g && !isHome s g && !isClaimed s g && !cellRuns s g && (s.zone (zoneOf g)).on &&
      decide (c.idleSince + s.resil.idleTime * 1000 ≤ s.now) && decide ((s.tacker (tackerOf g)).state = 0) then beginTest s g else s

def execIstIdleStart (g : CellNo) (s : State) : Host.Outcome State Fault Refusal := .next (idleTest s g.val)

/-- IST_CYCLE_END: UNTESTED causes, forced slots, one request for each failed zone, and a new cycle (R263, R268). -/
def cycleEnd (s : State) : State :=
  let s := (List.range 64).foldl (fun s g => if testDue s g && (isReserved s g || isHome s g) then raise s (.istUntested g) 0 0 else s) s
  let s := (List.range 64).foldl (fun s g => s.modCell g (fun c => { c with overdue := s.resil.forcedOn && testDue s g })) s
  let s := (List.range 16).foldl (fun s z =>
    let x := s.zone z
    if x.failed && !x.retired then s.setZone z { x with waking := true } else s) s
  allQuarters.foldl forceNext ((List.range 64).foldl (fun s g => s.modCell g (fun c => { c with tested := false })) s)

def execIstCycleEnd (s : State) : Host.Outcome State Fault Refusal :=
  if s.now < s.resil.cycleFrom + s.resil.testCycle * 1000000000 then .next s else
  let s := cycleEnd s
  .next { s with resil := { s.resil with cycleFrom := s.now } }

/-! ### Claims, START, retirement -/

def execClaim (n : LasterNo) (g : CellNo) (job : Nat) (s : State) : Host.Outcome State Fault Refusal :=
  .next (claimCell s n.val g.val job)

def execJobCommand (t : TackerNo) (job : Nat) (s : State) : Host.Outcome State Fault Refusal := .next (jobCommand s t.val job)

/-- The Tacker takes a cell's completion report into its job table (spec/02 R51, spec/08 R231). -/
def retireCell (s : State) (g : Nat) : State :=
  let c := s.cell g
  if !c.report ∨ failuresOf c ≠ 0 ∧ c.st = .faulted ∨ (s.tacker (tackerOf g)).state ≠ 0 then s else
  let s := s.setCell g { c with report := false }
  match c.claim with
  | none => s
  | some (n, id) =>
    match s.job? id with
    | none => s
    | some j =>
      if !inRun s j g ∨ j.cancelled ∨ j.evicted ∨ j.retire.isSome then s
      else if j.needReplay then
        (if j.tStart.isSome then sendNotice (beginReplay s id) n (tackerSrc (tackerOf g)) (.cellFault g id false) else s)
      else match c.prog with
        | some f =>
          let rest := (openCells s j).map (fun h => (handStalls (s.cell h)).counts)
          let s := haltJob s j
          let s := s.modJob id (fun j => { j with counts := j.counts ++ rest, retire := some ⟨some f, c.reportAt⟩, phase := .retired, armed := j.armed })
          sendNotice s n (tackerSrc (tackerOf g)) (.jobDone id)
        | none =>
          let i := j.cells.findIdx (fun h => h == g)
          let done := j.done ++ [g]
          let hs := (List.range 16).foldl (fun t h => put (0, true) t (16 * i + h) (lookup (0, true) c.hist h)) j.hists
          let all := j.cells.all (fun h => done.contains h)
          let s := s.modJob id (fun j => { j with
            done := done, counts := j.counts ++ [c.counts], hists := hs
            retire := if all then some ⟨none, (j.cells.map (fun h => (s.cell h).reportAt)).foldl max 0⟩ else none
            phase := if all then .retired else j.phase })
          if all then sendNotice s n (tackerSrc (tackerOf g)) (.jobDone id) else s

/-- A stopped cell whose job is over, cancelled or evicted is free (R221, R226). -/
def settleCell (s : State) (g : Nat) : State :=
  match (s.cell g).claim with
  | none => s
  | some (_, id) =>
    if cellRuns s g then s else
    match s.job? id with
    | none => afterFree (releaseCell s g)
    | some j => if j.phase = .halting then afterFree (settleJob s id) else s

def execJobRetirement (g : CellNo) (s : State) : Host.Outcome State Fault Refusal := .next (settleCell (retireCell s g.val) g.val)

/-- HALT_OBEYED: at a macro-operation boundary the run is abandoned (spec/03 R81). -/
def execHaltObeyed (g : CellNo) (s : State) : Host.Outcome State Fault Refusal :=
  let c := s.cell g.val
  .next (settleCell (if c.haltReq && atBoundary c then s.setCell g.val (haltReqObeyed c) else s) g.val)

/-! ### Tacker restarts (R264) -/

/-- A Tacker stops answering, or is named by 0x2605:01. -/
def restartTacker (s : State) (t : Nat) : State :=
  let x := s.tacker t
  raise (count2601 (s.setTacker t { x with state := 1, restarts := satAdd 16 x.restarts 1 }) 3 1) (.main gFw 0) 0 0

def execTackerWatchdog (t : TackerNo) (s : State) : Host.Outcome State Fault Refusal :=
  .next (if (s.tacker t.val).state = 0 then restartTacker s t.val else s)

/-- Pending retirements and failures of the four cells, in order of DC time. -/
def pendingActions (s : State) (t : Nat) : State :=
  (sortBy (fun g => (s.cell g).reportAt) ((List.range 4).map (fun i => 4 * t + i))).foldl (fun s g =>
    if (s.cell g).report then (if failuresOf (s.cell g) ≠ 0 then cellFailure s g else retireCell s g) else s) s

/-- One command of the queue next in round-robin order, of those that hold one. -/
def serveNext (s : State) (t : Nat) : State :=
  let x := s.tacker t
  match ((List.range 4).map (fun i => (x.rr + i) % 4)).find? (fun n => !(lookup [] x.queues n).isEmpty) with
  | none => s
  | some n =>
    match lookup [] x.queues n with
    | [] => s
    | c :: rest => performCmd (s.setTacker t { x with queues := put [] x.queues n rest, rr := (n + 1) % 4 }) n c

/-- Waiting commands of the four Lasters, one at a time (R19). -/
def serveQueues (s : State) (t : Nat) : State := (List.range 64).foldl (fun s _ => serveNext s t) s

/-- A Tacker out of service: its cells count as fenced, and their jobs go elsewhere. -/
def isolateTacker (s : State) (t : Nat) : State :=
  let s := raise (refuseQueued (s.setTacker t { s.tacker t with state := 2 }) t) (.main gFw 2) 0 0
  let s := (List.range 4).foldl (fun s i =>
    let g := 4 * t + i
    let s := if (s.cell g).fence then s else fenceCell s g
    loseCell (s.modCell g (fun c => { endTackerClaim s.now c with service := if c.service = 4 then 4 else 1 })) g .cobbler false) s
  afterFree (cellsChanged s)

def tackerBack (s : State) (t : Nat) (ok : Bool) : State :=
  let x := s.tacker t
  if x.state ≠ 1 then s
  else if ok then
    let s := s.setTacker t { x with state := 0, failed := 0 }
    forceNext (afterFree (serveQueues (pendingActions s t) t)) (t / 4)
  else if 2 ≤ x.failed then isolateTacker (s.setTacker t { x with failed := 3 }) t
  else restartTacker (s.setTacker t { x with failed := x.failed + 1 }) t

/-! ### Quarters and links (spec/01 R15, R26) -/

/-- A context with resident weights or state in the channels of quarter q. -/
def residesIn (x : Ctx) (q : Nat) : Bool :=
  match x.pkg with
  | none => false
  | some p => decide (0 < p.allocBytes ∧ x.allocAt < (q + 1) * quarterRegion ∧ q * quarterRegion < x.allocAt + p.allocBytes)

/-- FAULT: every cell stops, every context is unloaded, every slot is IDLE (spec/12 R327). -/
def enterFault (s : State) : State :=
  let s := { s with fabric := { s.fabric with lost := allQuarters } }
  let s := (List.range 64).foldl (fun s g => s.modCell g (fun c =>
    { stopRun c with
      fence := true, service := 4, tackerClaim := false, forced := false, claim := none, idleSince := s.now, startHeld := false, startFor := [], st := if c.st = .running then .halted else c.st })) s
  let s := ((loadedCtxs s).map (·.1)).foldl (fun s c => unloadCtx s c 1) s
  let s := { s with jobs := [], tackers := (List.range 16).map (fun t => (t, { s.tacker t with state := 2, queues := [] })) }
  let s := (List.range 32).foldl (fun s n => s.setSlot n (s.slot n).idle) s
  let host := fun (x : BusReq) => match x with | .host _ => true | .gcmd .. => false
  let s := { s with streams := { s.streams with bus := mapKeys {} s.streams.bus 8 (fun b => { b with waiting := b.waiting.filter host }) } }
  let s := allQuarters.foldl (fun s q => raise s (.main gQuarter q) 0 0) s
  let s := alRefuse (if s.dev.al = .init then s else { s with dev := { s.dev with al := .preop } }) 0x8001
  publish (allQuarters.foldl (fun s q => s.setQpower q { s.qpower q with state := 3 }) (setDevState s .fault)) false

/-- A quarter is lost, with its map store and the contents of its channels (R25, R26). -/
def loseQuarter (s : State) (q : Nat) : State :=
  if s.fabric.lost.contains q then s else
  let f := s.fabric
  let gone := (f.lacer.filter (fun p => decide (p.1 / 4 = q))).flatMap (·.2)
  let s := { s with fabric := { f with
    mapStore := zeroRange f.mapStore (q * 33554432) 33554432, lpddr := zeroRange f.lpddr (q * quarterRegion) quarterRegion,
    lost := f.lost ++ [q], linkUp := f.linkUp.filter (fun x => x != q), lacer := f.lacer.filter (fun p => decide (p.1 / 4 ≠ q)),
    awl := f.awl.filter (fun p => decide (p.1 ≠ q)), updates := f.updates.filter (fun p => decide (p.1 ≠ q)) } }
  let s := raise (s.setQpower q { s.qpower q with state := 3 }) (.main gQuarter q) 0 0
  if s.fabric.lost.length = 4 then enterFault s else
  let s := (List.range 4).foldl (fun s c => refuseQueued (s.setTacker (4 * q + c) { s.tacker (4 * q + c) with state := 2 }) (4 * q + c)) s
  let s := (List.range 16).foldl (fun s i =>
    let g := 16 * q + i
    let s := if (s.cell g).fence then s else fenceCell s g
    s.modCell g (fun c => { endTackerClaim s.now c with service := 4 })) s
  let s := ((loadedCtxs s).filter (fun p => residesIn p.2 q)).foldl (fun s p => unloadCtx s p.1 1) s
  let s := (List.range 16).foldl (fun s i => loseCell s (16 * q + i) .cobbler false) s
  let s := gone.foldl (fun s x => releaseStarts ((x.orders.map (·.1)).foldl (dropTransfer x) s) x.tag) s
  afterFree (cellsChanged s)

/-- AWL_COMMAND_COMPLETE; an uncorrectable error in the quarter fabric loses the quarter (R26). -/
def execAwlCommandComplete (q : AwlEnd) (s : State) : Host.Outcome State Fault Refusal :=
  .next (if q.err = .fabric then loseQuarter s q.q.val else awlComplete s q.q.val q.err)

def execTackerComplexTimeout (q : QuarterNo) (s : State) : Host.Outcome State Fault Refusal := .next (loseQuarter s q.val)

/-- A UCIe link fails (R15). -/
def linkFail (s : State) (l : Nat) : State :=
  let s := raise s (.main gQuarter (8 + l)) 0 0
  if l < 6 then
    recheck { s with fabric := { s.fabric with linkFenced := if s.fabric.linkFenced.contains l then s.fabric.linkFenced else s.fabric.linkFenced ++ [l] } } false
  else loseQuarter s (l - 6)

def execQuarterLinkFail (l : LinkNo) (s : State) : Host.Outcome State Fault Refusal := .next (linkFail s l.val)

end Sys2Proof.Machine
end

