-- ==== Sys2Proof/Machine/Lasters.lean ====
section
/-! DEFINITION. Lasters: SUBMIT records (spec/08 R204, R221, spec/12 R313), notices (R229 to R231), deadline moments
(R219, R230), test rotation (spec/10 R268), and replacement (spec/10 R265, R270). -/

namespace Sys2Proof.Machine

/-! ### Answers and classes of commands (spec/11 R297, spec/12 R329) -/

def okCode : Nat := 0
def wrongState : Nat := 0x08000022
def outOfRange : Nat := 0x06090030
def refusedCode : Nat := 0x08000020

/-- The answer to the last entry write or command. -/
def answer (s : State) (code : Nat) : State := { s with dev := { s.dev with answer := BitVec.ofNat 32 code } }

def runtimeState (s : State) : Bool := s.power.pstate != 3 && decide (s.dev.state = .ready ∨ s.dev.state = .run ∨ s.dev.state = .degraded)
def setupState (s : State) : Bool := runtimeState s || (s.power.pstate != 3 && decide (s.dev.state = .config))
def alwaysState (s : State) : Bool := setupState s || (s.power.pstate != 3 && decide (s.dev.state = .fault))

/-- A command of a class: WRONG_STATE outside its device states (R329). -/
def inState (ok : Bool) (s : State) (f : State → State) : State := if ok then answer (f s) okCode else answer s wrongState

/-! ### SUBMIT records -/

/-- The bytes of a SUBMIT entry; a word with an uncorrectable error reads 0 (spec/11 R290). -/
def submitBytes (s : State) (x : Queue) : List Byte :=
  let a := x.entryAt x.cons
  let c := s.chan x.ch
  if c.bad.any (fun w => decide (0x10000 + a ≤ w ∧ w < 0x10000 + a + 64)) then List.replicate 64 0 else readBytes c.ring a 64

def field (r : List Byte) (a n : Nat) : Nat := leNat ((r.drop a).take n)

/-- DC time of the doorbell that covers index i. -/
def ringTime (x : Queue) (i : Nat) : Nat := match x.rings.find? (fun p => decide (i < p.1)) with | some p => p.2 | none => 0

/-- CONS passes the record. -/
def consume (s : State) (q : Nat) (x : Queue) : State :=
  commitQueue s q { x with cons := x.cons + 1, rings := x.rings.filter (fun p => decide (x.cons + 1 < p.1)) }

/-- Reserved bits, a wrong SRC or CONTEXT, an unknown TYPE: BAD_SUBMIT (R204). -/
def submitBad (s : State) (x : Queue) (r : List Byte) : Bool :=
  let d := s.ctx x.ctx
  let ty := field r 0 1
  !(ty == 0x30 || ty == 0x40) || field r 2 2 != 0 || field r 62 2 != 0 || field r 4 2 != x.ctx ||
  (ty == 0x30 && !(if field r 1 1 = 0 then decide (1 ≤ d.npos ∧ d.startMode = 1) else decide (field r 1 1 = 1 ∧ d.npos = 0)))

/-- CANCEL: a job whose last record is not posted (R221). That of several with the tag it is the oldest is the model's choice
(notes/assumptions/139). -/
def cancelJob (s : State) (c tag : Nat) : State :=
  match s.jobs.find? (fun (j : Job) => j.ctx == c && j.tag == tag && !j.cancelled) with
  | none => s
  | some j =>
    let s := postJob s j stFault (jobFlags s j + if j.late then 64 else 0) 8 false
    afterFree (abandonJob s j.id)

/-- The record at CONS of SUBMIT queue q; none where it must wait, or there is none to take, as during a replacement (spec/10 R265). A
record rung before the launch goes unread (spec/12 R313). `kinds` limits the types. -/
def submitOne (s : State) (q : Nat) (kinds : List Nat) : Option State :=
  match s.queue? q with
  | none => none
  | some x =>
    let d := s.ctx x.ctx
    if x.typ ≠ .submit ∨ x.prod ≤ x.cons ∨ !activeCtx d ∨ (s.laster (ctxLaster s x.ctx)).state ≠ 0 then none else
    let r := submitBytes s x
    let seen := ringTime x x.cons
    let tIn := if field r 22 8 = 0 then seen else field r 22 8
    if seen < d.launched then
      (if kinds.contains (if field r 0 1 = 0x40 then 4 else 3) then some (consume s q x) else none)
    else if submitBad s x r then
      if kinds.contains 3 ∨ field r 0 1 / 16 ≠ 3 then
        some (postRecord (consume s q x) x.ctx ⟨stFault, 0, 9, 0, field r 6 4, tIn, 0, s.free, s.now⟩)
      else none
    else if field r 0 1 = 0x40 then
      if kinds.contains 4 then some (cancelJob (consume s q x) x.ctx (field r 6 4)) else none
    else if !kinds.contains 3 then none
    else if field r 1 1 = 1 then
      some (formJob (consume s q x) x.ctx
        { tag := field r 6 4, tInput := tIn, src := 1, inAddr := field r 10 8, inLen := field r 18 4, arg := (r.drop 30).take 32,
          voidPos := [], buffers := [], buf := none, cold := false, late := false, closedAt := s.now })
    else
      match d.batches with
      | [] => none
      | b :: rest =>
        let s := consume s q x
        let s := tookBatch (s.modCtx x.ctx (fun d => { d with batches := rest })) x.ctx
        some (formJob s x.ctx { batchJob b d.npos (field r 6 4) ((r.drop 30).take 32) with late := false })

/-- Records are taken in ring order; `n` bounds the work (R204). -/
def takeSubmits (s : State) (q : Nat) : Nat → State
  | 0 => s
  | n + 1 => match submitOne s q [3, 4] with
    | some s' => takeSubmits s' q n
    | none => s

def allSubmits (s : State) (q : Nat) : State :=
  match s.queue? q with
  | some x => takeSubmits s q (x.prod - x.cons)
  | none => s

/-- JOB and CANCEL: the record at CONS of a SUBMIT queue, when it is of the row's type. -/
def execJob (q : QueueNo) (s : State) : Host.Outcome State Fault Refusal :=
  .next (match submitOne s q.val [3] with | some s' => dispatchAll s' | none => s)
def execCancel (q : QueueNo) (s : State) : Host.Outcome State Fault Refusal :=
  .next (match submitOne s q.val [4] with | some s' => dispatchAll s' | none => s)

/-! ### Notices -/

/-- NOTICE_WRITE: a whole packet arrives (R229, R230). -/
def execNoticeWrite (n : LasterNo) (x : Notice) (s : State) : Host.Outcome State Fault Refusal := .next (pushNotice s n.val x)

def groupJobs (s : State) (n : Nat) : List Job := s.jobs.filter (fun (j : Job) => decide (ctxLaster s j.ctx = n))
def groupCtxs (s : State) (n : Nat) : List Nat := ((loadedCtxs s).filter (fun p => p.2.group % 4 == n)).map (·.1)
/-- Every context bound to a slot (R18). -/
def boundCtxs (s : State) (slot : Nat) : List Nat :=
  ((loadedCtxs s).filter (fun p => p.2.positions.any (fun v => v.1 == slot))).map (·.1)

/-- Doorbell work of one queue: records to take, held records and dropped counts to post (R204, R208). -/
def serveQueue (s : State) (q : Nat) : State :=
  match s.queue? q with
  | none => s
  | some x =>
    match x.typ with
    | .submit => allSubmits s q
    | .complete => landHeld s q 16
    | .event => reportDropped s x.ctx

/-- What a context has to do: closed batches and SUBMIT records (R209). -/
def serveCtx (s : State) (c : Nat) : State :=
  let s := formBatches s c (s.ctx c).batches.length
  if (s.ctx c).sq = 0xFFFF then s else serveQueue s (s.ctx c).sq

/-- CLAIM_RESULT (spec/01 R20). -/
def claimResult (s : State) (g id : Nat) (ok : Bool) : State :=
  match s.job? id with
  | none => if hasClaim s id g && !cellRuns s g then afterFree (releaseCell s g) else s
  | some j =>
    if j.cancelled ∨ (j.phase ≠ .claiming ∧ !j.cells.contains g) then (if hasClaim s id g && !cellRuns s g then afterFree (releaseCell s g) else s)
    else if ok then
      (if j.phase = .claiming ∧ j.cells.all (hasClaim s id) then s.modJob id (fun j => { j with phase := .claimed }) else s)
    else if j.phase = .claiming then
      afterFree ((releaseJob s j).modJob id (fun j => { j with phase := .waiting, cells := [], busy := j.busy ++ [g] }))
    else s

/-- What the job table leaves to do for a job one of whose cells failed: its replay is placed, or, where its Tacker has
started the replay, LATE if that cannot end by T_dl (R219, R231). -/
def replayWork (s : State) (id : Nat) : State :=
  match s.job? id with
  | none => s
  | some j =>
    if j.needReplay then (if j.phase = .claiming then placeReplay s id else s)
    else if j.replayed ∧ j.phase = .running ∧ (s.ctx j.ctx).deadlineClass ∧ jobDeadline s j < j.tStart.getD s.now + jobTime s j then makeLate s id
    else s

/-- A claim of the job that waits for its answer: in a Tacker's queue, in its Laster, or for a zone. -/
def claimWaits (s : State) (n g id : Nat) : Bool :=
  (lookup [] (s.tacker (tackerOf g)).queues n).contains (.claim g id) || (s.laster n).waiting.contains (.claim g id) ||
  (s.zone (zoneOf g)).held.any (fun x => x.cell == g && x.job == id)

/-- A job whose claim results were lost goes on from the job tables: every cell claimed, or one that another holds. -/
def reclaim (s : State) (n id : Nat) : State :=
  match s.job? id with
  | none => s
  | some j =>
    if j.phase ≠ .claiming then s
    else if j.cells.all (hasClaim s id) then s.modJob id (fun j => { j with phase := .claimed })
    else match j.cells.find? (fun g => !hasClaim s id g && !claimWaits s n g id && claimBusy s n g) with
      | some g => claimResult s g id false
      | none => s

/-- Claims of Laster n's jobs that are over or no longer name the cell are given up. -/
def dropStale (s : State) (n : Nat) : State :=
  (List.range 64).foldl (fun s g =>
    match (s.cell g).claim with
    | some (m, id) =>
      if m == n && !cellRuns s g && (match s.job? id with | some j => !j.cells.contains g | none => true) then releaseCell s g else s
    | none => s) s

/-- Reconciliation: whatever is undone is done (R231). Retirements precede deadline decisions. -/
def reconcile (s : State) (n : Nat) : State :=
  let s := s.setLaster n { s.laster n with lostSeen := false }
  let s := (groupJobs s n).foldl (fun s j => finishJob s j.id) s
  let s := (groupJobs s n).foldl (fun s j => replayWork s j.id) s
  let s := dropStale ((groupJobs s n).foldl (fun s j => reclaim s n j.id) s) n
  let s := (s.queues.filter (fun p => ctxLaster s p.2.ctx == n)).foldl (fun s p => serveQueue s p.1) s
  let s := (groupCtxs s n).foldl serveCtx s
  let s := (groupJobs s n).foldl (fun s j => lateCheck s j.id) s
  afterFree s

/-- KIND or ARG out of range (R229, R231). -/
def isBad : NoticeKind → Bool
  | .bad => true
  | .claimResult g _ _ => decide (64 ≤ g)
  | .cellFault g _ _ => decide (64 ≤ g)
  | .batchClosed c => decide (4096 ≤ c)
  | .slotStopped x => decide (32 ≤ x)
  | .doorbell q => decide (65536 ≤ q)
  | .streamBus b _ => decide (8 ≤ b)
  | _ => false
def isBus : NoticeKind → Bool
  | .streamBus .. => true
  | _ => false

/-- Entries that name nothing to do leave the front; a damaged one makes the Laster reconcile (R231). -/
def skipFront (s : State) (n : Nat) : State :=
  let l := s.laster n
  let gone := l.fifo.takeWhile (fun x => isBad x.kind || isBus x.kind)
  let s := s.setLaster n { l with fifo := l.fifo.dropWhile (fun x => isBad x.kind || isBus x.kind) }
  if gone.any (fun x => isBad x.kind) then reconcile s n else s

/-- The Laster reads the front entry when it is of the row's kind: out of sequence or after a loss it reconciles first. -/
def takeNotice {α : Type} (s : State) (n : Nat) (pick : NoticeKind → Option α) (act : State → α → State) : State :=
  if (s.laster n).state ≠ 0 then s else
  let s := skipFront s n
  let l := s.laster n
  match l.fifo with
  | [] => s
  | x :: rest =>
    match pick x.kind with
    | none => s
    | some a =>
      let k := srcKey x.src
      let gap := decide (x.seq ≠ lookup 0 l.seen k) || l.lostSeen
      let s := s.setLaster n { l with fifo := rest, seen := put 0 l.seen k ((x.seq + 1) % 65536) }
      act (if gap then reconcile s n else s) a

def execClaimResult (n : LasterNo) (s : State) : Host.Outcome State Fault Refusal :=
  .next (takeNotice s n.val (fun k => match k with | .claimResult g id ok => some (g, id, ok) | _ => none)
    (fun s a => claimResult s a.1 a.2.1 a.2.2))

/-- At a job boundary a due reserved or home-set slot moves to a tested unreserved cell of its quarter (spec/10 R268). -/
def rotate (s : State) (c k : Nat) : State :=
  let x := s.ctx c
  if !x.deadlineClass then s else
  match (x.replicas.getD k []).find? (fun g => testDue s g && !isClaimed s g) with
  | none => s
  | some g =>
    match (maskCells x).find? (fun h => quarterOf h == quarterOf g && unfenced s h && !isReserved s h && !isHome s h && !isClaimed s h &&
        (s.cell h).tested && decide ((s.cell h).lastTest = 1 ∧ (s.cell h).service = 0)) with
    | none => s
    | some h => beginTest (wakeReserved (moveSlot s c g h)) g

/-- JOB_DONE (R231). -/
def jobDone (s : State) (id : Nat) : State :=
  match s.job? id with
  | none => s
  | some j => afterFree (if j.retire.isSome then rotate (finishJob s id) j.ctx j.replica else s)

def execJobDone (n : LasterNo) (s : State) : Host.Outcome State Fault Refusal :=
  .next (takeNotice s n.val (fun k => match k with | .jobDone id => some id | _ => none) jobDone)

/-- CELL_FAULT: the job table says what stands open, not the notice (R231). -/
def cellFault (s : State) (id : Nat) : State := afterFree (replayWork s id)

def execCellFault (n : LasterNo) (s : State) : Host.Outcome State Fault Refusal :=
  .next (takeNotice s n.val (fun k => match k with | .cellFault _ id _ => some id | _ => none) cellFault)

/-- BATCH_CLOSED (R209). -/
def execBatchClosed (n : LasterNo) (s : State) : Host.Outcome State Fault Refusal :=
  .next (takeNotice s n.val (fun k => match k with | .batchClosed c => some c | _ => none) (fun s c => dispatchAll (serveCtx s c)))

/-- SLOT_STOPPED: an event to each context bound to the slot (R207); never for HOST_STOP. -/
def slotStopped (s : State) (n slot : Nat) : State :=
  let r := (s.slot slot).reason
  if r = 0x00FF then s else
  ((boundCtxs s slot).filter (fun c => ctxLaster s c == n)).foldl (fun s c =>
    postEvent s c evSlotStopped (BitVec.ofNat 8 slot :: leBytes 2 r)) s

def execSlotStopped (n : LasterNo) (s : State) : Host.Outcome State Fault Refusal :=
  .next (takeNotice s n.val (fun k => match k with | .slotStopped x => some x | _ => none) (fun s x => slotStopped s n.val x))

/-- DOORBELL: PROD is read from the queue itself (R231). -/
def execDoorbell (n : LasterNo) (s : State) : Host.Outcome State Fault Refusal :=
  .next (takeNotice s n.val (fun k => match k with | .doorbell q => some q | _ => none) (fun s q => dispatchAll (serveQueue s q)))

/-- TIMER: the LATE decision (R219). -/
def execTimer (n : LasterNo) (s : State) : Host.Outcome State Fault Refusal :=
  .next (takeNotice s n.val (fun k => match k with | .timer id => some id | _ => none) (fun s id => afterFree (lateCheck s id)))

/-- CONTROL: the Laster takes the notice; what its codes ask is not given (notes/assumptions/23). -/
def execControl (n : LasterNo) (s : State) : Host.Outcome State Fault Refusal :=
  .next (takeNotice s n.val (fun k => match k with | .control c => some c | _ => none) (fun s _ => s))

/-! ### Deadline unit -/

/-- During a replacement the deadline unit writes the LATE record of a batch that no job has taken (spec/10 R265). -/
def lateBatches (s : State) (c : Nat) : State :=
  let x := s.ctx c
  if !x.deadlineClass ∨ x.startMode ≠ 0 ∨ !activeCtx x then s else
  (indexed x.batches).foldl (fun s p =>
    if p.2.late ∨ s.now < p.2.tInput + x.deadline - x.tJob ∨ x.outs.all (isVoidOut p.2.voidPos) then s else
    let j : Job := { id := 0, ctx := c, tag := (x.jobNo + p.1) % 2 ^ 32, tInput := p.2.tInput, src := 0, inAddr := 0, inLen := 0, arg := [],
                     voidPos := p.2.voidPos, buffers := [], cold := p.2.samples.any (fun q => q.2.cold) }
    let s := postJob s j stLate (if j.cold then 1 else 0) (if x.cancels then 1 else 0) false
    let s := if x.cancels then noteWindow s j else openLate s j
    s.modCtx c (fun y => { y with batches := setAt y.batches p.1 { p.2 with late := true } })) s

/-- DEADLINE_TIMER_EXPIRY (R230; spec/10 R265). -/
def timerExpiry (s : State) (n : Nat) : State :=
  let due := (groupJobs s n).filter (fun j => !(momentsPassed s j).isEmpty)
  let s := due.foldl (fun s j => s.modJob j.id (fun k => { k with armed := k.armed.filter (fun m => !(momentsPassed s j).contains m) })) s
  if (s.laster n).state = 0 then due.foldl (fun s j => sendNotice s n .deadline (.timer j.id)) s
  else (groupCtxs s n).foldl lateBatches (due.foldl (fun s j => lateCheck s j.id) s)

def execDeadlineTimerExpiry (n : LasterNo) (s : State) : Host.Outcome State Fault Refusal := .next (timerExpiry s n.val)

/-! ### Replacement -/

/-- A Laster is replaced: intake pauses (R265). -/
def beginReplacement (s : State) (n : Nat) : State :=
  let l := s.laster n
  raise (count2601 (s.setLaster n { l with state := 1, replacements := satAdd 16 l.replacements 1 }) 4 1) (.main gFw 1) 0 0

/-- A write of 0x2605:02 (R270). -/
def writeReplace (s : State) (v : Nat) : State :=
  if !runtimeState s then answer s wrongState
  else if 3 < v then answer s outOfRange
  else if (s.laster v).state ≠ 0 then answer s wrongState
  else answer (beginReplacement s v) okCode

def execReplaceLaster (v : Byte) (s : State) : Host.Outcome State Fault Refusal := .next (writeReplace s v.toNat)

/-- The new image reconciles, resumes intake and posts what it held (R265). -/
def replacementDone (s : State) (n : Nat) : State :=
  if (s.laster n).state = 0 then s else reconcile (s.setLaster n { s.laster n with state := 0 }) n

/-! ### Live activation in turn (spec/13 R354) -/

def hdrField (h : List Byte) (a n : Nat) : Nat := leNat ((h.drop a).take n)
def hdrBytes (h : List Byte) (a n : Nat) : List Byte := (h.drop a).take n

/-- The section of an image that a hart runs: Cobbler's, the Lasters' or the Tackers' (spec/13 R338, R343). -/
def hartSection (hart : Nat) : Nat := if hart = 0 then 0 else if hart < 5 then 1 else 2
def imageSection (h body : List Byte) (k : Nat) : List Byte := (body.drop (hdrField h (32 + 8 * k) 4)).take (hdrField h (36 + 8 * k) 4)

/-- A hart's section is copied from a checked copy, and its entry address written into its release word (spec/13 R338). -/
def releaseHart (h body : List Byte) (b : Boot) (hart : Nat) : Boot :=
  let c := imageSection h body (hartSection hart)
  { b with code := put [] b.code hart c, release := put none b.release hart (some (Config.entryAddress hart c)) }

/-- The hart of a Laster (0 to 3) or a Tacker (4 to 19) in an activation. -/
def activationHart (k : Nat) : Nat := if k < 4 then 1 + k else 12 + k

/-- The next Laster (0 to 3) or Tacker (4 to 19) takes the new image, those out of service apart; after the last one the activation is
done, and the image named in `activating` runs. One that is being replaced or restarted already takes it there. -/
def activateNext (s : State) : State :=
  let l := s.boot.activating.dropWhile (fun k => decide (4 ≤ k) && decide ((s.tacker (k - 4)).state = 2))
  let s := { s with boot := { s.boot with activating := l } }
  match l with
  | [] => { s with boot := { s.boot with activation := 2, slot := s.boot.nextSlot, seq := s.boot.nextSeq, header := s.boot.nextHeader, body := s.boot.nextBody } }
  | k :: _ =>
    if k < 4 then (if (s.laster k).state = 0 then beginReplacement s k else s)
    else if (s.tacker (k - 4)).state = 0 then restartTacker s (k - 4) else s

/-- One processor has taken the image, or has failed to. -/
def activated (s : State) (k : Nat) (ok : Bool) : State :=
  let b := s.boot
  if b.activation = 1 ∧ b.activating.head? = some k then
    (if ok then activateNext { s with boot := { releaseHart b.nextHeader b.nextBody b (activationHart k) with activating := b.activating.drop 1 } }
     else { s with boot := { b with activation := 3, activating := [] } })
  else s

/-- LASTER_WATCHDOG: a Laster is replaced; one whose new image misses it fails its replacement, and an activation stops there
(spec/13 R354, notes/assumptions/140). -/
def execLasterWatchdog (n : LasterNo) (s : State) : Host.Outcome State Fault Refusal :=
  .next (if (s.laster n.val).state = 0 then beginReplacement s n.val else activated s n.val false)

def execLasterReplacementDone (n : LasterNo) (s : State) : Host.Outcome State Fault Refusal :=
  .next (if (s.laster n.val).state = 0 then s else activated (replacementDone s n.val) n.val true)

def execTackerRestartDone (t : TackerNo) (ok : Bool) (s : State) : Host.Outcome State Fault Refusal :=
  .next (if (s.tacker t.val).state ≠ 1 then s else activated (tackerBack s t.val ok) (4 + t.val) ok)

/-- A write of 0x2605:01 (R270). -/
def writeRestartTacker (s : State) (v : Nat) : State :=
  if !runtimeState s then answer s wrongState
  else if 15 < v then answer s outOfRange
  else if (s.tacker v).state ≠ 0 then answer s wrongState
  else answer (restartTacker s v) okCode

def execRestartTacker (v : Byte) (s : State) : Host.Outcome State Fault Refusal := .next (writeRestartTacker s v.toNat)

end Sys2Proof.Machine
end

