-- ==== Sys2Proof/Machine/Loader.lean ====
section
/-! DEFINITION. The loader's checks of a package (spec/04 R83, R90, R99; spec/05 R110, R113, R127, R137, R139;
spec/06 R142, R146, R147, R151, R154, R155) and of a context descriptor (spec/08 R195, R196). -/

namespace Sys2Proof.Machine

/-! ### Operand descriptors (R90) -/

/-- Reserved bits and codes of R89. -/
def descCodesOk (raw : BitVec 256) : Bool :=
  let d := decodeDesc raw.toNat 0
  onlyBits 256 raw.toNat [(255, 216), (213, 79), (76, 76), (73, 16)] && decide (d.format ≤ 0x0E ∧ d.smode ≤ 4 ∧ 1 ≤ d.k) &&
  decide (d.stride % 64 = 0 ∧ d.base % 64 = 0) && (d.gsize != 3 || d.format == 0x0A || !(isMx d.format || d.smode == 4))

/-- SMODE fits FORMAT (R30, R33, R38, R39, R44). -/
def smodeOk (isB : Bool) (d : Desc) : Bool :=
  if isMx d.format then d.smode == 3
  else if d.format = 0x0A then isB && d.smode == 4
  else if isFp8 d.format then decide (d.smode ≤ 1)
  else if isInt d.format then d.smode == 1 || d.smode == 4 || (isB && d.smode == 2)
  else decide (d.smode ≤ 1)

/-- Whole blocks or groups along K. -/
def blocksOk (d : Desc) (k : Nat) : Bool := !(isMx d.format || d.smode == 4) || k % groupSize d == 0

/-- An array of rows lies inside the cell store, scales and zero points with it. -/
def insideStore (d : Desc) (rows k : Nat) : Bool :=
  let e := rows * entries d
  decide (rows = 0 ∨ d.base + (rows - 1) * d.stride + packedBytes d.format k ≤ 0x400000) &&
  (if d.smode = 3 then decide (d.scAddr + e ≤ 0x400000)
   else if d.smode = 4 then decide (d.scAddr + 2 * e ≤ 0x400000 ∧ (d.format = 0x0A ∨ d.zpAddr + e ≤ 0x400000))
   else if d.smode = 2 then decide (d.scAddr + 4 * rows ≤ 0x400000 ∧ d.zpAddr + rows ≤ 0x400000)
   else true)

/-- An accepted pair of formats, block and group sizes (R30, R39, R45, R64). -/
def pairOk (a b : Desc) (k : Nat) : Bool :=
  let low := fun (f : Nat) => decide (formatBits f ≤ 6)
  if b.format = 0x0A then a.format == 0 && a.smode == 1 && k % 4 == 0
  else if a.format = 0x0B ∨ b.format = 0x0B then a.format == b.format
  else decide (a.format ≤ 9 ∧ b.format ≤ 9) && (!(isMx a.format && isMx b.format) || a.gsize == b.gsize) &&
    (!(a.smode == 4 && b.smode == 4) || a.gsize == b.gsize) && (!(low a.format && low b.format) || k % 2 == 0)

/-- The B operand fits the stationary buffer (R72). -/
def fitsB (b : Desc) : Bool :=
  decide (ceilDiv b.extent 64 * stripBytes b b.k ≤ 2048 ∧ ceilDiv b.extent 64 * (sideScale b + sideZp b) ≤ 512)

/-! ### Tile and thread programs (R110, R113) -/

/-- From an entry to VEND, every instruction allowed in its place; VLDD k stands at position 2k + 2 or later. -/
def progScan (place : Nat) : List (BitVec 64) → Nat → Nat → Bool
  | [], _, _ => false
  | w :: l, pos, k =>
    vOk place w &&
    (if vOp w = 0x50 then decide (2 * k + 2 ≤ pos ∧ k < 32) else true) &&
    (if vOp w = 0x01 then true else progScan place l (pos + 1) (if vOp w = 0x50 then k + 1 else k))

def progOk (tm : List (BitVec 64)) (place entry : Nat) : Bool := progScan place (tm.drop entry) 0 0

/-- The program stores scales with VSTS. -/
def hasVsts (tm : List (BitVec 64)) (entry : Nat) : Bool := ((tm.drop entry).takeWhile (fun w => vOp w != 0x01)).any (fun w => vOp w == 0x56)

/-! ### One slot's program -/

/-- A descriptor at a pointer, in a pass. -/
def pkgDesc (sp : SlotProg) (dp n : Nat) : Option Desc :=
  (sp.descs.find? (fun p => p.1 == dp)).map (fun p => decodeDesc p.2.toNat n)
def rawOk (sp : SlotProg) (dp : Nat) : Bool :=
  match sp.descs.find? (fun p => p.1 == dp) with | some p => descCodesOk p.2 | none => false

/-- Bytes of a posted tile: 64 rows, their scales and zero points (R137). -/
def tileBytes (d : Desc) : Nat := 64 * postRow d.format + (if d.smode = 3 then 64 * (64 / min 64 (groupSize d)) else if d.smode = 4 then 192 * (64 / min 64 (groupSize d)) else 0)

/-- HEIGHT is 0 but for a map, and only CONV, DWC and GAP name maps (spec/06 R141); a map's STRIDE holds a pixel. -/
def mapOk (map : Bool) (d : Desc) : Bool := (d.height != 0) == map && (!map || decide (packedBytes d.format d.k ≤ d.stride))

/-- A destination whose SMODE fits its FORMAT, with whole blocks (R90). -/
def destOk (map : Bool) (d : Desc) : Bool := mapOk map d && smodeOk false d && blocksOk d d.k

/-- What the scan in issue order carries: open chain, last layer and whether a full DRAIN followed, a binding's LINES. -/
structure Flow where
  chain : Nat := 0
  layer : Option Nat := none
  drained : Bool := true
  bind : Option Nat := none
  ok : Bool := true
  deriving DecidableEq, Repr

/-- What MMAT asks of its operands (R73). -/
def mmatOk (a b : Desc) : Bool :=
  a.k == 64 && laneElems b % 64 == 0 &&
  (b.format == 0x0B || (isFp8 b.format && decide (b.smode ≤ 1)) || (decide (b.format ≤ 1) && b.smode == 1))

/-- A first or second chain stage, or no stage (R127). -/
inductive Role where
  | plain | first | second
  deriving DecidableEq, Repr

/-- What a matrix macro-operation asks of its operands and programs in any pass, in its role in a chain (R73, R90, R110,
R127, spec/06 R141, R142, R146, R147). -/
def matStatic (sp : SlotProg) (kind : MatKind) (w : BitVec 128) (role : Role) : Bool :=
  match pkgDesc sp (fld w 111 95) 0, pkgDesc sp (fld w 94 78) 0, pkgDesc sp (fld w 77 61) 0 with
  | some a, some b, some d =>
    let g := decodeGeo (fld w 40 5)
    let map := decide (kind = .conv ∨ kind = .dwc)
    let epi := fld w 117 117 == 1
    let ch := fld w 114 113
    let ho := outSize a.height g.pt g.pb g.dh g.kh g.sh
    let wo := outSize a.extent g.pl g.pr g.dw g.kw g.sw
    let rows := if map then g.ho a.height * g.wo a.extent else a.extent
    let k := match kind with | .mmat => 64 | .conv => a.k * g.kh * g.kw | .dwc => g.kh * g.kw | _ => a.k
    mapOk map a && mapOk false b && destOk map d &&
    smodeOk false a && smodeOk true b && pairOk a b k && (if kind = .mmat then mmatOk a b else b.k == k) &&
    blocksOk a a.k && blocksOk b b.k &&
    (!map || ((!(b.smode == 4 || b.smode == 3 || b.format == 0x0A) || a.k % groupSize b == 0) &&
      decide (1 ≤ ho ∧ 1 ≤ wo ∧ d.height = ho.toNat ∧ d.extent = wo.toNat))) &&
    (kind != .dwc || (((a.format == 0 && a.smode == 1 && b.format == 0 && decide (b.smode = 1 ∨ b.smode = 2)) ||
      (isFp8 a.format && isFp8 b.format)) && d.k == a.k)) && fitsB b &&
    (!(epi && fld w 119 119 == 1) || decide (d.format = 0x0D ∨ d.format = 0x0E)) &&
    (!epi || (progOk sp.tmem 1 (fld w 60 51) && (!hasVsts sp.tmem (fld w 60 51) || (d.smode == 4 && d.gsize == 1)))) &&
    (fld w 116 116 != 1 || progOk sp.tmem 2 (fld w 50 41)) &&
    (match role with
     | .plain => ch == 0
     | .first => ch != 0 && decide (rows ≤ 64) && !epi && d.format == 0x0D && d.smode == 1
     | .second => ch != 0 && decide (rows ≤ 64) && (a.format == 0x0B || isFp8 a.format) && a.smode == 0 &&
         (ch == 1 || (d.format == 0x0D && !epi)))
  | _, _, _ => false

/-- An address that a pass steps on stays inside the cell store (R90); the fields hold it before the step. -/
def stepOk (base : Nat) (by_ : Int) : Bool := decide (0 ≤ (base : Int) + by_ ∧ (base : Int) + by_ < 0x400000)

/-- No address of a descriptor leaves the cell store in pass n (R89, R90). -/
def passOk (sp : SlotProg) (dp n : Nat) : Bool :=
  match sp.descs.find? (fun p => p.1 == dp) with
  | none => false
  | some p =>
    let d := decodeDesc p.2.toNat 0
    let scaled := d.smode = 2 ∨ d.smode = 3 ∨ d.smode = 4
    stepOk d.base (512 * n * d.lstep) && (!decide scaled || stepOk d.scAddr (n * d.sstep)) &&
    (!decide (d.smode = 2 ∨ (d.smode = 4 ∧ d.format ≠ 0x0A)) || stepOk d.zpAddr (n * d.sstep))

/-- A matrix macro-operation's arrays lie inside the cell store in pass n (R90); what a chain keeps in the map store does
not (R127). -/
def matRange (sp : SlotProg) (kind : MatKind) (w : BitVec 128) (role : Role) (n : Nat) : Bool :=
  match pkgDesc sp (fld w 111 95) n, pkgDesc sp (fld w 94 78) n, pkgDesc sp (fld w 77 61) n with
  | some a, some b, some d =>
    let g := decodeGeo (fld w 40 5)
    let map := decide (kind = .conv ∨ kind = .dwc)
    let mem := fld w 114 113 == 1
    let rows := if map then g.ho a.height * g.wo a.extent else a.extent
    let cols := match kind with | .mmat => laneElems b | .dwc => a.k | _ => b.extent
    (mem && role == .second || (passOk sp (fld w 111 95) n && insideStore a (if map then a.height * a.extent else a.extent) a.k)) &&
    passOk sp (fld w 94 78) n && insideStore b b.extent b.k &&
    (mem && role == .first || (passOk sp (fld w 77 61) n && insideStore d rows cols))
  | _, _, _ => false

/-- GAP in any pass: a map of a format it takes, one destination element per channel (R154); and in pass n. -/
def gapStatic (sp : SlotProg) (w : BitVec 128) : Bool :=
  match pkgDesc sp (fld w 111 95) 0, pkgDesc sp (fld w 77 61) 0 with
  | some a, some d => decide (a.format ≤ 3) && mapOk true a && smodeOk false a && destOk false d
  | _, _ => false
def gapRange (sp : SlotProg) (w : BitVec 128) (n : Nat) : Bool :=
  match pkgDesc sp (fld w 111 95) n, pkgDesc sp (fld w 77 61) n with
  | some a, some d => passOk sp (fld w 111 95) n && passOk sp (fld w 77 61) n && insideStore a (a.height * a.extent) a.k && insideStore d 1 a.k
  | _, _ => false

/-- VRUN in any pass: two tensors that are no maps, and VSTS only on scales in groups of 64 (R90, R122); and in pass n. -/
def vrunStatic (sp : SlotProg) (w : BitVec 128) : Bool :=
  match pkgDesc sp (fld w 111 95) 0, pkgDesc sp (fld w 77 61) 0 with
  | some a, some d => mapOk false a && smodeOk true a && blocksOk a a.k && destOk false d &&
      progOk sp.tmem 4 (fld w 60 51) && (!hasVsts sp.tmem (fld w 60 51) || (d.smode == 4 && d.gsize == 1))
  | _, _ => false
def vrunRange (sp : SlotProg) (w : BitVec 128) (n : Nat) : Bool :=
  match pkgDesc sp (fld w 111 95) n, pkgDesc sp (fld w 77 61) n with
  | some a, some d => passOk sp (fld w 111 95) n && passOk sp (fld w 77 61) n && insideStore a a.extent a.k && insideStore d d.extent d.k
  | _, _ => false

/-- What the scan of a bank carries: open loops (ENDLOOP index, passes). -/
structure Scan where
  loops : List (Nat × Nat) := []
  /-- The passes in which each word so far is checked. -/
  seen : List (Nat × List Nat) := []
  ok : Bool := true
  deriving DecidableEq, Repr

/-- Passes of a LOOP as the package gives them: COUNT, or the count word of its data (R99). -/
def loopCount (sp : SlotProg) (w : BitVec 128) : Nat :=
  if fld w 119 119 = 1 then leNat (readBytes sp.data (fld w 95 74) 2) else fld w 111 96

/-- The passes in which a word is checked: the first and the last of its innermost loop, between which addresses step
evenly; none in a loop that runs no pass (R90). -/
def Scan.passes (sc : Scan) : List Nat :=
  if sc.loops.any (fun l => l.2 == 0) then [] else match sc.loops with | [] => [0] | (_, c) :: _ => [0, c - 1]

def matKindOf (op : Nat) : MatKind := if op = 0x10 then .mma else if op = 0x11 then .mmat else if op = 0x12 then .conv else .dwc

/-- One word of a bank, wherever it stands: encoding, loops, descriptors, programs and Awl blocks (R83, R90, R99, R110,
R151). A chain stage passes in either role here; `flowWord` knows its role. An AWL whose block the package does not hold
names one written at run time, which the Awl checks when it begins the command (notes/assumptions/104). -/
def scanWord (p : Plan) (sp : SlotProg) (sc : Scan) (i : Nat) (w : BitVec 128) : Scan :=
  let sc := { sc with ok := sc.ok && wordOk w, seen := (i, sc.passes) :: sc.seen }
  let both := rawOk sp (fld w 111 95) && rawOk sp (fld w 77 61)
  match opcode w with
  | 0x08 =>
    let e := fld w 73 64
    { sc with loops := (e, loopCount sp w) :: sc.loops, ok := sc.ok && decide (sc.loops.length < 4 ∧ i < e) && opcode (sp.imem.getD e 0) == 0x09 }
  | 0x09 =>
    match sc.loops with
    | [] => { sc with ok := false }
    | (e, _) :: rest => { sc with loops := rest, ok := sc.ok && e == i }
  | 0x10 | 0x11 | 0x12 | 0x13 =>
    let kind := matKindOf (opcode w)
    { sc with ok := sc.ok && both && rawOk sp (fld w 94 78) &&
        [Role.plain, .first, .second].any (fun r => matStatic sp kind w r && sc.passes.all (matRange sp kind w r)) }
  | 0x14 => { sc with ok := sc.ok && both && gapStatic sp w && sc.passes.all (gapRange sp w) }
  | 0x20 => { sc with ok := sc.ok && both && vrunStatic sp w && sc.passes.all (vrunRange sp w) }
  | 0x21 => { sc with ok := sc.ok && progOk sp.tmem 8 (fld w 60 51) }
  | 0x18 =>
    let sb : StartBlock := { place := (List.range p.slots.length).map (fun k => (k, k % 16)) }
    { sc with ok := sc.ok && (match sp.awls.find? (fun b => b.1 == fld w 111 95) with | some b => awlOk 0 sb b.2 | none => true) }
  | _ => sc

/-- Passes of a loop that show every state a chain, a layer or a binding can stand in at a word: two, and a third where
their number is odd (R99, R127). -/
def passesShown (n : Nat) : Nat := if n ≤ 2 then n else if n % 2 = 0 then 2 else 3

/-- Indices of a bank from `lo` on in issue order, up to the first HALT (R99). -/
def issueOrder (sp : SlotProg) : Nat → Nat → Nat → List Nat
  | 0, _, _ => []
  | fuel + 1, lo, hi =>
    if hi ≤ lo then [] else
    let w := sp.imem.getD lo 0
    if opcode w = 0x08 then
      let e := fld w 73 64
      lo :: (List.replicate (passesShown (loopCount sp w)) (issueOrder sp fuel (lo + 1) (e + 1))).flatten ++ issueOrder sp fuel (e + 1) hi
    else lo :: issueOrder sp fuel (lo + 1) hi

/-- One macro-operation in issue order: its role in a chain, layers and bindings (R90, R127, R137, R139). -/
def flowWord (sp : SlotProg) (passes : Nat → List Nat) (fl : Flow) (i : Nat) : Flow :=
  let w := sp.imem.getD i 0
  let dst := pkgDesc sp (fld w 77 61) 0
  let layer := dst.map (fun d => d.layer)
  let apart := match fl.layer, layer with | some l, some m => l == m || fl.drained | _, _ => true
  match opcode w with
  | 0x03 => if fld w 119 116 = 15 then { fl with drained := true } else fl
  | 0x10 | 0x11 | 0x12 | 0x13 =>
    let ch := fld w 114 113
    let role : Role := if ch = 0 then .plain else if fl.chain = 0 then .first else .second
    let held := match fl.bind, dst with | some l, some d => decide (tileBytes d ≤ l * 512) | _, _ => true
    { ok := fl.ok && matStatic sp (matKindOf (opcode w)) w role && (passes i).all (matRange sp (matKindOf (opcode w)) w role) && (role != .second || fl.chain == ch) && (fld w 115 115 != 1 || held) && apart,
      chain := if ch = 0 then fl.chain else if fl.chain = 0 then ch else 0,
      layer := layer, drained := false, bind := if fld w 115 115 = 1 then none else fl.bind }
  | 0x14 => { fl with ok := fl.ok && apart, layer := layer, drained := false }
  | 0x29 => if fld w 119 119 = 1 then { fl with bind := some (fld w 39 24) } else fl
  | _ => fl

/-- A slot's banks (R83, R99, R100, R110). -/
def slotProgOk (p : Plan) (sp : SlotProg) : Bool :=
  decide (sp.imem.length ≤ 1024 ∧ sp.tmem.length ≤ 1024) &&
  (let sc := (indexed sp.imem).foldl (fun sc x => scanWord p sp sc x.1 x.2) {}
   let passes := fun (i : Nat) => match sc.seen.find? (fun q => q.1 == i) with | some q => q.2 | none => []
   let order := (issueOrder sp sp.imem.length 0 sp.imem.length).takeWhile (fun i => opcode (sp.imem.getD i 0) != 0x01)
   sc.ok && sc.loops.isEmpty && (order.foldl (flowWord sp passes) {}).ok)

/-- Every package check of an earlier chapter (R196 PACKAGE_INVALID). -/
def packageOk (x : Ctx) (p : Package) : Bool :=
  let n := p.stripe.slots.length
  decide (1 ≤ n ∧ n ≤ 64 ∧ p.length ≤ x.pkgLen) && ((p.groups.flatten).length == n) && (List.range n).all (fun i => p.groups.flatten.contains i) &&
  (packagePlans p).all (fun pl => pl.slots.length == n && pl.slots.all (slotProgOk pl)) &&
  decide (p.outs.length ≤ 16 ∧ p.barriers.length ≤ 8 ∧ 1 ≤ p.counters ∧ p.counters ≤ 4096) &&
  p.barriers.all (fun b => b.all (fun i => decide (i < n))) && (x.cls == 2 || !p.lpddrMaps) &&
  p.outs.all (fun o => decide (o.mask < 2 ^ 16))

/-! ### Context descriptor (R195) -/

/-- Reserved values and bits, and fields outside their ranges. -/
def descriptorOk (x : Ctx) : Bool :=
  let zero := fun (a n : Nat) => (readBytes x.desc a n).all (· == 0)
  decide (x.cls ≤ 2 ∧ x.group ≤ 3 ∧ x.npos ≤ 16 ∧ x.startMode ≤ 1 ∧ x.byte 4 ≤ 3) && decide (2 ≤ x.depth ∧ x.depth ≤ 64 ∧ x.lowWater < x.depth) &&
  decide (1 ≤ x.reps ∧ x.reps ≤ 16) && (!x.deadlineClass || decide (0 < x.deadline ∧ 62500 ≤ x.period)) &&
  x.positions.all (fun v => decide (v.1 < 32 ∧ v.2 < 4)) && decide (x.cls ≠ 2 ∨ 1 ≤ x.weight) &&
  (List.range 16).all (fun h => decide (x.seedTarget h ≤ 1) && zero (77 + 8 * h) 3) && zero 39 1 && zero 212 44 &&
  decide (x.pkgAddr + x.pkgLen ≤ lpddrSize)

/-- The positions lie in one stream group, the descriptor's (R18, R196). -/
def groupOk (s : State) (x : Ctx) : Bool := x.positions.all (fun v => slotGroup s v.1 == x.group)

/-- CQ, EQ and SQ are queues of this context of the right type; a version-1 CQ asks for a single output record (R205). -/
def queuesOk (s : State) (c : Nat) (x : Ctx) (p : Package) : Bool :=
  let is := fun (q : Nat) (t : QType) => match s.queue? q with | some y => y.ctx == c && y.typ == t | none => false
  is x.cq .complete && is x.eq .event && (if x.sq = 0xFFFF then x.startMode == 0 else is x.sq .submit) &&
  (match s.queue? x.cq with | some y => y.version == 2 || p.outs.length == 1 | none => false)

end Sys2Proof.Machine
end

