-- ==== Sys2Proof/Machine/Contexts.lean ====
section
/-! DEFINITION. Context commands (spec/08 R196 to R198), admission at load (R211 to R215), launch (spec/12 R313), queue
commands (R200 to R203), and the measurement log (spec/13 R355). -/

namespace Sys2Proof.Machine

/-! ### Measurement log (R355) -/

/-- An entry extends the chain; the first 1,024 are stored. -/
def measure (s : State) (kind : Nat) (content : List Byte) : State :=
  let e := padTo 64 (Config.logEntry kind content)
  let b := s.boot
  { s with boot := { b with
      log := if b.log.length < 1024 then b.log ++ [e] else b.log
      truncated := b.truncated || decide (1024 ≤ b.log.length)
      entries := satAdd 32 b.entries 1
      chain := padTo 32 (Config.shake256 (padTo 32 b.chain ++ e)) } }

/-! ### Admission at load -/

/-- What admission chose. -/
structure Choice where
  replicas : List (List Nat)
  stripes : List Bool
  spill : Bool
  bases : List Nat
  nets : List (List Nat)
  deriving DecidableEq, Repr

/-- A context with a choice in force. -/
def Ctx.choose (x : Ctx) (h : Choice) : Ctx :=
  { x with replicas := h.replicas, stripes := h.stripes, spill := h.spill, counterBase := h.bases, nets := h.nets }

/-- The package's LPDDR6 allocation at the place Cobbler chose: in the grade, apart from every other, in no withdrawn page
and no lost quarter (spec/10 R255, R257). -/
def lpddrFits (s : State) (c : Nat) (x : Ctx) (p : Package) : Bool :=
  let a := x.allocAt
  let n := p.allocBytes
  decide (a % 32 = 0 ∧ n % 32 = 0 ∧ a + n ≤ lpddrSize) &&
  s.ctxs.all (fun y => y.1 == c || !y.2.loaded || (match y.2.pkg with
    | some k => decide (n = 0 ∨ k.allocBytes = 0 ∨ a + n ≤ y.2.allocAt ∨ y.2.allocAt + k.allocBytes ≤ a) | none => true)) &&
  s.fabric.withdrawn.all (fun w => !(w.1 == 0 && decide (a < (w.2 + 1) * 65536 ∧ w.2 * 65536 < a + n))) &&
  s.fabric.lost.all (fun q => !residesIn x q)

/-- Reservation, home sets, or nothing: the cells of each replica (R212, R213). -/
def chooseCells (s : State) (x : Ctx) : Option (List (List Nat)) :=
  match x.cls with
  | 0 => (placeReplicas x (freeForReserve s x)).filter (fun l =>
      decide (reservedCells ((loadedOf s 0).map (·.2)) + (l.map List.length).sum ≤ 48))
  | 1 => homeSets s.power.floorRate s x
  | _ => some []

/-- D1 contexts whose admission stands. -/
def admittedD1 (s : State) : List Ctx := ((loadedOf s 1).map (·.2)).filter (fun y => !y.withdrawn)

/-- The timing tests of the class (R212, R213). -/
def timeOk (s : State) (x : Ctx) : Bool :=
  let rate := s.power.floorRate
  if x.cls = 2 then true
  else if rate = 0 then false
  else if x.cls = 0 then x.stripes.all (d0Time rate x)
  else d1Time rate ((loadedOf s 1).map (·.2) ++ [x]) ((loadedOf s 2).map (·.2)) x

/-- A B context's E leaves every admitted D1 context within R213 (R214). -/
def evictOk (s : State) (x : Ctx) : Bool :=
  decide (x.cls ≠ 2) || (admittedD1 s).all (d1Time s.power.floorRate (admittedD1 s) ((loadedOf s 2).map (·.2) ++ [x]))

/-- Every check of R196 in the order of its table: the choice, or the first reason. -/
def admission (s : State) (c : Nat) (x : Ctx) : Except Nat Choice :=
  match x.pkg with
  | none => .error rPackage
  | some p =>
    if !descriptorOk x then .error rDesc
    else if !packageOk x p then .error rPackage
    else if !groupOk s x then .error rGroup
    else if !queuesOk s c x p then .error rQueue
    else if (placeIn allQuarters x ((maskCells x).filter (unfenced s))).isNone then .error rPlacement
    else match chooseCells s x with
      | none => .error rNoCells
      | some cells =>
        let x := { x with replicas := cells, stripes := if x.cls = 2 then [false] else cells.map (isSplit x) }
        let spilled := decide (x.cls = 2) && p.spill.isSome && !storeFits s c x
        let x := { x with spill := spilled }
        if x.cls = 0 ∧ s.power.share < reservedPower ((loadedOf s 0).map (·.2) ++ [x]) then .error rNoPower
        else if !storeFits s c x || !lpddrFits s c x p then .error rNoStore
        else if !timeOk s x then .error rTime
        else if !evictOk s x then .error rEvict
        else if packageHistory p ∧ x.reps ≠ 1 then .error rHistory
        else match findSync s c x with
          | none => .error rNoSync
          | some (bases, nets) => .ok ⟨x.replicas, x.stripes, spilled, bases, nets⟩

/-- A reserved cell holds its slot's program from here on (R199, R227). -/
def residentPrograms (s : State) (c : Nat) (x : Ctx) : State :=
  if x.cls ≠ 0 then s else
  (x.replicas.zip x.stripes).foldl (fun s r => (indexed r.1).foldl (fun s k =>
    if cellRuns s k.2 then s else ensureProgram s k.2 ((planOf x r.2 false).slots.getD k.1 noProg) { tag := ctxTag c x, ctx := c } (loadRange x (planOf x r.2 false) k.1)) s) s

/-- The lines of the new allocation are zeros with the new tag (spec/10 R255). -/
def takeLines (s : State) (a n : Nat) (tag : BitVec 16) : State :=
  rewritten { s with fabric := { s.fabric with
      lpddr := zeroRange s.fabric.lpddr a n, tags := fillRange 0 s.fabric.tags (a / 32) (n / 32) tag } } 0 a n

/-- Arithmetic and other counters of subindices 08 to 14 (R198, spec/02 R50). -/
def clearStats (x : Ctx) : Ctx :=
  { x with retired := 0, lates := 0, replays := 0, evictions := 0, overRate := 0, budget := 0, nanOut := 0, accSat := 0, t5b := 0,
           quant := [], clip := [], stallTime := [], stallEvents := [] }

/-- An admitted context holds its resources (R196, R215, spec/05 R125, spec/10 R255). -/
def holdResources (s : State) (c : Nat) (p : Package) (h : Choice) : State :=
  let n := s.loads + 1
  let s := { s with loads := n }
  let s := s.modCtx c (fun x => { clearStats (x.choose h) with
    st := .admitted, reason := 0, gen := x.gen % 14 + 1, loadOrder := n, withdrawn := false, byHost := false, hist := [], jobNo := 0, formed := 0,
    lastInput := none, cellTime := 0, launchAt := none, launched := 0, openBatch := none, batches := [], lowArmed := true,
    taken := (List.range x.npos).foldl (fun t p => put 0 t p (s.slot (x.pos p).1).seq) [] })
  let x := s.ctx c
  let s := takeLines s x.allocAt p.allocBytes (ctxTag c x)
  let s := reservePages s c x
  let s := s.modCtx c (fun x => { x with tJob := publishedTime s x, floorUsed := s.power.floorRate })
  residentPrograms s c x

/-- Admit or refuse a context that is LOADING (R196, R216). -/
def admitCtx (s : State) (c : Nat) : State :=
  let x := s.ctx c
  if x.st ≠ .loading then s else
  match x.pkg with
  | none => s
  | some p =>
    match admission s c x with
    | .error why => s.setCtx c { x with st := .refused, reason := why, pkg := none, replicas := [], stripes := [], spill := false }
    | .ok h => recheck (holdResources s c p h) true

/-- LOADs accepted before 0x2202:05 turned TRUE are admitted (spec/12 R329). -/
def admitLoading (s : State) : State :=
  if !s.power.valid then s else ((s.ctxs.filter (fun p => p.2.st == .loading)).map (·.1)).foldl admitCtx s

/-! ### Commands (R197) -/

/-- LOAD: the package that Cobbler copies, and the LPDDR6 place it finds for the allocation. -/
def writeLoad (s : State) (c : Nat) (p : Package) (place : Nat) : State :=
  if !setupState s then answer s wrongState else
  let x := s.ctx c
  if x.st ≠ .empty ∧ x.st ≠ .refused ∧ ¬ (x.st = .loading ∧ x.pkg = none) then answer s wrongState
  else
    let s := measure (s.setCtx c { x with st := .loading, reason := 0, pkg := some p, allocAt := place }) 6 p.digest
    answer (if s.power.valid then admitCtx s c else s) okCode

def execLoad (c : CtxNo) (p : Package) (place : BitVec 36) (s : State) : Host.Outcome State Fault Refusal :=
  .next (writeLoad s c.val p place.toNat)

/-- UNLOAD (R197, R216). -/
def writeUnload (s : State) (c : Nat) : State :=
  if !setupState s then answer s wrongState
  else if !(s.ctx c).loaded then answer s wrongState
  else answer (afterFree (recheck (unloadCtx s c 2) true)) okCode

def execUnload (c : CtxNo) (s : State) : Host.Outcome State Fault Refusal := .next (writeUnload s c.val)

/-- From L on: batches with an earlier sample are none of the context's, and its work starts (R313). -/
def launchCtx (s : State) (c : Nat) : State :=
  let x := s.ctx c
  let l := x.launchAt.getD x.launch
  let late := fun (b : Batch) => b.samples.all (fun p => decide (l ≤ p.2.tInput))
  let s := s.setCtx c { x with
    st := if x.withdrawn then .unadmitted else .active
    launchAt := none, launched := l
    openBatch := x.openBatch.filter late, batches := x.batches.filter late }
  let s := settleState { s with resil := { s.resil with observing := true } }
  dispatchAll (serveCtx s c)

/-- The launch time is reached in a state in which contexts run, and the valid flag reads TRUE (R313, spec/09 R242, spec/12 R324). -/
def launchDue (s : State) (c : Nat) : Bool :=
  match (s.ctx c).launchAt with
  | none => false
  | some l => decide (l ≤ s.now) && s.power.valid && runtimeState s && decide ((s.ctx c).st = .admitted ∨ (s.ctx c).st = .suspended)

def doLaunch (s : State) (c : Nat) : State := if launchDue s c then launchCtx s c else s

def execLaunch (c : CtxNo) (s : State) : Host.Outcome State Fault Refusal := .next (doLaunch s c.val)

/-- Activations that were held for the valid flag (R242). -/
def launchHeld (s : State) : State := ((s.ctxs.filter (fun p => p.2.launchAt.isSome)).map (·.1)).foldl doLaunch s

/-- ACTIVATE: at once, or at the launch time (R197, R313). -/
def writeActivate (s : State) (c : Nat) : State :=
  if !runtimeState s then answer s wrongState else
  let x := s.ctx c
  if x.st ≠ .admitted ∧ x.st ≠ .suspended then answer s wrongState
  else answer (doLaunch (s.setCtx c { x with launchAt := some x.launch }) c) okCode

def execActivate (c : CtxNo) (s : State) : Host.Outcome State Fault Refusal := .next (writeActivate s c.val)

/-- SUSPEND: takes no new job (R197). -/
def suspendCtx (s : State) (c : Nat) : State := settleState (s.modCtx c (fun x => { x with st := .suspended, launchAt := none }))

def writeSuspend (s : State) (c : Nat) : State :=
  if !runtimeState s then answer s wrongState
  else if !activeCtx (s.ctx c) then answer s wrongState
  else answer (suspendCtx s c) okCode

def execSuspend (c : CtxNo) (s : State) : Host.Outcome State Fault Refusal := .next (writeSuspend s c.val)

/-- Every ACTIVE or UNADMITTED context is suspended as the device enters CONFIG (spec/12 R327). -/
def suspendAll (s : State) : State := ((s.ctxs.filter (fun p => activeCtx p.2)).map (·.1)).foldl suspendCtx s

/-- RESEED: every history entry cold (spec/05 R125). -/
def writeReseed (s : State) (c : Nat) : State :=
  if !setupState s then answer s wrongState else
  let x := s.ctx c
  if x.st ≠ .admitted ∧ x.st ≠ .suspended then answer s wrongState else answer (s.setCtx c { x with hist := [] }) okCode

def execReseed (c : CtxNo) (s : State) : Host.Outcome State Fault Refusal := .next (writeReseed s c.val)

/-- Statistics reset: TRUE clears subindices 08 to 14 together (R198). -/
def writeStatsReset (s : State) (c v : Nat) : State :=
  if !setupState s then answer s wrongState
  else if 1 < v then answer s outOfRange
  else answer (if v = 1 then s.modCtx c clearStats else s) okCode

def execStatisticsReset (c : CtxNo) (v : Byte) (s : State) : Host.Outcome State Fault Refusal := .next (writeStatsReset s c.val v.toNat)

/-- A write of 0x3000 + c:01. A LOAD through the dictionary leaves the context LOADING until the copy of its package is
known (notes/assumptions/24). -/
def writeCtxCommand (s : State) (c v : Nat) : State :=
  match v with
  | 1 =>
    if !setupState s then answer s wrongState else
    let x := s.ctx c
    if x.st ≠ .empty ∧ x.st ≠ .refused then answer s wrongState
    else answer (s.setCtx c { x with st := .loading, reason := 0, pkg := none }) okCode
  | 2 => writeUnload s c
  | 3 => writeActivate s c
  | 4 => writeSuspend s c
  | 5 => writeReseed s c
  | _ => answer s outOfRange

/-- 0x3000 + c:02: 256 bytes, in EMPTY and REFUSED (R198). -/
def writeDescriptor (s : State) (c : Nat) (d : List Byte) : State :=
  if !setupState s then answer s wrongState else
  let x := s.ctx c
  if x.st ≠ .empty ∧ x.st ≠ .refused then answer s wrongState
  else if d.length ≠ 256 then answer s 0x06070010
  else answer (s.setCtx c { x with desc := writeBytes [] 0 d }) okCode

/-- 0x3000 + c:05, in every context state (R198). -/
def writeLaunch (s : State) (c v : Nat) : State :=
  if setupState s then answer (s.modCtx c (fun x => { x with launch := v })) okCode else answer s wrongState

/-! ### Queue commands (R203) -/

/-- Byte i of the command, and a field of n bytes. -/
def cmdField (b : BitVec 128) (i n : Nat) : Nat := bits b.toNat (8 * (i + n) - 1) (8 * i)

/-- Pages of a channel's ring pool held by queues. -/
def pageUsed (s : State) (ch p : Nat) : Bool :=
  s.queues.any (fun q => q.2.ch == ch && decide (q.2.page ≤ p ∧ p < q.2.page + q.2.pages))

/-- The lowest run of n free pages among the 1,264 (spec/11 R276). -/
def freePages (s : State) (ch n : Nat) : Option Nat :=
  ((List.range (1265 - n)).foldl (fun (a : Option Nat × Nat) p =>
    match a.1 with
    | some _ => a
    | none =>
      if a.2 ≤ p then
        (match (List.range n).reverse.find? (fun i => pageUsed s ch (p + i)) with
         | none => (some p, 0)
         | some i => (none, p + i + 1))
      else a) (none, 0)).1

/-- Result codes. -/
def qDone : Nat := 0
def qInUse : Nat := 1
def qNoSpace : Nat := 2
def qBadParam : Nat := 3
def qBusy : Nat := 4
def qVersion : Nat := 5

/-- The result as the entry reads: the command's fields with the result, and the status line's offset, 0 where no queue was
created, which is the model's choice (notes/assumptions/116). -/
def qResult (b : BitVec 128) (r off : Nat) : BitVec 128 :=
  BitVec.ofNat 128 (cmdField b 0 2 + at_ r 16 + at_ (cmdField b 3 1) 24 + at_ (cmdField b 4 1) 32 + at_ (cmdField b 5 1) 40 + at_ off 64)

def reservedSet (b : BitVec 128) : Bool := decide (cmdField b 6 2 ≠ 0 ∨ cmdField b 12 4 ≠ 0)

/-- A descriptor of a SUSPENDED context names the queue. -/
def namesQueue (x : Ctx) (n : Nat) : Bool := decide (x.cq = n ∨ x.eq = n ∨ (x.sq = n ∧ n ≠ 0xFFFF))

/-- All 64 bytes of every page of a queue read 0. -/
def clearPages (s : State) (x : Queue) : State :=
  let c := s.chan x.ch
  s.setChan x.ch { c with ring := zeroRange c.ring x.base (x.pages * 4096),
                          bad := c.bad.filter (fun w => !decide (0x10000 + x.base ≤ w ∧ w < 0x10000 + x.base + x.pages * 4096)) }

/-- Destroy, and its result. -/
def destroyQueue (s : State) (c : Nat) (b : BitVec 128) : State × Nat × Nat :=
  let n := cmdField b 0 2
  match s.queue? n with
  | none => (s, qBadParam, 0)
  | some x =>
    if reservedSet b || x.ctx != c then (s, qBadParam, 0)
    else if (s.ctx c).st = .suspended ∧ namesQueue (s.ctx c) n then (s, qBusy, 0)
    else ((clearPages s x).dropQueue n, qDone, 0)

/-- Create, and its result. -/
def createQueue (s : State) (c : Nat) (b : BitVec 128) (t : QType) : State × Nat × Nat :=
  let n := cmdField b 0 2
  let k := cmdField b 3 1
  let v := cmdField b 4 1
  let ch := cmdField b 5 1
  if reservedSet b ∨ k < 4 ∨ 16 < k ∨ v < 1 ∨ 2 < v ∨ 1 < ch then (s, qBadParam, 0)
  else if v = 2 ∧ (s.hmp.major ≠ 1 ∨ s.hmp.minor < 2) then (s, qVersion, 0)
  else if (s.queue? n).isSome then (s, qInUse, 0)
  else
    let x : Queue := { ctx := c, typ := t, k := k, version := v, ch := ch,
                       mask := if t = .event then BitVec.ofNat 32 (cmdField b 8 4) else 0, page := 0 }
    match freePages s ch x.pages with
    | none => (s, qNoSpace, 0)
    | some p => let x := { x with page := p }; (clearPages (s.setQueue n x) x, qDone, x.base)

/-- A queue command: performed in EMPTY, REFUSED and SUSPENDED only. -/
def queueCommand (s : State) (c : Nat) (b : BitVec 128) (act : State → State × Nat × Nat) : State :=
  let x := s.ctx c
  if !setupState s then answer s wrongState
  else if x.st ≠ .empty ∧ x.st ≠ .refused ∧ x.st ≠ .suspended then answer s wrongState
  else
    let r := act s
    answer (r.1.modCtx c (fun x => { x with queueResult := qResult b r.2.1 r.2.2 })) okCode

/-- A write of 0x3000 + c:16. -/
def writeQueueCommand (s : State) (c : Nat) (b : BitVec 128) : State :=
  queueCommand s c b (fun s =>
    match cmdField b 2 1 with
    | 0 => destroyQueue s c b
    | 1 => createQueue s c b .submit
    | 2 => createQueue s c b .complete
    | 3 => createQueue s c b .event
    | _ => (s, qBadParam, 0))

def execQueueDestroy (c : CtxNo) (b : BitVec 128) (s : State) : Host.Outcome State Fault Refusal :=
  if cmdField b 2 1 = 0 then .next (queueCommand s c.val b (fun s => destroyQueue s c.val b)) else .refused .illFormed
def execCreateSubmit (c : CtxNo) (b : BitVec 128) (s : State) : Host.Outcome State Fault Refusal :=
  if cmdField b 2 1 = 1 then .next (queueCommand s c.val b (fun s => createQueue s c.val b .submit)) else .refused .illFormed
def execCreateComplete (c : CtxNo) (b : BitVec 128) (s : State) : Host.Outcome State Fault Refusal :=
  if cmdField b 2 1 = 2 then .next (queueCommand s c.val b (fun s => createQueue s c.val b .complete)) else .refused .illFormed
def execCreateEvent (c : CtxNo) (b : BitVec 128) (s : State) : Host.Outcome State Fault Refusal :=
  if cmdField b 2 1 = 3 then .next (queueCommand s c.val b (fun s => createQueue s c.val b .event)) else .refused .illFormed

end Sys2Proof.Machine
end

