-- ==== Sys2Proof/Machine/Clicker.lean ====
section
/-! DEFINITION. Pixels: the RAW pipeline (spec/07 R173), conversion to RGB (R184), the temporal filter and exposure
statistics (R174), and the Clicker (R176 to R180). -/

namespace Sys2Proof.Machine

/-! ### The stream descriptor (R161, R176) -/

def dByte (d : Mem) (i : Nat) : Nat := (readByte d i).toNat
def dSource (d : Mem) : Nat := dByte d 0
def dPort (d : Mem) : Nat := dByte d 1
def dVc (d : Mem) : Nat := dByte d 2
def dType (d : Mem) : Nat := dByte d 3
def dWidth (d : Mem) : Nat := readLE d 4 2
def dHeight (d : Mem) : Nat := readLE d 6 2
def dMaxW (d : Mem) : Nat := readLE d 8 2
def dMaxH (d : Mem) : Nat := readLE d 10 2
def dRate (d : Mem) : Nat := readLE d 12 2
def dCfa (d : Mem) : Nat := dByte d 14
def dFlag (d : Mem) (b : Nat) : Bool := (dByte d 15).testBit b
def dBlack (d : Mem) (c : Nat) : Nat := readLE d (16 + 2 * c) 2
def dWb (d : Mem) (c : Nat) : Nat := readLE d (24 + 2 * c) 2
def dCcm (d : Mem) (i : Nat) : Int := signed 16 (readLE d (32 + 2 * i) 2)
def dThresh (d : Mem) : Nat := readLE d 50 2
def dAlpha (d : Mem) : Nat := readLE d 52 2
def dStage (d : Mem) : Nat := readLE d 16 2

/-- View v: byte i of its descriptor, and its fields. -/
def viewAt (v : Nat) : Nat := 64 + 32 * v
def vByte (d : Mem) (v i : Nat) : Nat := dByte d (viewAt v + i)
def vKind (d : Mem) (v : Nat) : Nat := vByte d v 0
def vMode (d : Mem) (v : Nat) : Nat := vByte d v 1
def vGrid (d : Mem) (v : Nat) : Nat := 8 * 2 ^ (vMode d v / 64)
def vBicubic (d : Mem) (v : Nat) : Bool := (vMode d v).testBit 5
def vRot (d : Mem) (v : Nat) : Nat := vMode d v / 8 % 4
def vRecords (d : Mem) (v : Nat) : Bool := (vMode d v).testBit 0
def vBf16 (d : Mem) (v : Nat) : Bool := vByte d v 2 == 0x0B
def vReplicate (d : Mem) (v : Nat) : Bool := (vByte d v 3).testBit 7
def vChans (d : Mem) (v : Nat) : Nat := if vByte d v 3 % 4 = 1 then 3 else 1
def vOutW (d : Mem) (v : Nat) : Nat := readLE d (viewAt v + 4) 2
def vOutH (d : Mem) (v : Nat) : Nat := readLE d (viewAt v + 6) 2
def vCropX (d : Mem) (v : Nat) : Nat := readLE d (viewAt v + 8) 2
def vCropY (d : Mem) (v : Nat) : Nat := readLE d (viewAt v + 10) 2
def vCropW (d : Mem) (v : Nat) : Nat := readLE d (viewAt v + 12) 2
def vCropH (d : Mem) (v : Nat) : Nat := readLE d (viewAt v + 14) 2
def vTable (d : Mem) (v : Nat) : Nat := readLE d (viewAt v + 16) 4 * 64
def vMean (d : Mem) (v c : Nat) : FVal := decodeF bf16 (readLE d (viewAt v + 20 + 2 * c) 2)
def vIstd (d : Mem) (v c : Nat) : FVal := decodeF bf16 (readLE d (viewAt v + 26 + 2 * c) 2)
/-- Nodes of a mesh in a row and in a column (R178). -/
def meshNx (d : Mem) (v : Nat) : Nat := ceilDiv (vOutW d v) (vGrid d v) + 1
def meshNy (d : Mem) (v : Nat) : Nat := ceilDiv (vOutH d v) (vGrid d v) + 1

/-! ### Images -/

/-- 12-bit pixels by row; the three values of a monochrome pixel are equal. -/
structure Img where
  w : Nat
  h : Nat
  mono : Bool
  px : List (List (Nat × Nat × Nat))
  deriving DecidableEq, Repr

def sat12 (v : Int) : Nat := (satInt 0 4095 v).toNat
def atRow {α : Type} (d : α) (rows : List (List α)) (x y : Nat) : α := (rows.getD y []).getD x d

/-- Every pixel of a w x h raster by a function of x and y. -/
def raster {α : Type} (w h : Nat) (f : Nat → Nat → α) : List (List α) := (List.range h).map (fun y => (List.range w).map (fun x => f x y))

/-! ### RAW pipeline (R173) -/

/-- CFA position of a pixel; the colour at a position: 0 R, 1 G, 2 B. -/
def cfaPos (x y : Nat) : Nat := 2 * (y % 2) + x % 2
def cfaColour (cfa c : Nat) : Nat :=
  ((match cfa with | 0 => [0, 1, 1, 2] | 1 => [1, 0, 2, 1] | 2 => [1, 2, 0, 1] | _ => [2, 1, 1, 0]) : List Nat).getD c 1

/-- A sample of the mosaic; one outside the frame is not given (notes/assumptions/26): a free value. -/
def mosaicAt (rows : List (List Nat)) (w h n : Nat) (x y : Int) : Nat :=
  if 0 ≤ x ∧ x < w ∧ 0 ≤ y ∧ y < h then atRow 0 rows x.toNat y.toNat
  else (freeAt 12 n (((y + 8).toNat % 32768) * 65536 + (x + 8).toNat % 65536)).toNat

/-- Step 1. -/
def blackLevel (d : Mem) (rows : List (List Nat)) (w h : Nat) : List (List Nat) :=
  raster w h (fun x y => sat12 (((atRow 0 rows x y : Nat) : Int) - dBlack d (if dCfa d = 4 then 0 else cfaPos x y)))

/-- The eight nearest neighbours of the same colour, and the four of them in the row and the column. -/
def nearest8 (cfa x y : Nat) : List (Int × Int) :=
  if cfa = 4 then [(-1, -1), (0, -1), (1, -1), (-1, 0), (1, 0), (-1, 1), (0, 1), (1, 1)]
  else if cfaColour cfa (cfaPos x y) = 1 then [(-1, -1), (1, -1), (-1, 1), (1, 1), (0, -2), (-2, 0), (2, 0), (0, 2)]
  else [(-2, -2), (0, -2), (2, -2), (-2, 0), (2, 0), (-2, 2), (0, 2), (2, 2)]
def cross4 (cfa : Nat) : List (Int × Int) := if cfa = 4 then [(0, -1), (-1, 0), (1, 0), (0, 1)] else [(0, -2), (-2, 0), (2, 0), (0, 2)]

/-- Step 2: a defective pixel takes the mean of the middle two of its four neighbours. -/
def defects (d : Mem) (list : List (Nat × Nat)) (rows : List (List Nat)) (w h n : Nat) : List (List Nat) :=
  raster w h (fun x y =>
    let v := atRow 0 rows x y
    let nb := fun (l : List (Int × Int)) => l.map (fun o => mosaicAt rows w h n (x + o.1) (y + o.2))
    let l8 := nb (nearest8 (dCfa d) x y)
    let dynamic := dFlag d 1 && (decide (l8.foldl max 0 + dThresh d < v) || decide (v + dThresh d < l8.foldl min 4095))
    if (dFlag d 0 && list.contains (x, y)) || dynamic then
      (let l4 := sortBy id (nb (cross4 (dCfa d))); rneDiv (l4.getD 1 0 + l4.getD 2 0) 2)
    else v)

/-- Steps 3 to 5 of one pixel of a mosaic. The gain of a colour is that of its CFA position, of green that in the pixel's row. -/
def colourPixel (d : Mem) (rows : List (List Nat)) (w h n x y : Nat) : Nat × Nat × Nat :=
  let win := (List.range 25).map (fun (i : Nat) => mosaicAt rows w h n ((x : Int) + ((i % 5 : Nat) : Int) - 2) ((y : Int) + ((i / 5 : Nat) : Int) - 2))
  let pos := fun (col : Nat) => ([2 * (y % 2), 2 * (y % 2) + 1, 0, 1, 2, 3].find? (fun c => cfaColour (dCfa d) c == col)).getD 0
  let ch := (List.range 3).map (fun col =>
    sat12 (rneDiv (min 4095 (Config.demosaic (dCfa d) col (y % 2) (x % 2) win) * dWb d (pos col)) 4096))
  let out := (List.range 3).map (fun i => sat12 (rneDivI ((List.range 3).map (fun j => dCcm d (3 * i + j) * (ch.getD j 0 : Int))).sum 4096))
  (out.getD 0 0, out.getD 1 0, out.getD 2 0)

/-- Step 6; an empty table is the identity curve. -/
def toneCurve (t : List Nat) (v : Nat) : Nat :=
  if t.isEmpty then v else
  let a : Int := t.getD (v / 16) 0
  let b : Int := t.getD (v / 16 + 1) 0
  sat12 (rneDivI (16 * a + (b - a) * (v % 16)) 16)

/-- Steps 1 to 6 on RAW codes. -/
def rawPipeline (d : Mem) (tabs : SlotTabs) (lines : List (List Nat)) (n : Nat) : Img :=
  let w := dWidth d
  let h := dHeight d
  let scale := if dType d = 0x2A then 16 else if dType d = 0x2B then 4 else 1
  let m := raster w h (fun x y => atRow 0 lines x y * scale % 4096)
  let m := defects d tabs.defects (blackLevel d m w h) w h n
  let t := toneCurve tabs.tone
  if dCfa d = 4 then
    ⟨w, h, true, raster w h (fun x y => let v := t (sat12 (rneDiv (atRow 0 m x y * dWb d 0) 4096)); (v, v, v))⟩
  else ⟨w, h, false, raster w h (fun x y => let p := colourPixel d m w h n x y; (t p.1, t p.2.1, t p.2.2))⟩

/-! ### Conversion (R184) -/

def rgbOf (matrix : Nat) (full : Bool) (y cb cr : Nat) : Nat × Nat × Nat :=
  let c := fun (k : Nat) => min 4095 (Config.yuvToRgb matrix full y cb cr k)
  (c 0, c 1, c 2)

/-- A pixel of an RGB888 or YUV422 line: its three 8-bit components, lowest first. -/
def convertPixel (type p : Nat) : Nat × Nat × Nat :=
  let c := fun (i : Nat) => p / 256 ^ i % 256 * 16
  if type = 0x24 then (c 0, c 1, c 2) else rgbOf 0 false (c 0) (c 1) (c 2)

/-- A camera frame before step 7. -/
def cameraImage (f : Frame) (n : Nat) : Img :=
  let d := f.desc
  if dType d = 0x24 ∨ dType d = 0x1E then
    ⟨dWidth d, dHeight d, false, raster (dWidth d) (dHeight d) (fun x y => convertPixel (dType d) (atRow 0 f.lines x y))⟩
  else rawPipeline d f.tabs f.lines n

/-! ### History (R174) -/

def blend (alpha y x : Nat) : Nat := ((y : Int) + rneDivI ((alpha : Int) * ((x : Int) - y)) 65536).toNat

/-- Step 7: the filtered frame, and whether it used its seed. A state of another size is none. -/
def temporal (d : Mem) (prev : Option (List (List (Nat × Nat × Nat)))) (m : Img) : Img × Bool :=
  if !dFlag d 2 then (m, false) else
  match prev.filter (fun p => p.length == m.h && p.all (fun r => r.length == m.w)) with
  | none => (m, true)
  | some p =>
    let a := dAlpha d
    ({ m with px := raster m.w m.h (fun x y =>
        let o := atRow (0, 0, 0) p x y
        let v := atRow (0, 0, 0) m.px x y
        (blend a o.1 v.1, blend a o.2.1 v.2.1, blend a o.2.2 v.2.2)) }, false)

def luma (mono : Bool) (p : Nat × Nat × Nat) : Nat := if mono then p.1 else rneDiv (1225 * p.1 + 2404 * p.2.1 + 467 * p.2.2) 4096

/-- A mean rounded once; the mean of no pixel is not given. -/
def meanCode (l : List Nat) (n i : Nat) : Nat := if l.isEmpty then (freeAt 12 n i).toNat else rneDiv l.sum l.length

/-- Step 8: the record of 800 bytes and the smoothed mean. -/
def exposure (d : Mem) (prev : Option Nat) (m : Img) (tInput n : Nat) : List Byte × Nat :=
  let ys := m.px.map (fun r => r.map (luma m.mono))
  let zone := fun (zx zy : Nat) =>
    ((ys.drop (zy * m.h / 16)).take ((zy + 1) * m.h / 16 - zy * m.h / 16)).flatMap (fun r =>
      (r.drop (zx * m.w / 16)).take ((zx + 1) * m.w / 16 - zx * m.w / 16))
  let all := ys.flatten
  let mean := meanCode all n 256
  let s := match prev with | none => mean | some p => blend (dAlpha d) p mean
  ((List.range 256).flatMap (fun i => leBytes 2 (meanCode (zone (i % 16) (i / 16)) n i)) ++
   (List.range 64).flatMap (fun b => leBytes 4 (all.filter (fun v => v / 64 == b)).length) ++
   leBytes 2 s ++ leBytes 2 mean ++ leBytes 8 tInput ++ [if prev.isNone then 1 else 0] ++ List.replicate 19 0, s)

/-! ### The Clicker (R177 to R179) -/

/-- Source coordinate of an output pixel of a kind-1 view (R177). -/
def coordBuiltIn (d : Mem) (v x y : Nat) : Int × Int :=
  let r := vRot d v
  let cw := vCropW d v
  let chh := vCropH d v
  let w' := if r % 2 = 0 then cw else chh
  let h' := if r % 2 = 0 then chh else cw
  let pos := fun (p size out : Nat) => rneDivI (256 * ((2 * (p : Int) + 1) * size - out)) (2 * out)
  let u := pos x w' (vOutW d v)
  let q := pos y h' (vOutH d v)
  let u := if (vMode d v).testBit 2 then 256 * ((w' : Int) - 1) - u else u
  let q := if (vMode d v).testBit 1 then 256 * ((h' : Int) - 1) - q else q
  let c : Int × Int := match r with
    | 0 => (u, q)
    | 1 => (q, 256 * ((chh : Int) - 1) - u)
    | 2 => (256 * ((cw : Int) - 1) - u, 256 * ((chh : Int) - 1) - q)
    | _ => (256 * ((cw : Int) - 1) - q, u)
  (256 * (vCropX d v : Int) + c.1, 256 * (vCropY d v : Int) + c.2)

/-- Source coordinate from the mesh (R178). -/
def coordMesh (d : Mem) (v : Nat) (nodes : List (Int × Int)) (x y : Nat) : Int × Int :=
  let g := vGrid d v
  let fx := x % g
  let fy := y % g
  let node := fun (i j : Nat) => nodes.getD (j * meshNx d v + i) (0, 0)
  let n00 := node (x / g) (y / g)
  let n10 := node (x / g + 1) (y / g)
  let n01 := node (x / g) (y / g + 1)
  let n11 := node (x / g + 1) (y / g + 1)
  let mix := fun (a b c e : Int) => rneDivI (((g - fx) * (g - fy) : Nat) * a + (fx * (g - fy) : Nat) * b + ((g - fx) * fy : Nat) * c + (fx * fy : Nat) * e) (g * g)
  (mix n00.1 n10.1 n01.1 n11.1, mix n00.2 n10.2 n01.2 n11.2)

/-- A pixel, or what a tap outside the frame takes. -/
def tap (m : Img) (replicate : Bool) (x y : Int) : Nat × Nat × Nat :=
  if 0 ≤ x ∧ x < m.w ∧ 0 ≤ y ∧ y < m.h then atRow (0, 0, 0) m.px x.toNat y.toNat
  else if replicate then atRow (0, 0, 0) m.px (satInt 0 ((m.w : Int) - 1) x).toNat (satInt 0 ((m.h : Int) - 1) y).toNat
  else (2048, 2048, 2048)

/-- Weights of the cubic kernel with a = -0.5 at phase p of 64, times 2^19, for the taps at -1, 0, 1, 2. -/
def cubic (p : Nat) : List Int :=
  let near := fun (t : Int) => 3 * t ^ 3 - 320 * t ^ 2 + 524288
  let far := fun (t : Int) => -(t ^ 3) + 320 * t ^ 2 - 32768 * t + 1048576
  [far (64 + p), near p, near (64 - p), far (128 - p)]

/-- The value at a source coordinate (R179), channel by channel. -/
def sampleAt (m : Img) (bicubic replicate : Bool) (c : Int × Int) : Nat × Nat × Nat :=
  let taps : List ((Nat × Nat × Nat) × Int) :=
    if bicubic then
      let phase := fun (a : Int) => let p := rneDiv (a % 256).toNat 4; if p = 64 then (a / 256 + 1, 0) else (a / 256, p)
      let px := phase c.1
      let py := phase c.2
      (List.range 16).map (fun (i : Nat) => (tap m replicate (px.1 + ((i % 4 : Nat) : Int) - 1) (py.1 + ((i / 4 : Nat) : Int) - 1), (cubic px.2).getD (i % 4) 0 * (cubic py.2).getD (i / 4) 0))
    else
      let fx := c.1 % 256
      let fy := c.2 % 256
      let x := c.1 / 256
      let y := c.2 / 256
      [(tap m replicate x y, (256 - fx) * (256 - fy)), (tap m replicate (x + 1) y, fx * (256 - fy)),
       (tap m replicate x (y + 1), (256 - fx) * fy), (tap m replicate (x + 1) (y + 1), fx * fy)]
  let den := if bicubic then 274877906944 else 65536
  let mix := fun (f : Nat × Nat × Nat → Nat) => sat12 (rneDivI ((taps.map (fun t => (f t.1 : Int) * t.2)).sum) den)
  (mix (·.1), mix (·.2.1), mix (·.2.2))

/-- The bytes of one value of a view (R180). -/
def viewValue (d : Mem) (v c p : Nat) : List Byte :=
  if vBf16 d v then leBytes 2 (narrowF bf16 (((FVal.fin false p 16).add (vMean d v c).neg).mul (vIstd d v c))).code
  else leBytes 1 (pattern 8 (satInt (-128) 127 ((rneDiv p 16 : Int) - 128)))

/-- The map a view writes (R180). -/
def viewBytes (d : Mem) (v : Nat) (nodes : List (Int × Int)) (m : Img) : List Byte :=
  (raster (vOutW d v) (vOutH d v) (fun x y =>
    let p := sampleAt m (vBicubic d v) (vReplicate d v) (if vKind d v = 1 then coordBuiltIn d v x y else coordMesh d v nodes x y)
    if vChans d v = 1 then viewValue d v 0 (luma m.mono p)
    else viewValue d v 0 p.1 ++ viewValue d v 1 p.2.1 ++ viewValue d v 2 p.2.2)).flatMap List.flatten

/-- What R180 gives to a pixel of value 0 in every channel, for the whole map of a view (spec/08 R210). -/
def blackBytes (d : Mem) (v : Nat) : List Byte :=
  let px := (List.range (vChans d v)).flatMap (fun c => viewValue d v c 0)
  (List.replicate (vOutW d v * vOutH d v) px).flatten

/-- Views that feed batches. -/
def batchViews (d : Mem) : List Nat := (List.range 4).filter (fun v => vKind d v != 0 && !vRecords d v)

end Sys2Proof.Machine
end

