-- ==== Sys2Proof/Machine/Batches.lean ====
section
/-! DEFINITION. Batches (spec/07 R188, R191, R192; spec/08 R210; spec/12 R313), and a slot that stops (spec/07 R187,
R188). -/

namespace Sys2Proof.Machine

/-! ### Batch buffers (R191) -/

/-- A batch buffer of a context that no batch and no unretired job holds. -/
def freeBuffer (s : State) (c : Nat) : Option Nat :=
  let x := s.ctx c
  let used := x.openBatch.toList.filterMap (·.buf) ++ x.batches.filterMap (·.buf) ++ (s.jobs.filter (fun (j : Job) => j.ctx == c)).filterMap (·.buf)
  match x.pkg with
  | none => none
  | some p => (List.range p.batchAt.length).find? (fun k => !used.contains k)

/-- A sample is written into its place of a batch buffer, inside the context's allocation of LPDDR6. -/
def writeSample (s : State) (c : Nat) (buf : Option Nat) (p : Nat) (data : List Byte) : State :=
  let x := s.ctx c
  match buf, x.pkg with
  | some k, some g =>
    (match (g.batchAt.getD k [])[p]? with
     | some o => if o + data.length ≤ g.allocBytes then spaceWrite s 0 0 0 (x.allocAt + o) data else s
     | none => s)
  | _, _ => s

/-! ### Closing a batch -/

/-- A position's slot is a camera slot (R192). -/
def cameraSlot (s : State) (n : Nat) : Bool := dSource (s.slot n).desc == 1

/-- Empty positions of a batch. -/
def emptyPos (x : Ctx) (b : Batch) : List Nat := (List.range x.npos).filter (fun p => !b.samples.any (fun q => q.1 == p))

/-- The closed batch: VOID positions filled, the input-completion time of R191. -/
def closeOf (s : State) (x : Ctx) (b : Batch) : Batch :=
  let empty := emptyPos x b
  let t := (b.samples.map (fun q => q.2.tInput)).foldl max 0
  let fill := fun (p : Nat) => (⟨0, t, false, blackBytes (s.slot (x.pos p).1).desc (x.pos p).2⟩ : Sample)
  { b with samples := empty.foldl (fun m p => insertKey m p (fill p)) b.samples, voidPos := empty, tInput := t, closedAt := s.now }

/-- The values of a batch's VOID positions go to its buffer (spec/08 R210). -/
def writeVoids (s : State) (c : Nat) (b : Batch) : State :=
  b.voidPos.foldl (fun s p => writeSample s c b.buf p (lookup ⟨0, 0, false, []⟩ b.samples p).data) s

/-- The open batch closes (R191, R192). A full queue with a camera source loses its oldest batch; with host sources alone
the new batch waits behind the others, beyond the depth. -/
def closeBatch (s : State) (c : Nat) : State :=
  let x := s.ctx c
  match x.openBatch with
  | none => s
  | some b =>
    let camera := x.positions.any (fun v => cameraSlot s v.1)
    let full := decide (x.depth ≤ x.batches.length)
    let s := match x.batches with
      | old :: _ => if full && camera then postEvent s c evBatchDiscard (leBytes 8 old.tInput) else s
      | [] => s
    let kept := if full && camera then x.batches.drop 1 else x.batches
    let now := kept ++ [closeOf s x b]
    let s := writeVoids s c (closeOf s x b)
    let s := s.modCtx c (fun y => { y with openBatch := none, batches := now, lowArmed := y.lowArmed || decide (x.lowWater < now.length) })
    if activeCtx x then sendNotice s (ctxLaster s c) (streamSrc (x.pos 0).1) (.batchClosed c) else s

/-- Every position of a running slot holds a sample (R191). -/
def batchReady (s : State) (x : Ctx) (b : Batch) : Bool :=
  (emptyPos x b).all (fun p => decide ((s.slot (x.pos p).1).st ≠ 1))

def tryClose (s : State) (c : Nat) : State :=
  match (s.ctx c).openBatch with
  | some b => if batchReady s (s.ctx c) b then closeBatch s c else s
  | none => s

/-- Contexts bound to a slot look at their open batches again (R188). -/
def reviewBatches (s : State) (slot : Nat) : State := (boundCtxs s slot).foldl tryClose s

/-! ### Samples -/

/-- States in which batches form (R197). -/
def forms (x : Ctx) : Bool := activeCtx x || decide (x.st = .suspended)

/-- Add a sample at position p; one that is there closes the batch first (R191). -/
def addSample (s : State) (c p : Nat) (v : Sample) : State :=
  let s := match (s.ctx c).openBatch with
    | some b => if b.samples.any (fun q => q.1 == p) then closeBatch s c else s
    | none => s
  let b := (s.ctx c).openBatch.getD { samples := [], opened := s.now, tInput := 0, voidPos := [], buf := freeBuffer s c }
  let s := s.modCtx c (fun x => { x with openBatch := some { b with samples := insertKey (erase b.samples p) p v } })
  tryClose (writeSample s c b.buf p v.data) c

/-- The next sample of a view that a context has not taken. -/
def nextSample (s : State) (x : Ctx) (p : Nat) : Option Sample :=
  (lookup [] (s.slot (x.pos p).1).viewOut (x.pos p).2).find? (fun v => decide (lookup 0 x.taken p < v.seq))

/-- Samples that every loaded context bound to the view has taken are dropped. -/
def pruneView (s : State) (slot view : Nat) : State :=
  let taken := fun (v : Sample) => (loadedCtxs s).all (fun q =>
    (List.range q.2.npos).all (fun p => q.2.pos p != (slot, view) || decide (v.seq ≤ lookup 0 q.2.taken p)))
  let x := s.slot slot
  s.setSlot slot { x with viewOut := put [] x.viewOut view ((lookup [] x.viewOut view).filter (fun v => !taken v)) }

/-- SAMPLE_ARRIVAL: samples before the launch time, and those of a context that forms no batches, are passed over (R313). -/
def takeSample (s : State) (c p : Nat) : State :=
  let x := s.ctx c
  if !x.loaded || decide (x.npos ≤ p) then s else
  match nextSample s x p with
  | none => s
  | some v =>
    let s := s.setCtx c { x with taken := put 0 x.taken p v.seq }
    let s := if forms x && decide (x.launched ≤ v.tInput) then addSample s c p v else s
    pruneView s (x.pos p).1 (x.pos p).2

def execSampleArrival (c : CtxNo) (p : Fin 16) (s : State) : Host.Outcome State Fault Refusal := .next (takeSample s c.val p.val)

/-- BATCH_WINDOW: the window has elapsed since the opening (R191). -/
def windowEnd (s : State) (c : Nat) : State :=
  match (s.ctx c).openBatch with
  | some b => if b.opened + (s.ctx c).window ≤ s.now then closeBatch s c else s
  | none => s

def execBatchWindow (c : CtxNo) (s : State) : Host.Outcome State Fault Refusal := .next (windowEnd s c.val)

/-- Put a view's new sample out. -/
def outView (s : State) (slot view : Nat) (tInput : Nat) (cold : Bool) (data : List Byte) : State :=
  let x := s.slot slot
  let v : Sample := ⟨x.seq, tInput, cold, data⟩
  pruneView (s.setSlot slot { x with viewOut := put [] x.viewOut view (lookup [] x.viewOut view ++ [v]) }) slot view

/-- A frame of a slot goes through its Clicker (R176). -/
def clickFrame (s : State) (slot : Nat) (d : Mem) (tabs : SlotTabs) (m : Img) (tInput : Nat) (cold : Bool) : State :=
  let x := s.slot slot
  let s := s.setSlot slot { x with seq := x.seq + 1 }
  (batchViews d).foldl (fun s v => outView s slot v tInput cold (viewBytes d v (lookup [] tabs.mesh v) m)) s

/-! ### Stopping on bad input (R187) -/

def rCsiEcc : Nat := 0x0001
def rCsiCrc : Nat := 0x0002
def rCsiShape : Nat := 0x0003
def rCsiFrame : Nat := 0x0004
def rCsiType : Nat := 0x0005
def rDimOverclaim : Nat := 0x0010
def rBitstream : Nat := 0x0011
def rUnsupported : Nat := 0x0012
def rFrameEntry : Nat := 0x0013
def rMeshRange : Nat := 0x0020
def rCameraChanged : Nat := 0x0030
def rHostStop : Nat := 0x00FF
def rNoCal : Nat := 0x0101
def rNoCapacity : Nat := 0x0102
def rDescInvalid : Nat := 0x0103
def rPortBusy : Nat := 0x0104

/-- The leaf that names the slot for a reason. -/
def stopLeaf (slot reason : Nat) : Leaf :=
  if reason = rMeshRange then .main gClicker slot
  else if reason = rDimOverclaim ∨ reason = rBitstream ∨ reason = rUnsupported then .main gCodec slot
  else .slot slot 0
/-- INFO's ARG: the slot for the STREAM group alone (spec/11 R294). -/
def stopArg (slot reason : Nat) : Nat := match stopLeaf slot reason with | .slot .. => slot | _ => 0

def State.bus (s : State) (b : Nat) : Bus := lookup {} s.streams.bus b
def State.setBus (s : State) (b : Nat) (x : Bus) : State := { s with streams := { s.streams with bus := put {} s.streams.bus b x } }

def isGcmdOf (n : Nat) : BusReq → Bool
  | .gcmd k _ _ => k == n
  | .host _ => false

/-- The reads that a slot has asked for are given up as it stops (R169). -/
def dropReads (s : State) (slot : Nat) : State :=
  { s with streams := { s.streams with bus := mapKeys {} s.streams.bus 8 (fun b => { b with waiting := b.waiting.filter (fun r => !isGcmdOf slot r) }) } }

/-- A slot goes STOPPED: cause, open batches, notice (R188, R207). -/
def stopSlot (s : State) (slot reason : Nat) : State :=
  let s := dropReads s slot
  let x := s.slot slot
  let s := s.setSlot slot { x with st := 2, reason := reason, inFrame := false, dropFrame := false, lines := [], decoding := false,
                                   reading := false, reads := [], timedOut := false, starting := false }
  let s := raise s (stopLeaf slot reason) (stopArg slot reason) 0
  let s := reviewBatches s slot
  sendNotice s (slotGroup s slot % 4) (streamSrc slot) (.slotStopped slot)

/-! ### Words of the stream pool (R181, spec/11 R276, R290) -/

def hostSlot (x : Slot) : Bool := decide (dSource x.desc = 2 ∨ dSource x.desc = 3)

/-- Where the slot's frame-entry ring lies in the channel's stream pool, and where byte o of its bitstream area does: its pages need not
lie together. -/
def entryBase (n : Nat) : Nat := n / 2 * 4096
def areaAt (x : Slot) (o : Nat) : Nat := x.page.getD (o / 65536) 0 * 65536 + o % 65536

/-- The consumer index passes the entry. -/
def passEntry (x : Slot) : Slot :=
  let c := x.cons + 1
  { x with cons := c, decoding := false, rings := x.rings.filter (fun r => decide ((c - x.cons).toNat < (r.1 - x.cons).toNat)) }

/-- A bad entry stops the slot; RESUME begins after it (R188, R189). -/
def stopEntry (s : State) (n reason : Nat) : State := stopSlot (s.setSlot n (passEntry (s.slot n))) n reason

/-- The host slot whose ring or bitstream area holds a byte of a channel's staging. -/
def stagingSlot (s : State) (ch a : Nat) : Option Nat :=
  (List.range 32).find? (fun n => let x := s.slot n
    decide (n % 2 = ch) && hostSlot x && decide (x.st ≠ 0) &&
    (decide (0x500000 + entryBase n ≤ a ∧ a < 0x500000 + entryBase n + 4096) ||
     x.page.any (fun p => decide (0x500000 + p * 65536 ≤ a ∧ a < 0x500000 + (p + 1) * 65536))))

/-- An uncorrectable word found there stops the running slot with BITSTREAM, and spoils the frame in decoding (spec/11 R290). -/
def stagingStop (s : State) (ch a : Nat) : State :=
  match stagingSlot s ch a with
  | none => s
  | some n => if (s.slot n).st ≠ 1 then s else if (s.slot n).decoding then stopEntry s n rBitstream else stopSlot s n rBitstream

/-- The staging word that a transfer met stops its slot. -/
def stopOn (s : State) : TransferErr → State
  | .word (.staging ch a) => stagingStop s ch.val a.toNat
  | _ => s

/-- LACER_TRANSFER_COMPLETE; an uncorrectable error in the quarter fabric loses the quarter (spec/01 R26). -/
def execLacerTransferComplete (q : QuarterNo) (l : Fin 4) (by_ : LacerEnd) (s : State) : Host.Outcome State Fault Refusal :=
  .next (if by_.err = .fabric then loseQuarter s q.val else stopOn (lacerComplete s (q.val * 4 + l.val) by_.by_ by_.err) by_.err)

end Sys2Proof.Machine
end

