-- ==== Sys2Proof/Machine/Streams.lean ====
section
/-! DEFINITION. Stream slots: the checks of a descriptor and of capacity (spec/07 R161, R165, R175, R176, R182, R183, R186),
GCMD images and calibration (R169 to R172), meshes and tables (R178, R193), slot commands (R162, R189) and re-arming (R193,
R194). -/

namespace Sys2Proof.Machine

/-! ### Descriptor checks at START -/

def zeroBytes (d : Mem) (a n : Nat) : Bool := (readBytes d a n).all (· == 0)

/-- A view descriptor (R176); the frame it crops is the camera's, or the largest a decoder may declare. -/
def viewOk (d : Mem) (v : Nat) : Bool :=
  let w := if dSource d = 1 then dWidth d else dMaxW d
  let h := if dSource d = 1 then dHeight d else dMaxH d
  vKind d v == 0 ||
  (decide (vKind d v ≤ 4 ∧ vMode d v / 64 < 3) && (vByte d v 2 == 0 || vBf16 d v) &&
   decide (vByte d v 3 % 128 ≤ 1 ∧ 16 ≤ vOutW d v ∧ vOutW d v ≤ 4096 ∧ 16 ≤ vOutH d v ∧ vOutH d v ≤ 4096) &&
   (if vKind d v = 1 then
      decide (1 ≤ vCropW d v ∧ 1 ≤ vCropH d v ∧ vCropX d v + vCropW d v ≤ w ∧ vCropY d v + vCropH d v ≤ h)
    else decide (vMode d v / 2 % 16 = 0) && zeroBytes d (viewAt v + 8) 8))

/-- A table lies inside LPDDR6. -/
def tableIn (a n : Nat) : Bool := decide (a + n ≤ lpddrSize)

def dDefectAddr (d : Mem) : Nat := readLE d 56 4 * 64
def dDefectCount (d : Mem) : Nat := readLE d 54 2
def dTone (d : Mem) : Nat := readLE d 60 4

/-- The stream part (R161). -/
def streamPartOk (d : Mem) : Bool :=
  dRate d != 0 &&
  (if dSource d = 1 then
     decide (dPort d ≤ 15 ∧ dVc d ≤ 3 ∧ 1 ≤ dWidth d ∧ 1 ≤ dHeight d ∧ dCfa d ≤ 4 ∧ dByte d 15 ≤ 15 ∧ dDefectCount d ≤ 4096) &&
     [0x2A, 0x2B, 0x2C, 0x1E, 0x24].contains (dType d) && tableIn (dDefectAddr d) (4 * dDefectCount d) &&
     (dTone d == 0xFFFFFFFF || tableIn (64 * dTone d) 514)
   else decide (dSource d = 2 ∨ dSource d = 3) &&
     decide (16 ≤ dMaxW d ∧ dMaxW d ≤ 8192 ∧ 16 ≤ dMaxH d ∧ dMaxH d ≤ 8192 ∧ 1 ≤ dStage d ∧ dStage d ≤ 31) &&
     zeroBytes d 14 2 && zeroBytes d 18 46)

/-- Ports 2n and 2n + 1 are joined (R165). -/
def joined (s : State) (p : Nat) : Bool := (lookup {} s.streams.port (p / 2 * 2)).lanes == 4

/-- A recording view needs exactly one enabled stream that names it (R186). -/
def recSource (s : State) (e : Nat) : BitVec 16 := (lookup {} s.streams.rec_ e).source
def recNames (s : State) (slot v : Nat) : Nat :=
  ((List.range 4).filter (fun e => let w := (recSource s e).toNat; w / 32768 == 1 && w % 32 == slot && w / 256 % 4 == v)).length

def streamDescOk (s : State) (slot : Nat) (d : Mem) : Bool :=
  streamPartOk d && (List.range 4).all (viewOk d) && !(dSource d == 1 && joined s (dPort d) && dPort d % 2 == 1) &&
  (List.range 4).all (fun v => vKind d v == 0 || !vRecords d v || recNames s slot v == 1)

/-- Slots that hold their port, instance and decoder: starting, RUNNING or STOPPED. -/
def Slot.held (x : Slot) : Bool := x.starting || decide (x.st ≠ 0)
def otherHeld (s : State) (slot : Nat) : List Slot := (s.streams.slot.filter (fun p => p.1 != slot && p.2.held)).map (·.2)

/-- Another slot holds the port and virtual channel (R161). -/
def portBusy (s : State) (slot : Nat) (d : Mem) : Bool :=
  dSource d == 1 && (otherHeld s slot).any (fun x => dSource x.desc == 1 && dPort x.desc == dPort d && dVc x.desc == dVc d)

/-! ### Capacity (R175, R182, R183, R186), in pixels per 16 s -/

def inputLoad (d : Mem) : Nat := (if dSource d = 1 then dWidth d * dHeight d else dMaxW d * dMaxH d) * dRate d
def outputLoad (d : Mem) : Nat := ((List.range 4).map (fun v => if vKind d v = 0 then 0 else vOutW d v * vOutH d v)).sum * dRate d
def recordLoad (d : Mem) : Nat :=
  ((List.range 4).map (fun v => if vKind d v = 0 ∨ !vRecords d v then 0 else vOutW d v * vOutH d v)).sum * dRate d

/-- The instance has room for the slot beside the descriptors in force of the others; that their shadows do not count is the
model's choice (R175, notes/assumptions/118). -/
def instanceFits (s : State) (slot : Nat) (d : Mem) (i : Nat) : Bool :=
  let on := (otherHeld s slot).filter (fun x => x.instance_ == some i)
  decide ((on.map (fun x => inputLoad x.desc)).sum + inputLoad d ≤ 16000000000) &&
  decide ((on.map (fun x => outputLoad x.desc)).sum + outputLoad d ≤ 8000000000)
/-- The decoder (0, 1 HEVC; 2 JPEG) has room. -/
def decoderFits (s : State) (slot : Nat) (d : Mem) (i : Nat) : Bool :=
  let on := (otherHeld s slot).filter (fun x => x.decoder == some i)
  decide ((on.map (fun x => inputLoad x.desc)).sum + inputLoad d ≤ (if i = 2 then 32000000000 else 16000000000))
def encoderFits (s : State) (slot : Nat) (d : Mem) : Bool :=
  decide (((otherHeld s slot).map (fun x => recordLoad x.desc)).sum + recordLoad d ≤ 8000000000)

/-- The lowest n free pages among stream-pool pages 1 to 47 of the slot's channel (spec/11 R276). -/
def freeStreamPages (s : State) (slot n : Nat) : Option (List Nat) :=
  let others := (List.range 32).filter (fun k => decide (k % 2 = slot % 2 ∧ k ≠ slot))
  let free := (List.range 48).filter (fun p => decide (1 ≤ p) && others.all (fun k => !(s.slot k).page.contains p))
  if n ≤ free.length then some (free.take n) else none

/-- Instance, decoder, and place in the stream pool. -/
def capacity (s : State) (slot : Nat) (d : Mem) : Option (Nat × Option Nat × List Nat) :=
  match allQuarters.find? (instanceFits s slot d) with
  | none => none
  | some i =>
    if !encoderFits s slot d then none
    else if dSource d = 1 then some (i, none, [])
    else
      match (if dSource d = 2 then [0, 1] else [2]).find? (decoderFits s slot d), freeStreamPages s slot (dStage d) with
      | some k, some p => some (i, some k, p)
      | _, _ => none

/-! ### Calibration (R170, R171) -/

def gByte (l : List Byte) (i : Nat) : Nat := (l.getD i 0).toNat
def gWord (l : List Byte) (a n : Nat) : Nat := leNat ((l.drop a).take n)
def gZero (l : List Byte) (a n : Nat) : Bool := ((l.drop a).take n).all (· == 0)

/-- MAGIC, VERSION and LENGTH of an image. -/
def gHeadOk (l : List Byte) : Bool :=
  (l.take 4) == [0x47, 0x43, 0x4D, 0x44] &&
  ((gByte l 4 == 1 && gWord l 6 2 == 128) || (gByte l 4 == 2 && gWord l 6 2 == 192)) && decide (gWord l 6 2 ≤ l.length)

/-- Status of an image against a descriptor (R171). That a bad CRC comes before a wrong field behind the header is the model's choice
(notes/assumptions/143). -/
def gcmdStatus (d : Mem) (l : List Byte) : Nat :=
  let n := gWord l 6 2
  if !gHeadOk l then 5
  else if BitVec.ofNat 32 (gWord l (n - 4) 4) ≠ crc32 (l.take (n - 4)) then 4
  else if !(decide (gByte l 32 ≤ 1) && gZero l 5 1 && gZero l 33 3 && gZero l 112 12 &&
      (gByte l 4 == 1 || (gZero l 150 2 && gZero l 156 32))) then 5
  else if gWord l 28 2 ≠ dWidth d ∨ gWord l 30 2 ≠ dHeight d ∨ gByte l 26 ≠ dCfa d then 6
  else gByte l 4

/-- The status of the image read, judged against another descriptor (R171, R193). -/
def statusUnder (x : Slot) (d : Mem) : Nat := if [1, 2, 6].contains x.gcmdStatus then gcmdStatus d x.gcmd else x.gcmdStatus

def moduleOf (l : List Byte) : List Byte := (l.drop 8).take 16

/-- Calibration in use: host first, then a valid GCMD (R171). -/
def calibOf (x : Slot) : Nat := if !x.hostCal.isEmpty then 2 else if x.gcmdStatus = 1 ∨ x.gcmdStatus = 2 then 1 else 0
def calibBytes (x : Slot) : List Byte := if !x.hostCal.isEmpty then x.hostCal else x.gcmd
/-- A view needs calibration (R172). -/
def needsCal (d : Mem) : Bool := (List.range 4).any (fun v => decide (vKind d v = 3 ∨ vKind d v = 4))

/-- The condition of CAL_HOST_ONLY. -/
def calHostOnly (x : Slot) : Bool := x.held && decide (3 ≤ x.gcmdStatus) && dSource x.desc == 1

/-! ### Tables (R173, R178, R187) -/

def meshBytes (d : Mem) (v : Nat) : Nat := meshNx d v * meshNy d v * 8

/-- MESH_RANGE: a table of a view outside LPDDR6, or too large for staging. -/
def meshRange (d : Mem) : Bool :=
  (List.range 4).any (fun v =>
    (vKind d v == 2 && !tableIn (vTable d v) (meshBytes d v)) || (vKind d v == 4 && !tableIn (vTable d v) 32) ||
    (decide (2 ≤ vKind d v) && decide (Config.meshStaging < meshBytes d v)))

/-- Copy the tables of a descriptor from LPDDR6 (R193). -/
def copyTables (s : State) (d : Mem) : SlotTabs :=
  let m := s.fabric.lpddr
  let cam := dSource d == 1
  { defects := if cam && dFlag d 0 then
        (List.range (dDefectCount d)).map (fun i => (readLE m (dDefectAddr d + 4 * i) 2, readLE m (dDefectAddr d + 4 * i + 2) 2)) else []
    tone := if cam && dTone d != 0xFFFFFFFF then (List.range 257).map (fun i => readLE m (64 * dTone d + 2 * i) 2) else []
    mesh := (List.range 4).filterMap (fun v =>
      if vKind d v = 2 then some (v, (List.range (meshNx d v * meshNy d v)).map (fun i =>
        (signed 32 (readLE m (vTable d v + 8 * i) 4), signed 32 (readLE m (vTable d v + 8 * i + 4) 4)))) else none)
    cams := (List.range 4).filterMap (fun v => if vKind d v = 4 then some (v, readBytes m (vTable d v) 32) else none) }

/-- Views whose mesh Cobbler builds. -/
def builtViews (d : Mem) : List Nat := (List.range 4).filter (fun v => decide (vKind d v = 3 ∨ vKind d v = 4))

/-! ### Meshes of kind 3 and 4 (R172, R176), in the numbers of the firmware arithmetic library of version k -/

def libNat (k : BitVec 16) (n : Nat) : BitVec 64 := Config.arithLib k .nat [BitVec.ofNat 64 n]
/-- The REAL32 at byte a of an image. -/
def libReal (k : BitVec 16) (l : List Byte) (a : Nat) : BitVec 64 := Config.arithLib k .real32 [BitVec.ofNat 64 (gWord l a 4)]
def libAdd (k : BitVec 16) (a b : BitVec 64) : BitVec 64 := Config.arithLib k .add [a, b]
def libSub (k : BitVec 16) (a b : BitVec 64) : BitVec 64 := Config.arithLib k .sub [a, b]
def libMul (k : BitVec 16) (a b : BitVec 64) : BitVec 64 := Config.arithLib k .mul [a, b]
def libDiv (k : BitVec 16) (a b : BitVec 64) : BitVec 64 := Config.arithLib k .div [a, b]
/-- 1 + c1 t + c2 t^2 + ... -/
def libPoly (k : BitVec 16) (t : BitVec 64) : BitVec 64 → List (BitVec 64) → BitVec 64 → BitVec 64
  | _, [], acc => acc
  | p, c :: l, acc => libPoly k t (libMul k p t) l (libAdd k acc (libMul k c p))

/-- An ideal camera: FX, FY, CX, CY, and the quaternion w, x, y, z of a virtual camera. -/
structure ViewCam where
  fx : BitVec 64
  fy : BitVec 64
  cx : BitVec 64
  cy : BitVec 64
  turn : Option (BitVec 64 × BitVec 64 × BitVec 64 × BitVec 64)
  deriving DecidableEq, Repr

/-- Kind 3: the calibration's intrinsics scaled by the output size; kind 4: the virtual camera's own (R176). -/
def viewCam (k : BitVec 16) (d : Mem) (cal cam : List Byte) (v : Nat) : ViewCam :=
  if vKind d v = 4 then
    ⟨libReal k cam 0, libReal k cam 4, libReal k cam 8, libReal k cam 12,
     some (libReal k cam 16, libReal k cam 20, libReal k cam 24, libReal k cam 28)⟩
  else
    let sx := libDiv k (libNat k (vOutW d v)) (libNat k (gWord cal 28 2))
    let sy := libDiv k (libNat k (vOutH d v)) (libNat k (gWord cal 30 2))
    ⟨libMul k (libReal k cal 36) sx, libMul k (libReal k cal 40) sy, libMul k (libReal k cal 44) sx, libMul k (libReal k cal 48) sy, none⟩

/-- The ray (x, y, 1) turned by a unit quaternion. -/
def turnRay (k : BitVec 16) (q : BitVec 64 × BitVec 64 × BitVec 64 × BitVec 64) (x y : BitVec 64) : BitVec 64 × BitVec 64 × BitVec 64 :=
  let w := q.1
  let a := q.2.1
  let b := q.2.2.1
  let c := q.2.2.2
  let one := libNat k 1
  let mul := libMul k
  let add := libAdd k
  let sub := libSub k
  let dbl := mul (libNat k 2)
  let row := fun (m n o : BitVec 64) => add (add (mul m x) (mul n y)) o
  (row (sub one (dbl (add (mul b b) (mul c c)))) (dbl (sub (mul a b) (mul w c))) (dbl (add (mul a c) (mul w b))),
   row (dbl (add (mul a b) (mul w c))) (sub one (dbl (add (mul a a) (mul c c)))) (dbl (sub (mul b c) (mul w a))),
   row (dbl (sub (mul a c) (mul w b))) (dbl (add (mul b c) (mul w a))) (sub one (dbl (add (mul a a) (mul b b)))))

/-- Distortion of a ray (x, y) by the lens model of an image (R172). -/
def distort (k : BitVec 16) (cal : List Byte) (x y : BitVec 64) : BitVec 64 × BitVec 64 :=
  let dist := fun (i : Nat) => libReal k cal (52 + 4 * i)
  let one := libNat k 1
  let two := libNat k 2
  let mul := libMul k
  let add := libAdd k
  let r2 := add (mul x x) (mul y y)
  if gByte cal 32 = 0 then
    let rho := libDiv k (libPoly k r2 r2 [dist 0, dist 1, dist 4] one) (libPoly k r2 r2 [dist 5, dist 6, dist 7] one)
    let xy := mul x y
    (add (add (mul rho x) (mul (mul two (dist 2)) xy)) (mul (dist 3) (add r2 (mul two (mul x x)))),
     add (add (mul rho y) (mul (dist 2) (add r2 (mul two (mul y y))))) (mul (mul two (dist 3)) xy))
  else
    let r := Config.arithLib k .sqrt [r2]
    if Config.arithZero k r then (libNat k 0, libNat k 0) else
    let t := Config.arithLib k .atan [r]
    let t2 := mul t t
    let q := libDiv k (mul t (libPoly k t2 t2 [dist 0, dist 1, dist 2, dist 3] one)) r
    (mul q x, mul q y)

/-- A mesh node at output position (u, v): the ideal ray, turned, behind the camera or distorted, in source pixels (R172). -/
def meshNode (k : BitVec 16) (cal : List Byte) (c : ViewCam) (u v : Nat) : Int × Int :=
  let x := libDiv k (libSub k (libNat k u) c.cx) c.fx
  let y := libDiv k (libSub k (libNat k v) c.cy) c.fy
  let ray := match c.turn with | some q => turnRay k q x y | none => (x, y, libNat k 1)
  if Config.arithNegative k ray.2.2 then (-8388608, -8388608) else
  let p := match c.turn with | some _ => distort k cal (libDiv k ray.1 ray.2.2) (libDiv k ray.2.1 ray.2.2) | none => distort k cal x y
  (Config.arithNode k (libAdd k (libMul k (libReal k cal 36) p.1) (libReal k cal 44)),
   Config.arithNode k (libAdd k (libMul k (libReal k cal 40) p.2) (libReal k cal 48)))

/-- The nodes of a mesh of kind 3 or 4 from the calibration and the tables in staging (R172, R193). -/
def buildMesh (s : State) (d : Mem) (tabs : SlotTabs) (cal : List Byte) (v : Nat) : List (Int × Int) :=
  let c := viewCam s.boot.arith d cal (lookup [] tabs.cams v) v
  (List.range (meshNx d v * meshNy d v)).map (fun i =>
    meshNode s.boot.arith cal c (vGrid d v * (i % meshNx d v)) (vGrid d v * (i / meshNx d v)))

/-! ### The bus of a slot's GCMD memory (R168, R169) -/

/-- The I2C address of a slot's memory: the entry 0x2440 + s:03, or 0x50 + 4 x (PORT mod 2) + VC. -/
def gcmdAddress (x : Slot) : Nat := if x.gcmdAddr = 0 then 0x50 + 4 * (dPort x.desc % 2) + dVc x.desc else x.gcmdAddr
def slotBus (x : Slot) : Nat := dPort x.desc / 2

/-- A read of a slot's memory joins the transfers of its bus, once for each thing it is for (R168, R169). -/
def askGcmd (s : State) (n why : Nat) : State :=
  let x := s.slot n
  if x.reads.contains why then s else
  let b := s.bus (slotBus x)
  (s.setSlot n { x with reading := true, reads := x.reads ++ [why] }).setBus (slotBus x)
    { b with waiting := b.waiting ++ [.gcmd n (gcmdAddress x) x.gcmdWidth] }

/-! ### START (R162) -/

/-- A command that fails its checks does nothing and leaves its reason. -/
def refuseSlot (s : State) (slot reason : Nat) : State :=
  answer (s.setSlot slot { s.slot slot with reason := reason }) refusedCode

/-- The GCMD image can be read: valid, or of another frame (R171). -/
def imageReadable (x : Slot) : Bool := decide (x.gcmdStatus = 1 ∨ x.gcmdStatus = 2 ∨ x.gcmdStatus = 6)

/-- Every mesh is built: the slot runs. After a RESUME an HEVC slot too waits, for its next IRAP picture (R189). -/
def enterRunning (s : State) (slot : Nat) : State :=
  let x := s.slot slot
  s.setSlot slot { x with st := 1, reason := 0, starting := false, waiting := decide (dSource x.desc = 1 ∨ (x.st = 2 ∧ dSource x.desc = 2)), tf := none, smooth := none,
                          seenAt := s.now, timedOut := false, calib := calibOf x, moduleId := if imageReadable x then moduleOf x.gcmd else [] }

/-- Tables are checked and copied, and meshes built; then the slot runs. -/
def beginTables (s : State) (slot : Nat) : State :=
  let x := s.slot slot
  if meshRange x.desc then stopSlot (s.setSlot slot { x with tabs := {} }) slot rMeshRange
  else
    let s := s.setSlot slot { x with starting := true, tabs := copyTables s x.desc, meshWait := builtViews x.desc }
    if (builtViews x.desc).isEmpty then enterRunning s slot else s

/-- START clears the counters of the slot, and its ring indices. -/
def clearSlot (x : Slot) : Slot :=
  { x with prod := 0, cons := 0, rings := [], overrun := 0, accepted := 0, dropped := 0, timeouts := 0
           gcmdStatus := if dSource x.desc = 1 then x.gcmdStatus else 0 }

/-- Calibration is known: NO_CAL, which leaves the slot as it was, or tables and meshes. -/
def startTables (s : State) (slot : Nat) : State :=
  let x := s.slot slot
  if needsCal x.desc && calibOf x == 0 then refuseSlot (s.setSlot slot x.idle) slot rNoCal
  else answer (beginTables (s.setSlot slot (clearSlot x)) slot) okCode

/-- START: checks and capacity; a camera slot's command is answered when its memory has been read. The order of the reasons, where several
checks fail, is the model's choice (notes/assumptions/144). -/
def startSlot (s : State) (slot : Nat) : State :=
  let x := s.slot slot
  if x.st ≠ 0 ∨ x.starting then answer s wrongState
  else if !streamDescOk s slot x.desc then refuseSlot s slot rDescInvalid
  else if portBusy s slot x.desc then refuseSlot s slot rPortBusy
  else match capacity s slot x.desc with
    | none => refuseSlot s slot rNoCapacity
    | some (i, k, p) =>
      let cam := dSource x.desc == 1
      if !cam && needsCal x.desc && x.hostCal.isEmpty then refuseSlot s slot rNoCal else
      let s := s.setSlot slot { x with
        starting := true, instance_ := some i, decoder := k, page := p, pages := if cam then 0 else dStage x.desc }
      if cam then askGcmd s slot 0 else startTables s slot

/-- STOP: open positions become VOID (R162). -/
def stopCommand (s : State) (slot : Nat) : State :=
  let x := s.slot slot
  if x.st = 0 then answer s wrongState
  else answer (reviewBatches (dropReads (s.setSlot slot { x.idle with reason := rHostStop }) slot) slot) okCode

/-- A shadow takes effect at a frame boundary once it is ready; the image read is judged against the new descriptor (R171). The slot
keeps the pages it took at START, the model's choice (R181, notes/assumptions/119). -/
def applyShadow (s : State) (slot : Nat) : State :=
  let x := s.slot slot
  match x.shadow with
  | some (d, true) =>
    let y := { x with desc := d, gcmdStatus := statusUnder x d }
    let s := s.setSlot slot { y with tabs := x.shadowTabs, shadow := none, shadowTabs := {}, calib := calibOf y }
    if 3 ≤ y.gcmdStatus ∧ x.gcmdStatus < 3 then raise s (.slot slot 1) slot 0 else s
  | _ => s

/-- A view whose mesh is not in staging. -/
def meshMissing (x : Slot) : Bool := (List.range 4).any (fun v => decide (2 ≤ vKind x.desc v) && !x.tabs.mesh.any (fun p => p.1 == v))

/-- RESUME (R189). A slot that its START has left without meshes takes those of a shadow, once they are built; with none, its tables
still lie out of range: the model's choices (R172, notes/assumptions/120). -/
def resumeSlot (s : State) (slot : Nat) : State :=
  let x := s.slot slot
  if x.st ≠ 2 ∨ x.starting then answer s wrongState
  else if needsCal x.desc && calibOf x == 0 then refuseSlot s slot rNoCal
  else match x.instance_ with
    | none => refuseSlot s slot rNoCapacity
    | some i =>
      if !instanceFits s slot x.desc i then refuseSlot s slot rNoCapacity
      else if meshMissing x then
        (match x.shadow with
         | some (_, true) => answer (enterRunning (applyShadow s slot) slot) okCode
         | some (_, false) => if x.meshWait.isEmpty then refuseSlot s slot rMeshRange else answer (s.setSlot slot { x with starting := true }) okCode
         | none => refuseSlot s slot rMeshRange)
      else answer (enterRunning s slot) okCode

/-- REREAD_CAL: the image is read again; what it changes applies at a frame boundary (R162). That of a slot with a host source it asks
for nothing is the model's choice (notes/assumptions/145). -/
def rereadSlot (s : State) (slot : Nat) : State :=
  let x := s.slot slot
  if x.st ≠ 1 then answer s wrongState
  else answer (if dSource x.desc = 1 then askGcmd s slot 1 else s) okCode

/-- A write of 0x2300 + s:01, in READY, RUN and DEGRADED. -/
def slotCommand (s : State) (slot v : Nat) : State :=
  if !runtimeState s then answer s wrongState else
  match v with
  | 1 => startSlot s slot
  | 2 => stopCommand s slot
  | 3 => resumeSlot s slot
  | 4 => rereadSlot s slot
  | _ => answer s wrongState

def execSlotStart (n : SlotNo) (s : State) : Host.Outcome State Fault Refusal := .next (slotCommand s n.val 1)
def execStop (n : SlotNo) (s : State) : Host.Outcome State Fault Refusal := .next (slotCommand s n.val 2)
def execResume (n : SlotNo) (s : State) : Host.Outcome State Fault Refusal := .next (slotCommand s n.val 3)
def execRereadCal (n : SlotNo) (s : State) : Host.Outcome State Fault Refusal := .next (slotCommand s n.val 4)

/-! ### Shadows (R193, R194) -/

/-- A descriptor with its tables in staging is the shadow; its meshes follow. -/
def holdTabs (s : State) (slot : Nat) (d : Mem) (t : SlotTabs) : State :=
  s.setSlot slot { s.slot slot with shadow := some (d, (builtViews d).isEmpty), shadowTabs := t, meshWait := builtViews d }

/-- Hold a descriptor as the shadow: its tables are copied now. One with a table out of range is held too, never ready, and stops the
slot (R187). -/
def holdShadow (s : State) (slot : Nat) (d : Mem) : State :=
  if meshRange d then stopSlot (s.setSlot slot { s.slot slot with shadow := some (d, false), shadowTabs := {}, meshWait := [] }) slot rMeshRange else holdTabs s slot d (copyTables s d)

/-- A write of 0x2300 + s:05 (R193). -/
def writeStreamDesc (s : State) (slot : Nat) (l : List Byte) : State :=
  let x := s.slot slot
  let d := writeBytes [] 0 l
  if !setupState s then answer s wrongState
  else if l.length ≠ 192 then answer s 0x06070010
  else if x.starting then answer s wrongState
  else if x.st = 0 then answer (s.setSlot slot { x with desc := d }) okCode
  else if dSource d ≠ dSource x.desc ∨ dPort d ≠ dPort x.desc ∨ dVc d ≠ dVc x.desc then answer s refusedCode
  else if !streamDescOk s slot d ∨ (needsCal d ∧ calibOf { x with gcmdStatus := statusUnder x d } = 0) then answer s refusedCode
  else if !(match x.instance_ with | some i => instanceFits s slot d i | none => false) ∨ !encoderFits s slot d ∨
      !(match x.decoder with | some k => decoderFits s slot d k | none => true) then answer s refusedCode
  else
    let s := if x.shadow.isSome then s.setSlot slot { x with overrun := satAdd 32 x.overrun 1 } else s
    answer (holdShadow s slot d) okCode

def execRearm (n : SlotNo) (desc : List Byte) (s : State) : Host.Outcome State Fault Refusal := .next (writeStreamDesc s n.val desc)

/-- MESH_BUILT (R172). -/
def meshDone (s : State) (slot v : Nat) : State :=
  let x := s.slot slot
  if !x.meshWait.contains v then s else
  let rest := x.meshWait.filter (fun k => k != v)
  if x.starting && x.shadow.isNone then
    let s := s.setSlot slot { x with meshWait := rest, tabs := { x.tabs with mesh := insertKey (erase x.tabs.mesh v) v (buildMesh s x.desc x.tabs (calibBytes x) v) } }
    if rest.isEmpty then enterRunning s slot else s
  else match x.shadow with
    | some (d, _) =>
      let s := s.setSlot slot { x with
        meshWait := rest, shadow := some (d, rest.isEmpty)
        shadowTabs := { x.shadowTabs with mesh := insertKey (erase x.shadowTabs.mesh v) v (buildMesh s d x.shadowTabs (calibBytes x) v) } }
      if x.starting && rest.isEmpty then enterRunning (applyShadow s slot) slot else s
    | none => s

def execMeshBuilt (n : SlotNo) (v : ViewNo) (s : State) : Host.Outcome State Fault Refusal := .next (meshDone s n.val v.val)

/-! ### GCMD reads (R169, R171, R190) -/

/-- The image as read: 8 bytes, then as many as LENGTH states, up to 192; the third NACK of a transfer makes it absent (R169). -/
def gcmdImage (r : GcmdRead) : Option (List Byte) :=
  if 3 ≤ r.nacks then none else some (r.bytes.take (max 8 (min 192 (gWord r.bytes 6 2))))

/-- The image and its status are stored; a status of 3 or more raises CAL_HOST_ONLY. -/
def storeGcmd (s : State) (slot : Nat) (r : GcmdRead) : State :=
  let x := s.slot slot
  let y := match gcmdImage r with
    | none => { x with gcmd := [], gcmdStatus := 3 }
    | some l => { x with gcmd := l, gcmdStatus := gcmdStatus x.desc l }
  let s := s.setSlot slot y
  if 3 ≤ y.gcmdStatus then raise s (.slot slot 1) slot 0 else s

/-- The MODULE_ID of a readable image differs from the one in use. -/
def moduleChanged (x y : Slot) : Bool :=
  !x.moduleId.isEmpty && [1, 2, 6].contains y.gcmdStatus && moduleOf y.gcmd != x.moduleId

/-- The bus on which the read of a slot's memory runs. -/
def gcmdBus (s : State) (slot : Nat) : Option Nat := (List.range 8).find? (fun b => (s.bus b).waiting.head?.any (isGcmdOf slot))

/-- GCMD_READ_DONE: the transfer that runs on the slot's bus ends; what was asked first is answered first. A REREAD_CAL that finds no
calibration leaves that in use as it is, the model's choice (R162, notes/assumptions/145). -/
def gcmdDone (s : State) (slot : Nat) (r : GcmdRead) : State :=
  match gcmdBus s slot with
  | none => s
  | some b =>
  let s := s.setBus b { s.bus b with waiting := (s.bus b).waiting.drop 1 }
  let x := s.slot slot
  match x.reads with
  | [] => s
  | why :: rest =>
    let s := storeGcmd (s.setSlot slot { x with reads := rest, reading := !rest.isEmpty }) slot r
    let y := s.slot slot
    if why = 0 then startTables s slot
    else if why = 2 then
      (if moduleChanged x y then stopSlot s slot rCameraChanged
       else s.setSlot slot { y with timedOut := false, tf := none, smooth := none, waiting := true })
    else
      let d := match x.shadow with | some (d, _) => (d, x.shadowTabs) | none => (x.desc, x.tabs)
      if needsCal d.1 && calibOf y == 0 then s
      else holdTabs (s.setSlot slot { y with moduleId := if imageReadable y then moduleOf y.gcmd else y.moduleId }) slot d.1 d.2

def execGcmdReadDone (n : SlotNo) (r : GcmdRead) (s : State) : Host.Outcome State Fault Refusal := .next (gcmdDone s n.val r)

/-- A write of 0x2300 + s:0C (R171); no byte takes the image away. -/
def writeHostCal (s : State) (slot : Nat) (l : List Byte) : State :=
  let x := s.slot slot
  if !setupState s then answer s wrongState
  else if 192 < l.length then answer s 0x06070010
  else if l.isEmpty then answer (s.setSlot slot { x with hostCal := [] }) okCode
  else if decide (3 ≤ gcmdStatus x.desc l) || gWord l 6 2 != l.length then answer s refusedCode
  else answer (s.setSlot slot { x with hostCal := l }) okCode

def execHostCalibration (n : SlotNo) (image : List Byte) (s : State) : Host.Outcome State Fault Refusal := .next (writeHostCal s n.val image)

/-- A write of 0x2300 + s:04 (spec/01 R18). -/
def writeGroup (s : State) (slot g : Nat) : State :=
  if !setupState s then answer s wrongState
  else if 3 < g then answer s outOfRange
  else if !(boundCtxs s slot).isEmpty then answer s wrongState
  else answer (s.setSlot slot { s.slot slot with group := if g = slot / 8 then none else some g }) okCode

def execStreamGroup (n : SlotNo) (grp : Byte) (s : State) : Host.Outcome State Fault Refusal := .next (writeGroup s n.val grp.toNat)

end Sys2Proof.Machine
end

