-- ==== Sys2Proof/Machine/Cameras.lean ====
section
/-! DEFINITION. Camera ports: the receiver (spec/07 R164 to R166, R187, R188, R190), the taking of a frame (R166, R173,
R174), triggers (R167), buses (R168) and lanes (R165). -/

namespace Sys2Proof.Machine

/-! ### The receiver -/

/-- The slot that a virtual channel of a port feeds: starting slots receive nothing yet. -/
def slotOf (s : State) (p vc : Nat) : Option Nat :=
  if (joined s p && p % 2 == 1) || (lookup {} s.streams.port p).ulps then none else
  (List.range 32).find? (fun n => let x := s.slot n
    decide (x.st ≠ 0) && dSource x.desc == 1 && dPort x.desc == p && dVc x.desc == vc)

/-- Act on the slot of a packet, if there is one. -/
def onSlot (s : State) (p vc : Nat) (act : State → Nat → State) : State :=
  match slotOf s p vc with | some n => act s n | none => s

def dropOne (x : Slot) : Slot := { x with dropped := satAdd 32 x.dropped 1 }

/-- FRAME_START: a STOPPED slot, one whose GCMD is read again, and one whose previous frame waits drop the frame. -/
def frameStart (s : State) (n : Nat) : State :=
  let x := s.slot n
  if x.st = 2 then s.setSlot n (dropOne x)
  else if x.inFrame && !x.waiting then stopSlot s n rCsiFrame
  else
    let s := s.setSlot n { x with seenAt := s.now, waiting := false }
    let s := if x.timedOut then askGcmd s n 2 else s
    let s := applyShadow s n
    let x := s.slot n
    if x.timedOut || x.buffered.isSome then s.setSlot n { dropOne x with inFrame := true, dropFrame := true, lines := [] }
    else s.setSlot n { x with inFrame := true, dropFrame := false, lines := [] }

def execFrameStart (p : PortNo) (vc : Fin 4) (s : State) : Host.Outcome State Fault Refusal := .next (onSlot s p.val vc.val frameStart)

/-- LONG_PACKET: header, type, payload and shape are checked (R187); nothing of a dropped frame is. Which reason a packet with several
defects gives is the model's choice (notes/assumptions/146). -/
def longPacket (k : LongPacket) (s : State) (n : Nat) : State :=
  let x := s.slot n
  let d := x.desc
  if k.vcx || x.st != 1 || x.waiting || x.dropFrame then s
  else if k.ecc = 2 then stopSlot s n rCsiEcc
  else if k.dataType.toNat ≠ dType d then stopSlot s n rCsiType
  else if !k.crcOk then stopSlot s n rCsiCrc
  else if k.pixels.length ≠ dWidth d then stopSlot s n rCsiShape
  else if x.inFrame then s.setSlot n { x with lines := x.lines ++ [k.pixels] }
  else s

def execLongPacket (p : PortNo) (vc : Fin 4) (k : LongPacket) (s : State) : Host.Outcome State Fault Refusal :=
  .next (onSlot s p.val vc.val (longPacket k))

/-- LINE_START and LINE_END are accepted and ignored (R164). -/
def execLineStart (_p : PortNo) (_vc : Fin 4) (s : State) : Host.Outcome State Fault Refusal := .next s
def execLineEnd (_p : PortNo) (_vc : Fin 4) (s : State) : Host.Outcome State Fault Refusal := .next s

/-- FRAME_END: the frame is accepted with its input-completion time (R166). -/
def frameEnd (s : State) (n : Nat) : State :=
  let x := s.slot n
  if x.st ≠ 1 ∨ x.waiting then s
  else if !x.inFrame then stopSlot s n rCsiFrame
  else if x.dropFrame then s.setSlot n { x with inFrame := false, dropFrame := false, lines := [] }
  else if x.lines.length ≠ dHeight x.desc then stopSlot s n rCsiShape
  else s.setSlot n { x with inFrame := false, lines := [], accepted := satAdd 32 x.accepted 1
                            buffered := some ⟨x.lines, s.now, x.desc, x.tabs⟩ }

def execFrameEnd (p : PortNo) (vc : Fin 4) (s : State) : Host.Outcome State Fault Refusal := .next (onSlot s p.val vc.val frameEnd)

/-- FRAME_TAKEN: the pre-processing instance takes the buffered frame through steps 1 to 8 and the Clicker. -/
def takeFrame (s : State) (n : Nat) : State :=
  let x := s.slot n
  match x.buffered with
  | none => s
  | some f =>
    let m := cameraImage f s.free
    let t := temporal f.desc x.tf m
    let e := exposure f.desc x.smooth t.1 f.tInput s.free
    let s := s.setSlot n { x with
      buffered := none
      tf := if dFlag f.desc 2 then some t.1.px else none
      smooth := if dFlag f.desc 3 then some e.2 else none
      expo := if dFlag f.desc 3 then e.1 else x.expo }
    (clickFrame s n f.desc f.tabs t.1 f.tInput t.2).draw

def execFrameTaken (n : SlotNo) (s : State) : Host.Outcome State Fault Refusal := .next (takeFrame s n.val)

/-- FRAME_TIMEOUT: four frame periods without a Frame Start, once until frames return (R190). -/
def frameTimeout (s : State) (n : Nat) : State :=
  let x := s.slot n
  if x.st ≠ 1 ∨ dSource x.desc ≠ 1 ∨ x.timedOut ∨ s.now < x.seenAt + ceilDiv 64000000000 (dRate x.desc) then s
  else raise (s.setSlot n { x with timedOut := true, timeouts := satAdd 32 x.timeouts 1 }) (.slot n 2) n 0

def execFrameTimeout (n : SlotNo) (s : State) : Host.Outcome State Fault Refusal := .next (frameTimeout s n.val)

/-! ### Ports (R164, R165) -/

def State.port (s : State) (p : Nat) : Port := lookup {} s.streams.port p
def State.setPort (s : State) (p : Nat) (x : Port) : State := { s with streams := { s.streams with port := put {} s.streams.port p x } }

/-- A slot's descriptor, or its shadow, names one of the ports. -/
def namesPort (s : State) (ps : List Nat) : Bool :=
  (List.range 32).any (fun n => let x := s.slot n
    (dSource x.desc == 1 && ps.contains (dPort x.desc)) || (match x.shadow with | some (d, _) => dSource d == 1 && ps.contains (dPort d) | none => false))

/-- A write of 0x2400 + p:01. -/
def writeLanes (s : State) (p v : Nat) : State :=
  if !setupState s then answer s wrongState
  else if (v ≠ 2 ∧ v ≠ 4) ∨ (v = 4 ∧ p % 2 = 1) then answer s outOfRange
  else if namesPort s [p / 2 * 2, p / 2 * 2 + 1] then answer s wrongState
  else answer (s.setPort p { s.port p with lanes := v }) okCode

def execLanes (p : PortNo) (v : Byte) (s : State) : Host.Outcome State Fault Refusal := .next (writeLanes s p.val v.toNat)

/-- A write of 0x2400 + p:02, in Mb/s within the lane rates of R164. -/
def writeLaneRate (s : State) (p v : Nat) : State :=
  if !setupState s then answer s wrongState
  else if v < 80 ∨ 4500 < v then answer s outOfRange
  else if namesPort s [p] then answer s wrongState
  else answer (s.setPort p { s.port p with maxRate := v }) okCode

/-- Initial or periodic deskew: the receiver has calibrated its lanes (R164). -/
def execDeskewCalibration (p : PortNo) (_initial : Bool) (s : State) : Host.Outcome State Fault Refusal :=
  .next (s.setPort p.val { s.port p.val with deskewed := true })
def execUlps (p : PortNo) (enter : Bool) (s : State) : Host.Outcome State Fault Refusal :=
  .next (s.setPort p.val { s.port p.val with ulps := enter })

/-! ### Triggers (R167) -/

def State.trig (s : State) (n : Nat) : Trig := lookup {} s.streams.trig n
def State.setTrig (s : State) (n : Nat) (x : Trig) : State := { s with streams := { s.streams with trig := put {} s.streams.trig n x } }

/-- The first 10 ns tick at or after a time. -/
def tickAt (t : Nat) : Nat := ceilDiv t 10 * 10

/-- The first T0 + k x P later than now, placed on its tick; at T0 itself when it still lies ahead. -/
def firstEdge (now t0 p : Nat) : Option Nat :=
  if now ≤ t0 then some (tickAt t0)
  else if p = 0 then none
  else some (tickAt (t0 + ((now - t0) / p + 1) * p))

/-- P, w and polarity within their ranges. -/
def trigOk (p w pol : Nat) : Bool := decide (10 ≤ w ∧ (p = 0 ∨ w + 10 ≤ p) ∧ pol ≤ 1)

/-- Configuration takes over the waiting values. -/
def Trig.settled (x : Trig) : Trig :=
  match x.pend with
  | some (t, p, w, pol) => { x with t0 := t, period := p, width := w, polarity := pol, pend := none }
  | none => x

/-- A write of 0x2420 + n:01. A second TRUE restarts the edges under the configuration that waits, the model's choice
(notes/assumptions/117). -/
def writeTrigEnable (s : State) (n : Nat) (on : Bool) : State :=
  if !setupState s then answer s wrongState else
  let x := (s.trig n).settled
  if !on then answer (s.setTrig n { x with enable := false, nextEdge := none }) okCode else
  let e := firstEdge s.now x.t0 x.period
  let s := s.setTrig n { x with enable := true, nextEdge := e }
  answer (if e.isNone then raise s (.main gStream (32 + n)) 0 0 else s) okCode

def execTriggerEnable (n : TrigNo) (on : Bool) (s : State) : Host.Outcome State Fault Refusal := .next (writeTrigEnable s n.val on)

/-- The values a configuration write changes: those waiting, or those in force. -/
def Trig.present (x : Trig) : Nat × Nat × Nat × Nat := x.pend.getD (x.t0, x.period, x.width, x.polarity)

/-- T0, P, w and polarity written: at once while disabled, else at the next active edge. -/
def writeTrigConfig (s : State) (n t0 p w pol : Nat) : State :=
  if !setupState s then answer s wrongState
  else if !trigOk p w pol then answer s outOfRange
  else
    let x := s.trig n
    answer (s.setTrig n (if x.enable then { x with pend := some (t0, p, w, pol) } else { x with t0 := t0, period := p, width := w, polarity := pol })) okCode

def execTriggerConfig (n : TrigNo) (t0 : BitVec 64) (period width : BitVec 32) (polarity : Byte) (s : State) : Host.Outcome State Fault Refusal :=
  .next (writeTrigConfig s n.val t0.toNat period.toNat width.toNat polarity.toNat)

/-- TRIGGER_EDGE: the pulse begins, under a waiting configuration if there is one. -/
def trigEdge (s : State) (n : Nat) : State :=
  let x := s.trig n
  match x.nextEdge with
  | none => s
  | some e =>
    if !x.enable ∨ s.now < e then s else
    let y := x.settled
    let next := if x.pend.isSome then firstEdge (e + 1) y.t0 y.period
      else if y.period = 0 then none else firstEdge (e + 1) y.t0 y.period
    s.setTrig n { y with pulseUntil := some (e + y.width), nextEdge := next }

def execTriggerEdge (n : TrigNo) (s : State) : Host.Outcome State Fault Refusal := .next (trigEdge s n.val)

/-! ### Buses (R168) -/

/-- The slot whose group hears of a bus: the lowest one that names a port of it. -/
def busSlot (s : State) (b : Nat) : Option Nat :=
  (List.range 32).find? (fun n => let d := (s.slot n).desc; dSource d == 1 && dPort d / 2 == b)

/-- An in-band interrupt or Hot-Join, in I3C and mixed mode only. That a bus whose ports no slot names has no stream group to hear of it
is the model's choice (notes/assumptions/147). -/
def busNotice (s : State) (b : Nat) (join : Bool) : State :=
  if (s.bus b).mode = 2 then s else
  match busSlot s b with
  | none => s
  | some n => sendNotice s (slotGroup s n % 4) (streamSrc n) (.streamBus b join)

def execInBandInterrupt (b : BusNo) (s : State) : Host.Outcome State Fault Refusal := .next (busNotice s b.val false)
def execHotJoin (b : BusNo) (s : State) : Host.Outcome State Fault Refusal := .next (busNotice s b.val true)

/-- A write of 0x2410 + b:03: transfers run one at a time, in order of arrival. -/
def writeBusTransfer (s : State) (b : Nat) (l : List Byte) : State :=
  if !setupState s then answer s wrongState
  else if 260 < l.length then answer s 0x06070010
  else answer (s.setBus b { s.bus b with waiting := (s.bus b).waiting ++ [.host l] }) okCode

def execBusTransfer (b : BusNo) (data : List Byte) (s : State) : Host.Outcome State Fault Refusal := .next (writeBusTransfer s b.val data)

/-- BUS_TRANSFER_DONE: the host transfer that runs on the bus ends. -/
def busDone (s : State) (b : Nat) (r : List Byte) : State :=
  let x := s.bus b
  match x.waiting with
  | .host _ :: rest => s.setBus b { x with waiting := rest, result := r.take 260 }
  | _ => s

def execBusTransferDone (b : BusNo) (result : List Byte) (s : State) : Host.Outcome State Fault Refusal := .next (busDone s b.val result)

end Sys2Proof.Machine
end

