-- ==== Sys2Proof/Machine/Codecs.lean ====
section
/-! DEFINITION. Host streams: the stream doorbell (spec/11 R283), frame entries and declared dimensions (spec/07 R181,
R185), decoded frames (R182 to R184, R189), and incident recording (R186). -/

namespace Sys2Proof.Machine

/-! ### Doorbells and entries -/

/-- A stream doorbell that has been performed: the new producer index, or DB_RANGE (R283). -/
def streamRing (s : State) (ch k : Nat) (w : Word) : State :=
  let n := 2 * k + ch
  let x := s.slot n
  let i := BitVec.ofNat 32 (bits w.toNat 63 32)
  if !w.getLsbD 31 then s
  else if x.st = 0 || !hostSlot x || decide (128 < (i - x.cons).toNat) || decide ((i - x.cons).toNat < (x.prod - x.cons).toNat) then
    raise s (.main gHmp 4) (at_ ch 8) (0x4100 + 8 * k)
  else if i = x.prod then s
  else s.setSlot n { x with prod := i, rings := x.rings ++ [(i, s.now)] }

/-- A word with an uncorrectable error among bytes of the stream pool (spec/11 R290). -/
def streamBad (c : Chan) (a n : Nat) : Bool := c.bad.any (fun w => decide (0x500000 + a ≤ w ∧ w < 0x500000 + a + n))

/-- Such a word among n bytes at offset o of a slot's bitstream area, which goes round at its end. -/
def areaBad (c : Chan) (x : Slot) (o n : Nat) : Bool :=
  (indexed x.page).any (fun p => c.bad.any (fun w =>
    let k := p.1 * 65536 + (w - 0x500000 - p.2 * 65536)
    decide (0x500000 + p.2 * 65536 ≤ w ∧ w < 0x500000 + (p.2 + 1) * 65536) && decide ((o ≤ k ∧ k < o + n) ∨ k + x.pages * 65536 < o + n)))

/-- The entry at the consumer index: offset and length. -/
def frameEntry (s : State) (n : Nat) : Nat × Nat :=
  let x := s.slot n
  let m := (s.chan (n % 2)).stream
  let a := entryBase n + 32 * (x.cons.toNat % 128)
  (readLE m a 4, readLE m (a + 4) 4)

/-- The DC time of the doorbell that posted the entry (R181). -/
def entryTime (x : Slot) : Nat :=
  match x.rings.find? (fun r => decide (0 < (r.1 - x.cons).toNat)) with | some r => r.2 | none => 0

/-- A context that reads the slot has a closed batch waiting for room (R192). -/
def slotBlocked (s : State) (n : Nat) : Bool :=
  (boundCtxs s n).any (fun c => let x := s.ctx c; decide (x.depth < x.batches.length))

/-- The frame's declared size passes R185; a JPEG height of 0 is unsupported (R183). -/
def declaredCheck (x : Slot) (d : Declared) : Option Nat :=
  match d with
  | .jpeg w h hm vm p =>
    if h = 0 then some rUnsupported
    else if dMaxW x.desc < w ∨ dMaxH x.desc < h ∨ 8 * p < 2 * (ceilDiv w (8 * hm) * ceilDiv h (8 * vm)) then some rDimOverclaim
    else none
  | .hevc w h above luma =>
    if dMaxW x.desc < w ∨ dMaxH x.desc < h ∨ above ∨ luma < w * h ∨ 8 * luma < w * w ∨ 8 * luma < h * h then some rDimOverclaim else none
  | .same => none

/-- The declaration is of the slot's codec. -/
def declaredFits (x : Slot) : Declared → Bool
  | .jpeg .. => dSource x.desc == 3
  | _ => dSource x.desc == 2

/-- FRAME_ENTRY_TAKEN: a frame boundary of a host slot (R193), and the checks of the entry. -/
def takeEntry (s : State) (n : Nat) (d : Declared) : State :=
  let x := s.slot n
  if x.st ≠ 1 || x.decoding || x.prod == x.cons || slotBlocked s n || !declaredFits x d then s else
  let s := applyShadow s n
  let x := s.slot n
  let c := s.chan (n % 2)
  let e := frameEntry s n
  let area := x.pages * 65536
  if streamBad c (entryBase n + 32 * (x.cons.toNat % 128)) 32 then stopEntry s n rBitstream
  else if e.2 = 0 ∨ area ≤ e.1 ∨ area < e.2 then stopEntry s n rFrameEntry
  else if areaBad c x e.1 e.2 then stopEntry s n rBitstream
  else match declaredCheck x d with
    | some r => stopEntry s n r
    | none => s.setSlot n { x with decoding := true }

def execFrameEntryTaken (n : SlotNo) (d : Declared) (s : State) : Host.Outcome State Fault Refusal := .next (takeEntry s n.val d)

/-- Matrix (0 BT.601, 1 BT.709) and range of a decoded frame, none where its matrix is unsupported: JPEG is BT.601 full range,
HEVC follows its VUI, and without one is BT.709 limited range (R184). -/
def decodedMatrix (x : Slot) (vui : Option (Nat × Bool)) : Option (Nat × Bool) :=
  if dSource x.desc = 3 then some (0, true) else
  match vui with
  | none => some (1, false)
  | some (m, full) => if m = 1 then some (1, full) else if m = 5 ∨ m = 6 then some (0, full) else none

/-- A decoded frame in 12-bit RGB: 8-bit samples are shifted left by 4, those of Main 10 by 2 (R184). -/
def decodedImage (m : Nat × Bool) (ten : Bool) (w h : Nat) (px : List (Nat × Nat × Nat)) : Img :=
  let k := if ten then 4 else 16
  ⟨w, h, false, raster w h (fun i j => let p := px.getD (j * w + i) (0, 0, 0); rgbOf m.1 m.2 (k * p.1) (k * p.2.1) (k * p.2.2))⟩

/-- DECODE_DONE: the frame enters the Clicker, or the slot stops. Before the next IRAP picture frames are skipped (R189). -/
def decodeDone (s : State) (n : Nat) (r : Decoded) : State :=
  let x := s.slot n
  if x.st ≠ 1 || !x.decoding then s else
  match r with
  | .bitstreamError => stopEntry s n rBitstream
  | .unsupported => stopEntry s n rUnsupported
  | .frame vui ten w h px irap =>
    if x.waiting && !irap then s.setSlot n (dropOne (passEntry x))
    else match decodedMatrix x vui with
    | none => stopEntry s n rUnsupported
    | some m =>
      let t := entryTime x
      let s := s.setSlot n { passEntry x with waiting := false, accepted := satAdd 32 x.accepted 1 }
      clickFrame s n x.desc x.tabs (decodedImage m ten w h px) t false

def execDecodeDone (n : SlotNo) (r : Decoded) (s : State) : Host.Outcome State Fault Refusal := .next (decodeDone s n.val r)

/-! ### Recording (R186) -/

def State.record (s : State) (e : Nat) : Rec := lookup {} s.streams.rec_ e
def State.setRec (s : State) (e : Nat) (x : Rec) : State := { s with streams := { s.streams with rec_ := put {} s.streams.rec_ e x } }

def recEnabled (x : Rec) : Bool := x.source.getLsbD 15
def recSlot (v : BitVec 16) : Nat := v.toNat % 32

/-- Bytes still owed to the host: from the later of its consumer index and the oldest GOP kept. -/
def recUsed (x : Rec) : Nat := min (x.prod - x.cons).toNat (x.prod - x.oldest).toNat

/-- The oldest complete GOP is overwritten. -/
def dropGop (s : State) (e : Nat) : State :=
  let x := s.record e
  match x.gops with
  | _ :: b :: l => raise (s.setRec e { x with gops := b :: l, oldest := b, overwritten := satAdd 32 x.overwritten 1 }) (.main gCodec (32 + e)) 0 0
  | _ => s

/-- Make room for n bytes while a complete GOP remains. -/
def makeRoom (s : State) (e n : Nat) : State :=
  (List.range (s.record e).gops.length).foldl (fun s _ => if (s.record e).size < recUsed (s.record e) + n then dropGop s e else s) s

/-- GOP starts that the ring has gone round over leave it. -/
def trimGops (x : Rec) : Rec :=
  let gone := x.gops.filter (fun b => decide ((x.prod - b).toNat ≤ x.size))
  let kept := if gone.isEmpty then x.gops.drop (x.gops.length - 1) else gone
  { x with gops := kept, oldest := kept.headD x.oldest }

/-- The host owner may write a line: free, its own, or stale (spec/11 R288). -/
def currentTag (s : State) (t : BitVec 16) : Bool :=
  let g := t.toNat / 4096
  let c := t.toNat % 4096
  decide (1 ≤ g ∧ g ≤ 14) && (s.ctx c).loaded && (s.ctx c).gen == g
def hostMayWrite (s : State) (a : Nat) : Bool :=
  let t := ownerTag s a
  t == 0 || t == 0xFFFE || (!currentTag s t && decide (t.toNat / 4096 ≠ 15))

/-- One byte of the ring lands in LPDDR6 under the host owner's tag, unless its quarter is lost (spec/01 R25). -/
def hostByte (s : State) (a : Nat) (b : Byte) : State :=
  if hostMayWrite s a && decide (a < lpddrSize) && !lostAddr s a then
    let s := spaceWrite s 0 0 0 a [b]
    { s with fabric := { s.fabric with tags := put 0 s.fabric.tags (a / 32) 0xFFFE } }
  else s

/-- The next picture begins a GOP: the first one, and the one after as many as the GOP length in force (R186). -/
def gopDue (x : Rec) : Bool := decide (x.inGop = 0 ∨ x.inForce.1 ≤ x.inGop)

/-- ENCODED_PICTURE: an IDR picture begins a GOP under the settings then in force; the encoder writes one where a GOP begins
and nowhere else. -/
def encodePicture (s : State) (e : Nat) (idr : Bool) (data : List Byte) : State :=
  let x := s.record e
  if !recEnabled x ∨ idr ≠ gopDue x then s else
  let s := s.setRec e (if idr then { x with gops := x.gops ++ [x.prod], inForce := (x.gop, x.rate, x.qp, x.bitrate), inGop := 1 }
    else { x with inGop := x.inGop + 1 })
  let s := makeRoom s e data.length
  let x := s.record e
  let s := (indexed data).foldl (fun s p => hostByte s (x.addr + (x.prod.toNat + p.1) % 2 ^ 32 % x.size) p.2) s
  s.setRec e (trimGops { s.record e with prod := x.prod + BitVec.ofNat 32 data.length })

def execEncodedPicture (e : RecNo) (idr : Bool) (data : List Byte) (s : State) : Host.Outcome State Fault Refusal :=
  .next (encodePicture s e.val idr data)

/-- A write of 0x2460 + e:01: while the slots it names and named are IDLE; reserved bits are ignored (spec/00 R8). -/
def writeRecSource (s : State) (e v : Nat) : State :=
  let x := s.record e
  let w := BitVec.ofNat 16 v &&& 0x831F
  let on := w.getLsbD 15
  if !setupState s then answer s wrongState
  else if (on && (s.slot (recSlot w)).held) || (recEnabled x && (s.slot (recSlot x.source)).held) then answer s wrongState
  else if on ∧ x.size = 0 then answer s refusedCode
  else answer (s.setRec e (if on && !recEnabled x then { x with source := w, prod := 0, cons := 0, oldest := 0, gops := [], inGop := 0 } else { x with source := w })) okCode

def execRecordingSource (e : RecNo) (v : BitVec 16) (s : State) : Host.Outcome State Fault Refusal := .next (writeRecSource s e.val v.toNat)

/-- A write of 0x2460 + e:09. -/
def writeConsumer (s : State) (e v : Nat) : State :=
  if setupState s then answer (s.setRec e { s.record e with cons := BitVec.ofNat 32 v }) okCode else answer s wrongState

def execConsumerIndex (e : RecNo) (v : BitVec 32) (s : State) : Host.Outcome State Fault Refusal := .next (writeConsumer s e.val v.toNat)

/-- Writes of the other entries of 0x2460 + e: value in range, and :02, :03 while disabled. -/
def writeRecEntry (s : State) (e sub v : Nat) : State :=
  let x := s.record e
  if !setupState s then answer s wrongState else
  match sub with
  | 2 => if v % 4096 ≠ 0 ∨ lpddrSize ≤ v then answer s outOfRange else if recEnabled x then answer s wrongState
         else answer (s.setRec e { x with addr := v }) okCode
  | 3 => if v % 4096 ≠ 0 ∨ v < 0x40000 ∨ 0x10000000 < v then answer s outOfRange else if recEnabled x then answer s wrongState
         else answer (s.setRec e { x with size := v }) okCode
  | 4 => if v < 1 ∨ 255 < v then answer s outOfRange else answer (s.setRec e { x with gop := v }) okCode
  | 5 => if 1 < v then answer s outOfRange else answer (s.setRec e { x with rate := v }) okCode
  | 6 => if 51 < v then answer s outOfRange else answer (s.setRec e { x with qp := v }) okCode
  | _ => if v < 100 ∨ 100000 < v then answer s outOfRange else answer (s.setRec e { x with bitrate := v }) okCode

end Sys2Proof.Machine
end

