-- ==== Sys2Proof/Machine/Hmp.lean ====
section
/-! DEFINITION. The host memory port: cause-tree registers (spec/11 R292 to R295), the aperture's reads and writes (R274 to
R285), negotiation (R281, R282), the bulk window (R286 to R289), the mailbox's request (R296), and the LPDDR5X commands of a
channel (R271 to R273, R298, spec/14 R361). -/

namespace Sys2Proof.Machine

/-! ### Cause-tree registers -/

/-- Bits of CAUSE_<group> that are not reserved (R293). -/
def groupBits (g : Nat) : Word :=
  match g with
  | 0 => 0xFFFFFFFFFFFFFFFF
  | 1 => 0x3FF0F
  | 2 => 0x1F
  | 3 => 0x1D
  | 4 => 0x3FFF
  | 5 => 0x7F
  | 6 => 0xFFFFFFFFFFFF
  | 7 => 0xFFFFFFFFF
  | 8 => 0xFFFFFFFF
  | 9 => 0x1F
  | 10 => 0xF
  | 11 => 0x1F
  | 12 => 0xF
  | 13 => 0xF
  | 14 => 0x3
  | 15 => 0xF
  | 16 => 0xF
  | _ => 0

/-- Those that are leaves: not the RO bits over leaf registers. -/
def leafBits : LeafReg → Word
  | .group g => if g.val = gStream then 0xFFFF00000000 else if g.val = gIst then 0 else groupBits g.val
  | .streamSlot _ => 0x7
  | _ => 0xFFFFFFFFFFFFFFFF

/-- Leaves of a register that report a condition (R293). -/
def conditionBits : LeafReg → Word
  | .group g => if g.val = gSched ∨ g.val = gThermal ∨ g.val = gBoot then 1 else 0
  | .streamSlot _ => 2
  | _ => 0

/-- A sensor reads below the low bound (spec/09 R237). -/
def belowBound (s : State) : Option Nat :=
  (List.range 26).find? (fun i => s.power.reported.contains i && decide (sensorRead s i < 10 * s.power.lowBound))

/-- The condition of a condition leaf lasts; the ARG it is raised with. -/
def conditionLasts (s : State) : LeafReg → Option Nat
  | .group g =>
    if g.val = gSched then ((loadedCtxs s).find? (fun p => p.2.withdrawn)).map (·.1)
    else if g.val = gThermal then belowBound s
    else if g.val = gBoot then (if s.boot.unverified then some s.boot.reason else none)
    else none
  | .streamSlot n => if calHostOnly (s.slot n.val) then some n.val else none
  | _ => none

def leafOf (r : LeafReg) (b : Nat) : Leaf :=
  match r with
  | .group g => .main g.val b
  | .streamSlot n => .slot n.val b
  | .istFailed => .istFailed b
  | .istUntested => .istUntested b

/-- The leaves of a register lose the bits of a word. -/
def dropLeaves (c : Causes) (r : LeafReg) (v : Word) : Causes :=
  match r with
  | .group g => { c with leaf := put 0 c.leaf g.val (lookup 0 c.leaf g.val &&& ~~~v) }
  | .streamSlot n => { c with streamSlot := put 0 c.streamSlot n.val (lookup 0 c.streamSlot n.val &&& ~~~v) }
  | .istFailed => { c with istFailed := c.istFailed &&& ~~~v }
  | .istUntested => { c with istUntested := c.istUntested &&& ~~~v }

def bitsOf (v : Word) : List Nat := (List.range 64).filter (fun b => v.getLsbD b)

/-- A W1C write: leaves clear; one that hardware sets in the same window, and a condition that lasts, read 1 (R9, R292). -/
def clearLeaf (s : State) (r : LeafReg) (v setting : Word) : State :=
  let was := s.causes
  let now := fun (b : Nat) => leafIsSet was (leafOf r b)
  let s := { s with causes := dropLeaves was r (v &&& leafBits r &&& ~~~setting) }
  let s := match conditionLasts s r with
    | some a => (bitsOf (v &&& conditionBits r)).foldl (fun s b => if now b then raise s (leafOf r b) a 0 else s) s
    | none => s
  let s := settle ((bitsOf (setting &&& leafBits r)).foldl (fun s b => raise s (leafOf r b) 0 0) s)
  if leafIsSet was (.main gThermal 0) && !leafIsSet s.causes (.main gThermal 0) then publish s false else s

def execLeafClear (r : LeafReg) (v setting : Word) (s : State) : Host.Outcome State Fault Refusal :=
  .next (inState (alwaysState s) s (fun s => clearLeaf s r v setting))

/-- The ACK edge clears every event leaf; condition leaves stay (spec/12 R331). -/
def ackAll (s : State) : State :=
  let c := s.causes
  settle { s with causes := { c with
    leaf := (c.leaf.map (fun p => (p.1, if p.1 = gSched ∨ p.1 = gThermal ∨ p.1 = gBoot then p.2 &&& 1 else 0))).filter (fun p => p.2 != 0)
    streamSlot := (c.streamSlot.map (fun p => (p.1, p.2 &&& 2))).filter (fun p => p.2 != 0)
    istFailed := 0, istUntested := 0 } }

/-- Mask registers keep the bits of their layout (R292). -/
def setMask (s : State) (f : Causes → Causes) : State := settle { s with causes := f s.causes }

/-- A register of 0x2000 to 0x3FFF as it reads. -/
def causeWord (c : Causes) (w : Nat) : Word :=
  if w = 0x2000 then sumstat c
  else if w = 0x2008 then c.maskSum
  else if 0x2100 ≤ w ∧ w < 0x2210 then (if w % 16 = 0 then causeReg c ((w - 0x2100) / 16) else maskReg c ((w - 0x2100) / 16))
  else if 0x2400 ≤ w ∧ w < 0x2500 then lookup 0 c.streamSlot ((w - 0x2400) / 8)
  else if 0x2500 ≤ w ∧ w < 0x2600 then lookup 0 c.maskStreamSlot ((w - 0x2500) / 8)
  else if w = 0x2600 then c.istFailed
  else if w = 0x2608 then c.maskIstFailed
  else if w = 0x2610 then c.istUntested
  else if w = 0x2618 then c.maskIstUntested
  else if 0x2800 ≤ w ∧ w < 0x2888 then lookup 0 c.info ((w - 0x2800) / 8)
  else if 0x2900 ≤ w ∧ w < 0x2920 then
    BitVec.ofNat 64 (at_ (lookup 0 c.lateCount ((w - 0x2900) / 8)) 32 + lookup 0 c.lateLast ((w - 0x2900) / 8))
  else if 0x2920 ≤ w ∧ w < 0x2940 then BitVec.ofNat 64 (lookup 0 c.noticeLost ((w - 0x2920) / 8))
  else 0

def groupNo (g : Nat) : LeafReg := .group ⟨g % 17, Nat.mod_lt _ (by decide)⟩
def slotNo (n : Nat) : SlotNo := ⟨n % 32, Nat.mod_lt _ (by decide)⟩

/-- A write of a register of 0x2000 to 0x3FFF. -/
def writeCause (s : State) (w : Nat) (v : Word) : State :=
  if w = 0x2008 then setMask s (fun c => { c with maskSum := v &&& 0x1FFFF })
  else if 0x2100 ≤ w ∧ w < 0x2210 then
    let g := (w - 0x2100) / 16
    if w % 16 = 0 then clearLeaf s (groupNo g) v 0 else setMask s (fun c => { c with mask := put 0 c.mask g (v &&& groupBits g) })
  else if 0x2400 ≤ w ∧ w < 0x2500 then clearLeaf s (.streamSlot (slotNo ((w - 0x2400) / 8))) v 0
  else if 0x2500 ≤ w ∧ w < 0x2600 then setMask s (fun c => { c with maskStreamSlot := put 0 c.maskStreamSlot ((w - 0x2500) / 8) (v &&& 7) })
  else if w = 0x2600 then clearLeaf s .istFailed v 0
  else if w = 0x2608 then setMask s (fun c => { c with maskIstFailed := v })
  else if w = 0x2610 then clearLeaf s .istUntested v 0
  else if w = 0x2618 then setMask s (fun c => { c with maskIstUntested := v })
  else s

/-- The bits of a cause register that read as last written. -/
def causeRw (w : Nat) : Word :=
  if w = 0x2008 then 0x1FFFF
  else if 0x2100 ≤ w ∧ w < 0x2210 ∧ w % 16 = 8 then groupBits ((w - 0x2100) / 16)
  else if 0x2500 ≤ w ∧ w < 0x2600 then 7
  else if w = 0x2608 ∨ w = 0x2618 then 0xFFFFFFFFFFFFFFFF
  else 0

/-! ### The port -/

/-- Offsets of the aperture's windows (R277). -/
def ringWin : Nat := 0x1000000
def streamWin : Nat := 0x2000000
def bulkWin : Nat := 0x40000000

/-- The port has its two supplies and is out of reset (R275, R299, spec/14 R362, R367). -/
def portPowered (s : State) : Bool :=
  supplied s.dev && !s.dev.resetLow && !s.dev.heldInReset && !s.dev.railsOut.contains (.fixed 3) && !s.dev.railsOut.contains (.fixed 4) &&
  s.power.pstate != 3

def selected (s : State) : Bool := s.hmp.major != 0
/-- IRQ_N is asserted (R281, R291, R300). -/
def irqLow (s : State) : Bool :=
  if s.hmp.negState = 3 then false else if selected s then irqAsserted s.causes else portPowered s

/-! ### Owner tags in the bulk window (R288) -/

/-- What a line's tag allows an owner: it may write; a staged read gives 0 zeros, 1 data, 2 0x5A. -/
def bulkRights (s : State) (owner a : Nat) : Bool × Nat :=
  let t := ownerTag s a
  let stale := !currentTag s t && decide (t.toNat / 4096 ≠ 15) && t != 0
  if t = 0 then (true, 0)
  else if owner = 0xFFFE then (if t = 0xFFFE ∨ stale then (true, 1) else (false, 2))
  else if currentTag s t && decide (t.toNat % 4096 = owner) then (true, 1)
  else if stale then (true, 2)
  else (false, 2)

def ownerNow (s : State) (owner : Nat) : BitVec 16 := if owner = 0xFFFE then 0xFFFE else ctxTag owner (s.ctx owner)

/-- Lines dropped or filled by the table count and set BULK_TAG. -/
def bulkTag (s : State) (ch addr n : Nat) : State := if n = 0 then s else hmpLeaf (count2601 s 9 n) ch 7 addr

def mapOwner (c : Chan) : Nat := bits c.bulkMap.toNat 63 48
def mapBase (c : Chan) : Nat := bits c.bulkMap.toNat 35 30 * 2 ^ 30
def mapped (c : Chan) : Bool := c.bulkMap.getLsbD 0
/-- STANDBY: LPDDR6 is in self-refresh. -/
def asleep (s : State) : Bool := s.power.pstate == 2

/-- A posted bulk write reaches LPDDR6, line by line; the lines of a lost quarter take nothing (spec/01 R25). -/
def landBulk (s : State) (ch : Nat) (p : Posted) : State :=
  let c := s.chan ch
  if !mapped c then hmpLeaf s ch 1 p.off
  else if asleep s then hmpLeaf s ch 8 p.off
  else
    let owner := mapOwner c
    let a0 := mapBase c + (p.off - bulkWin)
    let put1 := fun (r : State × List Nat) (q : Nat × Byte) =>
      let a := a0 + q.1
      if p.mask.getD q.1 false || lostAddr r.1 a then r
      else if (bulkRights r.1 owner a).1 then
        let s := spaceWrite r.1 0 0 0 a [q.2]
        ({ s with fabric := { s.fabric with tags := put 0 s.fabric.tags (a / 32) (ownerNow s owner) } }, r.2)
      else (r.1, if r.2.contains (a / 32) then r.2 else r.2 ++ [a / 32])
    let r := (indexed p.data).foldl put1 (s, [])
    bulkTag r.1 ch p.off r.2.length

/-! ### Arm slots (R287, R289) -/

def armPages (x : ArmSlot) : Nat := bits x.reg.toNat 10 0
def armStart (x : ArmSlot) : Nat := bits x.reg.toNat 41 24 * 4096
def armCovers (x : ArmSlot) (w : Nat) : Bool := decide (armStart x ≤ w ∧ w < armStart x + armPages x * 4096)
def Chan.slotOf (c : Chan) (k : Nat) : ArmSlot := lookup {} c.arm k
def Chan.setArm (c : Chan) (k : Nat) (x : ArmSlot) : Chan := { c with arm := put {} c.arm k x }

/-- The offset is readable in the slot: armed, or copied before the error. -/
def armServes (x : ArmSlot) (w : Nat) : Bool :=
  armCovers x w && (x.state == 2 || (x.state == 3 && decide (w - armStart x < x.readable)))

/-- Bulk staging of a slot begins here in the channel's staging SRAM (R276). -/
def armBase (k : Nat) : Nat := 0x800000 + 0x400000 * k

/-- A byte of the bulk window, none for a line that no slot serves. -/
def bulkByte (c : Chan) (w : Nat) : Option Byte :=
  match ([0, 1] : List Nat).find? (fun k => armServes (c.slotOf k) w) with
  | none => none
  | some k =>
    let x := c.slotOf k
    let o := w - armStart x
    some (if x.fill.contains (o / 32) || stagingBad c (armBase k + o) then 0x5A else readByte x.data o)

/-- A host write updates every armed copy of the line, where its tag lets it land (R287, R288). -/
def armWriteByte (s : State) (ch w : Nat) (b : Byte) : State :=
  let c := s.chan ch
  if !(bulkRights s (mapOwner c) (mapBase c + w)).1 || lostAddr s (mapBase c + w) then s else
  ([0, 1] : List Nat).foldl (fun s k =>
    let c := s.chan ch
    let x := c.slotOf k
    if x.state = 2 ∧ armCovers x w then
      let o := w - armStart x
      let base := if x.fill.contains (o / 32) then writeBytes x.data (o / 32 * 32) (List.replicate 32 0x5A) else x.data
      let c := { c with bad := c.bad.filter (fun v => !(v / 8 == (armBase k + o) / 8)) }
      s.setChan ch (c.setArm k { x with data := writeByte base o b, fill := x.fill.filter (fun l => l != o / 32) })
    else s) s

/-- The bytes of a bulk write go into the armed copies. -/
def stageWrite (s : State) (ch : Nat) (p : Posted) : State :=
  (indexed p.data).foldl (fun s q => if p.mask.getD q.1 false then s else armWriteByte s ch (p.off + q.1 - bulkWin) q.2) s

/-- BULK_MAP: MAP_ERR of a write (R286). -/
def mapError (s : State) (v : Word) : Nat :=
  let owner := bits v.toNat 63 48
  if asleep s then 4
  else if owner ≠ 0xFFFE ∧ 4096 ≤ owner then 3
  else if owner ≠ 0xFFFE ∧ !(s.ctx owner).loaded then 1
  else if lpddrSize ≤ bits v.toNat 35 30 * 2 ^ 30 then 2
  else 0

def performMap (s : State) (ch : Nat) (v : Word) : State :=
  let c := s.chan ch
  let e := mapError s v
  let c := (c.setArm 0 (c.slotOf 0).clear).setArm 1 (c.slotOf 1).clear
  s.setChan ch { c with mapErr := e, bulkMap := if e = 0 then v &&& 0xFFFF000FC0000001 else c.bulkMap &&& ~~~1 }

/-- ARM[k]: disarm, arm, or an error (R287). -/
def performArm (s : State) (ch k : Nat) (v : Word) : State :=
  let c := s.chan ch
  let x := { (c.slotOf k).clear with reg := v &&& 0x3FFFF0007FF }
  let x :=
    if armPages x = 0 then x
    else if asleep s then { x with state := 3, err := 3 }
    else if !mapped c then { x with state := 3, err := 1 }
    else if 1024 < armPages x ∨ 2 ^ 30 < armStart x + armPages x * 4096 then { x with state := 3, err := 2 }
    else { x with state := 1 }
  s.setChan ch (c.setArm k x)

/-- The copy of a filling slot is whole, or meets an uncorrectable word (R287, R288, spec/10 R257). Bulk writes that the port took
while the slot filled and that have not landed are in it (R278). That a lost quarter's lines read 0x5A is the model's choice
(spec/01 R25, notes/assumptions/148). -/
def fillDone (s : State) (ch k : Nat) : State :=
  let c := s.chan ch
  let x := c.slotOf k
  if x.state ≠ 1 then s else
  let owner := mapOwner c
  let a0 := mapBase c + armStart x
  let n := armPages x * 4096
  let hits := (s.fabric.bad.filter (fun b => b.1 == 0 && decide (a0 ≤ b.2 ∧ b.2 < a0 + n))).map (·.2)
  let upto := match hits with | [] => n | h :: t => (t.foldl min h - a0) / 32 * 32
  let right := fun (o : Nat) => (bulkRights s owner (a0 + o)).2
  let data := (s.fabric.lpddr.filter (fun p => decide (a0 ≤ p.1 ∧ p.1 < a0 + upto) && right (p.1 - a0) == 1)).map (fun p => (p.1 - a0, p.2))
  let taken := (List.range (upto / 32)).filter (fun l => right (32 * l) == 2)
  let fill := (taken ++ (List.range (upto / 32)).filter (fun l => lostAddr s (a0 + 32 * l))).dedup
  let c := { c with bad := c.bad.filter (fun v => !decide (armBase k ≤ v ∧ v < armBase k + n)) }
  let s := bulkTag s ch (bulkWin + armStart x) taken.length
  match hits with
  | [] =>
    (c.buffer.takeWhile (fun p => p.off != 0x1100)).foldl (fun s p => if bulkWin ≤ p.off then stageWrite s ch p else s)
      (s.setChan ch (c.setArm k { x with state := 2, arms := x.arms + 1, data := data, fill := fill }))
  | h :: t =>
    memUncorrectable (s.setChan ch (c.setArm k { x with state := 3, err := 4, data := data, fill := fill, readable := upto })) 0 (t.foldl min h)

def execArmFillDone (ch : ChanNo) (k : Fin 2) (s : State) : Host.Outcome State Fault Refusal := .next (fillDone s ch.val k.val)

/-! ### Doorbells (R283, spec/08 R201, R202) -/

/-- A queue doorbell that is performed; `off` is the register written. -/
def ringQueue (s : State) (ch off : Nat) (w : Word) : State :=
  let q := bits w.toNat 15 0
  let i := bits w.toNat 63 32
  if !w.getLsbD 31 then s else
  match s.queue? q with
  | none => hmpLeaf s ch 4 off
  | some x =>
    if x.ch ≠ ch then hmpLeaf s ch 5 off else
    let n := (i + 2 ^ 32 - x.cons % 2 ^ 32) % 2 ^ 32
    let tell := fun (s : State) => sendNotice s (ctxLaster s x.ctx) (hmpSrc ch) (.doorbell q)
    match x.typ with
    | .submit =>
      if n < x.prod - x.cons ∨ x.entries < n then hmpLeaf s ch 4 off
      else if n = x.prod - x.cons then s
      else tell (commitQueue s q { x with prod := x.cons + n, rings := x.rings ++ [(x.cons + n, s.now)] })
    | _ =>
      if x.prod - x.cons < n then hmpLeaf s ch 4 off
      else if n = 0 then s
      else
        let s := (List.range n).foldl (fun s k => ringWrite s ch (x.entryAt (x.cons + k)) (List.replicate 64 0)) s
        tell (commitQueue s q { x with cons := x.cons + n })

/-! ### Negotiation (R281) -/

def negotiate (s : State) (ch : Nat) (v : Word) : State :=
  let major := bits v.toNat 15 8
  let minor := bits v.toNat 7 0
  let h := { s.hmp with negSelect := v &&& 0xFFFF }
  if selected s then
    (if h.major = major ∧ h.minor = minor then { s with hmp := h } else hmpLeaf { s with hmp := { h with negState := 2 } } ch 13 0x1000)
  else if major = 1 ∧ minor ≤ 3 then { s with hmp := { h with major := 1, minor := minor, negState := 1 } }
  else hmpLeaf { s with hmp := { h with negState := 2 } } ch 13 0x1000

/-! ### Control registers -/

/-- MB_CTRL: GO hands the request to Cobbler; a GO while busy is ignored (R296). -/
def mailboxGo (s : State) (ch : Nat) (v : Word) : State :=
  let c := s.chan ch
  if !v.getLsbD 16 then s.setChan ch { c with mbSeq := v.setWidth 16 }
  else if c.mbState = 1 then hmpLeaf s ch 10 0x8000
  else
    let s := s.setChan ch { c with mbSeq := v.setWidth 16, mbState := 1, mbAsk := c.mbReq, mbAskSeq := v.setWidth 16 }
    { s with hmp := { s.hmp with mbOrder := s.hmp.mbOrder ++ [ch] } }

/-- A word of the mailbox's request area as it is held: the header keeps its named fields, what is reserved reads 0 (R296,
spec/00 R8). -/
def requestWord (w : Nat) (v : Word) : Word :=
  if w = 0x8040 then v &&& 0x000000FFFFFF01FF
  else if w = 0x8048 then v &&& 0x0000FFFFFFFFFFFF
  else if w < 0x8080 then 0
  else v

/-- A control register's write is performed (R277, R278). -/
def performWrite (s : State) (ch w : Nat) (v : Word) : State :=
  if w = 0x1000 then negotiate s ch v
  else if w = 0x1100 then performMap s ch v
  else if w = 0x1110 then performArm s ch 0 v
  else if w = 0x1120 then performArm s ch 1 v
  else if 0x2000 ≤ w ∧ w < 0x4000 then writeCause s w v
  else if w = 0x4000 then ringQueue s ch w v
  else if 0x4040 ≤ w ∧ w < 0x4080 then (if s.hmp.minor < 3 then hmpLeaf s ch 2 w else ringQueue s ch w v)
  else if 0x4100 ≤ w ∧ w < 0x4180 then streamRing s ch ((w - 0x4100) / 8) v
  else if w = 0x8000 then mailboxGo s ch v
  else if 0x8040 ≤ w ∧ w < 0x8480 then
    s.setChan ch { s.chan ch with mbReq := writeBytes (s.chan ch).mbReq (w - 0x8040) (leBytes 8 (requestWord w v).toNat) }
  else s

/-! ### Windows -/

def ringByteRead (s : State) (ch o : Nat) : Byte :=
  if (queueAt s ch o).isNone || stagingBad (s.chan ch) (0x10000 + o) then 0 else readByte (s.chan ch).ring o

/-- Where a stream-window offset lies in the stream pool, none where it is unbacked (R284). -/
def streamAt (s : State) (ch o : Nat) : Option Nat :=
  let n := 2 * (o / 0x200000) + ch
  let r := o % 0x200000
  let x := s.slot n
  if r < 0x1000 then some (entryBase n + r)
  else if hostSlot x && decide (r - 0x1000 < x.pages * 65536) then some (areaAt x (r - 0x1000))
  else none

def streamByteRead (s : State) (ch o : Nat) : Byte :=
  match streamAt s ch o with
  | none => 0
  | some a => if stagingBad (s.chan ch) (0x500000 + a) then 0 else readByte (s.chan ch).stream a

/-- One host byte into a window: the leaf it sets when it is ignored, and the state. -/
def windowByte (s : State) (ch a : Nat) (b : Byte) : State × Option Nat :=
  if ringWin ≤ a ∧ a < streamWin then
    match queueAt s ch (a - ringWin) with
    | none => (s, some 1)
    | some (_, x) => if x.typ = .submit ∧ inEntries x (a - ringWin) then (ringWrite s ch (a - ringWin) [b], none) else (s, some 3)
  else if streamWin ≤ a ∧ a < 0x4000000 then
    match streamAt s ch (a - streamWin) with
    | none => (s, some 1)
    | some p =>
      let c := s.chan ch
      (s.setChan ch { c with stream := writeByte c.stream p b, bad := c.bad.filter (fun w => !(w / 8 == (0x500000 + p) / 8)) }, none)
  else (s, none)

/-- The ring- and stream-window bytes of a burst; each leaf is set once, with the first address (R277, R285). -/
def writeWindows (s : State) (ch off : Nat) (data : List Byte) (mask : List Bool) : State :=
  let r := (indexed data).foldl (fun (r : State × List (Nat × Nat)) p =>
    if mask.getD p.1 false then r else
    let y := windowByte r.1 ch (off + p.1) p.2
    (y.1, match y.2 with | some b => (if r.2.any (fun z => z.1 == b) then r.2 else r.2 ++ [(b, off + p.1)]) | none => r.2)) (s, [])
  r.2.foldl (fun s z => hmpLeaf s ch z.1 z.2) r.1

/-! ### The write buffer (R278) -/

/-- A control write is performed at once, or after the bulk writes before it (R278). -/
def postControl (s : State) (ch w : Nat) (v : Word) : State :=
  let c := s.chan ch
  if c.buffer.isEmpty then performWrite s ch w v
  else s.setChan ch { c with buffer := c.buffer ++ [⟨w, leBytes 8 v.toNat, []⟩] }

/-- A posted write that is no bulk write is performed: a control register, or bytes of the windows. -/
def performPosted (s : State) (ch : Nat) (p : Posted) : State :=
  if p.off < 0x9000 then performWrite s ch p.off (BitVec.ofNat 64 (leNat p.data)) else writeWindows s ch p.off p.data p.mask

/-- A burst on the windows is performed at once, or after the writes that wait before it (R278). -/
def postWindows (s : State) (ch off : Nat) (data : List Byte) (mask : List Bool) : State :=
  let c := s.chan ch
  if c.buffer.isEmpty || decide (off < 0x9000) then writeWindows s ch off data mask
  else s.setChan ch { c with buffer := c.buffer ++ [⟨off, data, mask⟩] }

/-- Control and window writes at the front of the buffer follow the bulk write that held them; `n` bounds the work. -/
def drainControl (s : State) (ch : Nat) : Nat → State
  | 0 => s
  | n + 1 =>
    match (s.chan ch).buffer with
    | p :: rest =>
      if bulkWin ≤ p.off then s
      else drainControl (performPosted (s.setChan ch { s.chan ch with buffer := rest }) ch p) ch n
    | [] => s

/-- BULK_WRITE_LAND: the oldest bulk write of the buffer lands. -/
def landFront (s : State) (ch : Nat) : State :=
  match (s.chan ch).buffer with
  | [] => s
  | p :: rest =>
    let s := landBulk (s.setChan ch { s.chan ch with buffer := rest }) ch p
    drainControl s ch rest.length

def execBulkWriteLand (ch : ChanNo) (s : State) : Host.Outcome State Fault Refusal := .next (landFront s ch.val)

/-! ### Reads -/

/-- The value a control write still in the buffer gives a register, where its bits read as written (R278). -/
def rwBits (w : Nat) : Word :=
  if w = 0x1000 then 0xFFFF
  else if w = 0x1100 then 0xFFFF000FC0000001
  else if w = 0x1110 ∨ w = 0x1120 then 0x3FFFF0007FF
  else if w = 0x8000 then 0xFFFF
  else if 0x8040 ≤ w ∧ w < 0x8480 then requestWord w 0xFFFFFFFFFFFFFFFF
  else causeRw w

def waitingWord (c : Chan) (w : Nat) : Option Word :=
  (c.buffer.reverse.find? (fun p => p.off == w)).map (fun p => BitVec.ofNat 64 (leNat p.data))

/-- The byte that the last window write still in the buffer gives an offset, where the window takes it (R278). -/
def waitingByte (s : State) (ch a : Nat) : Option Byte :=
  match (s.chan ch).buffer.reverse.find? (fun p => decide (0x9000 ≤ p.off ∧ p.off ≤ a ∧ a < p.off + p.data.length) && !p.mask.getD (a - p.off) false) with
  | some p => let b := p.data.getD (a - p.off) 0; if (windowByte s ch a b).2.isNone then some b else none
  | none => none

/-- An aligned 8-byte register of 0 to 0x8FFF. -/
def portWord (s : State) (ch w : Nat) : Word :=
  let c := s.chan ch
  if w = 0 then BitVec.ofNat 64 (at_ 0x6440 48 + at_ 0xB1 40 + at_ ch 32 + 0x41494C51)
  else if w = 8 then 0xF
  else if w = 0x10 then BitVec.ofNat 64 (at_ (if Config.grade64 then 64 else 32) 32 + at_ 2 24 + at_ 47 16 + 1264)
  else if w = 0x18 then 0xF
  else if w = 0x1008 then BitVec.ofNat 64 (at_ s.hmp.major 16 + at_ s.hmp.minor 8 + s.hmp.negState)
  else if w = 0x1000 then s.hmp.negSelect
  else if !selected s then 0
  else
    let v : Word :=
      if w = 0x1100 then c.bulkMap
      else if w = 0x1108 then BitVec.ofNat 64 (at_ c.mapErr 4)
      else if w = 0x1110 ∨ w = 0x1120 then (c.slotOf ((w - 0x1110) / 16)).reg
      else if w = 0x1118 ∨ w = 0x1128 then
        let x := c.slotOf ((w - 0x1118) / 16)
        BitVec.ofNat 64 (at_ x.arms.toNat 32 + at_ x.err 8 + x.state)
      else if 0x2000 ≤ w ∧ w < 0x4000 then causeWord s.causes w
      else if 0x4100 ≤ w ∧ w < 0x4180 then
        let x := s.slot (2 * ((w - 0x4100) / 8) + ch)
        BitVec.ofNat 64 (at_ x.prod.toNat 32 + x.cons.toNat)
      else if w = 0x8000 then c.mbSeq.setWidth 64
      else if w = 0x8008 then BitVec.ofNat 64 (at_ c.mbState 16 + c.mbDone.toNat)
      else if 0x8040 ≤ w ∧ w < 0x8480 then BitVec.ofNat 64 (readLE c.mbReq (w - 0x8040) 8)
      else if 0x8480 ≤ w ∧ w < 0x88C0 then BitVec.ofNat 64 (readLE c.mbResp (w - 0x8480) 8)
      else 0
    match waitingWord c w with
    | some p => (p &&& rwBits w) ||| (v &&& ~~~(rwBits w))
    | none => v

/-- One byte of the aperture. -/
def portByte (s : State) (ch a : Nat) : Byte :=
  if a < 0x9000 then BitVec.ofNat 8 ((portWord s ch (a / 8 * 8)).toNat / 2 ^ (8 * (a % 8)))
  else if !selected s then 0
  else if ringWin ≤ a ∧ a < streamWin then (waitingByte s ch a).getD (ringByteRead s ch (a - ringWin))
  else if streamWin ≤ a ∧ a < 0x4000000 then (waitingByte s ch a).getD (streamByteRead s ch (a - streamWin))
  else if bulkWin ≤ a then (bulkByte (s.chan ch) (a - bulkWin)).getD 0x5A
  else 0

/-- Reading an RC register clears it (R293). -/
def clearRead (s : State) (w : Nat) : State :=
  if !selected s then s
  else if 0x2900 ≤ w ∧ w < 0x2920 then { s with causes := { s.causes with lateCount := put 0 s.causes.lateCount ((w - 0x2900) / 8) 0 } }
  else if 0x2920 ≤ w ∧ w < 0x2940 then { s with causes := { s.causes with noticeLost := put 0 s.causes.noticeLost ((w - 0x2920) / 8) 0 } }
  else s

/-- A read burst: its data, the RC registers it clears, and UNARMED_READ (R275, R277, R279). -/
def portRead (s : State) (ch off n : Nat) : State :=
  let at_i := fun (i : Nat) => (off + i) % 2 ^ 31
  let l := (List.range n).map (fun i => portByte s ch (at_i i))
  let words := ((List.range n).map (fun i => at_i i / 8 * 8)).dedup
  let s' := s.setChan ch { s.chan ch with dq := l }
  let s' := words.foldl clearRead s'
  match (List.range n).find? (fun i => decide (bulkWin ≤ at_i i) && selected s && (bulkByte (s.chan ch) (at_i i - bulkWin)).isNone) with
  | some i => hmpLeaf s' ch 0 (at_i i)
  | none => s'

/-! ### Writes -/

/-- Before a version is selected only NEG_SELECT takes a write (R281); in BOOT nothing does, silently (R300). -/
def earlyWrite (s : State) (ch off : Nat) (data : List Byte) (mask : List Bool) : State :=
  if s.hmp.negState = 3 then s else
  let whole := decide (off ≤ 0x1000 ∧ 0x1008 ≤ off + data.length) && (List.range 8).all (fun i => !mask.getD (0x1000 + i - off) false)
  let part := (List.range data.length).any (fun i => decide (0x1000 ≤ off + i ∧ off + i < 0x1008) && !mask.getD i false)
  let other := (List.range data.length).find? (fun i => decide (0x1010 ≤ off + i) && !mask.getD i false)
  let s := if whole then negotiate s ch (BitVec.ofNat 64 (leNat ((data.drop (0x1000 - off)).take 8)))
    else if part then hmpLeaf s ch 6 0x1000 else s
  match other with
  | some i => hmpLeaf s ch 2 (off + i)
  | none => s

/-- The register words of a burst: whole ones are written, others set PARTIAL_WRITE; one wholly masked is not written. -/
def writeRegs (s : State) (ch off : Nat) (data : List Byte) (mask : List Bool) : State :=
  let words := ((List.range data.length).map (fun i => (off + i) / 8 * 8)).dedup.filter (fun w => decide (0x1000 ≤ w ∧ w < 0x9000))
  words.foldl (fun s w =>
    let has := fun (i : Nat) => decide (off ≤ w + i ∧ w + i < off + data.length) && !mask.getD (w + i - off) false
    if (List.range 8).all has then postControl s ch w (BitVec.ofNat 64 (leNat ((data.drop (w - off)).take 8)))
    else if (List.range 8).any has then hmpLeaf s ch 6 w
    else s) s

/-- The bulk-window bytes of a burst: armed copies are updated and the write is posted (R286, R287). -/
def writeBulk (s : State) (ch off : Nat) (data : List Byte) (mask : List Bool) : State :=
  let c := s.chan ch
  let held := c.buffer.any (fun p => p.off == 0x1100)
  if !held && !mapped c then hmpLeaf s ch 1 off
  else if asleep s then hmpLeaf s ch 8 off
  else
    let s := if mapped c then stageWrite s ch ⟨off, data, mask⟩ else s
    let c := s.chan ch
    s.setChan ch { c with buffer := c.buffer ++ [⟨off, data, mask⟩] }

/-- A write burst of the host; mask true means that the byte is not written (R277 to R279). -/
def portWrite (s : State) (ch off : Nat) (data : List Byte) (mask : List Bool) : State :=
  if !selected s then earlyWrite s ch off data mask
  else if bulkWin ≤ off then writeBulk s ch off data mask
  else postWindows (writeRegs s ch off data mask) ch off data mask

/-! ### LPDDR5X commands (R271 to R274) -/

/-- R274. -/
def aperture (ba row col : Nat) : Nat := row * 32768 + ba * 2048 + 2 * col

/-- A command on a channel: none is received while the port is unpowered or the channel in reset, and none but `wake` in
self-refresh or power-down; after an unsupported command the behaviour is undefined until the channel is reinitialised. -/
def onChan (s : State) (ch : ChanNo) (wake : Nat) (f : State → State) : Host.Outcome State Fault Refusal :=
  let c := s.chan ch.val
  if !portPowered s || c.resetLow then .next s
  else if c.undefined then .fault .channelUndefined
  else if c.power = wake then .next (f s)
  else .next s


def execAct (ch : ChanNo) (_ba : Fin 16) (_row : BitVec 16) (s : State) : Host.Outcome State Fault Refusal := onChan s ch 0 id
def execPre (ch : ChanNo) (_ba : Option (Fin 16)) (s : State) : Host.Outcome State Fault Refusal := onChan s ch 0 id

def execRd (ch : ChanNo) (ba : Fin 16) (row : BitVec 16) (col : BitVec 10) (bl32 : Bool) (s : State) : Host.Outcome State Fault Refusal :=
  onChan s ch 0 (fun s => portRead s ch.val (aperture ba.val row.toNat col.toNat) (if bl32 then 64 else 32))

def execWr (ch : ChanNo) (ba : Fin 16) (row : BitVec 16) (col : BitVec 10) (data : List Byte) (s : State) : Host.Outcome State Fault Refusal :=
  onChan s ch 0 (fun s => portWrite s ch.val (aperture ba.val row.toNat col.toNat) data [])

def execMwr (ch : ChanNo) (ba : Fin 16) (row : BitVec 16) (col : BitVec 10) (data : List Byte) (mask : List Bool) (s : State) :
    Host.Outcome State Fault Refusal :=
  onChan s ch 0 (fun s => portWrite s ch.val (aperture ba.val row.toNat col.toNat) data mask)

/-- CAS synchronises WCK2CK. -/
def execCas (ch : ChanNo) (s : State) : Host.Outcome State Fault Refusal :=
  onChan s ch 0 (fun s => s.modChan ch.val (fun c => { c with wckSync := true }))

/-- The slot writes back words of staging that were corrected. -/
def execRef (ch : ChanNo) (s : State) : Host.Outcome State Fault Refusal :=
  onChan s ch 0 (fun s => s.modChan ch.val (fun c => { c with fixes := [] }))

def execRfm (ch : ChanNo) (s : State) : Host.Outcome State Fault Refusal := onChan s ch 0 id

def execSre (ch : ChanNo) (s : State) : Host.Outcome State Fault Refusal :=
  onChan s ch 0 (fun s => s.modChan ch.val (fun c => { c with power := 1, wckSync := false }))
def execSrx (ch : ChanNo) (s : State) : Host.Outcome State Fault Refusal :=
  onChan s ch 1 (fun s => s.modChan ch.val (fun c => { c with power := 0 }))
def execPde (ch : ChanNo) (s : State) : Host.Outcome State Fault Refusal :=
  onChan s ch 0 (fun s => s.modChan ch.val (fun c => { c with power := 2, wckSync := false }))
def execPdx (ch : ChanNo) (s : State) : Host.Outcome State Fault Refusal :=
  onChan s ch 2 (fun s => s.modChan ch.val (fun c => { c with power := 0 }))

/-- MRW: the registers of the standard's settings hold the value; others have no effect (R273). -/
def execMrw (ch : ChanNo) (ma : Byte) (op : Byte) (s : State) : Host.Outcome State Fault Refusal :=
  onChan s ch 0 (fun s => s.modChan ch.val (fun c =>
    if Config.mrEffective ma.toNat then { c with mr := put 0 c.mr ma.toNat op } else c))

/-- A mode register as it reads (R273). -/
def modeRegister (c : Chan) (n : Nat) : Byte :=
  match n with
  | 4 => Config.mr4Nominal
  | 5 => 0xA7
  | 6 => 0xB1
  | 8 => Config.mr8Code
  | _ => if Config.mrEffective n then lookup 0 c.mr n else 0

def execMrr (ch : ChanNo) (ma : Byte) (s : State) : Host.Outcome State Fault Refusal :=
  onChan s ch 0 (fun s => s.modChan ch.val (fun c => { c with dq := [modeRegister c ma.toNat] }))

def execCommandBusTraining (ch : ChanNo) (enter : Bool) (s : State) : Host.Outcome State Fault Refusal :=
  onChan s ch 0 (fun s => s.modChan ch.val (fun c => { c with cbt := enter }))
def execWck2ckLevelling (ch : ChanNo) (enter : Bool) (s : State) : Host.Outcome State Fault Refusal :=
  onChan s ch 0 (fun s => s.modChan ch.val (fun c => { c with wckLevel := enter }))
def execReadDqCalibration (ch : ChanNo) (s : State) : Host.Outcome State Fault Refusal :=
  onChan s ch 0 (fun s => s.modChan ch.val (fun c => { c with dq := Config.dqCalibration c.mr }))

/-- The training FIFO is apart from every window. -/
def execWff (ch : ChanNo) (data : List Byte) (s : State) : Host.Outcome State Fault Refusal :=
  onChan s ch 0 (fun s => s.modChan ch.val (fun c => { c with wfifo := c.wfifo ++ data }))
/-- RFF drives the oldest burst of the FIFO; bytes that no WFF wrote are free values (notes/assumptions/30). -/
def execRff (ch : ChanNo) (s : State) : Host.Outcome State Fault Refusal :=
  onChan s ch 0 (fun s =>
    let c := s.chan ch.val
    let l := c.wfifo.take 32
    let fresh := (List.range (32 - l.length)).map (fun i => freeAt 8 s.free i)
    (s.setChan ch.val { c with dq := l ++ fresh, wfifo := c.wfifo.drop 32 }).draw)

/-- Calibration runs in the background; the commands have no further effect. -/
def execZqCalibrationStart (ch : ChanNo) (s : State) : Host.Outcome State Fault Refusal := onChan s ch 0 id
def execZqCalibrationLatch (ch : ChanNo) (s : State) : Host.Outcome State Fault Refusal := onChan s ch 0 id

def execUnsupportedCommand (ch : ChanNo) (s : State) : Host.Outcome State Fault Refusal :=
  onChan s ch (s.chan ch.val).power (fun s => s.modChan ch.val (fun c => { c with undefined := true }))

/-- The link, mode registers and training state of a channel are reset (spec/14 R361). -/
def Chan.linkReset (c : Chan) : Chan :=
  { c with power := 0, wckSync := false, cbt := false, wckLevel := false, mr := [], wfifo := [], undefined := false, dq := [] }

def execHmpResetN (ch : ChanNo) (low : Bool) (s : State) : Host.Outcome State Fault Refusal :=
  .next (s.modChan ch.val (fun c => { c.linkReset with resetLow := low }))

/-! ### Rows that are host writes of one register -/

def hostWord (s : State) (ch : ChanNo) (off : Nat) (w : Word) : Host.Outcome State Fault Refusal :=
  onChan s ch 0 (fun s => portWrite s ch.val off (leBytes 8 w.toNat) [])

def execQueueDoorbell (ch : ChanNo) (w : Word) (s : State) : Host.Outcome State Fault Refusal := hostWord s ch 0x4000 w
def execStreamDoorbell (ch : ChanNo) (k : Fin 16) (w : Word) (s : State) : Host.Outcome State Fault Refusal :=
  hostWord s ch (0x4100 + 8 * k.val) w
def execNegSelect (ch : ChanNo) (w : Word) (s : State) : Host.Outcome State Fault Refusal := hostWord s ch 0x1000 w
def execBulkMap (ch : ChanNo) (w : Word) (s : State) : Host.Outcome State Fault Refusal := hostWord s ch 0x1100 w
def execArm (ch : ChanNo) (k : Fin 2) (w : Word) (s : State) : Host.Outcome State Fault Refusal := hostWord s ch (0x1110 + 16 * k.val) w
/-- DISARM is the ARM write with PAGES 0. -/
def execDisarm (ch : ChanNo) (k : Fin 2) (w : Word) (s : State) : Host.Outcome State Fault Refusal :=
  if bits w.toNat 10 0 = 0 then hostWord s ch (0x1110 + 16 * k.val) w else .refused .illFormed
def execMultiQueueDoorbell (ch : ChanNo) (ws : List Word) (s : State) : Host.Outcome State Fault Refusal :=
  if ws.length ≤ 8 then onChan s ch 0 (fun s => portWrite s ch.val 0x4040 (ws.flatMap (fun w => leBytes 8 w.toNat)) [])
  else .refused .illFormed

end Sys2Proof.Machine
end

