-- ==== Sys2Proof/Machine/Power.lean ====
section
/-! DEFINITION. The Shank: settings (spec/09 R237, R238, R243, R244), the estimate, the cap, pacing and the hard power limit
(R241, R243, R245, R248), regulators (R234), setpoints (R239, R242, R246, R247), sensors, derating and the trip (R249, R250),
the thermal model (R242), power states (R251) and rail zones (R240, spec/01 R21, spec/10 R263). -/

namespace Sys2Proof.Machine

/-! ### Derating (R249) -/

def hottestSensor (s : State) (q : Nat) : Nat :=
  (quarterSensors q).foldl (fun a i => if sensorRead s a < sensorRead s i then i else a) (4 * q)

/-- 0 normal, 1 derating, 2 over the limit, 3 lost. -/
def quarterState (s : State) (q : Nat) : Nat :=
  let t := quarterTemp s q
  if s.fabric.lost.contains q then 3 else if 10 * s.power.tjLimit < t then 2 else if 1000 ≤ t then 1 else 0

/-- The quarter's temperature lies in the derating range of R249, whatever the Tj limit. -/
def inDerating (t : Int) : Bool := decide (1000 ≤ t ∧ t ≤ 1050)

/-- A quarter that enters a range raises that range's cause; entries into derating count (R249). -/
def settleQuarter (s : State) (q : Nat) : State :=
  let x := s.qpower q
  let t := quarterTemp s q
  let n := quarterState s q
  let s := s.setQpower q { x with tq := t, state := n }
  let s := if n ≠ 3 ∧ inDerating t ∧ !inDerating x.tq then
      raise { s with power := { s.power with derates := satAdd 32 s.power.derates 1 } } (.main gThermal 2) (hottestSensor s q) 0
    else s
  if n = 2 ∧ x.state ≠ 2 then raise s (.main gThermal 3) (hottestSensor s q) 0 else s

/-- BELOW_BOUND (R237). -/
def boundCheck (s : State) : State :=
  match belowBound s with
  | some i => raise s (.main gThermal 0) i 0
  | none => s

/-- Every sensor reads at least 2 degC below the Tj limit. -/
def allCool (s : State) : Bool := (List.range 26).all (fun i => decide (sensorRead s i ≤ 10 * s.power.tjLimit - 20))

/-- Derating states, the published floor and the second that ends its hold (R236, R249). -/
def reviewThermal (s : State) (host : Bool) : State :=
  let s := boundCheck s
  let s := allQuarters.foldl settleQuarter s
  let hot := !(overLimit s).isEmpty
  let s := if hot then { s with power := { s.power with overFloor := some (s.power.overFloor.getD 0) } } else s
  let s := publish s host
  let s := if hot then { s with power := { s.power with overFloor := some s.power.floorRate } } else s
  { s with power := { s.power with
    coolSince := if hot || !allCool s then none else some (s.power.coolSince.getD s.now) } }

/-! ### Settings (R237, R238, R243, R244) -/

/-- Settings written in this interval take effect together at its end; claims that waited on the limit go on. -/
def applySettings (s : State) : State :=
  if !s.power.dirty then s
  else allQuarters.foldl forceNext (afterFree (reviewThermal { s with power := { s.power with dirty := false } } true))

/-- A write of a power setting: set-up class, in range, with its own check. -/
def writeSetting (s : State) (ok : Bool) (f : Power → Power) : State :=
  if !setupState s then answer s wrongState
  else if !ok then answer s outOfRange
  else answer { s with power := { f s.power with dirty := true } } okCode

def writeCap (s : State) (v : Nat) : State := writeSetting s (decide (20000 ≤ v ∧ v ≤ 95000)) (fun p => { p with cap := v, recheckDue := p.recheckDue || v != p.cap })
def writeLinkReserve (s : State) (v : Nat) : State :=
  writeSetting s (decide (v + s.power.memRes ≤ s.power.cap)) (fun p => { p with linkRes := v })
def writeMemReserve (s : State) (v : Nat) : State :=
  writeSetting s (decide (s.power.linkRes + v ≤ s.power.cap)) (fun p => { p with memRes := v })
/-- Cells that D0 reservations and D1 home sets hold. -/
def heldCells (s : State) : Nat := ((List.range 64).filter (fun g => isReserved s g || isHome s g)).length
def writeCellLimit (s : State) (v : Nat) : State :=
  writeSetting s (decide (1 ≤ v ∧ v ≤ 64 ∧ heldCells s ≤ v)) (fun p => { p with cellLimit := v })
def writeTjLimit (s : State) (v : Nat) : State :=
  let t := signed 8 v
  writeSetting s (decide (60 ≤ t ∧ t ≤ 105)) (fun p => { p with tjLimit := t, recheckDue := p.recheckDue || t != p.tjLimit })
def writeLowBound (s : State) (v : Nat) : State :=
  let t := signed 8 v
  writeSetting s (decide (-40 ≤ t ∧ t ≤ 25)) (fun p => { p with lowBound := t })
def writeOrder (s : State) (v : Nat) : State :=
  if !setupState s then answer s wrongState
  else if 5 < v then answer s outOfRange
  else answer { s with power := { s.power with order := v } } okCode

def execCap (v : BitVec 32) (s : State) : Host.Outcome State Fault Refusal := .next (writeCap s v.toNat)
def execPriorityOrder (v : Byte) (s : State) : Host.Outcome State Fault Refusal := .next (writeOrder s v.toNat)
def execLinkReserve (v : BitVec 32) (s : State) : Host.Outcome State Fault Refusal := .next (writeLinkReserve s v.toNat)
def execMemoryReserve (v : BitVec 32) (s : State) : Host.Outcome State Fault Refusal := .next (writeMemReserve s v.toNat)
def execActiveCellLimit (v : Byte) (s : State) : Host.Outcome State Fault Refusal := .next (writeCellLimit s v.toNat)
def execTjLimit (v : Byte) (s : State) : Host.Outcome State Fault Refusal := .next (writeTjLimit s v.toNat)
def execLowBound (v : Byte) (s : State) : Host.Outcome State Fault Refusal := .next (writeLowBound s v.toNat)

/-! ### Setpoints (R239, R242, R248, R249) -/

/-- The quarter holds cells of an ACTIVE or UNADMITTED D0 reservation or of an admitted D1 home set (R239), or runs a D0 job
(spec/08 R224). -/
def floorBound (s : State) (q : Nat) : Bool :=
  (quarterJobs s q).any (fun j => (s.ctx j.ctx).cls == 0) || (loadedCtxs s).any (fun p =>
    ((p.2.cls == 0 && activeCtx p.2) || (p.2.cls == 1 && !p.2.withdrawn)) && p.2.replicas.any (fun r => r.any (fun g => quarterOf g == q)))

/-- Setpoints: 0.55 V to 0.90 V in steps of 5 mV (R233). -/
def grid5 : List Nat := (List.range 71).map (fun i => 550 + 5 * i)

/-- The lower bound of R239 in mV. -/
def lowerBound (s : State) (q : Nat) : Nat :=
  let t := quarterTemp s q
  let lo : Int := if quarterKnown s q then t - 20 else -400
  let hi : Int := if quarterKnown s q then t + 20 else 1050
  let need := quarterNeed s q
  let vf := (floorFig s).mv
  let v :=
    if 0 < need then (grid5.find? (fun v => decide ((need : Int) * 300000 ≤ leastRate v lo hi))).getD 900
    else if floorBound s q then 550 else 600
  if floorBound s q then max v vf else v

/-- The bound from above in mV: 0.90 V, V_F while not valid, derating. -/
def upperBound (s : State) (q : Nat) : Nat :=
  let vf := (floorFig s).mv
  let t := quarterTemp s q
  let d := (derateBound s.power.tjLimit vf t / 10).toNat
  max 550 (min (min 900 (if s.power.valid then 900 else max 550 vf)) d / 5 * 5)

/-- The Shank sends a setpoint. -/
def sendSetpoint (s : State) (q v : Nat) : State :=
  let x := s.qpower q
  if x.setpoint = v then s else s.setQpower q { x with setpoint := v, setAt := s.now }

/-- The largest rise of V_q that an acted hint of a cell asks for, while its phase has not ended (R247). -/
def hintRise (s : State) (q : Nat) : Nat :=
  ((List.range 16).map (fun i =>
    let c := s.cell (16 * q + i)
    (((liveHints c.since c.hints).filter (·.acted)).map (fun h => 15 * h.level / 255)).foldl max 0)).foldl max 0

/-- Cluster temperatures that the leakage term takes: those of the thermal model, 105 degC until it is seeded (R241, R242). -/
def leakTemps (s : State) (q : Nat) : List Int :=
  (List.range 4).map (fun i => if s.power.valid then lookup 1050 s.power.model (4 * q + i) else 1050)

/-- The estimate of a quarter at a voltage, with the activity of the last interval, in mW (R241). -/
def estimateAt (s : State) (q mv : Nat) : Nat :=
  if s.fabric.lost.contains q then 0 else Config.quarterPower q (s.power.activity.getD q []) mv (leakTemps s q) * (s.qpower q).c / 1024

/-- Jobs of D1 or of B run in the quarter (R239). -/
def mixedQuarter (s : State) (q : Nat) : Bool :=
  s.jobs.any (fun (j : Job) => j.phase == .running && (s.ctx j.ctx).cls != 0 && j.cells.any (fun g => quarterOf g == q))

/-- The highest setpoint of a quarter whose estimate above that at v fits the headroom. -/
def fitVoltage (s : State) (q v : Nat) (room : Int) : Nat :=
  (grid5.reverse.find? (fun u => decide (v ≤ u ∧ u ≤ upperBound s q ∧ (estimateAt s q u : Int) - estimateAt s q v ≤ room))).getD v

/-- Voltages of the quarters: lower bounds, and the headroom of the cap above the estimates there, given to quarters that run D1 and B
jobs in the order of R225 (R239). How the Shank foresees the estimate of another voltage is the model's choice
(notes/assumptions/141). -/
def headroomVoltages (s : State) : Tab Nat :=
  let live := (quarterOrder s 0).filter (fun q => !s.fabric.lost.contains q)
  let lb := fun (q : Nat) => min (lowerBound s q / 5 * 5) (upperBound s q)
  let rest := s.power.devEst - (allQuarters.map (fun q => (s.qpower q).estimate)).sum
  let room := (s.power.cap : Int) - rest - ((live.map (fun q => estimateAt s q (lb q))).sum : Nat)
  (live.foldl (fun (a : Tab Nat × Int) q =>
    let v := if mixedQuarter s q then fitVoltage s q (lb q) a.2 else lb q
    (put 0 a.1 q v, a.2 - ((estimateAt s q v : Int) - estimateAt s q (lb q)))) ([], room)).1

/-! ### Pacing (R245) -/

/-- The rate a cell's job keeps under the first two triggers: f_req of a D job, and f_F for D0; 0 where none binds. -/
def keptRate (s : State) (g : Nat) : Nat :=
  match (s.cell g).claim with
  | none => 0
  | some (_, id) =>
    match s.job? id with
    | none => 0
    | some j =>
      let cls := (s.ctx j.ctx).cls
      if cls = 0 then max (jobRate s j) s.power.floorRate else if cls = 1 then jobRate s j else 0

/-- The highest pacing level of a cell under which its job keeps that rate. -/
def paceMost (s : State) (g : Nat) : Nat :=
  let rate := mst (quarterRate s (quarterOf g))
  if keptRate s g = 0 then 15 else if rate = 0 then 0 else 16 - min 16 (max 1 (ceilDiv (16 * keptRate s g) rate))

/-- A running cell of a class whose level may be raised. -/
def canPace (s : State) (g cls : Nat) : Bool :=
  let c := s.cell g
  match c.claim with
  | none => false
  | some (_, id) =>
    match s.job? id with
    | none => false
    | some j => decide ((s.ctx j.ctx).cls = cls ∧ c.st = .running ∧ c.pace < paceMost s g) && !c.fence

/-- Each quarter's highest level and since when it paces; an episode begins when the first cell is paced. -/
def notePace (s : State) (before : Bool) : State :=
  let s := allQuarters.foldl (fun s q =>
    let m := ((List.range 16).map (fun i => (s.cell (16 * q + i)).pace)).foldl max 0
    let x := s.qpower q
    s.setQpower q { x with paceLevel := m, paceSince := if m = 0 then none else some (x.paceSince.getD s.now) }) s
  let after := allQuarters.any (fun q => decide (0 < (s.qpower q).paceLevel))
  if after && !before then { s with power := { s.power with pacings := satAdd 32 s.power.pacings 1 } } else s

def paced (s : State) : Bool := allQuarters.any (fun q => decide (0 < (s.qpower q).paceLevel))
def setPace (s : State) (f : Nat → CellState → Nat) : State :=
  let before := paced s
  notePace ((List.range 64).foldl (fun s g => let c := s.cell g; if f g c = c.pace then s else s.setCell g { c with pace := f g c }) s) before

/-- Cells that the first two triggers raise next: B, then D1, then D0. -/
def nextToPace (s : State) : List Nat :=
  (([2, 1, 0] : List Nat).map (fun k => (List.range 64).filter (fun g => canPace s g k))).find? (fun l => !l.isEmpty) |>.getD []

def raisePace (s : State) : State :=
  let l := nextToPace s
  setPace s (fun g c => if l.contains g then c.pace + 1 else c.pace)
def releasePace (s : State) : State := setPace s (fun _ c => c.pace - 1)
/-- No cell of a D job stays paced below the rate it keeps. -/
def trimPace (s : State) : State := setPace s (fun g c => min c.pace (paceMost s g))

def execPmbAlertN (_q : QuarterNo) (s : State) : Host.Outcome State Fault Refusal := .next (raisePace s)

/-! ### Slow throttling and hints (R246, R247) -/

/-- A setpoint moves, and the pacing of the quarter's paced cells with it: released as the voltage falls so that the paced
rate stays, and the same path in reverse as it rises (R246). In a hard-power event every level stays (R248). -/
def moveSetpoint (s : State) (q v : Nat) : State :=
  let old := mst (quarterRate s q)
  let s := sendSetpoint s q v
  let new := mst (quarterRate s q)
  if old = 0 ∨ new = 0 ∨ old = new ∨ s.power.hardPower then s else
  setPace s (fun g c => if quarterOf g = q ∧ 0 < c.pace then 16 - min 16 (max 1 (ceilDiv ((16 - c.pace) * old) new)) else c.pace)

/-- SETPOINT_CHOICE: the lower bound or what the headroom gives, raised for a hinted phase, under the upper bound. -/
def chooseSetpoint (s : State) (q : Nat) : State :=
  if s.fabric.lost.contains q ∨ s.power.pstate ≠ 0 then s else
  let hint := hintRise s q
  let s := s.setQpower q { s.qpower q with hintMv := hint }
  let s := moveSetpoint s q (min ((lookup 550 (headroomVoltages s) q + hint) / 5 * 5) (upperBound s q))
  if s.power.hardPower then s else trimPace s

def execSetpointChoice (q : QuarterNo) (s : State) : Host.Outcome State Fault Refusal := .next (chooseSetpoint s q.val)

/-- A setpoint above the upper bound comes down to it (R249). -/
def clampSetpoint (s : State) (q : Nat) : State :=
  let x := s.qpower q
  if x.setpoint ≤ upperBound s q then s else moveSetpoint s q (upperBound s q)

/-- The quarter stands above the lower bound of R239. -/
def aboveLower (s : State) (q : Nat) : Bool :=
  !s.fabric.lost.contains q && decide (min (lowerBound s q / 5 * 5) (upperBound s q) < (s.qpower q).setpoint)

/-- A quarter falls toward its lower bound. -/
def throttle (s : State) (q : Nat) : State :=
  if !aboveLower s q then s else
  moveSetpoint { s with power := { s.power with throttles := satAdd 32 s.power.throttles 1 } } q (min (lowerBound s q / 5 * 5) (upperBound s q))

/-- SLOW_THROTTLE: pacing in force for 20 us, or derating predicted. -/
def execSlowThrottle (q : QuarterNo) (s : State) : Host.Outcome State Fault Refusal :=
  let x := s.qpower q.val
  .next (if x.derateSoon || (match x.paceSince with | some t => decide (t + 20000 ≤ s.now) | none => false) then throttle s q.val else s)

/-- p_cell of R235 in mW, rounded down. -/
def cellPower (mv : Nat) : Nat := ((worstPower 1 mv - worstPower 0 mv) / 50).toNat

/-- The first hint that the Shank has not acted on is marked. -/
def markHint : List HintEntry → List HintEntry
  | [] => []
  | h :: l => if h.acted then h :: markHint l else { h with acted := true } :: l

/-- HINT_PHASE: the phase of a cell's first hint not yet acted on comes near; hints whose phase has ended go. -/
def hintPhase (s : State) (g : Nat) : State :=
  let s := s.modCell g (fun c => { c with hints := liveHints c.since c.hints })
  let q := quarterOf g
  match (s.cell g).hints.find? (fun h => !h.acted) with
  | none => s
  | some h =>
    let announced := cellPower (s.qpower q).setpoint * h.level / 255
    let s := if s.power.cap < s.power.devEst + announced then
        (allQuarters.filter (fun r => r != q)).foldl throttle s else s
    let s := s.modCell g (fun c => { c with hints := markHint c.hints })
    let x := s.qpower q
    let rise := hintRise s q
    if s.fabric.lost.contains q ∨ x.setpoint < 550 then s else
    let v := min (min ((x.setpoint + (rise - x.hintMv)) / 5 * 5) 900) (upperBound s q)
    moveSetpoint (s.setQpower q { x with hintMv := max x.hintMv rise }) q (max v (min x.setpoint (upperBound s q)))

def execHintPhase (g : CellNo) (s : State) : Host.Outcome State Fault Refusal := .next (hintPhase s g.val)

/-! ### The estimate and the cap (R241, R243, R248) -/

/-- Domains in the order of 0x2200:02, first priority first: 0 links, 1 memory, 2 compute. -/
def domains (code : Nat) : List Nat :=
  match code with
  | 0 => [0, 1, 2]
  | 1 => [0, 2, 1]
  | 2 => [1, 0, 2]
  | 3 => [1, 2, 0]
  | 4 => [2, 0, 1]
  | _ => [2, 1, 0]

/-- The quarters' estimates, mW. -/
def computeMw (s : State) : Nat := (allQuarters.map (fun q => (s.qpower q).estimate)).sum

/-- The domain draws more than its reserve and has power to give back: its traffic, or pacing and voltage above the lower
bounds; no domain is taken below its reserve. -/
def canGive (s : State) (d : Nat) : Bool :=
  if d = 0 then !s.power.linkLimited && decide (s.power.linkRes < s.power.linkMw)
  else if d = 1 then !s.power.memLimited && decide (s.power.memRes < s.power.memMw)
  else decide (shareOf s.power < computeMw s) && (!(nextToPace s).isEmpty || allQuarters.any (aboveLower s))

/-- What a domain gives first: compute is paced, and its voltage falls by SLOW_THROTTLE, or here where no cell can be paced. -/
def give (s : State) (d : Nat) : State :=
  if d = 0 then { s with power := { s.power with linkLimited := true } }
  else if d = 1 then { s with power := { s.power with memLimited := true } }
  else if (nextToPace s).isEmpty then allQuarters.foldl throttle s
  else raisePace s

/-- An episode of an estimate above the cap that the domains cannot mend. -/
def capExceeded (s : State) : State :=
  if s.power.capOver then s else
  raise { s with power := { s.power with capOver := true, capExceeded := satAdd 32 s.power.capExceeded 1 } } (.main gPower 2) 0 0

/-- The estimate above the cap: power is taken back in the reverse of the priority order, or CAP_EXCEEDED; with a cap below
the reserves, CAP_EXCEEDED in any case (R236). -/
def overCap (s : State) : State :=
  let t := if shareOf s.power < 0 then capExceeded s else s
  match (domains s.power.order).reverse.find? (canGive s) with
  | some d => give t d
  | none => capExceeded t

/-- The estimate at or below the cap; 2 % or more below, pacing and limits are released. -/
def underCap (s : State) : State :=
  let s := { s with power := { s.power with capOver := false } }
  if 100 * s.power.devEst ≤ 98 * s.power.cap then
    releasePace { s with power := { s.power with linkLimited := false, memLimited := false } } else s

/-- Quarter estimates of the interval. -/
def estimateQuarter (a : Activity) (s : State) (q : Nat) : State :=
  let x := s.qpower q
  let temps := leakTemps s q
  let raw := if s.fabric.lost.contains q then 0 else Config.quarterPower q (a.quarters.getD q []) x.setpoint temps
  let s := s.setQpower q { x with estimate := raw * x.c / 1024, sum := x.sum + raw }
  { s with power := { s.power with clusterMw := (List.range 4).foldl (fun t i =>
      put 0 t (4 * q + i) (Config.clusterPower (4 * q + i) (a.quarters.getD q []) x.setpoint (temps.getD i 1050))) s.power.clusterMw } }

/-- ESTIMATE_INTERVAL: 4 us. -/
def estimateInterval (s : State) (a : Activity) : State :=
  let s := applySettings s
  let s := allQuarters.foldl (estimateQuarter a) s
  let e := computeMw s + a.linkMw + a.memMw + a.fixedMw
  let w := (e :: s.power.window).take 250
  let hard := decide (25000000 < (w.take 249).sum + e)
  let start := hard && !s.power.hardPower
  let s := { s with power := { s.power with
    linkMw := a.linkMw, memMw := a.memMw, activity := a.quarters, devEst := e, window := w.take 249, highest := max s.power.highest (w.sum / 250), hardPower := hard
    hardCount := if start then satAdd 32 s.power.hardCount 1 else s.power.hardCount } }
  let s := if start then raise s (.main gPower 3) 0 0 else s
  let s := if s.power.cap < e then overCap s else if hard then { s with power := { s.power with capOver := false } } else underCap s
  if hard then setPace s (fun _ _ => 15) else trimPace s

def execEstimateInterval (a : Activity) (s : State) : Host.Outcome State Fault Refusal := .next (estimateInterval s a)

/-! ### Regulators (R234, R241) -/

/-- c_q within 0.90 to 1.25, one eighth of the way toward the ratio; EST_MISMATCH after eight checks outside 0.80 to 1.50. -/
def correct (s : State) (q mw : Nat) : State :=
  let x := s.qpower q
  let x0 := { x with sum := 0 }
  if x.sum = 0 then s.setQpower q x0 else
  let held := x.held && leafIsSet s.causes (.main gPower 1)
  let ratio := mw * 250 * 1024 / x.sum
  let out := decide (mw * 250 * 100 < 80 * x.sum ∨ 150 * x.sum < mw * 250 * 100)
  let n := if out then x.mismatch + 1 else 0
  if held then s.setQpower q { x0 with held := true, c := 1280, mismatch := n }
  else if 8 ≤ n then raise (s.setQpower q { x0 with held := true, c := 1280, mismatch := 0 }) (.main gPower 1) q 0
  else
    let c : Int := (x.c : Int) + ((ratio : Int) - x.c) / 8
    s.setQpower q { x0 with held := false, c := (max 922 (min 1280 c)).toNat, mismatch := n }

/-- One quarter regulator's answer; before the first setpoint the rail stands at its startup voltage (spec/14 R365). -/
def checkQuarter (s : State) (q : Nat) (r : RegulatorRead) : State :=
  if s.fabric.lost.contains q then s else
  let x := s.qpower q
  let far := if x.setpoint = 0 then decide (r.mv < 600 ∨ 750 < r.mv) else decide (x.setpoint + 30 < r.mv ∨ r.mv + 30 < x.setpoint)
  let x := { x with
    readMv := if r.valid then r.mv else x.readMv, readMa := if r.valid then r.ma else x.readMa
    noAnswer := if r.valid then 0 else x.noAnswer + 1
    bad := if r.valid && decide (x.setAt + 60000 ≤ s.now) && far then x.bad + 1 else 0 }
  let s := s.setQpower q x
  if (r.valid && (r.fault || decide (930 < r.mv))) || decide (3 ≤ x.noAnswer ∨ 3 ≤ x.bad) then loseQuarter s q
  else if r.valid then correct s q (r.mv * r.ma / 1000) else s.setQpower q { x with sum := 0 }

/-- The fixed rails with a PMBus address, in address order: number of the rail in R362's table, nominal mV. -/
def fixedRails : List (Nat × Nat) := [(4, 800), (5, 800), (6, 750), (14, 1050), (15, 500), (13, 1800)]

/-- FAULT is entered once. -/
def enterFaultOnce (s : State) : State := if s.dev.state = .fault then s else enterFault s

/-- One fixed regulator's answer, judged by the rail's limits of 3 % (spec/14 R362): a rail that fails moves the device to FAULT. That
these limits, and no 30 mV, bound a fixed rail is the model's reading (notes/assumptions/142). -/
def checkFixed (s : State) (i : Nat) (r : RegulatorRead) : State :=
  let f := fixedRails.getD i (0, 0)
  let far := decide (103 * f.2 < 100 * r.mv ∨ 100 * r.mv < 97 * f.2)
  let silent := if r.valid then 0 else lookup 0 s.power.railSilent i + 1
  let bad := if r.valid && far then lookup 0 s.power.railBad i + 1 else 0
  let s := { s with power := { s.power with railSilent := put 0 s.power.railSilent i silent, railBad := put 0 s.power.railBad i bad } }
  if (r.valid && r.fault) || decide (3 ≤ silent ∨ 3 ≤ bad) then
    enterFaultOnce (raise s (.main gPower 0) f.1 0) else s

/-- TELEMETRY_CHECK: 1 ms. -/
def execTelemetryCheck (quarters fixed : List RegulatorRead) (s : State) : Host.Outcome State Fault Refusal :=
  let s := (indexed (quarters.take 4)).foldl (fun s p => checkQuarter s p.1 p.2) s
  .next ((indexed (fixed.take 6)).foldl (fun s p => checkFixed s p.1 p.2) s)

/-! ### STANDBY and the trip (R250, R251) -/

/-- A cell through STANDBY: its store is retained, its registers, other memories and vector state are lost. -/
def standbyCell (c : CellState) : CellState :=
  { store := c.store, fence := c.fence, hangLimit := c.hangLimit, service := c.service, failures := c.failures, lastFault := c.lastFault,
    lastInfo := c.lastInfo, lastFail := c.lastFail, firstFail := c.firstFail, lastTest := c.lastTest, lastTestAt := c.lastTestAt,
    corrected := c.corrected, tested := c.tested, idleSince := c.idleSince }

/-- The quarters are gated: cells stop, jobs in flight are lost without a record, sensors must report again (R242). -/
def enterStandby (s : State) : State :=
  let s := (List.range 64).foldl (fun s g => s.modCell g standbyCell) s
  { s with
    jobs := []
    fabric := { s.fabric with counter := [], updates := [], barrier := [], lacer := [], awl := [], writer := [] }
    resil := { s.resil with lateOpen := [] }
    power := { s.power with pstate := 2, sleepAsked := none, valid := false, cold := true, predictions := 0, reported := [], model := [],
                            quarter := mapKeys {} s.power.quarter 4 (fun x => { x with paceLevel := 0, paceSince := none, hintMv := 0 }) } }

def anyActive (s : State) : Bool := s.ctxs.any (fun p => activeCtx p.2)

/-- A write of 2 to 0x2230:01. -/
def requestStandby (s : State) : State :=
  if !runtimeState s || anyActive s || s.dev.thermTrip then answer s wrongState else answer (enterStandby s) okCode

def execStandby (s : State) : Host.Outcome State Fault Refusal := .next (requestStandby s)

/-- A write of 3 to 0x2230:01: the device waits for both channels (spec/11 R299). -/
def requestSleep (s : State) : State :=
  if !runtimeState s || anyActive s || s.dev.thermTrip then answer s wrongState
  else answer { s with power := { s.power with sleepAsked := some s.now } } okCode

def execDeepSleep (s : State) : Host.Outcome State Fault Refusal := .next (requestSleep s)

def bothAsleep (s : State) : Bool := (s.chan 0).power == 1 && (s.chan 1).power == 1

/-- 100 ms without both channels in self-refresh (spec/11 R299). -/
def sleepAbandoned (s : State) : State :=
  match s.power.sleepAsked with
  | none => s
  | some t =>
    if s.now < t + 100000000 ∨ bothAsleep s then s
    else raise { s with power := { s.power with sleepAsked := none } } (.main gHmp 12) 0 0

def execSleepAbandoned (s : State) : Host.Outcome State Fault Refusal := .next (sleepAbandoned s)

/-- A trip in BOOT: it holds the reset, or the warm restart begins again after it (R250, spec/14 R367). -/
def tripInBoot (s : State) : State :=
  if s.dev.restartReason = 0 then { s with dev := { s.dev with heldInReset := true } }
  else { s with dev := { s.dev with restartHeld := true, heldReason := s.dev.restartReason } }

/-- The comparators trip at 115 degC (R250). -/
def doTrip (s : State) (i : Nat) : State :=
  if s.dev.thermTrip then s else
  let s := if s.dev.state = .boot then tripInBoot s else enterStandby s
  let s := { s with dev := { s.dev with thermTrip := true }, power := { s.power with trips := satAdd 32 s.power.trips 1 } }
  raise s (.main gThermal 4) i 0

/-! ### Sensors (R242, R249) -/

/-- The valid flag turns TRUE: figures are published, LOADs admitted, activations performed. -/
def becomeValid (s : State) : State :=
  if s.power.valid || !(List.range 26).all (fun i => s.power.reported.contains i) then s
  else launchHeld (admitLoading (reviewThermal { s with power := { s.power with valid := true } } false))

/-- A sensor's report is taken. -/
def takeReport (s : State) (i : Nat) (t : Int) : State :=
  { s with power := { s.power with
    sensor := put 0 s.power.sensor i t
    reported := if s.power.reported.contains i then s.power.reported else s.power.reported ++ [i]
    failing := s.power.failing.filter (fun j => j != i)
    model := if i < 16 ∧ !s.power.reported.contains i then put 1050 s.power.model i t else s.power.model } }

def sensorReport (s : State) (i : Nat) (t : Int) : State :=
  let s := takeReport s i t
  if 1150 ≤ t then doTrip s i
  else if s.power.pstate ≠ 0 then s
  else
    let s := becomeValid (reviewThermal s false)
    allQuarters.foldl clampSetpoint s

/-- SENSOR_REPORT; in 0.1 degC, two's complement. -/
def execSensorReport (i : SensorNo) (t : BitVec 16) (s : State) : Host.Outcome State Fault Refusal := .next (sensorReport s i.val t.toInt)

/-- TRIP: a sensor reads 115 degC or more. -/
def execTrip (i : SensorNo) (t : BitVec 16) (s : State) : Host.Outcome State Fault Refusal :=
  .next (if supplied s.dev && decide (1150 ≤ t.toInt) then doTrip (takeReport s i.val t.toInt) i.val else s)

/-- A sensor misses four reports. -/
def execSensorFail (i : SensorNo) (s : State) : Host.Outcome State Fault Refusal :=
  .next (if s.power.failing.contains i.val then s
    else reviewThermal (raise { s with power := { s.power with failing := s.power.failing ++ [i.val] } } (.main gThermal 1) i.val 0) false)

/-- FLOOR_HOLD_END: one second with every sensor at least 2 degC below the limit. -/
def holdEnd (s : State) : State :=
  match s.power.overFloor, s.power.coolSince with
  | some _, some t =>
    if s.now < t + 1000000000 ∨ !(overLimit s).isEmpty then s
    else publish { s with power := { s.power with overFloor := none } } false
  | _, _ => s

def execFloorHoldEnd (s : State) : Host.Outcome State Fault Refusal := .next (holdEnd s)

/-- THERMAL_PREDICTION: the model steps 1 ms ahead; COLD clears with the second prediction (R242). -/
def predict (s : State) : State :=
  let p := s.power
  -- every cluster's state is seeded by its sensor's first reading
  let seeded := (List.range 16).filter (fun i => p.reported.contains i)
  let m := seeded.foldl (fun t i => put 1050 t i (Config.thermalStep i (lookup 1050 p.model i) (lookup 0 p.clusterMw i))) p.model
  let n := if seeded.length = 16 then satAdd 32 p.predictions 1 else p.predictions
  let s := { s with power := { p with model := m, predictions := n, cold := decide (n < 2) } }
  allQuarters.foldl (fun s q => s.setQpower q { s.qpower q with
    derateSoon := (List.range 4).any (fun i => p.reported.contains (4 * q + i) && decide (1000 ≤ lookup 1050 m (4 * q + i))) }) s

def execThermalPrediction (s : State) : Host.Outcome State Fault Refusal := .next (predict s)

/-! ### Rail zones (R240, spec/01 R21, spec/10 R263) -/

/-- ZONE_GATE: four cells idle and unclaimed for 200 us, none reserved. -/
def gateZone (s : State) (z : Nat) : State :=
  let x := s.zone z
  if x.on && (zoneCells z).all (fun g => !isClaimed s g && !cellRuns s g && !isReserved s g && decide ((s.cell g).idleSince + 200000 ≤ s.now)) then
    s.setZone z { x with on := false } else s

def execZoneGate (z : ZoneNo) (s : State) : Host.Outcome State Fault Refusal := .next (gateZone s z.val)

/-- A claim held for its zone is decided; a Tacker's own replay starts, or goes to the Laster where the cell is taken. -/
def powerGoodClaim (s : State) (x : HeldClaim) : State :=
  if !x.replay then claimAt s x.laster x.cell x.job else
  match s.job? x.job with
  | none => s
  | some j =>
    if j.cancelled ∨ j.cells ≠ [x.cell] then s
    else if claimBusy s x.laster x.cell || atLimit s then sendNotice s x.laster (tackerSrc (tackerOf x.cell)) (.cellFault x.cell x.job false)
    else jobCommand ((s.modCell x.cell (fun c => { c with claim := some (x.laster, x.job) })).modJob x.job (fun j => { j with phase := .claimed }))
      (tackerOf x.cell) x.job

/-- ZONE_POWER_GOOD: held claims and tests proceed; the cells of a failed zone are tested, within the active-cell limit. -/
def zoneGood (s : State) (z : Nat) : State :=
  let x := s.zone z
  if !x.waking then s else
  let due := if x.failed then (zoneCells z).filter (fun g => decide ((s.cell g).service = 1)) else []
  if !due.isEmpty && decide (s.power.cellLimit < claimedCount s + due.length) then s else
  let s := s.setZone z { x with on := true, waking := false, held := [] }
  let s := due.foldl (fun s g => s.modCell g (fun c => { c with tackerClaim := true, service := 3, tested := false })) s
  let s := (zoneCells z).foldl (fun s g => s.modCell g (fun c => if c.forced && c.claim.isNone then { c with service := 3 } else c)) s
  x.held.foldl powerGoodClaim s

def execZonePowerGood (z : ZoneNo) (s : State) : Host.Outcome State Fault Refusal := .next (zoneGood s z.val)

/-- ZONE_FAIL: no power-good in time, or power-good lost: gated, its cells fenced, their jobs replayed. -/
def zoneFail (s : State) (z : Nat) : State :=
  let x := s.zone z
  if !x.on && !x.waking then s else
  let again := match x.firstFail with | some t => decide (s.now ≤ t + hour) | none => false
  let s := s.setZone z { x with
    on := false, waking := false, held := [], failed := true, retired := x.retired || (again && !x.failed)
    firstFail := some (if again then x.firstFail.getD s.now else s.now) }
  if x.failed then s else
  let s := x.held.foldl (fun s c => answerClaim s c.laster c.cell c.job false) s
  let s := (zoneCells z).foldl (fun s g =>
    let s := if (s.cell g).fence then s else fenceCell s g
    let s := s.modCell g (fun c => { endTackerClaim s.now c with service := if c.service = 4 || again then 4 else 1 })
    loseCell (raiseCell s g) g (tackerSrc (tackerOf g)) true) s
  cellsChanged s

def execZoneFail (z : ZoneNo) (s : State) : Host.Outcome State Fault Refusal := .next (zoneFail s z.val)

end Sys2Proof.Machine
end

