-- ==== Sys2Proof/Machine/Boot.lean ====
section
/-! DEFINITION. Resets and pins (spec/14 R361 to R369), warm restarts (spec/10 R266, spec/11 R300), boot and the choice of an
image (spec/13 R338 to R349, R352), updates (R350, R351), live activation (R354), attestation (R356, R357), the power states
that end in a restart (spec/09 R250, R251), and the scrubber (spec/10 R256 to R258). -/

namespace Sys2Proof.Machine

/-! ### Resets -/

/-- What no reset and no restart touches: flash, monotonic counters (spec/13 R340, R342). -/
def bootKept (b : Boot) : Boot := { flash := b.flash, rollLog := b.rollLog, leafLog := b.leafLog }

/-- Pins and clock of the device as they stand, everything else at reset. -/
def pinsKept (d : Dev) : Dev :=
  { porLow := d.porLow, resetLow := d.resetLow, refclk := d.refclk, testEn := d.testEn, goldenLow := d.goldenLow, railsOut := d.railsOut, railReset := d.railReset,
    tapInst := d.tapInst, tapBoundary := d.tapBoundary, tapBypass := d.tapBypass, state := .off }

/-- The channels' RESET_n pins stand (R361); the links are reset. -/
def pinsOfChan (c : Chan) : Chan := { resetLow := c.resetLow }
def chansWith (h : Hmp) (f : Chan → Chan) : Tab Chan := ([0, 1] : List Nat).foldl (fun t k => put {} t k (f (lookup {} h.chan k))) []

/-- POR_N asserted, a rail out of its limits or a stopped clock: everything volatile is lost, the relay released (R366 to R368). -/
def coldReset (s : State) : State :=
  { State.reset with
    pending := s.pending, free := s.free, dev := pinsKept s.dev, boot := bootKept s.boot
    hmp := { chan := chansWith s.hmp pinsOfChan } }

/-- The level that a trigger output drives, none while it is high-impedance: until POR_N is released, and from then on inactive outside a
pulse (spec/14 R372). -/
def trigPin (s : State) (n : Nat) : Option Bool :=
  if !supplied s.dev || s.dev.porLow then none else
  let x := s.trig n
  let on := match x.pulseUntil with | some t => decide (s.now < t) | none => false
  some (on == (x.polarity == 1))

/-- The xSPI pins are high-impedance: no image exists to run, and an external programmer may write the flash (spec/13 R349). -/
def xspiHighZ (s : State) : Bool := s.boot.noImage

/-- The device leaves the cold reset: BOOT with DC time 0. TEST_EN high keeps it in BOOT with code 0x8004 (R369). -/
def leaveCold (s : State) : State :=
  if !supplied s.dev then s else
  let d := { s.dev with state := .boot, dc := 0, thermTrip := false, heldInReset := false }
  if d.testEn then alRefuse { s with dev := d, boot := { s.boot with noImage := true } } 0x8004
  else { s with dev := d }

/-- POR_N governs while it is low; its release takes the rails as they stand (R364, R367). -/
def porAssert (s : State) : State := coldReset { s with dev := { s.dev with porLow := true, railReset := false } }
def porRelease (s : State) : State :=
  if !s.dev.porLow then s else leaveCold { s with dev := { s.dev with porLow := false } }

def execPorNAssert (s : State) : Host.Outcome State Fault Refusal := .next (porAssert s)
def execPorNRelease (s : State) : Host.Outcome State Fault Refusal := .next (porRelease s)

/-- RESET_N (R367): as the cold reset, but DC time, offset and drift settings and the trip latch stay. While POR_N is low or
the supplies are out, only the pin changes. -/
def resetAssert (s : State) : State :=
  let d := s.dev
  if !supplied d then { s with dev := { d with resetLow := true } } else
  let c := coldReset { s with dev := { d with resetLow := true } }
  { c with
    dev := { c.dev with state := .boot, dc := d.dc, dcOffset := d.dcOffset, drift := d.drift, driftAt := d.driftAt, driftBadAt := d.driftBadAt, dcSynced := d.dcSynced,
                        thermTrip := d.thermTrip, stateTime := s.now } }

def resetRelease (s : State) : State :=
  let d := s.dev
  { s with dev := { d with resetLow := false, heldInReset := supplied d && d.thermTrip } }

def execResetNAssert (s : State) : Host.Outcome State Fault Refusal := .next (resetAssert s)
def execResetNRelease (s : State) : Host.Outcome State Fault Refusal := .next (resetRelease s)

/-- A rail leaves its limits: as POR_N asserted (R366). How long that lasts, and that a boot takes the rails still out by R364, is the
model's reading (notes/assumptions/150). -/
def execSupplyOutOfLimits (r : Rail) (s : State) : Host.Outcome State Fault Refusal :=
  .next (coldReset { s with dev := { s.dev with
    railsOut := if s.dev.railsOut.contains r then s.dev.railsOut else s.dev.railsOut ++ [r], railReset := !s.dev.porLow } })

/-- A rail is within its limits again; with the last one the part leaves the reset that the rails held. -/
def supplyBack (s : State) (r : Rail) : State :=
  let out := s.dev.railsOut.filter (fun x => decide (x ≠ r))
  let back := supplied { s.dev with railsOut := out, railReset := s.dev.railReset && !out.isEmpty }
  let held := supplied s.dev
  let s := { s with dev := { s.dev with railsOut := out, railReset := s.dev.railReset && !out.isEmpty } }
  if back && !held then leaveCold s else s

def execSupplyInLimits (r : Rail) (s : State) : Host.Outcome State Fault Refusal :=
  .next (if s.dev.railsOut.contains r then supplyBack s r else s)
def execRefclkStop (s : State) : Host.Outcome State Fault Refusal := .next (coldReset { s with dev := { s.dev with refclk := false } })
def execRefclkStart (s : State) : Host.Outcome State Fault Refusal :=
  .next (if s.dev.refclk then s else leaveCold { s with dev := { s.dev with refclk := true } })

/-- The device is out of reset. -/
def powered (s : State) : Bool := supplied s.dev && !s.dev.resetLow && !s.dev.heldInReset

/-! ### Warm restarts (spec/10 R266, spec/11 R300) -/

/-- The parts of a channel that belong to its link. -/
def linkKept (c : Chan) : Chan :=
  { power := c.power, wckSync := c.wckSync, cbt := c.cbt, wckLevel := c.wckLevel, mr := c.mr, wfifo := c.wfifo, undefined := c.undefined,
    resetLow := c.resetLow, dq := c.dq }

/-- What of the field port is no object: the ESC, its sync unit and links. -/
def escKept (f : FieldPort) : FieldPort :=
  { esc := f.esc, ram := f.ram, links := f.links, syncEdges := f.syncEdges, eepromError := f.eepromError, latchLast := f.latchLast }

/-- The UNVERIFIED leaf stays set until the next entry to stage 0 (spec/13 R349). -/
def unverifiedKept (s : State) : Causes :=
  if s.boot.unverified then { leaf := put 0 [] gBoot 1, info := put 0 [] gBoot (lookup 0 s.causes.info gBoot) } else {}

/-- Every part of the device restarts; the field port, DC time, the bypass, the host link, the retained counters and the
retained digest stay. -/
def restartState (s : State) (reason : Nat) : State :=
  let d := s.dev
  alRefuse { State.reset with
    pending := s.pending, free := s.free
    dev := { pinsKept d with
      dc := d.dc, dcOffset := d.dcOffset, drift := d.drift, driftAt := d.driftAt, driftBadAt := d.driftBadAt, dcSynced := d.dcSynced, bypass := d.bypass,
      bypassPin := d.bypassPin, state := .boot, stateTime := s.now, restartReason := reason }
    field := escKept s.field
    hmp := { chan := chansWith s.hmp linkKept }
    resil := { unavailable := s.resil.unavailable, observed := s.resil.observed, count := s.resil.count, observing := s.resil.observing }
    causes := unverifiedKept s
    boot := { bootKept s.boot with retained := s.boot.retained, unverified := s.boot.unverified } } 0x8002

/-- A restart is held while THERM_TRIP_N is asserted (spec/09 R250). Where no image exists, only RESET_N and POR_N end the boot (spec/13
R349). -/
def startRestart (s : State) (reason : Nat) : State :=
  if !powered s || s.power.pstate == 3 || s.boot.noImage then s
  else if s.dev.thermTrip then { s with dev := { s.dev with restartHeld := true, heldReason := if s.dev.restartHeld then s.dev.heldReason else reason } }
  else restartState s reason

def execLockstepMismatch (s : State) : Host.Outcome State Fault Refusal := .next (startRestart s 1)
def execCobblerWatchdog (s : State) : Host.Outcome State Fault Refusal := .next (startRestart s 2)

/-- A write of 0x2605:03 (R270): TRUE restarts. -/
def writeWarm (s : State) (v : Nat) : State :=
  if !alwaysState s then answer s wrongState
  else if 1 < v then answer s outOfRange
  else if v = 0 then answer s okCode
  else startRestart (answer s okCode) 5

def execWarmRestart (v : Byte) (s : State) : Host.Outcome State Fault Refusal := .next (writeWarm s v.toNat)

/-- THERM_TRIP_N is released once every sensor has reported since the trip and reads below 100 degC; what it held goes on: a
reset, or the warm restart that ends the STANDBY of the trip (R250, R266, spec/14 R367). -/
def releaseTrip (s : State) : State :=
  let d := s.dev
  if !d.thermTrip || !(List.range 26).all (fun i => s.power.reported.contains i && decide (sensorRead s i < 1000)) then s
  else
    let s := { s with dev := { d with thermTrip := false, heldInReset := false, restartHeld := false } }
    if d.heldInReset || d.resetLow then s else startRestart s (if d.restartHeld then d.heldReason else 4)

def execTripRelease (s : State) : Host.Outcome State Fault Refusal := .next (releaseTrip s)

/-! ### DEEP SLEEP and RUN (spec/09 R251) -/

/-- DEEP SLEEP: contexts, queues, LPDDR6 and every object but the field port's are lost. The key latch stays, and UNVERIFIED (spec/13
R347, R349). -/
def enterSleep (s : State) : State :=
  { State.reset with
    pending := s.pending, free := s.free, dev := s.dev, field := s.field
    hmp := { chan := chansWith s.hmp (fun c => { power := 1, resetLow := c.resetLow }) }
    causes := unverifiedKept s
    resil := { unavailable := s.resil.unavailable, observed := s.resil.observed, count := s.resil.count, observing := s.resil.observing }
    boot := { bootKept s.boot with retained := s.boot.retained, latchOpen := s.boot.latchOpen, unverified := s.boot.unverified }
    power := { pstate := 3 } }

def sleepEntry (s : State) : State := if s.power.sleepAsked.isSome && bothAsleep s then enterSleep s else s

def execDeepSleepEntry (s : State) : Host.Outcome State Fault Refusal := .next (sleepEntry s)

/-- A write of 0 to 0x2230:01: out of STANDBY, or the wake from DEEP SLEEP, which goes on as a warm restart (R251, R352). -/
def requestRun (s : State) : State :=
  if s.power.pstate = 3 then
    let r := restartState s 0
    { r with boot := { r.boot with fastWake := true } }
  else if !runtimeState s || s.dev.thermTrip then answer s wrongState
  else if s.power.pstate = 2 then
    let s := { s with power := { s.power with pstate := 0, reported := [], valid := false, cold := true, predictions := 0, model := [] } }
    answer (allQuarters.foldl clampSetpoint s) okCode
  else answer { s with power := { s.power with sleepAsked := none } } okCode

def execRunRequest (s : State) : Host.Outcome State Fault Refusal := .next (requestRun s)

/-- A write of 0x2230:01. -/
def writePowerState (s : State) (v : Nat) : State :=
  match v with
  | 0 => requestRun s
  | 2 => requestStandby s
  | 3 => requestSleep s
  | _ => if runtimeState s then answer s outOfRange else answer s wrongState

/-! ### The external flash (spec/13 R342 to R344) -/

def flashByte (s : State) (a : Nat) : Byte := lookup 0xFF s.boot.flash a
def flashBytes (s : State) (a n : Nat) : List Byte := (List.range n).map (fun i => flashByte s (a + i))
/-- Slot 0 A, 1 B, 2 golden. -/
def slotBase (k : Nat) : Nat := 0x100000 + k * 0x800000

/-- Program or erase part of a slot that the device may write: A, B or the commit area; never the golden slot (R342). -/
def flashAllowed (a : Nat) : Bool := decide (a < 0x20000 ∨ (0x100000 ≤ a ∧ a < 0x1100000))
def flashWrite (s : State) (a : Nat) (l : List Byte) : State :=
  { s with boot := { s.boot with flash := (indexed l).foldl (fun m p => if flashAllowed (a + p.1) then put 0xFF m (a + p.1) p.2 else m) s.boot.flash } }
def flashErase (s : State) (a n : Nat) : State :=
  { s with boot := { s.boot with flash := s.boot.flash.filter (fun p => !(flashAllowed p.1 && decide (a ≤ p.1 ∧ p.1 < a + n))) } }

def digest (l : List Byte) : List Byte := padTo 32 (Config.shake256 l)
/-- Header digest (R343). -/
def headerDigest (h : List Byte) : List Byte := digest (h.take 1024)

/-- The counted commit records: position, record (R344). -/
def commitRecords (s : State) : List (Nat × List Byte) :=
  ((List.range 2048).map (fun i => (i, flashBytes s (64 * i) 64))).filter (fun p =>
    decide (hdrField p.2 0 4 = 0x4D434B51) && decide (BitVec.ofNat 32 (hdrField p.2 60 4) = crc32 (p.2.take 60)))

def topRecord (l : List (Nat × List Byte)) : Option (Nat × List Byte) :=
  l.foldl (fun a p => match a with | none => some p | some b => if hdrField b.2 12 4 < hdrField p.2 12 4 then some p else some b) none
/-- A slot's latest record. -/
def latestRecord (s : State) (k : Nat) : Option (Nat × List Byte) := topRecord ((commitRecords s).filter (fun p => decide (hdrField p.2 5 1 = k)))

def slotHeader (s : State) (k : Nat) : List Byte := flashBytes s (slotBase k) 4096

/-- Slot A or B is committed (R344). -/
def isCommitted (s : State) (k : Nat) : Bool :=
  match latestRecord s k with
  | none => false
  | some (_, r) =>
    let h := slotHeader s k
    decide (hdrField r 4 1 = 1 ∧ hdrField r 8 4 = hdrField h 8 4) && hdrBytes r 16 32 == headerDigest h

def recordBytes (kind slot seq count : Nat) (dig : List Byte) : List Byte :=
  let b := [0x51, 0x4B, 0x43, 0x4D, BitVec.ofNat 8 kind, BitVec.ofNat 8 slot, 0, 0] ++ leBytes 4 seq ++ leBytes 4 count ++ padTo 32 dig ++ List.replicate 12 0
  b ++ leBytes 4 (crc32 b).toNat

/-- The count that the next record takes, and the sector in use (R344). -/
def recordCount (s : State) : Nat := match topRecord (commitRecords s) with | some p => hdrField p.2 12 4 + 1 | none => 1
def recordSector (s : State) : Nat := match topRecord (commitRecords s) with | some p => p.1 / 1024 | none => 0

/-- Append a record; a full sector is compacted into the other first (R344). -/
def appendRecord (s : State) (kind slot seq : Nat) (dig : List Byte) : State :=
  let count := recordCount s
  let sector := recordSector s
  let free := (List.range 1024).find? (fun i => (flashBytes s (65536 * sector + 64 * i) 64).all (· == 0xFF))
  match free with
  | some i => flashWrite s (65536 * sector + 64 * i) (recordBytes kind slot seq count dig)
  | none =>
    let other := 1 - sector
    let keep := (([0, 1] : List Nat).filterMap (latestRecord s)).map (·.2)
    let s := flashErase s (65536 * other) 65536
    let s := (indexed keep).foldl (fun s p => flashWrite s (65536 * other + 64 * p.1) p.2) s
    let s := flashErase s (65536 * sector) 65536
    flashWrite s (65536 * other + 64 * keep.length) (recordBytes kind slot seq count dig)

/-! ### Checking an image (R346) -/

/-- Reasons of R346 on a copy: 1 accepted, or the first check that fails. `fast` skips 4 and 5 (R352). -/
def shapeOk (h : List Byte) (n : Nat) : Bool :=
  let len := hdrField h 12 4
  decide (h.length = 4096 ∧ hdrField h 0 4 = 0x57464B51 ∧ hdrField h 4 2 = 1 ∧ 4096 ≤ len ∧ len ≤ 6291456 ∧ len % 4096 = 0 ∧ n = len) &&
  decide (hdrField h 6 2 < 2 ∧ hdrField h 19 1 = 0) && (hdrBytes h 196 828).all (· == 0) && (hdrBytes h 3844 252).all (· == 0) &&
  (List.range 4).all (fun i => decide (hdrField h (32 + 8 * i) 4 + hdrField h (36 + 8 * i) 4 ≤ len))

def imageReason (rollback : Nat) (fast : Bool) (h body : List Byte) : Nat :=
  if !shapeOk h body.length then 3
  else if hdrField h 16 2 ≠ 0x6440 ∨ hdrField h 18 1 ≠ 0xB1 then 7
  else if !fast && !(digest body == hdrBytes h 64 32 &&
      digest ((body.drop (hdrField h 32 4)).take (hdrField h 36 4)) == hdrBytes h 96 32) then 4
  else if !fast && !(digest (hdrBytes h 128 68) == padTo 32 Config.fusedRoot &&
      Config.xmssVerify (hdrBytes h 128 68) (hdrBytes h 1024 2820) (h.take 1024)) then 5
  else if hdrField h 8 4 < rollback then 6
  else 1

/-- Copy of a candidate: header and LENGTH bytes of body, no more than the largest body. -/
def candidate (s : State) (k : Nat) : List Byte × List Byte :=
  let h := slotHeader s k
  (h, flashBytes s (slotBase k + 4096) (min (hdrField h 12 4) 6291456))

/-- Candidates in order (R345). -/
def candidates (s : State) (goldenLow : Bool) : List Nat :=
  if goldenLow then [2] else
  let a := isCommitted s 0
  let b := isCommitted s 1
  let ab := if hdrField (slotHeader s 0) 8 4 < hdrField (slotHeader s 1) 8 4 then [1, 0] else [0, 1]
  ab.filter (fun k => if k = 0 then a else b) ++ [2]

/-- One candidate at stage 0. -/
def judge (s : State) (readOk : List Bool) (fast : Option Nat) (k : Nat) : Nat :=
  if !readOk.getD k true then 8
  else
    let c := candidate s k
    imageReason s.boot.rollback (fast == some k) c.1 c.2

/-! ### Stage 0 (R345 to R349, R352, R355) -/

/-- The first candidate may take the fast path on a wake. -/
def fastCandidate (s : State) (l : List Nat) (readOk : List Bool) : Option Nat :=
  match s.boot.retained, l.head? with
  | some (slot, hd, whole), some k =>
    if s.boot.fastWake && k == slot && readOk.getD k true then
      let c := candidate s k
      if headerDigest c.1 == hd && digest (c.1 ++ c.2) == whole then some k else none
    else none
  | _, _ => none

/-- Reasons of the candidates up to the one that passes. -/
def judgeAll (s : State) (readOk : List Bool) (fast : Option Nat) : List Nat → List (Nat × Nat)
  | [] => []
  | k :: l =>
    let r := judge s readOk fast k
    (k, r) :: (if r = 1 then [] else judgeAll s readOk fast l)

/-- Harts of a quarter's Tackers. -/
def tackerHarts (q : Nat) : List Nat := (List.range 4).map (fun i => 16 + 4 * q + i)

/-- Harts that wait in stage 0: hart 0, those of the Lasters, and those of the quarters whose link has trained (R338). -/
def waitingHarts (s : State) : List Nat := List.range 5 ++ ((allQuarters.filter (fun q => s.fabric.linkUp.contains q)).map tackerHarts).flatten

/-- Run the image of slot k: it stands in the running-image buffer, with its slot, SEQ and key fields, and the harts that wait are
released. -/
def runImage (s : State) (k : Nat) : State :=
  let c := candidate s k
  let h := c.1
  let b := (waitingHarts s).foldl (releaseHart h c.2) s.boot
  { s with boot := { b with
    slot := k, seq := hdrField h 8 4, header := h, body := c.2, arith := BitVec.ofNat 16 (hdrField h 24 2), interp := BitVec.ofNat 16 (hdrField h 26 2)
    released := true } }

/-- A quarter's rail is out of its limits. -/
def quarterRailOut (s : State) (q : Nat) : Bool := s.dev.railsOut.any (fun r => railNumber r == q)

/-- A quarter's link to the I/O die trains in BOOT, and its Tacker harts start stage 0, where they wait for hart 0 (R338). A quarter rail
out of its limits then fails its check, and the quarter is lost (spec/14 R364). -/
def execLinkTrained (q : QuarterNo) (s : State) : Host.Outcome State Fault Refusal :=
  .next (if s.dev.state ≠ .boot ∨ s.fabric.linkUp.contains q.val ∨ quarterRailOut s q.val then s
    else
      let s := { s with fabric := { s.fabric with linkUp := s.fabric.linkUp ++ [q.val] } }
      if s.boot.released then { s with boot := (tackerHarts q.val).foldl (releaseHart s.boot.header s.boot.body) s.boot } else s)

def measureBoot (s : State) : State :=
  let b := s.boot
  let s := measure s 0 Config.stage0Digest
  let s := measure s 1 (leBytes 1 b.slot ++ leBytes 4 b.seq ++ headerDigest b.header ++ leBytes 4 b.rollback)
  let s := measure s 2 (leBytes 1 (if s.dev.goldenLow then 0 else 1) ++ leBytes 4 b.reasons.toNat)
  measure s 3 (leBytes 1 (if b.latchOpen then 1 else 0))

/-- A fully checked image starts: latch open, counter raised, the digest retained. -/
def runChecked (s : State) (k : Nat) (fast : Bool) : State :=
  let c := candidate s k
  let floor := hdrField c.1 20 4
  let s := runImage s k
  { s with boot := { s.boot with
    latchOpen := true, fastPath := fast, rollLog := s.boot.rollLog.raiseTo floor
    retained := some (k, headerDigest c.1, digest (c.1 ++ c.2)) } }

/-- Every candidate failed: the first-selected image runs unverified, or no image exists (R349). -/
def runUnverified (s : State) (judged : List (Nat × Nat)) : State :=
  match judged.find? (fun p => decide (p.2 ≠ 8 ∧ p.2 ≠ 3)) with
  | some p =>
    let s := runImage s p.1
    raise { s with boot := { s.boot with unverified := true, retained := none } } (.main gBoot 0) s.dev.restartReason 0
  | none => alRefuse { s with boot := { s.boot with noImage := true, retained := none } } 0x8004

def stage0 (s : State) (goldenLow : Bool) (readOk : List Bool) : State :=
  if !powered s || s.dev.thermTrip || s.dev.state != .boot || s.boot.released || s.boot.noImage then s else
  let s := { s with dev := { s.dev with goldenLow := goldenLow }, causes := dropLeaves s.causes (groupNo gBoot) 1
                    boot := { s.boot with unverified := false, reason := s.dev.restartReason } }
  let l := candidates s goldenLow
  let fast := fastCandidate s l readOk
  let judged := judgeAll s readOk fast l
  let reasonOf := fun (k : Nat) =>
    match judged.find? (fun p => p.1 == k) with
    | some p => p.2
    | none => if k < 2 && !isCommitted s k then 2 else 0
  let s := { s with boot := { s.boot with
    reasons := BitVec.ofNat 32 (reasonOf 0 + 256 * reasonOf 1 + 65536 * reasonOf 2)
    seqs := ([0, 1, 2] : List Nat).foldl (fun t k => put 0 t k (if readOk.getD k true && decide (hdrField (slotHeader s k) 0 4 = 0x57464B51) then hdrField (slotHeader s k) 8 4 else 0)) []
    committed := (if isCommitted s 0 then 1 else 0) + (if isCommitted s 1 then 2 else 0) } }
  let s := if judged.any (fun p => decide (p.2 ≠ 1)) then raise s (.main gBoot 3) s.dev.restartReason 0 else s
  let s := match judged.find? (fun p => decide (p.2 = 1)) with
    | some p => runChecked s p.1 (fast == some p.1)
    | none => runUnverified s judged
  if !s.boot.released then s else
  let s := if s.boot.slot = 2 then raise { s with boot := { s.boot with goldenUsed := true } } (.main gBoot 1) s.dev.restartReason 0 else s
  measureBoot { s with boot := { s.boot with fastWake := false } }

def execStage0Entry (goldenLow : Bool) (readOk : List Bool) (s : State) : Host.Outcome State Fault Refusal := .next (stage0 s goldenLow readOk)

/-- The bit-exactness key (spec/04 R102). -/
def exactKey (s : State) : Nat := at_ 0xB1 56 + at_ 1 48 + at_ s.boot.arith.toNat 32 + at_ s.boot.interp.toNat 16

/-- The AL request held during BOOT is carried out: from INIT the master reaches PREOP only (spec/12 R301, R324, R325). -/
def carryHeld (s : State) : State :=
  let fault := decide (s.dev.state = .fault)
  let t := { s with dev := { s.dev with alHeld := none } }
  match s.dev.alHeld with
  | none => s
  | some .init => { t with dev := { t.dev with alError := t.dev.alError && fault } }
  | some .preop => { t with dev := { t.dev with al := .preop, alError := t.dev.alError && fault } }
  | some .bootstrap => alRefuse t 0x0013
  | some _ => alRefuse t (if fault then 0x8001 else 0x0011)

/-- A fixed rail out of its limits at boot leads to FAULT (spec/14 R364). -/
def fixedRailOut (s : State) : State :=
  match s.dev.railsOut.find? (fun r => decide (4 ≤ railNumber r)) with
  | some r => enterFaultOnce (raise s (.main gPower 0) (railNumber r) 0)
  | none => s

/-- BOOT_COMPLETE: regulators take their output limit (spec/09 R248, spec/14 R363), untrained quarters are lost, a fixed rail out of its
limits leads to FAULT (spec/14 R364), CONFIG is entered, a held PREOP is carried out, the port reads NONE, and the
restart's leaves are set (spec/12 R325, spec/11 R300, spec/13 R338). -/
def bootComplete (s : State) : State :=
  if !powered s || s.dev.thermTrip || s.dev.state != .boot || !s.boot.released then s else
  let reason := s.dev.restartReason
  let s := measure s 4 (leBytes 8 (exactKey s))
  let s := { s with causes := dropLeaves s.causes (groupNo gField) 4 }
  let s := { s with dev := { s.dev with restartReason := 0, ctlFresh := true }, hmp := { s.hmp with negState := 0 } }
  let s := setDevState s .config
  let s := if reason = 0 then s else raise s (.main gBoot 2) reason 0
  let s := if reason = 3 then raise s (.main gFw 3) 0 0 else s
  let s := allQuarters.foldl (fun s q => if s.fabric.linkUp.contains q then s.setQpower q { s.qpower q with limitMv := 900 } else loseQuarter s q) s
  let s := fixedRailOut s
  carryHeld s

def execBootComplete (s : State) : Host.Outcome State Fault Refusal := .next (bootComplete s)

/-! ### Updates (R350, R351) -/

/-- The slot an update writes. -/
def updateTarget (s : State) : Nat :=
  let b := s.boot
  if b.slot = 0 then 1 else if b.slot = 1 then 0
  else
    match isCommitted s 0, isCommitted s 1 with
    | false, false => 0
    | true, false => 1
    | false, true => 0
    | true, true => if hdrField (slotHeader s 0) 8 4 < hdrField (slotHeader s 1) 8 4 then 0 else 1

def updateFailed (s : State) (why : Nat) : State :=
  { s with boot := { s.boot with step := 8, failure := why, upd := none } }

/-- An image fails a check of R346 outside stage 0 too: SLOT_REJECTED. -/
def slotRejected (s : State) : State := raise s (.main gBoot 3) s.boot.reason 0

/-- Steps 1 and 2: the image in the check buffer passes, and the erase of the target begins; else the failure. From the erase on
STANDBY refuses the steps. That an image of which a word could not be read fails with reason 8 is the model's choice
(notes/assumptions/151). -/
def beginUpdate (s : State) (image : List Byte) (whole foe : Bool) : State :=
  let h := image.take 4096
  let body := (image.drop 4096).take (hdrField h 12 4)
  let r := if !whole then 8 else imageReason s.boot.rollback false h body
  let s := { s with boot := { s.boot with step := 1, failure := 0 } }
  if r ≠ 1 then slotRejected (updateFailed s r)
  else if hdrField h 8 4 ≤ s.boot.seq then updateFailed s 17
  else if asleep s then updateFailed s 16
  else
    let t := updateTarget s
    let s := flashErase s (slotBase t) 0x800000
    { s with boot := { s.boot with step := 2, upd := some ⟨h ++ body, t, foe⟩ } }

/-- A write of 0x2702:01: the image lies in LPDDR6 under the host owner tag. -/
def writeUpdate (s : State) (v : Nat) : State :=
  if !setupState s then answer s wrongState
  else if v ≠ 1 then answer s outOfRange
  else if s.boot.upd.isSome then answer s refusedCode
  else
    let n := min s.boot.updLen 6295552
    let l := (List.range n).map (fun i =>
      let a := s.boot.updAddr + i
      if ownerTag s a = 0xFFFE ∧ a < lpddrSize then readByte s.fabric.lpddr a else 0)
    let bad := badIn s s.boot.updAddr n
    answer (beginUpdate (bad.foldl (fun s a => memUncorrectable s 0 a) s) l (bad.isEmpty && !lostIn s s.boot.updAddr n) false) okCode

def execUpdate (v : Byte) (s : State) : Host.Outcome State Fault Refusal := .next (writeUpdate s v.toNat)

/-- The committed bits and SEQ figures follow the flash. -/
def refreshSlots (s : State) : State :=
  { s with boot := { s.boot with
    seqs := ([0, 1, 2] : List Nat).foldl (fun t k => put 0 t k (if hdrField (slotHeader s k) 0 4 = 0x57464B51 then hdrField (slotHeader s k) 8 4 else 0)) []
    committed := (if isCommitted s 0 then 1 else 0) + (if isCommitted s 1 then 2 else 0) } }

/-- FLASH_OPERATION_DONE: the step in progress takes effect, and the next begins; in STANDBY it fails (R350). -/
def flashDone (s : State) (ok : Bool) : State :=
  match s.boot.upd with
  | none => s
  | some u =>
    let enter := fun (s : State) (n : Nat) => { s with boot := { s.boot with step := n } }
    let h := u.image.take 4096
    if !ok || asleep s then updateFailed s 16
    else match s.boot.step with
      | 2 => enter s 3
      | 3 => enter (flashWrite s (slotBase u.target) u.image) 4
      | 4 => if flashBytes s (slotBase u.target) u.image.length ≠ u.image then updateFailed s 16 else enter s 5
      | 5 =>
        let s := appendRecord s 1 u.target (hdrField h 8 4) (headerDigest h)
        let s := refreshSlots { s with boot := { s.boot with retained := none } }
        if (hdrField h 6 2).testBit 0 then enter s 6 else { s with boot := { s.boot with step := 7, upd := none } }
      | 6 =>
        let o := 1 - u.target
        let g := slotHeader s o
        let s := refreshSlots (appendRecord s 2 o (hdrField g 8 4) (headerDigest g))
        { s with boot := { s.boot with step := 7, upd := none } }
      | _ => s

/-- An FoE transfer ends with its update: the answer is an acknowledgement or error 0x800B. -/
def foeEnd (s0 s : State) : State :=
  match s0.boot.upd with
  | some u =>
    if u.foe && s.boot.upd.isNone then
      { s with field := { s.field with foe := none, ansCode := if s.boot.step = 8 then 0x800B else 0, ansData := [], ansBusy := false } }
    else s
  | none => s

def execFlashOperationDone (ok : Bool) (s : State) : Host.Outcome State Fault Refusal := .next (foeEnd s (flashDone s ok))

/-! ### Live activation (R354) -/

/-- The committed image that is not the running one. -/
def committedNew (s : State) : Option Nat :=
  (([0, 1] : List Nat).filter (fun k => k != s.boot.slot && isCommitted s k && decide (s.boot.seq < hdrField (slotHeader s k) 8 4))).head?

/-- The new image leaves Cobbler and the bit-exactness key as they are. -/
def sameCore (a b : List Byte) : Bool :=
  hdrBytes a 96 32 == hdrBytes b 96 32 && hdrBytes a 24 8 == hdrBytes b 24 8

def writeActivation (s : State) (v : Nat) : State :=
  if !setupState s then answer s wrongState
  else if v ≠ 1 then answer s outOfRange
  else
    let refuse := answer { s with boot := { s.boot with activation := 4 } } refusedCode
    if s.boot.activation = 1 then answer s refusedCode else
    match committedNew s with
    | none => refuse
    | some k =>
      let h := slotHeader s k
      if !s.boot.latchOpen || s.boot.upd.isSome || !sameCore h s.boot.header then refuse
      else
        let c := candidate s k
        if imageReason s.boot.rollback false c.1 c.2 ≠ 1 then answer (slotRejected { s with boot := { s.boot with activation := 3 } }) refusedCode
        else
          let s := measure s 5 (headerDigest h)
          answer (activateNext { s with boot := { s.boot with
            activation := 1, activating := List.range 20, nextSlot := k, nextSeq := hdrField h 8 4, nextHeader := h, nextBody := c.2 } }) okCode

def execLiveActivation (v : Byte) (s : State) : Host.Outcome State Fault Refusal := .next (writeActivation s v.toNat)

/-! ### Attestation (R356, R357) -/

/-- A write of 0x2710:01. -/
def writeNonce (s : State) (l : List Byte) : State :=
  if !alwaysState s then answer s wrongState
  else if l.length ≠ 32 then answer s 0x06070010
  else answer { s with boot := { s.boot with nonce := some l } } okCode

def execNonce (data : List Byte) (s : State) : Host.Outcome State Fault Refusal := .next (writeNonce s data)

/-- The quote's bytes but the signature. -/
def quoteHead (s : State) (nonce : List Byte) : List Byte :=
  let b := s.boot
  [0x51, 0x4B, 0x51, 0x54] ++ leBytes 2 1 ++ leBytes 2 ((if b.truncated then 1 else 0) + (if b.slot = 2 then 2 else 0)) ++
  leBytes 4 b.leaf ++ leBytes 4 b.entries ++ padTo 32 nonce ++ padTo 32 b.chain ++ leBytes 8 s.now ++ leBytes 8 (exactKey s) ++
  leBytes 4 Config.serialNumber.toNat

/-- The identity key, unwrapped under the key that the device secret gives: behind the open latch alone (R347, R356). -/
def identitySecret : List Byte := Config.unwrap (Config.wrappingKey Config.deviceSecret) Config.wrappedIdentity

/-- A read of 0x2710:02: the leaf is spent before the signature leaves; none without a nonce, a leaf or the open latch. -/
def readQuote (s : State) : State × List Byte :=
  match s.boot.nonce with
  | none => (answer s refusedCode, [])
  | some n =>
    if !s.boot.latchOpen || decide (65536 ≤ s.boot.leaf) then (answer s refusedCode, [])
    else
      let head := quoteHead s n
      let q := head ++ padTo 2692 (Config.xmssSign identitySecret s.boot.leaf head)
      (answer { s with boot := { s.boot with leafLog := s.boot.leafLog.push (s.boot.leaf + 1), nonce := none, quote := q } } okCode, q)

/-- QUOTE: the answer stands in the field port's answer data. -/
def execQuote (s : State) : Host.Outcome State Fault Refusal :=
  .next (if !alwaysState s then answer s wrongState else
    let r := readQuote s
    { r.1 with field := { r.1.field with ansCode := r.1.dev.answer, ansData := r.2 } })

/-! ### JTAG (spec/14 R369) -/

/-- The TAP: 0 BYPASS, 1 SAMPLE/PRELOAD, 2 EXTEST; any other instruction is BYPASS. -/
def tapStep (d : Dev) : TapOp → Dev
  | .bypass tdi => { d with tapInst := 0, tapBypass := tdi }
  | .samplePreload b => { d with tapInst := 1, tapBoundary := b }
  | .extest => { d with tapInst := 2 }
  | .other => { d with tapInst := 0, tapBypass := false }
  | .trst => { d with tapInst := 0, tapBypass := false }

def execTapInstruction (op : TapOp) (s : State) : Host.Outcome State Fault Refusal := .next { s with dev := tapStep s.dev op }

/-! ### The scrubber (spec/10 R256 to R258, spec/11 R290) -/

/-- Address space of a scrubbed word and its address: 0 LPDDR6, 1 map store, 2 staging, 3 retained, 4 firmware SRAM,
16 + 8 g + m memory m of cell g. -/
def placeKey : ScrubPlace → Nat × Nat
  | .lpddr a => (0, a.toNat)
  | .mapStore q a => (1, q.val * 33554432 + a.toNat)
  | .staging ch a => (2, ch.val * 16777216 + a.toNat)
  | .retained a => (3, a.toNat)
  | .firmware a => (4, a.toNat)
  | .cell g m a => (16 + 8 * g.val + m.val, a.toNat)

/-- A word corrected in two consecutive cycles raises STICKY (R258). -/
def sticky (s : State) (p : ScrubPlace) : State :=
  let k := placeKey p
  let r := s.resil
  let again := r.fixedLast.contains k
  let s := { s with resil := { r with fixedNow := if r.fixedNow.contains k then r.fixedNow else r.fixedNow ++ [k] } }
  if !again then s
  else if k.1 = 0 then raise s (.main gMem 2) (ownerTag s k.2).toNat k.2 else raise s (.main gSram 2) 0 k.2

def scrubFixed (s : State) (p : ScrubPlace) : State :=
  let s := match p with
    | .cell g m _ => stitchEvent s g.val (.corrected (if m.val = 0 then 0 else if m.val = 1 then 1 else 2))
    | .lpddr a => correctedLpddr s (ownerTag s a.toNat).toNat a.toNat
    | .staging ch a => (correctedSram s (placeKey p).2).modChan ch.val (fun c => { c with fixes := (c.fixes ++ [a.toNat]).dedup })
    | _ => correctedSram s (placeKey p).2
  sticky s p

def scrubBad (s : State) (p : ScrubPlace) : State :=
  match p with
  | .cell g m a => stitchEvent s g.val (.uncorrectable m a)
  | .mapStore q a =>
    let k := q.val * 33554432 + a.toNat
    if s.fabric.bad.contains (1, k) then s else memUncorrectable { s with fabric := { s.fabric with bad := s.fabric.bad ++ [(1, k)] } } 1 k
  | .lpddr a =>
    if s.fabric.bad.contains (0, a.toNat) then s
    else memUncorrectable { s with fabric := { s.fabric with bad := s.fabric.bad ++ [(0, a.toNat)] } } 0 a.toNat
  | .staging ch a => if stagingBad (s.chan ch.val) a.toNat then s else stagingStop (scrubStaging s ch.val a.toNat) ch.val a.toNat
  | .retained _ => startRestart (count2601 { s with boot := { s.boot with retained := none } } 6 1) 3
  | .firmware _ => startRestart (count2601 s 6 1) 3

def scrub (s : State) (p : ScrubPlace) : ScrubResult → State
  | .clean => s
  | .corrected => scrubFixed s p
  | .uncorrectable => scrubBad s p

def execScrubRead (p : ScrubPlace) (r : ScrubResult) (s : State) : Host.Outcome State Fault Refusal := .next (scrub s p r)

end Sys2Proof.Machine
end

