-- ==== Sys2Proof/Machine/Objects.lean ====
section
/-! DEFINITION. The object dictionary as the tables of the chapters list it: type, access, class, mapping and range of each
entry (spec/12 R315 to R336, spec/07 R163, R168, R186, spec/08 R198, spec/09 R252, spec/10 R270, spec/11 R295, spec/13 R358),
subindex 0 (spec/00 R376), and the value each entry holds. -/

namespace Sys2Proof.Machine

/-- Class of a writable entry (spec/12 R329); `own`: by the value written. -/
inductive OdClass where
  | configuration | setUp | runtime | always | own
  deriving DecidableEq, Repr

/-- One row: indices, subindices, type, access, class, mapping (0 none, 1 TxPDO, 2 RxPDO), range. -/
structure OdRow where
  lo : Nat
  hi : Nat
  subLo : Nat
  subHi : Nat
  typ : OdType
  acc : OdAccess
  cls : OdClass := .always
  mapping : Nat := 0
  range : Option (Int × Int) := none
  deriving DecidableEq, Repr

def u8 : OdType := .unsigned 1
def u16 : OdType := .unsigned 2
def u32 : OdType := .unsigned 4
def u64 : OdType := .unsigned 8

/-- Objects of this chapter's communication area (R333, R334). -/
def odComm : List OdRow := [
  ⟨0x1000, 0x1000, 0, 0, u32, .const, .always, 0, none⟩,
  ⟨0x1001, 0x1001, 0, 0, u8, .ro, .always, 0, none⟩,
  ⟨0x1008, 0x1008, 0, 0, .visible 11, .const, .always, 0, none⟩,
  ⟨0x1009, 0x1009, 0, 0, .visible 2, .const, .always, 0, none⟩,
  ⟨0x100A, 0x100A, 0, 0, .visible 65536, .ro, .always, 0, none⟩,
  ⟨0x1018, 0x1018, 1, 3, u32, .const, .always, 0, none⟩,
  ⟨0x1018, 0x1018, 4, 4, u32, .ro, .always, 0, none⟩,
  ⟨0x1600, 0x1607, 0, 0, u8, .rw, .configuration, 0, some (0, 64)⟩,
  ⟨0x1600, 0x1607, 1, 64, u32, .rw, .configuration, 0, none⟩,
  ⟨0x1A00, 0x1A1F, 0, 0, u8, .rw, .configuration, 0, some (0, 64)⟩,
  ⟨0x1A00, 0x1A1F, 1, 64, u32, .rw, .configuration, 0, none⟩,
  ⟨0x1C00, 0x1C00, 1, 4, u8, .const, .always, 0, none⟩,
  ⟨0x1C12, 0x1C12, 0, 0, u8, .rw, .configuration, 0, some (0, 8)⟩,
  ⟨0x1C12, 0x1C12, 1, 8, u16, .rw, .configuration, 0, none⟩,
  ⟨0x1C13, 0x1C13, 0, 0, u8, .rw, .configuration, 0, some (0, 32)⟩,
  ⟨0x1C13, 0x1C13, 1, 32, u16, .rw, .configuration, 0, none⟩,
  ⟨0x1C32, 0x1C33, 1, 1, u16, .rw, .configuration, 0, none⟩,
  ⟨0x1C32, 0x1C33, 2, 2, u32, .ro, .always, 0, none⟩,
  ⟨0x1C32, 0x1C33, 3, 3, u32, .rw, .configuration, 0, none⟩,
  ⟨0x1C32, 0x1C33, 4, 4, u16, .const, .always, 0, none⟩,
  ⟨0x1C32, 0x1C33, 5, 6, u32, .const, .always, 0, none⟩,
  ⟨0x1C32, 0x1C33, 0x0C, 0x0C, u16, .ro, .always, 0, none⟩,
  ⟨0x1C32, 0x1C33, 0x20, 0x20, .boolean, .ro, .always, 0, none⟩]

/-- Words, device state, field port, cause tree (R331, R335, spec/11 R295). -/
def odDevice : List OdRow := [
  ⟨0x2000, 0x2000, 0, 0, u16, .rw, .always, 2, none⟩,
  ⟨0x2001, 0x2001, 0, 0, u16, .ro, .always, 1, none⟩,
  ⟨0x2010, 0x2010, 1, 3, u8, .ro, .always, 0, none⟩,
  ⟨0x2010, 0x2010, 4, 4, u16, .ro, .always, 0, none⟩,
  ⟨0x2010, 0x2010, 5, 5, u64, .ro, .always, 0, none⟩,
  ⟨0x2020, 0x2020, 1, 1, u8, .rw, .configuration, 0, some (0, 1)⟩,
  ⟨0x2020, 0x2020, 2, 2, u32, .rw, .always, 0, none⟩,
  ⟨0x2020, 0x2020, 3, 3, u32, .ro, .always, 0, none⟩,
  ⟨0x2020, 0x2020, 4, 4, u8, .ro, .always, 0, none⟩,
  ⟨0x2020, 0x2020, 5, 5, .boolean, .wo, .always, 0, none⟩,
  ⟨0x2020, 0x2020, 6, 6, .boolean, .ro, .always, 0, none⟩,
  ⟨0x2020, 0x2020, 7, 0x0B, u64, .ro, .always, 1, none⟩,
  ⟨0x2020, 0x2020, 0x0C, 0x0C, u8, .ro, .always, 0, none⟩,
  ⟨0x2100, 0x2100, 1, 1, u64, .ro, .always, 0, none⟩,
  ⟨0x2100, 0x2100, 2, 2, u64, .rw, .always, 0, none⟩,
  ⟨0x2101, 0x2111, 1, 2, u64, .rw, .always, 0, none⟩,
  ⟨0x2101, 0x2111, 3, 3, u64, .ro, .always, 0, none⟩,
  ⟨0x2120, 0x2121, 1, 32, u64, .rw, .always, 0, none⟩,
  ⟨0x2122, 0x2122, 1, 4, u64, .rw, .always, 0, none⟩,
  ⟨0x2123, 0x2123, 1, 8, u64, .ro, .always, 0, none⟩]

/-- Power and thermal (spec/09 R252; ranges of R237, R238, R243). -/
def odPower : List OdRow := [
  ⟨0x2200, 0x2200, 1, 1, u32, .rw, .setUp, 0, some (20000, 95000)⟩,
  ⟨0x2200, 0x2200, 2, 2, u8, .rw, .setUp, 0, some (0, 5)⟩,
  ⟨0x2200, 0x2200, 3, 4, u32, .rw, .setUp, 0, none⟩,
  ⟨0x2200, 0x2200, 5, 5, u8, .rw, .setUp, 0, some (1, 64)⟩,
  ⟨0x2201, 0x2201, 1, 1, .signed 1, .rw, .setUp, 0, some (60, 105)⟩,
  ⟨0x2201, 0x2201, 2, 2, .signed 1, .rw, .setUp, 0, some (-40, 25)⟩,
  ⟨0x2202, 0x2202, 1, 2, u16, .ro, .always, 0, none⟩,
  ⟨0x2202, 0x2202, 3, 3, u32, .ro, .always, 0, none⟩,
  ⟨0x2202, 0x2202, 4, 4, u8, .ro, .always, 0, none⟩,
  ⟨0x2202, 0x2202, 5, 5, .boolean, .ro, .always, 0, none⟩,
  ⟨0x2204, 0x2204, 1, 2, u32, .ro, .always, 0, none⟩,
  ⟨0x2204, 0x2204, 3, 3, .boolean, .ro, .always, 0, none⟩,
  ⟨0x2210, 0x2213, 1, 2, u16, .ro, .always, 0, none⟩,
  ⟨0x2210, 0x2213, 3, 4, u32, .ro, .always, 0, none⟩,
  ⟨0x2210, 0x2213, 5, 5, u16, .ro, .always, 0, none⟩,
  ⟨0x2210, 0x2213, 6, 6, .signed 2, .ro, .always, 0, none⟩,
  ⟨0x2210, 0x2213, 7, 8, u8, .ro, .always, 0, none⟩,
  ⟨0x2220, 0x2220, 1, 0x1A, .signed 2, .ro, .always, 0, none⟩,
  ⟨0x2230, 0x2230, 1, 1, u8, .wo, .own, 0, none⟩,
  ⟨0x2230, 0x2230, 2, 2, u8, .ro, .always, 0, none⟩,
  ⟨0x2240, 0x2240, 1, 6, u32, .ro, .always, 0, none⟩]

/-- Streams, cameras, recording (spec/07 R163, R168, R186). -/
def odStreams : List OdRow := [
  ⟨0x2300, 0x231F, 1, 1, u8, .wo, .runtime, 0, none⟩,
  ⟨0x2300, 0x231F, 2, 2, u8, .ro, .always, 0, none⟩,
  ⟨0x2300, 0x231F, 3, 3, u16, .ro, .always, 0, none⟩,
  ⟨0x2300, 0x231F, 4, 4, u8, .rw, .setUp, 0, some (0, 3)⟩,
  ⟨0x2300, 0x231F, 5, 5, .domain 192, .rw, .setUp, 0, none⟩,
  ⟨0x2300, 0x231F, 6, 6, .boolean, .ro, .always, 0, none⟩,
  ⟨0x2300, 0x231F, 7, 0x0A, u32, .ro, .always, 0, none⟩,
  ⟨0x2300, 0x231F, 0x0B, 0x0B, u8, .ro, .always, 0, none⟩,
  ⟨0x2300, 0x231F, 0x0C, 0x0C, .domain 192, .rw, .setUp, 0, none⟩,
  ⟨0x2300, 0x231F, 0x0D, 0x0D, .domain 800, .ro, .always, 0, none⟩,
  ⟨0x2400, 0x240F, 1, 1, u8, .rw, .setUp, 0, some (2, 4)⟩,
  ⟨0x2400, 0x240F, 2, 2, u16, .rw, .setUp, 0, some (80, 4500)⟩,
  ⟨0x2410, 0x2417, 1, 1, u8, .rw, .configuration, 0, some (0, 2)⟩,
  ⟨0x2410, 0x2417, 2, 2, u16, .rw, .configuration, 0, none⟩,
  ⟨0x2410, 0x2417, 3, 3, .domain 260, .rw, .setUp, 0, none⟩,
  ⟨0x2420, 0x242F, 1, 1, .boolean, .rw, .setUp, 0, none⟩,
  ⟨0x2420, 0x242F, 2, 2, u64, .rw, .setUp, 0, none⟩,
  ⟨0x2420, 0x242F, 3, 3, u32, .rw, .setUp, 0, none⟩,
  ⟨0x2420, 0x242F, 4, 4, u32, .rw, .setUp, 0, some (10, 0xFFFFFFFF)⟩,
  ⟨0x2420, 0x242F, 5, 5, u8, .rw, .setUp, 0, some (0, 1)⟩,
  ⟨0x2440, 0x245F, 1, 1, .domain 192, .ro, .always, 0, none⟩,
  ⟨0x2440, 0x245F, 2, 2, u8, .ro, .always, 0, none⟩,
  ⟨0x2440, 0x245F, 3, 3, u8, .rw, .setUp, 0, none⟩,
  ⟨0x2440, 0x245F, 4, 4, u8, .rw, .setUp, 0, some (1, 2)⟩,
  ⟨0x2440, 0x245F, 5, 5, u8, .ro, .always, 0, none⟩,
  ⟨0x2460, 0x2463, 1, 1, u16, .rw, .setUp, 0, none⟩,
  ⟨0x2460, 0x2463, 2, 2, u64, .rw, .setUp, 0, none⟩,
  ⟨0x2460, 0x2463, 3, 3, u32, .rw, .setUp, 0, some (0x40000, 0x10000000)⟩,
  ⟨0x2460, 0x2463, 4, 4, u8, .rw, .setUp, 0, some (1, 255)⟩,
  ⟨0x2460, 0x2463, 5, 5, u8, .rw, .setUp, 0, some (0, 1)⟩,
  ⟨0x2460, 0x2463, 6, 6, u8, .rw, .setUp, 0, some (0, 51)⟩,
  ⟨0x2460, 0x2463, 7, 7, u32, .rw, .setUp, 0, some (100, 100000)⟩,
  ⟨0x2460, 0x2463, 8, 8, u32, .ro, .always, 0, none⟩,
  ⟨0x2460, 0x2463, 9, 9, u32, .rw, .setUp, 0, none⟩,
  ⟨0x2460, 0x2463, 0x0A, 0x0B, u32, .ro, .always, 0, none⟩]

/-- Interfaces and resilience (R336, spec/10 R270). -/
def odResil : List OdRow := [
  ⟨0x2500, 0x2500, 1, 1, u8, .const, .always, 0, none⟩,
  ⟨0x2500, 0x2500, 2, 2, u16, .ro, .always, 0, none⟩,
  ⟨0x2500, 0x2500, 3, 3, u8, .ro, .always, 0, none⟩,
  ⟨0x2501, 0x2501, 1, 2, u8, .const, .always, 0, none⟩,
  ⟨0x2510, 0x2510, 0, 0, u64, .ro, .always, 0, none⟩,
  ⟨0x2600, 0x2600, 1, 3, u8, .ro, .always, 0, none⟩,
  ⟨0x2600, 0x2600, 4, 5, u64, .ro, .always, 0, none⟩,
  ⟨0x2601, 0x2601, 1, 9, u32, .ro, .always, 0, none⟩,
  ⟨0x2602, 0x2602, 1, 1, u32, .ro, .always, 0, none⟩,
  ⟨0x2602, 0x2602, 2, 2, u64, .ro, .always, 0, none⟩,
  ⟨0x2602, 0x2602, 3, 3, u32, .ro, .always, 0, none⟩,
  ⟨0x2602, 0x2602, 4, 4, u64, .ro, .always, 0, none⟩,
  ⟨0x2603, 0x2603, 1, 1, u16, .rw, .setUp, 0, some (10, 600)⟩,
  ⟨0x2603, 0x2603, 2, 2, .boolean, .rw, .setUp, 0, none⟩,
  ⟨0x2603, 0x2603, 3, 3, u16, .rw, .setUp, 0, some (20, 10000)⟩,
  ⟨0x2604, 0x2604, 1, 1, u16, .rw, .setUp, 0, some (2, 1023)⟩,
  ⟨0x2605, 0x2605, 1, 1, u8, .wo, .runtime, 0, some (0, 15)⟩,
  ⟨0x2605, 0x2605, 2, 2, u8, .wo, .runtime, 0, some (0, 3)⟩,
  ⟨0x2605, 0x2605, 3, 3, .boolean, .wo, .always, 0, none⟩,
  ⟨0x2610, 0x264F, 1, 1, u8, .ro, .always, 0, none⟩,
  ⟨0x2610, 0x264F, 2, 3, u16, .ro, .always, 0, none⟩,
  ⟨0x2610, 0x264F, 4, 5, u64, .ro, .always, 0, none⟩,
  ⟨0x2610, 0x264F, 6, 6, u8, .ro, .always, 0, none⟩,
  ⟨0x2610, 0x264F, 7, 7, u64, .ro, .always, 0, none⟩,
  ⟨0x2610, 0x264F, 8, 8, u32, .ro, .always, 0, none⟩,
  ⟨0x2650, 0x265F, 1, 1, u16, .ro, .always, 0, none⟩,
  ⟨0x2650, 0x265F, 2, 2, u8, .ro, .always, 0, none⟩,
  ⟨0x2660, 0x2663, 1, 1, u16, .ro, .always, 0, none⟩,
  ⟨0x2660, 0x2663, 2, 2, u8, .ro, .always, 0, none⟩]

/-- Boot and security (spec/13 R358). -/
def odBoot : List OdRow := [
  ⟨0x2700, 0x2700, 1, 1, u8, .ro, .always, 0, none⟩,
  ⟨0x2700, 0x2700, 2, 3, u32, .ro, .always, 0, none⟩,
  ⟨0x2701, 0x2701, 1, 1, u8, .ro, .always, 0, none⟩,
  ⟨0x2701, 0x2701, 2, 2, u32, .ro, .always, 0, none⟩,
  ⟨0x2702, 0x2702, 1, 1, u8, .wo, .setUp, 0, some (1, 1)⟩,
  ⟨0x2702, 0x2702, 2, 2, u64, .rw, .setUp, 0, none⟩,
  ⟨0x2702, 0x2702, 3, 3, u32, .rw, .setUp, 0, none⟩,
  ⟨0x2702, 0x2702, 4, 5, u8, .ro, .always, 0, none⟩,
  ⟨0x2703, 0x2703, 1, 3, u32, .ro, .always, 0, none⟩,
  ⟨0x2703, 0x2703, 4, 4, u8, .ro, .always, 0, none⟩,
  ⟨0x2704, 0x2704, 1, 1, u8, .wo, .setUp, 0, some (1, 1)⟩,
  ⟨0x2704, 0x2704, 2, 2, u8, .ro, .always, 0, none⟩,
  ⟨0x2708, 0x2708, 1, 1, u32, .ro, .always, 0, none⟩,
  ⟨0x2708, 0x2708, 2, 2, .octet 32, .ro, .always, 0, none⟩,
  ⟨0x2708, 0x2708, 3, 3, .domain 65536, .ro, .always, 0, none⟩,
  ⟨0x2710, 0x2710, 1, 1, .octet 32, .wo, .always, 0, none⟩,
  ⟨0x2710, 0x2710, 2, 2, .domain 2792, .ro, .always, 0, none⟩,
  ⟨0x2710, 0x2710, 3, 3, u32, .ro, .always, 0, none⟩,
  ⟨0x2711, 0x2711, 1, 1, .octet 68, .ro, .always, 0, none⟩,
  ⟨0x2711, 0x2711, 2, 2, .domain 4096, .ro, .always, 0, none⟩]

/-- Contexts, result and argument objects (spec/08 R198, spec/12 R315, R316). -/
def odCtxs : List OdRow := [
  ⟨0x3000, 0x3FFF, 1, 1, u8, .wo, .own, 0, none⟩,
  ⟨0x3000, 0x3FFF, 2, 2, .domain 256, .rw, .setUp, 0, none⟩,
  ⟨0x3000, 0x3FFF, 3, 3, u8, .ro, .always, 0, none⟩,
  ⟨0x3000, 0x3FFF, 4, 4, u16, .ro, .always, 0, none⟩,
  ⟨0x3000, 0x3FFF, 5, 5, u64, .rw, .setUp, 0, none⟩,
  ⟨0x3000, 0x3FFF, 6, 6, u32, .ro, .always, 0, none⟩,
  ⟨0x3000, 0x3FFF, 7, 7, u16, .ro, .always, 0, none⟩,
  ⟨0x3000, 0x3FFF, 8, 0x10, u32, .ro, .always, 0, none⟩,
  ⟨0x3000, 0x3FFF, 0x11, 0x12, .domain 4096, .ro, .always, 0, none⟩,
  ⟨0x3000, 0x3FFF, 0x13, 0x14, .domain 32768, .ro, .always, 0, none⟩,
  ⟨0x3000, 0x3FFF, 0x15, 0x15, .boolean, .wo, .setUp, 0, none⟩,
  ⟨0x3000, 0x3FFF, 0x16, 0x16, .domain 16, .rw, .setUp, 0, none⟩,
  ⟨0x6000, 0x60FF, 1, 1, u32, .rw, .configuration, 0, none⟩,
  ⟨0x6000, 0x60FF, 2, 2, u16, .ro, .always, 1, none⟩,
  ⟨0x6000, 0x60FF, 3, 5, u8, .ro, .always, 1, none⟩,
  ⟨0x6000, 0x60FF, 6, 6, u32, .ro, .always, 1, none⟩,
  ⟨0x6000, 0x60FF, 7, 8, u64, .ro, .always, 1, none⟩,
  ⟨0x6000, 0x60FF, 9, 0x0D, .octet 8, .ro, .always, 1, none⟩,
  ⟨0x7000, 0x703F, 1, 1, u16, .rw, .configuration, 0, none⟩,
  ⟨0x7000, 0x703F, 2, 5, .octet 8, .rw, .runtime, 2, none⟩]

/-- Every row, by its chapter. -/
def odTable : List OdRow := odComm ++ odDevice ++ odPower ++ odStreams ++ odResil ++ odBoot ++ odCtxs

/-- The rows of an object; none of an index that does not exist (R332). -/
def odRows (i : Nat) : List OdRow := odTable.filter (fun r => decide (r.lo ≤ i ∧ i ≤ r.hi))
def odHighest (i : Nat) : Nat := (odRows i).foldl (fun m r => max m r.subHi) 0
/-- The row of an entry, subindex 0 of an object with entries above it being CONST (spec/00 R376). -/
def odEntry (i sub : Nat) : Option OdRow :=
  match (odRows i).find? (fun r => decide (r.subLo ≤ sub ∧ sub ≤ r.subHi)) with
  | some r => some r
  | none => if sub = 0 ∧ (odRows i).length ≠ 0 then some ⟨i, i, 0, 0, u8, .const, .always, 0, none⟩ else none

/-- Size in bytes of a type; for a DOMAIN or a string of varying length the largest. -/
def OdType.size : OdType → Nat
  | .boolean => 1
  | .signed n | .unsigned n | .visible n | .octet n | .domain n => n
def OdType.numeric : OdType → Bool
  | .boolean | .signed _ | .unsigned _ => true
  | _ => false

/-! ### Values -/

/-- Device state codes (R324). -/
def devCode : DevState → Nat
  | .off => 0
  | .boot => 1
  | .config => 2
  | .ready => 3
  | .run => 4
  | .degraded => 5
  | .fault => 6
def alCodeOf : AlState → Nat
  | .init => 1
  | .preop => 2
  | .safeop => 4
  | .op => 8
def ctxCode : CtxSt → Nat
  | .empty => 0
  | .loading => 1
  | .admitted => 2
  | .active => 3
  | .suspended => 4
  | .unadmitted => 5
  | .refused => 6

def flag (b : Bool) : Nat := if b then 1 else 0

def anyUnadmitted (s : State) : Bool := (loadedCtxs s).any (fun p => decide (p.2.st = .unadmitted))

/-- The status word 0x2001 (R331). -/
def statusWord (s : State) : Nat :=
  at_ (flag s.dev.dcSynced) 13 +
  at_ (flag (allQuarters.any (fun q => decide ((s.qpower q).state = 1 ∨ (s.qpower q).state = 2)))) 12 +
  at_ ((s.fabric.lost.map (fun q => 2 ^ q)).sum % 16) 8 + at_ (flag s.dev.lateToggle) 7 + at_ (flag (anyUnadmitted s)) 6 +
  at_ (flag s.power.valid) 5 + at_ (flag (leafIsSet s.causes (.main gBoot 0))) 4 + at_ (flag (irqAsserted s.causes)) 3 + devCode s.dev.state

/-- 0x2230:02: the device is in IDLE whenever no cell is claimed (spec/09 R251). -/
def powerState (s : State) : Nat :=
  if s.power.pstate ≠ 0 then s.power.pstate
  else if (List.range 64).all (fun g => !isClaimed s g) then 1 else 0

/-- Cells out of service, and fenced, restarting or in test after a failure (spec/10 R270). -/
def cellsRetired (s : State) : Nat := ((List.range 64).filter (fun g => (s.cell g).service == 4)).length
def cellsFailed (s : State) : Nat :=
  ((List.range 64).filter (fun g => let c := s.cell g; decide (c.service = 1 ∨ c.service = 2 ∨ (c.service = 3 ∧ c.fence)))).length

def commNumber (s : State) (i sub : Nat) : Nat :=
  let f := s.field
  if i = 0x1001 then errorRegister s.causes
  else if i = 0x1018 then ([0x0B7E, 0x6440, 0xB1, Config.serialNumber.toNat] : List Nat).getD (sub - 1) 0
  else if i = 0x1C00 then sub
  else if i = 0x1C32 then
    (match sub with
     | 1 => f.outType | 2 => f.outCycle | 3 => f.outShift | 4 => 7 | 5 => 62500 | 6 => 5000 | 0x0C => f.outSmall | _ => flag f.outErr)
  else if i = 0x1C33 then
    (match sub with
     | 1 => f.inType | 2 => f.inCycle | 3 => f.inShift | 4 => 7 | 5 => 62500 | 6 => 10000 | 0x0C => f.inSmall | _ => flag f.inErr)
  else lookup 0 f.pdo (i * 256 + sub)

def deviceNumber (s : State) (i sub : Nat) : Nat :=
  let d := s.dev
  if i = 0x2000 then d.ctl.toNat
  else if i = 0x2001 then statusWord s
  else if i = 0x2010 then
    (match sub with
     | 1 => devCode d.state
     | 2 => alCodeOf d.al
     | 3 => flag (!s.fabric.lost.isEmpty) + 2 * flag ((loadedCtxs s).any (fun p => decide (p.2.st = .unadmitted) && !p.2.byHost))
     | 4 => d.alCode
     | _ => d.stateTime)
  else
    match sub with
    | 1 => d.hostControl
    | 2 => s.causes.emEnable.toNat
    | 3 => s.causes.emDiscarded
    | 4 => if d.bypassPin then d.bypass else if d.bypass = 3 then 3 else 0
    | 5 => 0
    | 6 => flag d.dcSynced
    | 7 => s.now
    | 0x0C => s.field.links.toNat
    | _ => lookup 0 s.field.latch (sub - 8)

/-- Address of the port register that an entry of 0x2100 to 0x2123 mirrors (spec/11 R293, R295). -/
def mirrorOf (i sub : Nat) : Nat :=
  if i = 0x2100 then 0x2000 + 8 * (sub - 1)
  else if i < 0x2112 then (if sub = 3 then 0x2800 + 8 * (i - 0x2101) else 0x2100 + 16 * (i - 0x2101) + 8 * (sub - 1))
  else if i = 0x2120 then 0x2400 + 8 * (sub - 1)
  else if i = 0x2121 then 0x2500 + 8 * (sub - 1)
  else if i = 0x2122 then 0x2600 + 8 * (sub - 1)
  else 0x2900 + 8 * (sub - 1)

def powerNumber (s : State) (i sub : Nat) : Nat :=
  let p := s.power
  if i = 0x2200 then ([p.cap, p.order, p.linkRes, p.memRes, p.cellLimit] : List Nat).getD (sub - 1) 0
  else if i = 0x2201 then pattern 8 (if sub = 1 then p.tjLimit else p.lowBound)
  else if i = 0x2202 then ([if p.valid then p.floorRate else 0, if p.valid then p.floorMv else 0, p.share, p.counted, flag p.valid] : List Nat).getD (sub - 1) 0
  else if i = 0x2204 then ([p.devEst, p.highest, flag p.cold] : List Nat).getD (sub - 1) 0
  else if i < 0x2214 then
    let x := s.qpower (i - 0x2210)
    ([x.setpoint, x.readMv, x.readMa, x.estimate, x.c, pattern 16 x.tq, x.paceLevel, x.state] : List Nat).getD (sub - 1) 0
  else if i = 0x2220 then pattern 16 (s.sensor (sub - 1))
  else if i = 0x2230 then (if sub = 2 then powerState s else 0)
  else ([p.pacings, p.throttles, p.capExceeded, p.hardCount, p.derates, p.trips] : List Nat).getD (sub - 1) 0

def streamNumber (s : State) (i sub : Nat) : Nat :=
  if i < 0x2320 then
    let x := s.slot (i - 0x2300)
    (match sub with
     | 2 => x.st | 3 => x.reason | 4 => slotGroup s (i - 0x2300) | 6 => flag x.shadow.isSome | 7 => x.overrun | 8 => x.accepted
     | 9 => x.dropped | 0x0A => x.timeouts | 0x0B => x.calib | _ => 0)
  else if i < 0x2410 then (let x := s.port (i - 0x2400); if sub = 1 then x.lanes else x.maxRate)
  else if i < 0x2420 then (let x := s.bus (i - 0x2410); if sub = 1 then x.mode else x.scl)
  else if i < 0x2430 then
    let x := s.trig (i - 0x2420)
    let v := x.present
    (match sub with | 1 => flag x.enable | 2 => v.1 | 3 => v.2.1 | 4 => v.2.2.1 | _ => v.2.2.2)
  else if i < 0x2460 then
    let x := s.slot (i - 0x2440)
    (match sub with | 2 => x.gcmdStatus | 3 => x.gcmdAddr | 4 => x.gcmdWidth | _ => if x.st = 0 then 0xFF else x.instance_.getD 0xFF)
  else
    let x := s.record (i - 0x2460)
    (match sub with
     | 1 => x.source.toNat | 2 => x.addr | 3 => x.size | 4 => x.gop | 5 => x.rate | 6 => x.qp | 7 => x.bitrate | 8 => x.prod.toNat
     | 9 => x.cons.toNat | 0x0A => x.oldest.toNat | _ => x.overwritten)

def resilNumber (s : State) (i sub : Nat) : Nat :=
  let r := s.resil
  if i = 0x2500 then (match sub with | 1 => 0x0F | 2 => at_ s.hmp.major 8 + s.hmp.minor | _ => s.hmp.negState)
  else if i = 0x2501 then 3
  else if i = 0x2510 then exactKey s
  else if i = 0x2600 then
    (match sub with
     | 1 => 64 - cellsFailed s - cellsRetired s | 2 => cellsFailed s | 3 => cellsRetired s | 4 => r.unavailable / 1000 | _ => r.observed / 1000)
  else if i = 0x2601 then lookup 0 r.count sub
  else if i = 0x2602 then ([r.sramCycles, r.sramEnd, r.lpCycles, r.lpEnd] : List Nat).getD (sub - 1) 0
  else if i = 0x2603 then ([r.testCycle, flag r.forcedOn, r.idleTime] : List Nat).getD (sub - 1) 0
  else if i = 0x2604 then r.hangLimit
  else if i = 0x2605 then 0
  else if i < 0x2650 then
    let c := s.cell (i - 0x2610)
    ([c.service, c.failures, c.lastFault, c.lastInfo, c.lastFail, c.lastTest, c.lastTestAt, c.corrected] : List Nat).getD (sub - 1) 0
  else if i < 0x2660 then (let t := s.tacker (i - 0x2650); if sub = 1 then t.restarts else t.state)
  else (let l := s.laster (i - 0x2660); if sub = 1 then l.replacements else l.state)

def bootNumber (s : State) (i sub : Nat) : Nat :=
  let b := s.boot
  if i = 0x2700 then ([b.slot, b.seq, b.rollback] : List Nat).getD (sub - 1) 0
  else if i = 0x2701 then
    (if sub = 1 then flag b.unverified + 2 * flag b.goldenUsed + 4 * flag s.dev.goldenLow + 8 * flag b.fastPath + 16 * flag (!b.latchOpen)
     else b.reasons.toNat)
  else if i = 0x2702 then ([0, b.updAddr, b.updLen, b.step, b.failure] : List Nat).getD (sub - 1) 0
  else if i = 0x2703 then (if sub = 4 then b.committed else lookup 0 b.seqs (sub - 1))
  else if i = 0x2704 then (if sub = 2 then b.activation else 0)
  else if i = 0x2708 then b.entries
  else 65536 - b.leaf

def ctxNumber (s : State) (i sub : Nat) : Nat :=
  let x := s.ctx (i - 0x3000)
  match sub with
  | 3 => ctxCode x.st
  | 4 => x.reason
  | 5 => x.launch
  | 6 => x.tJob
  | 7 => x.floorUsed
  | 8 => x.retired
  | 9 => x.lates
  | 0x0A => x.replays
  | 0x0B => x.evictions
  | 0x0C => x.overRate
  | 0x0D => x.budget
  | 0x0E => x.nanOut
  | 0x0F => x.accSat
  | 0x10 => x.t5b
  | _ => 0

def State.resultObj (s : State) (k : Nat) : Result := lookup {} s.field.result k
def State.argObj (s : State) (k : Nat) : Argument := lookup {} s.field.arg k

def resultNumber (s : State) (i sub : Nat) : Nat :=
  let x := s.resultObj (i - 0x6000)
  match sub with
  | 1 => x.binding.toNat
  | 2 => x.seq.toNat
  | 3 => x.status
  | 4 => x.flags
  | 5 => x.code
  | 6 => x.tag
  | 7 => x.tInput
  | _ => x.tPost

/-- The number a numeric entry holds; a write-only entry reads 0 (spec/00 R7). -/
def odNumber (s : State) (i sub : Nat) : Nat :=
  if sub = 0 ∧ (odEntry i 0).any (fun r => r.acc == .const) ∧ 0 < odHighest i then odHighest i
  else if i < 0x2000 then commNumber s i sub
  else if i < 0x2100 then deviceNumber s i sub
  else if i < 0x2200 then (causeWord s.causes (mirrorOf i sub)).toNat
  else if i < 0x2300 then powerNumber s i sub
  else if i < 0x2500 then streamNumber s i sub
  else if i < 0x2700 then resilNumber s i sub
  else if i < 0x3000 then bootNumber s i sub
  else if i < 0x6000 then ctxNumber s i sub
  else if i < 0x7000 then resultNumber s i sub
  else (s.argObj (i - 0x7000)).binding.toNat

def tableWords (t : Tab Nat) (n : Nat) : List Byte := (List.range n).flatMap (fun i => leBytes 4 (lookup 0 t i))

/-- The bytes a string or DOMAIN entry holds. -/
def odBytes (s : State) (i sub : Nat) : List Byte :=
  if i = 0x1008 then ascii (if Config.grade64 then "QK-6440-64I" else "QK-6440-32I")
  else if i = 0x1009 then ascii "B1"
  else if i = 0x100A then Config.softwareVersion
  else if i < 0x2320 then
    let x := s.slot (i - 0x2300)
    if sub = 5 then readBytes (match x.shadow with | some d => d.1 | none => x.desc) 0 192
    else if sub = 0x0C then x.hostCal else padTo 800 x.expo
  else if i < 0x2420 then (s.bus (i - 0x2410)).result
  else if i < 0x2460 then (s.slot (i - 0x2440)).gcmd
  else if i = 0x2708 then (if sub = 2 then padTo 32 s.boot.chain else s.boot.log.flatten)
  else if i = 0x2710 then (if sub = 2 then s.boot.quote else List.replicate 32 0)
  else if i = 0x2711 then (if sub = 1 then padTo 68 Config.identityKey else Config.certificate.take 4096)
  else if i < 0x6000 then
    let x := s.ctx (i - 0x3000)
    (match sub with
     | 2 => readBytes x.desc 0 256
     | 0x11 => tableWords x.quant 1024
     | 0x12 => tableWords x.clip 1024
     | 0x13 => tableWords x.stallTime 8192
     | 0x14 => tableWords x.stallEvents 8192
     | _ => leBytes 16 x.queueResult.toNat)
  else if i < 0x7000 then padTo 8 ((s.resultObj (i - 0x6000)).payload.drop (8 * (sub - 9)))
  else readBytes (s.argObj (i - 0x7000)).value (8 * (sub - 2)) 8

/-- The value of an entry that exists, as its bytes. -/
def odValue (s : State) (i sub : Nat) : List Byte :=
  match odEntry i sub with
  | none => []
  | some r => if r.typ.numeric then leBytes r.typ.size (odNumber s i sub) else odBytes s i sub

/-- The device right after power-up as the defaults of the tables describe it: CONFIG, no version selected. -/
def defaultState : State :=
  { State.reset with dev := { State.reset.dev with state := .config, bypassPin := true }, hmp := { State.reset.hmp with negState := 0 } }

end Sys2Proof.Machine
end

