-- ==== Sys2Proof/Machine/Field.lean ====
section
/-! DEFINITION. The field port: PDO mapping and process data (spec/12 R314 to R318), bindings (R315, R316), AL states and device
states (R324 to R328), the control word (R331), distributed clocks (R308 to R312), the bypass (R304 to R306), links, the SII
(R303), and emergency messages (R322, R323). -/

namespace Sys2Proof.Machine

/-- The ESC runs; Cobbler runs behind it. -/
def cobblerUp (s : State) : Bool := powered s && s.power.pstate != 3
/-- The mailbox works: PREOP, SAFEOP or OP. -/
def mailboxOn (s : State) : Bool := powered s && s.dev.al != .init
/-- The configuration class (R329). -/
def configState (s : State) : Bool := s.power.pstate != 3 && decide (s.dev.state = .config)

/-! ### PDO mapping (R317, R334) -/

def pdoAt (m : Tab Nat) (i sub : Nat) : Nat := lookup 0 m (i * 256 + sub)
def isTxMap (i : Nat) : Bool := decide (0x1A00 ≤ i ∧ i < 0x1A20)
def isRxMap (i : Nat) : Bool := decide (0x1600 ≤ i ∧ i < 0x1608)
def isAssign (i : Nat) : Bool := decide (i = 0x1C12 ∨ i = 0x1C13)

/-- A mapping entry that the direction admits: a gap of whole bytes, or a mappable entry at its own length. -/
def mapEntryOk (tx : Bool) (v : Nat) : Bool :=
  let i := v / 65536
  let len := v % 256
  if i = 0 then len % 8 == 0
  else match odEntry i (v / 256 % 256) with
    | some r => r.mapping == (if tx then 1 else 2) && 8 * r.typ.size == len
    | none => false

/-- Entries mapped to the inputs or the outputs, in order. -/
def mappedEntries (m : Tab Nat) (tx : Bool) : List Nat :=
  let a := if tx then 0x1C13 else 0x1C12
  ((List.range (pdoAt m a 0)).map (fun k => pdoAt m a (k + 1))).flatMap (fun p =>
    if p = 0 then [] else (List.range (pdoAt m p 0)).map (fun k => pdoAt m p (k + 1)))
/-- Bytes mapped to the inputs or the outputs. -/
def mappedBytes (m : Tab Nat) (tx : Bool) : Nat := ((mappedEntries m tx).map (fun v => v % 256)).sum / 8

/-- What a write of a mapping or assignment object must satisfy by itself. -/
def pdoOk (m : Tab Nat) (i sub v : Nat) : Bool :=
  if isAssign i then
    (if sub = 0 then decide (v ≤ (if i = 0x1C13 then 32 else 8))
     else pdoAt m i 0 == 0 && (v == 0 || (if i = 0x1C13 then isTxMap v else isRxMap v)))
  else if sub = 0 then decide (v ≤ 64) else pdoAt m i 0 == 0 && mapEntryOk (isTxMap i) v

/-- A write of a mapping or assignment object: subindex 0 to 0, then the entries, then the count; sizes stay in their limits. -/
def writePdo (s : State) (i sub v : Nat) : State :=
  if !configState s then answer s wrongState else
  let m := put 0 s.field.pdo (i * 256 + sub) v
  if pdoOk s.field.pdo i sub v && decide (mappedBytes m true ≤ 2560 ∧ mappedBytes m false ≤ 1024) then
    answer { s with field := { s.field with pdo := m } } okCode
  else answer s refusedCode

def execPdoMapping (index : BitVec 16) (sub : Byte) (v : BitVec 32) (s : State) : Host.Outcome State Fault Refusal :=
  let i := index.toNat
  if isTxMap i || isRxMap i || isAssign i then
    .next (if (odEntry i sub.toNat).isNone then answer s 0x06090011 else writePdo s i sub.toNat v.toNat)
  else .refused .illFormed

/-- A write of 0x1C32 or 0x1C33, :01 or :03; the sync types of R314. -/
def writeSync (s : State) (i sub v : Nat) : State :=
  let f := s.field
  if !configState s then answer s wrongState
  else if sub = 1 then
    (if i = 0x1C32 then
       (if v ≤ 2 then answer { s with field := { f with outType := v } } okCode else answer s outOfRange)
     else if v ≤ 2 ∨ v = 0x22 then answer { s with field := { f with inType := v } } okCode else answer s outOfRange)
  else if i = 0x1C32 then answer { s with field := { f with outShift := v } } okCode
  else answer { s with field := { f with inShift := v } } okCode

/-! ### Bindings (R315, R316) -/

/-- A write of 0x6000 + k:01 resets the object. -/
def writeResultBinding (s : State) (k v : Nat) : State :=
  if !configState s then answer s wrongState
  else
    let x : Result := { binding := BitVec.ofNat 32 v &&& 0x800F0FFF }
    answer { s with field := { s.field with result := put {} s.field.result k x } } okCode

def execResultBinding (k : Fin 256) (v : BitVec 32) (s : State) : Host.Outcome State Fault Refusal := .next (writeResultBinding s k.val v.toNat)

/-- Another argument object binds the context. -/
def argTaken (s : State) (k c : Nat) : Bool :=
  s.field.arg.any (fun p => p.1 != k && p.2.binding.getLsbD 15 && bits p.2.binding.toNat 11 0 == c)

/-- A write of 0x7000 + k:01. -/
def writeArgBinding (s : State) (k v : Nat) : State :=
  let b := BitVec.ofNat 16 v &&& 0x8FFF
  if !configState s then answer s wrongState
  else if b.getLsbD 15 && argTaken s k (bits b.toNat 11 0) then answer s refusedCode
  else answer { s with field := { s.field with arg := put {} s.field.arg k { s.argObj k with binding := b } } } okCode

def execArgumentBinding (k : Fin 64) (v : BitVec 16) (s : State) : Host.Outcome State Fault Refusal := .next (writeArgBinding s k.val v.toNat)

/-- Eight argument bytes take a value. -/
def setArg (s : State) (k sub : Nat) (l : List Byte) : State :=
  let x := s.argObj k
  { s with field := { s.field with arg := put {} s.field.arg k { x with value := writeBytes x.value (8 * (sub - 2)) (padTo 8 l) } } }
/-- A write of 0x7000 + k:02 to :05. -/
def writeArg (s : State) (k sub : Nat) (l : List Byte) : State :=
  if runtimeState s then answer (setArg s k sub l) okCode else answer s wrongState

/-! ### Device states (R325 to R328) -/

/-- CONFIG from READY, RUN or DEGRADED: contexts are suspended (R327). -/
def enterConfig (s : State) : State :=
  if !runtimeState s then s else
  let s := setDevState (suspendAll s) .config
  { s with field := { s.field with inDue := none, outDue := none } }

/-- READY, RUN or DEGRADED, as the AL state or the host has it (R325, R328); contexts whose launch time has passed start (R313, R324). -/
def enterWork (s : State) : State :=
  launchHeld (if s.dev.state = .degraded ∧ isDegraded s then s else settleState (setDevState s (workState s)))

/-- HOST_STATE under host control; 3 is ignored (R328, R331). -/
def hostMove (s : State) (v : Nat) : State :=
  if s.dev.hostControl ≠ 1 ∨ 2 < v ∨ !setupState s then s else
  let s := { s with dev := { s.dev with hostState := v } }
  if v = 0 then enterConfig s
  else if s.dev.state = .degraded then s else enterWork s

/-! ### The control word (R331) -/

/-- The value acts: ACK and RESTART on 0-to-1 edges, HOST_STATE under host control. -/
def controlWord (s : State) (v : BitVec 16) : State :=
  let old := s.dev.ctl
  let v := v &&& 0xF
  let s := { s with dev := { s.dev with ctl := v } }
  let s := if v.getLsbD 1 && !old.getLsbD 1 then ackAll s else s
  let s := hostMove s (bits v.toNat 3 2)
  if v.getLsbD 0 && !old.getLsbD 0 then startRestart s 5 else s

/-- A write of 0x2000. -/
def writeControl (s : State) (v : Nat) : State :=
  if alwaysState s then controlWord (answer s okCode) (BitVec.ofNat 16 v) else answer s wrongState

/-- The value of an output apply: the first one after entering OP only sets the reference. -/
def applyControl (s : State) (v : BitVec 16) : State :=
  if s.dev.ctlFresh then { s with dev := { s.dev with ctl := v &&& 0xF, ctlFresh := false } } else controlWord s v

/-- ACK: the edge of bit 1. -/
def execAck (s : State) : Host.Outcome State Fault Refusal :=
  .next (inState (alwaysState s) s (fun s => ackAll { s with dev := { s.dev with ctl := s.dev.ctl ||| 2 } }))
/-- RESTART: the edge of bit 0. -/
def execRestart (s : State) : Host.Outcome State Fault Refusal :=
  .next (if alwaysState s then startRestart (answer { s with dev := { s.dev with ctl := s.dev.ctl ||| 1 } } okCode) 5 else answer s wrongState)
/-- HOST_STATE: a control word with bits 3:2 written, the edges' bits as they were. -/
def execHostState (v : Fin 4) (s : State) : Host.Outcome State Fault Refusal :=
  .next (writeControl s (bits s.dev.ctl.toNat 1 0 + at_ v.val 2))

/-- A write of 0x2020:01. -/
def writeHostControl (s : State) (v : Nat) : State :=
  if !configState s then answer s wrongState
  else if 1 < v then answer s outOfRange
  else answer { s with dev := { s.dev with hostControl := v, hostState := 0 } } okCode

/-! ### AL requests (R325, R326) -/

/-- An AL request in BOOT is held; a later one takes its place (R324). -/
def holdAl (s : State) (a : AlAsk) : State := { s with dev := { s.dev with alHeld := some a } }

/-- INIT or PREOP: the device goes to CONFIG where the master controls it; FAULT stays. -/
def alDown (s : State) (al : AlState) : State :=
  let s := { s with dev := { s.dev with al := al, alError := s.dev.alError && decide (s.dev.state = .fault) } }
  let s := if al = .init then { s with field := { s.field with sdo := none, foe := if s.boot.upd.isSome then s.field.foe else none } } else s
  if s.dev.hostControl = 1 then s else enterConfig s

def execInitRequest (s : State) : Host.Outcome State Fault Refusal :=
  .next (if !cobblerUp s then s
    else if s.dev.state = .boot then holdAl s .init else alDown s .init)

def execPreopRequest (s : State) : Host.Outcome State Fault Refusal :=
  .next (if !cobblerUp s then s
    else if s.dev.state = .boot then holdAl s .preop else alDown s .preop)

/-- SyncManager n of the master's settings: enabled, start, length, three-buffer mode. -/
def smOf (e : EscConfig) (n : Nat) : Bool × Nat × Nat × Bool := e.sms.getD n (false, 0, 0, false)
def smLength (e : EscConfig) (n : Nat) : Nat := (smOf e n).2.2.1

/-- SM0 to SM3 as R302 lays them out; SM4 to SM7 disabled. -/
def layoutOk (e : EscConfig) : Bool :=
  smOf e 0 == (true, 0x1000, 1024, false) && smOf e 1 == (true, 0x1400, 1024, false) &&
  (smOf e 2).2.1 == 0x1800 && (smOf e 2).2.2.2 && decide (smLength e 2 ≤ 1024) && ((smOf e 2).1 || smLength e 2 == 0) &&
  (smOf e 3).2.1 == 0x2400 && (smOf e 3).2.2.2 && decide (smLength e 3 ≤ 2560) && ((smOf e 3).1 || smLength e 3 == 0) &&
  ([4, 5, 6, 7] : List Nat).all (fun n => !(smOf e n).1)

/-- The first check of R326 that fails. -/
def safeopCheck (s : State) (e : EscConfig) : Option Nat :=
  let f := s.field
  let dc := decide (f.outType = 2 ∨ f.inType = 2)
  if s.dev.hostControl = 1 then some 0x8003
  else if !layoutOk e then some 0x0017
  else if smLength e 2 ≠ mappedBytes f.pdo false then some 0x001D
  else if smLength e 3 ≠ mappedBytes f.pdo true then some 0x001E
  else if (dc && !e.sync0Active) || decide (f.outType = 2 ∧ e.sync0Cycle < f.outShift + 5000) ||
      decide (f.inType = 2 ∧ e.sync0Cycle < f.inShift + 10000) then some 0x0030
  else if (dc || e.sync0Active) && decide (e.sync0Cycle < 62500) then some 0x0035
  else none

/-- SAFEOP from PREOP: READY. -/
def enterSafeop (s : State) (e : EscConfig) : State :=
  let f := s.field
  let cyc := fun (t : Nat) => if t = 2 then e.sync0Cycle else 62500
  enterWork { s with
    dev := { s.dev with al := .safeop, alError := false }
    field := { f with esc := e, outCycle := cyc f.outType, inCycle := cyc f.inType, sm2Written := false, sm2At := none, inDue := none, outDue := none } }

def safeopRequest (s : State) (e : EscConfig) : State :=
  if !cobblerUp s then s
  else if s.dev.state = .boot then holdAl s .safeop
  else if s.dev.state = .fault then alRefuse s 0x8001
  else match s.dev.al with
    | .op => enterWork { s with dev := { s.dev with al := .safeop, alError := false } }
    | .safeop => { s with dev := { s.dev with alError := false } }
    | .preop => (match safeopCheck s e with
      | some code => alRefuse s code
      | none => enterSafeop s e)
    | .init => alRefuse s 0x0011

def execSafeopRequest (e : EscConfig) (s : State) : Host.Outcome State Fault Refusal := .next (safeopRequest s e)

def opRequest (s : State) : State :=
  if !cobblerUp s then s
  else if s.dev.state = .boot then holdAl s .op
  else if s.dev.state = .fault then alRefuse s 0x8001
  else match s.dev.al with
    | .op => { s with dev := { s.dev with alError := false } }
    | .safeop =>
      if s.field.sm2Written || smLength s.field.esc 2 == 0 then
        enterWork { s with dev := { s.dev with al := .op, alError := false, ctlFresh := true } }
      else s
    | _ => alRefuse s 0x0011

def execOpRequest (s : State) : Host.Outcome State Fault Refusal := .next (opRequest s)

def execBootstrapRequest (s : State) : Host.Outcome State Fault Refusal :=
  .next (if !cobblerUp s then s else if s.dev.state = .boot then holdAl s .bootstrap else alRefuse s 0x0013)

/-- SM2_WATCHDOG: in OP, with SM2 of a length above 0 (R318). -/
def sm2Expired (s : State) : State :=
  if s.dev.al ≠ .op ∨ smLength s.field.esc 2 = 0 then s else
  let s := raise s (.main gField 4) 0 0
  enterWork (alRefuse { s with dev := { s.dev with al := .safeop } } 0x001B)

def execSm2Watchdog (s : State) : Host.Outcome State Fault Refusal := .next (sm2Expired s)

/-! ### Process data (R314) -/

/-- The mapped inputs. -/
def inputImage (s : State) : List Byte :=
  (mappedEntries s.field.pdo true).flatMap (fun v =>
    let n := v % 256 / 8
    if v / 65536 = 0 then List.replicate n 0 else padTo n (odValue s (v / 65536) (v / 256 % 256)))

/-- The moment of a copy: any in the SM-synchronous types, a multiple of 62.5 us in free run, the due time with SYNC0. -/
def copyDue (s : State) (typ : Nat) (due : Option Nat) : Bool :=
  if typ = 0 then s.now % 62500 == 0 else if typ = 2 then (match due with | some t => decide (t ≤ s.now) | none => false) else true

/-- INPUT_LATCH, in SAFEOP and OP. -/
def inputLatch (s : State) : State :=
  let f := s.field
  if !cobblerUp s ∨ (s.dev.al ≠ .safeop ∧ s.dev.al ≠ .op) ∨ !copyDue s f.inType f.inDue then s
  else
    let cyc := if f.inType = 0 ∨ f.inType = 2 then f.inCycle else (match f.latchAt with | some t => s.now - t | none => f.inCycle)
    { s with field := { f with sm3 := inputImage s, ram := writeBytes f.ram 0x2400 (inputImage s), latchAt := some s.now, inDue := none, inCycle := cyc } }

def execInputLatch (s : State) : Host.Outcome State Fault Refusal := .next (inputLatch s)

/-- One mapped output takes its bytes. -/
def applyEntry (s : State) (v : Nat) (l : List Byte) : State :=
  let i := v / 65536
  if i = 0x2000 then applyControl s (BitVec.ofNat 16 (leNat l))
  else if 0x7000 ≤ i then setArg s (i - 0x7000) (v / 256 % 256) l
  else s

/-- Every mapped output in order, with the bytes left. -/
def applyAll (s : State) : List Nat → List Byte → State
  | [], _ => s
  | v :: t, l => applyAll (applyEntry s v (l.take (v % 256 / 8))) t (l.drop (v % 256 / 8))

/-- An SM2 buffer exchange: the data stand in the process-data RAM; the interval is measured (R334). Which of the three buffers they
take is the model's choice (notes/assumptions/154). -/
def sm2Exchange (s : State) (data : List Byte) : State :=
  let f := s.field
  let cyc := if f.outType = 1 then (match f.sm2At with | some t => s.now - t | none => f.outCycle) else f.outCycle
  { s with field := { f with sm2Written := true, sm2At := some s.now, outCycle := cyc, ram := writeBytes f.ram 0x1800 data } }

/-- The apply comes before a job formation of the same DC time: a job that a batch close formed now takes the new value (R316). One that
has started keeps its own, the model's choice (notes/assumptions/153). -/
def argTie (s : State) : State :=
  { s with jobs := s.jobs.map (fun (j : Job) => if j.argAt = some s.now ∧ j.tStart = none then { j with arg := boundArg s j.ctx } else j) }

/-- OUTPUT_APPLY: SM2 has been written; the outputs act in OP (R314, R316, R331). -/
def outputApply (s : State) (data : List Byte) : State :=
  if !cobblerUp s ∨ (s.dev.al ≠ .safeop ∧ s.dev.al ≠ .op) ∨ data.length ≠ smLength s.field.esc 2 then s
  else
    let s := sm2Exchange s data
    if s.dev.al = .safeop ∨ (s.field.outType = 2 ∧ !copyDue s 2 s.field.outDue) then s
    else argTie (applyAll { s with field := { s.field with applyAt := some s.now, outDue := none } } (mappedEntries s.field.pdo false) data)

def execOutputApply (data : List Byte) (s : State) : Host.Outcome State Fault Refusal := .next (outputApply s data)

/-- SYNC0 or SYNC1 of the sync unit: activated, and its cycle. -/
def syncOn (e : EscConfig) (i : Nat) : Bool := if i = 0 then e.sync0Active else e.units.sync1Active
def syncCycle (e : EscConfig) (i : Nat) : Nat := if i = 0 then e.sync0Cycle else e.units.sync1Cycle

/-- An edge falls now: on the first tick at or after the start time and every cycle after it (R310). -/
def syncTick (e : EscConfig) (i now : Nat) : Bool :=
  let t0 := e.units.start.toNat
  decide (t0 ≤ now) && decide (now - t0 < 10 ∨ (0 < syncCycle e i ∧ (now - t0) % syncCycle e i < 10))

/-- The level of FP_SYNC0 or FP_SYNC1: high for the pulse length from an edge, low while its unit is not activated (R310). -/
def syncPin (s : State) (i : Nat) : Bool :=
  powered s && syncOn s.field.esc i && s.field.syncEdges.any (fun p => p.1 == i && decide (s.now < p.2 + s.field.esc.units.pulse))

/-- No edge came at the last cycle (R334). -/
def syncMissed (f : FieldPort) (now : Nat) : Bool :=
  f.syncEdges.any (fun p => p.1 == 0 && decide (p.2 + f.esc.sync0Cycle + 10 ≤ now))

/-- What a SYNC0 makes due: where the copy before it has not finished, the one it would start is skipped and counted (R314, R334).
Answers the due time, the count and the sync error. -/
def syncCopy (now : Nat) (due at_ : Option Nat) (takes shift small : Nat) (missed : Bool) : Option Nat × Nat × Bool :=
  if due.isSome || (match at_ with | some t => decide (now < t + takes) | none => false) then (due, satAdd 16 small 1, true)
  else (some (now + shift), small, missed)

/-- SYNC_EDGE: FP_SYNC0 paces process data (R310, R314). -/
def syncEdge (s : State) (i : Nat) : State :=
  if !powered s || !syncOn s.field.esc i || !syncTick s.field.esc i s.now then s else
  let f := s.field
  let missed := syncMissed f s.now
  let g := { f with syncEdges := put 0 f.syncEdges i s.now }
  if i ≠ 0 ∨ (s.dev.al ≠ .safeop ∧ s.dev.al ≠ .op) then { s with field := g } else
  let a := syncCopy s.now f.inDue f.latchAt 10000 f.inShift f.inSmall missed
  let b := syncCopy s.now f.outDue f.applyAt 5000 f.outShift f.outSmall missed
  let g := if f.inType ≠ 2 then g else { g with inDue := a.1, inSmall := a.2.1, inErr := a.2.2 }
  { s with field := if f.outType ≠ 2 then g else { g with outDue := b.1, outSmall := b.2.1, outErr := b.2.2 } }

def execSyncEdge (i : Fin 2) (s : State) : Host.Outcome State Fault Refusal := .next (syncEdge s i.val)

/-! ### Distributed clocks (R308 to R312) -/

/-- An update within the last 100 ms, and no difference beyond 1 us in them (R312). -/
def syncHolds (s : State) : Bool :=
  (match s.dev.driftAt with | some t => decide (s.now < t + 100000000) | none => false) &&
  (match s.dev.driftBadAt with | some t => decide (t + 100000000 ≤ s.now) | none => true)

/-- 0x2020:06 follows; a change to FALSE sets SYNC_LOST. -/
def settleSync (s : State) : State :=
  let b := syncHolds s
  if b = s.dev.dcSynced then s else
  let t := { s with dev := { s.dev with dcSynced := b } }
  if b then t else raise t (.main gField 3) 0 0

/-- DRIFT_COMPENSATION: the master's update, with the system-time difference of 0x092C. -/
def drifted (s : State) (d : BitVec 32) : State :=
  if !supplied s.dev then s else
  let far := decide (d.toInt < -1000 ∨ 1000 < d.toInt)
  settleSync { s with dev := { s.dev with drift := d, driftAt := some s.now, driftBadAt := if far then some s.now else s.dev.driftBadAt } }

def execDriftCompensation (difference : BitVec 32) (s : State) : Host.Outcome State Fault Refusal := .next (drifted s difference)
def execSyncLost (s : State) : Host.Outcome State Fault Refusal := .next (settleSync s)

/-- A DC time keeps its distance from now through a step of the time base. -/
def moved (old new t : Nat) : Nat := if t ≤ old then new - (old - t) else new + (t - old)

/-- The times that the device counts from move with a step: of the drift updates, of cells, rails and transfers (R309, R312). Times that an
object publishes stay as they were recorded; which move is the model's choice (notes/assumptions/155). -/
def moveTimes (old : Nat) (s : State) : State :=
  let m := moved old s.now
  { s with
    dev := { s.dev with driftAt := s.dev.driftAt.map m, driftBadAt := s.dev.driftBadAt.map m }
    cells := mapKeys {} s.cells 64 (fun c => { c with
      progressAt := m c.progressAt, idleSince := m c.idleSince, reportAt := m c.reportAt
      runMark := c.runMark.map (fun r => (m r.1, m r.2)) })
    resil := { s.resil with ceMem := s.resil.ceMem.map m, ceSram := s.resil.ceSram.map m, cycleFrom := m s.resil.cycleFrom }
    power := { s.power with
      coolSince := s.power.coolSince.map m, sleepAsked := s.power.sleepAsked.map m
      quarter := mapKeys {} s.power.quarter 4 (fun x => { x with setAt := m x.setAt, paceSince := x.paceSince.map m })
      zone := mapKeys {} s.power.zone 16 (fun z => { z with firstFail := z.firstFail.map m }) }
    streams := { s.streams with slot := mapKeys {} s.streams.slot 32 (fun x => { x with seenAt := m x.seenAt }) }
    field := { s.field with sdo := s.field.sdo.map (fun x => { x with since := m x.since }), syncEdges := s.field.syncEdges.map (fun p => (p.1, m p.2)) } }

/-- SYSTEM_TIME_OFFSET: a step of DC time, by the offset or by the local time itself, in BOOT and CONFIG only (R309). -/
def stepTime (s : State) (w : TimeWrite) : State :=
  if !supplied s.dev then s
  else if s.dev.state = .boot ∨ s.dev.state = .config then
    settleSync (moveTimes s.now { s with dev := match w with
      | .offset o => { s.dev with dc := s.dev.dc - s.dev.dcOffset + o, dcOffset := o }
      | .localTime v => { s.dev with dc := v } })
  else raise s (.main gField 3) 0 0

def execSystemTimeOffset (w : TimeWrite) (s : State) : Host.Outcome State Fault Refusal := .next (stepTime s w)

/-- LATCH_EDGE: captured unless within 20 ns of the previous edge of its kind (R311). -/
def latched (s : State) (k : Nat) : State :=
  if !powered s then s else
  let f := s.field
  let last := lookup 0 f.latchLast k
  let f := { f with latchLast := put 0 f.latchLast k (s.now + 1) }
  { s with field := if 0 < last ∧ s.now + 1 < last + 20 then f else { f with latch := put 0 f.latch k s.now } }

def execLatchEdge (pin : Fin 2) (rising : Bool) (s : State) : Host.Outcome State Fault Refusal :=
  .next (latched s (2 * pin.val + if rising then 0 else 1))

/-! ### Links, bypass, SII (R301, R303 to R306, R335) -/

/-- LINK_LOST: the loop closes; a link held in SAFEOP or OP sets its leaf. -/
def linkLost (s : State) (p : Nat) : State :=
  if !s.field.links.getLsbD p then s else
  let s := { s with field := { s.field with links := (s.field.links &&& ~~~((1 : BitVec 4) <<< p)) ||| ((1 : BitVec 4) <<< (p + 2)) } }
  if s.dev.al = .safeop ∨ s.dev.al = .op then raise s (.main gField p) 0 0 else s

def linkGained (s : State) (p : Nat) : State :=
  if !powered s then s else { s with field := { s.field with links := (s.field.links ||| ((1 : BitVec 4) <<< p)) &&& ~~~((1 : BitVec 4) <<< (p + 2)) } }

def execLinkLost (p : Fin 2) (s : State) : Host.Outcome State Fault Refusal := .next (linkLost s p.val)
def execLinkUp (p : Fin 2) (s : State) : Host.Outcome State Fault Refusal := .next (linkGained s p.val)

def setBypass (s : State) (v : Nat) (on : Bool) : State := { s with dev := { s.dev with bypass := v, bypassPin := on } }

/-- BYPASS_ENGAGE (R304). -/
def execBypassEngage (s : State) : Host.Outcome State Fault Refusal :=
  .next (if powered s && !s.dev.bypassPin && s.dev.bypass != 3 then setBypass s 1 true else s)
/-- BYPASS_OVER_CURRENT and BYPASS_OPEN_LOAD, while engaged (R306). -/
def execBypassOverCurrent (s : State) : Host.Outcome State Fault Refusal :=
  .next (if s.dev.bypassPin then raise (setBypass s 3 false) (.main gField 6) 0 0 else s)
def execBypassOpenLoad (s : State) : Host.Outcome State Fault Refusal :=
  .next (if s.dev.bypassPin then raise (setBypass s 2 true) (.main gField 6) 0 0 else s)

/-- A write of 0x2020:05: TRUE turns the driver on again after over-current. -/
def writeReengage (s : State) (v : Nat) : State :=
  if !alwaysState s then answer s wrongState
  else if 1 < v then answer s outOfRange
  else answer (if v = 1 ∧ s.dev.bypass = 3 then setBypass s 1 true else s) okCode

def execBypassReengage (v : Byte) (s : State) : Host.Outcome State Fault Refusal := .next (writeReengage s v.toNat)

/-- The SII content, 2,048 bytes of the embedded flash, and a word of it as the master reads it (R303). -/
def siiBytes : List Byte := padTo 2048 (Config.siiContent.take 2048)
def siiWord (a : Nat) : BitVec 16 := BitVec.ofNat 16 (leNat ((siiBytes.drop (2 * a)).take 2))

/-- SII_WRITE: refused with the ESC's EEPROM error indication (R303). -/
def execSiiWrite (_addr _data : BitVec 16) (s : State) : Host.Outcome State Fault Refusal :=
  .next (if powered s then { s with field := { s.field with eepromError := true } } else s)

/-! ### Emergency and mailbox errors (R301, R322, R323) -/

/-- EMERGENCY: the oldest waiting message goes into SM1 with the error register as it is sent. -/
def sendEmergency (s : State) : State :=
  match s.causes.emQueue with
  | [] => s
  | m :: rest =>
    if !mailboxOn s then s
    else { s with causes := { s.causes with emQueue := rest, emSent := some { m with reg := errorRegister s.causes } } }

def execEmergency (s : State) : Host.Outcome State Fault Refusal := .next (sendEmergency s)

/-- The field port's answer in SM1: abort or error code, data. -/
def reply (s : State) (code : Nat) (data : List Byte) : State :=
  { s with field := { s.field with ansCode := BitVec.ofNat 32 code, ansData := data, ansBusy := false } }
/-- A refusal whose code the spec does not give: a free value (notes/assumptions/31). -/
def replyOpen (s : State) : State :=
  ({ s with field := { s.field with ansCode := freeAt 32 s.free 0, ansData := [], ansBusy := false } }).draw
/-- FoE BUSY (R321). -/
def replyBusy (s : State) : State := { s with field := { s.field with ansCode := 0, ansData := [], ansBusy := true } }

/-- MBX_ERROR: a mailbox type other than CoE (3) and FoE (4). -/
def execMbxError (mbxType : Byte) (s : State) : Host.Outcome State Fault Refusal :=
  .next (if !mailboxOn s ∨ mbxType.toNat = 3 ∨ mbxType.toNat = 4 then s else replyOpen (raise s (.main gField 5) 0 0))

end Sys2Proof.Machine
end

