-- ==== Sys2Proof/Machine/Dictionary.lean ====
section
/-! DEFINITION. Reads and writes of the object dictionary (spec/12 R329, R332, spec/11 R297), the mailbox of a channel
(spec/11 R296), SDO and SDO Information (spec/12 R319, R320), FoE (R321), and plain register writes (spec/00 R7). -/

namespace Sys2Proof.Machine

def noObject : Nat := 0x06020000
def noSubindex : Nat := 0x06090011
def readWo : Nat := 0x06010001
def writeRo : Nat := 0x06010002
def badLength : Nat := 0x06070010

/-- No object is reachable in BOOT (R324). -/
def reachable (s : State) : Bool := powered s && decide (s.dev.state ≠ .boot ∧ s.dev.state ≠ .off)

def missing (i : Nat) : Nat := if (odRows i).isEmpty then noObject else noSubindex

/-- Device states of a class (R329). -/
def classOk (s : State) : OdClass → Bool
  | .configuration => configState s
  | .setUp => setupState s
  | .runtime => runtimeState s
  | .always => alwaysState s
  | .own => true

/-! ### Writes -/

/-- A set-up entry takes its value. -/
def resilPut (s : State) (f : Resil → Resil) : State := answer { s with resil := f s.resil } okCode

/-- 0x2604:01: every HANG_LIMIT reads it; a cell obeys it from its next START (spec/10 R270). -/
def writeHang (s : State) (v : Nat) : State :=
  resilPut ((List.range 64).foldl (fun s g => s.modCell g (fun c =>
    { c with hangLimit := v, hangHeld := some (c.hangHeld.getD c.hangLimit) })) s) (fun r => { r with hangLimit := v })

def putComm (s : State) (i sub v : Nat) : State :=
  if i = 0x1C32 ∨ i = 0x1C33 then writeSync s i sub v else writePdo s i sub v

def putDevice (s : State) (i sub v : Nat) : State :=
  if i = 0x2000 then writeControl s v
  else match sub with
    | 1 => writeHostControl s v
    | 2 => answer { s with causes := { s.causes with emEnable := BitVec.ofNat 32 v &&& 0x1FFFF } } okCode
    | _ => writeReengage s v

def putPower (s : State) (i sub v : Nat) : State :=
  if i = 0x2230 then writePowerState s v
  else if i = 0x2201 then (if sub = 1 then writeTjLimit s v else writeLowBound s v)
  else match sub with
    | 1 => writeCap s v
    | 2 => writeOrder s v
    | 3 => writeLinkReserve s v
    | 4 => writeMemReserve s v
    | _ => writeCellLimit s v

/-- Trigger entries :02 to :05: one value changes, the others stay as they were written (spec/07 R167). -/
def putTrigger (s : State) (n sub v : Nat) : State :=
  let p := (s.trig n).present
  match sub with
  | 1 => writeTrigEnable s n (decide (v = 1))
  | 2 => writeTrigConfig s n v p.2.1 p.2.2.1 p.2.2.2
  | 3 => writeTrigConfig s n p.1 v p.2.2.1 p.2.2.2
  | 4 => writeTrigConfig s n p.1 p.2.1 v p.2.2.2
  | _ => writeTrigConfig s n p.1 p.2.1 p.2.2.1 v

/-- Bus mode and SCL rate (spec/07 R168): up to 1 MHz in I2C mode, 12.5 MHz otherwise. -/
def putBus (s : State) (b sub v : Nat) : State :=
  let x := s.bus b
  if sub = 1 then (if v ≤ 2 then answer (s.setBus b { x with mode := v }) okCode else answer s outOfRange)
  else if 1 ≤ v ∧ v ≤ (if x.mode = 2 then 1000 else 12500) then answer (s.setBus b { x with scl := v }) okCode
  else answer s outOfRange

def putStream (s : State) (i sub v : Nat) (l : List Byte) : State :=
  if i < 0x2320 then
    (match sub with
     | 1 => slotCommand s (i - 0x2300) v
     | 4 => writeGroup s (i - 0x2300) v
     | 5 => writeStreamDesc s (i - 0x2300) l
     | _ => writeHostCal s (i - 0x2300) l)
  else if i < 0x2410 then (if sub = 1 then writeLanes s (i - 0x2400) v else writeLaneRate s (i - 0x2400) v)
  else if i < 0x2420 then (if sub = 3 then writeBusTransfer s (i - 0x2410) l else putBus s (i - 0x2410) sub v)
  else if i < 0x2430 then putTrigger s (i - 0x2420) sub v
  else if i < 0x2460 then
    let x := s.slot (i - 0x2440)
    (if sub = 3 then answer (s.setSlot (i - 0x2440) { x with gcmdAddr := v }) okCode
     else if 1 ≤ v ∧ v ≤ 2 then answer (s.setSlot (i - 0x2440) { x with gcmdWidth := v }) okCode
     else answer s outOfRange)
  else if sub = 1 then writeRecSource s (i - 0x2460) v
  else if sub = 9 then writeConsumer s (i - 0x2460) v
  else writeRecEntry s (i - 0x2460) sub v

def putResil (s : State) (i sub v : Nat) : State :=
  if i = 0x2603 then
    (match sub with
     | 1 => if 10 ≤ v ∧ v ≤ 600 then resilPut s (fun r => { r with testCycle := v }) else answer s outOfRange
     | 2 => resilPut s (fun r => { r with forcedOn := decide (v = 1) })
     | _ => if 20 ≤ v ∧ v ≤ 10000 then resilPut s (fun r => { r with idleTime := v }) else answer s outOfRange)
  else if i = 0x2604 then (if 2 ≤ v ∧ v ≤ 1023 then writeHang s v else answer s outOfRange)
  else match sub with
    | 1 => writeRestartTacker s v
    | 2 => writeReplace s v
    | _ => writeWarm s v

def putBoot (s : State) (i sub v : Nat) (l : List Byte) : State :=
  if i = 0x2702 then
    (match sub with
     | 1 => writeUpdate s v
     | 2 => answer { s with boot := { s.boot with updAddr := v } } okCode
     | _ => answer { s with boot := { s.boot with updLen := v } } okCode)
  else if i = 0x2704 then writeActivation s v
  else writeNonce s l

def putCtx (s : State) (c sub v : Nat) (l : List Byte) : State :=
  match sub with
  | 1 => writeCtxCommand s c v
  | 2 => writeDescriptor s c l
  | 5 => writeLaunch s c v
  | 0x15 => writeStatsReset s c v
  | _ => if l.length = 16 then writeQueueCommand s c (BitVec.ofNat 128 (leNat l)) else answer s badLength

/-- A writable entry takes the bytes, by its own rules. -/
def odPut (s : State) (i sub : Nat) (l : List Byte) : State :=
  let v := leNat l
  if i < 0x2000 then putComm s i sub v
  else if i < 0x2100 then putDevice s i sub v
  else if i < 0x2200 then answer (writeCause s (mirrorOf i sub) (BitVec.ofNat 64 v)) okCode
  else if i < 0x2300 then putPower s i sub v
  else if i < 0x2500 then putStream s i sub v l
  else if i < 0x2700 then putResil s i sub v
  else if i < 0x3000 then putBoot s i sub v l
  else if i < 0x6000 then putCtx s (i - 0x3000) sub v l
  else if i < 0x7000 then writeResultBinding s (i - 0x6000) v
  else if sub = 1 then writeArgBinding s (i - 0x7000) v
  else writeArg s (i - 0x7000) sub l

/-- The bytes have a length that the type admits. -/
def lengthOk (t : OdType) (n : Nat) : Bool :=
  match t with
  | .domain m | .visible m => decide (n ≤ m)
  | _ => n == t.size

/-- The abort that a write meets before its own rules, 0 where it meets none (R297, R329). -/
def writeAbort (s : State) (i sub n : Nat) : Nat :=
  match odEntry i sub with
  | none => missing i
  | some r =>
    if r.acc = .ro ∨ r.acc = .const then writeRo
    else if !classOk s r.cls then wrongState
    else if !lengthOk r.typ n then badLength
    else okCode

/-- A write of an entry; the answer holds the abort code, 0 where it is done. -/
def odWrite (s : State) (i sub : Nat) (l : List Byte) : State :=
  if !reachable s then answer s wrongState
  else
    let e := writeAbort s i sub l.length
    if e ≠ 0 then answer s e
    else if (odEntry i sub).any (fun r => r.typ == .boolean) && decide (1 < leNat l) then answer s outOfRange
    else odPut s i sub l

/-! ### Reads -/

/-- What reading an entry does beside returning it: read-clear entries and the highest window (spec/11 R295, spec/09 R252). -/
def readEffect (s : State) (i sub : Nat) : State :=
  if i = 0x2204 ∧ sub = 2 then { s with power := { s.power with highest := 0 } }
  else if i = 0x2123 then
    (if sub = 0 then s else if sub ≤ 4 then { s with causes := { s.causes with lateCount := put 0 s.causes.lateCount (sub - 1) 0 } }
     else { s with causes := { s.causes with noticeLost := put 0 s.causes.noticeLost (sub - 5) 0 } })
  else s

/-- A read of an entry: the state after it, the abort code or 0, the bytes. -/
def odRead (s : State) (i sub : Nat) : State × Nat × List Byte :=
  if !reachable s then (s, wrongState, [])
  else match odEntry i sub with
    | none => (s, missing i, [])
    | some r =>
      if r.acc = .wo then (s, readWo, [])
      else if i = 0x2710 ∧ sub = 2 then
        let q := readQuote s
        (q.1, q.1.dev.answer.toNat, q.2)
      else (readEffect s i sub, 0, odValue s i sub)

/-- Present size of an entry. -/
def odSize (s : State) (i sub : Nat) : Nat :=
  match odEntry i sub with
  | none => 0
  | some r => if r.typ.numeric then r.typ.size else (odValue s i sub).length

/-! ### The mailbox of a channel (spec/11 R296, R297) -/

/-- Mailbox status of an abort code. -/
def mbStatus (code : Nat) : Nat :=
  if code = 0 then 0
  else if code = wrongState then 1
  else if code = outOfRange ∨ code = refusedCode then 2
  else if code = noObject then 3
  else if code = noSubindex then 4
  else if code = readWo ∨ code = writeRo then 5
  else 6

/-- The response is written and the request is done; a restart has dropped both. -/
def mbFinish (s : State) (ch i sub code : Nat) (data : List Byte) : State :=
  if !reachable s then s else
  let c := s.chan ch
  let total := odSize s i sub
  let head := leBytes 2 (mbStatus code) ++ leBytes 2 data.length ++ leBytes 4 total ++ leBytes 4 code ++ leBytes 2 c.mbAskSeq.toNat
  let s := s.setChan ch { c with mbResp := writeBytes (writeBytes [] 0 head) 64 data, mbState := 2, mbDone := c.mbAskSeq }
  let s := { s with hmp := { s.hmp with mbOrder := s.hmp.mbOrder.filter (fun k => k != ch) } }
  hmpLeaf s ch 11 0x8008

/-- A request's fields. -/
def mbOp (c : Chan) : Nat := readLE c.mbAsk 0 1
def mbLast (c : Chan) : Bool := (readLE c.mbAsk 1 1).testBit 0
def mbIndex (c : Chan) : Nat := readLE c.mbAsk 2 2
def mbSub (c : Chan) : Nat := readLE c.mbAsk 4 1
def mbOffset (c : Chan) : Nat := readLE c.mbAsk 8 4
def mbLength (c : Chan) : Nat := readLE c.mbAsk 12 2

def setPart (s : State) (ch : Nat) (p : Option (Nat × Nat × List Byte)) : State := s.setChan ch { s.chan ch with mbPart := p }

/-- A read request; a later segment of a quote reads the quote as it was formed. -/
def mbRead (s : State) (ch : Nat) : State :=
  let c := s.chan ch
  let i := mbIndex c
  let sub := mbSub c
  let off := mbOffset c
  let r := if i = 0x2710 ∧ sub = 2 ∧ 0 < off then (s, 0, s.boot.quote) else odRead s i sub
  if r.2.1 ≠ 0 then mbFinish r.1 ch i sub r.2.1 []
  else if r.2.2.length < off then mbFinish s ch i sub outOfRange []
  else mbFinish r.1 ch i sub 0 ((r.2.2.drop off).take (min (mbLength c) 1024))

/-- A write request: whole, or a segment of one, which follows the part that has arrived (R296). -/
def mbWrite (s : State) (ch : Nat) : State :=
  let c := s.chan ch
  let i := mbIndex c
  let sub := mbSub c
  let off := mbOffset c
  let n := mbLength c
  let part : List Byte := match c.mbPart with | some p => p.2.2 | none => []
  let drop := fun (s : State) (e : Nat) => mbFinish (setPart s ch none) ch i sub e []
  if n < 1 ∨ 1024 < n then drop s badLength
  else if off ≠ part.length then drop s refusedCode
  else
    let l := part ++ readBytes c.mbAsk 64 n
    if mbLast c ∨ s.hmp.minor < 1 then
      let s := odWrite (setPart s ch none) i sub l
      mbFinish s ch i sub s.dev.answer.toNat []
    else if 65536 < l.length then drop s badLength
    else match odEntry i sub with
      | none => drop s (missing i)
      | some r =>
        if r.acc = .ro ∨ r.acc = .const then drop s writeRo
        else mbFinish (setPart s ch (some (i, sub, l))) ch i sub 0 []

/-- Cobbler performs the oldest request. A request to another entry before LAST discards a partial write (R296). -/
def mailbox (s : State) (ch : Nat) (write : Bool) : State :=
  let c := s.chan ch
  if s.hmp.mbOrder.head? ≠ some ch ∨ (mbOp c == 2) ≠ write ∨ !reachable s then s
  else
    let i := mbIndex c
    let sub := mbSub c
    let other := match c.mbPart with | some p => decide (p.1 ≠ i ∨ p.2.1 ≠ sub) | none => false
    if other then mbFinish (setPart s ch none) ch i sub refusedCode []
    else if (mbOp c ≠ 1 ∧ mbOp c ≠ 2) ∨ (mbOffset c ≠ 0 ∧ s.hmp.minor < 1) then mbFinish s ch i sub refusedCode []
    else if write then mbWrite s ch else mbRead s ch

def execMailboxRead (ch : ChanNo) (s : State) : Host.Outcome State Fault Refusal := .next (mailbox s ch.val false)
def execMailboxWrite (ch : ChanNo) (s : State) : Host.Outcome State Fault Refusal := .next (mailbox s ch.val true)

/-! ### REGISTER_WRITE (spec/00 R7) -/

def execRegisterWrite (r : RegRef) (s : State) : Host.Outcome State Fault Refusal :=
  match r with
  | .cell g off v => .next (withFence s g.val (fun s => writeCell s g.val off.toNat v))
  | .port ch off v => hostWord s ch off.toNat v
  | .entry index sub data => .next (odWrite s index.toNat sub.toNat data)

/-! ### SDO (R319, R320) -/

/-- Bytes of an initiate message and of a segment in a mailbox of 1,024 bytes. -/
def sdoFirst : Nat := 1008
def sdoNext : Nat := 1015

def endSdo (s : State) (x : Option SdoSeg) : State := { s with field := { s.field with sdo := x } }

/-- An upload's answer: whole, or its first part. -/
def sdoAnswer (s : State) (i sub : Nat) (l : List Byte) : State :=
  if l.length ≤ sdoFirst then reply s 0 l
  else reply (endSdo s (some ⟨true, i, sub, l.length, l.drop sdoFirst, false, s.now⟩)) 0 (l.take sdoFirst)

def sdoUpload (s : State) (i sub : Nat) : State :=
  if !mailboxOn s then s else
  let r := odRead (endSdo s none) i sub
  if r.2.1 ≠ 0 then reply r.1 r.2.1 [] else sdoAnswer r.1 i sub r.2.2

def execSdoUpload (index : BitVec 16) (sub : Byte) (s : State) : Host.Outcome State Fault Refusal := .next (sdoUpload s index.toNat sub.toNat)

/-- An entry is written by a whole transfer. -/
def sdoPerform (s : State) (i sub : Nat) (l : List Byte) : State :=
  let s := odWrite s i sub l
  reply s s.dev.answer.toNat []

def sdoDownload (s : State) (i sub total : Nat) (l : List Byte) : State :=
  if !mailboxOn s then s else
  let s := endSdo s none
  if total = l.length then sdoPerform s i sub l
  else if 65536 < total then reply s 0x05040005 []
  else match odEntry i sub with
    | none => reply s (missing i) []
    | some r =>
      if r.acc = .ro ∨ r.acc = .const then reply s writeRo []
      else reply (endSdo s (some ⟨false, i, sub, total, l, false, s.now⟩)) 0 []

/-- SDO_DOWNLOAD: the initiate message with the size of the whole and the bytes it carries. -/
def execSdoDownload (index : BitVec 16) (sub : Byte) (total : Nat) (data : List Byte) (s : State) : Host.Outcome State Fault Refusal :=
  if data.length ≤ total ∧ data.length ≤ sdoFirst then .next (sdoDownload s index.toNat sub.toNat total data) else .refused .illFormed

/-- A segment: the toggle bit starts at 0 and alternates. -/
def sdoSegment (s : State) (toggle last : Bool) (l : List Byte) : State :=
  if !mailboxOn s then s else
  match s.field.sdo with
  | none => reply s 0x05040001 []
  | some x =>
    if toggle ≠ x.toggle then reply (endSdo s none) 0x05030000 []
    else if x.upload then
      let rest := x.data.drop sdoNext
      reply (endSdo s (if rest.isEmpty then none else some { x with data := rest, toggle := !x.toggle, since := s.now })) 0 (x.data.take sdoNext)
    else
      let d := x.data ++ l
      if last then (if d.length = x.total then sdoPerform (endSdo s none) x.index x.sub d else reply (endSdo s none) badLength [])
      else if x.total < d.length then reply (endSdo s none) badLength []
      else reply (endSdo s (some { x with data := d, toggle := !x.toggle, since := s.now })) 0 []

def execSdoSegment (toggle last : Bool) (data : List Byte) (s : State) : Host.Outcome State Fault Refusal :=
  if data.length ≤ sdoNext then .next (sdoSegment s toggle last data) else .refused .illFormed

def sdoTimeout (s : State) : State :=
  match s.field.sdo with
  | none => s
  | some x => if s.now < x.since + 1000000000 then s else reply (endSdo s none) 0x05040000 []

def execSdoSegmentTimeout (s : State) : Host.Outcome State Fault Refusal := .next (sdoTimeout s)

/-- Complete access, reading: the entries in order; a write-only entry reads 0; subindex 0 takes two bytes. -/
def caRead (s : State) (i sub : Nat) : State × Nat × List Byte :=
  ((List.range (odHighest i + 1)).filter (fun k => decide (sub ≤ k) && (odEntry i k).isSome)).foldl (fun a k =>
    if a.2.1 ≠ 0 then a else
    let wo := (odEntry i k).any (fun r => r.acc == .wo)
    let r := if wo then (a.1, 0, odValue a.1 i k) else odRead a.1 i k
    (r.1, r.2.1, a.2.2 ++ r.2.2 ++ (if k = 0 ∧ r.2.2.length = 1 then [0] else []))) (s, 0, [])

/-- Complete access, writing: the entries that the bytes fill, in order, and the count of subindex 0 last. -/
def caEntries (i : Nat) : Nat → Nat → List Byte → List (Nat × List Byte)
  | 0, _, _ => []
  | n + 1, k, l =>
    match odEntry i k with
    | none => []
    | some r => if l.isEmpty then [] else (k, l.take r.typ.size) :: caEntries i n (k + 1) (l.drop r.typ.size)

def caWritable (i : Nat) : Bool := isTxMap i || isRxMap i || isAssign i || decide (0x6000 ≤ i)

/-- A part of a complete-access write that changes nothing: a read-only entry, or the value that an entry which the state shuts holds
already. That such parts are passed over is the model's choice (notes/assumptions/152). -/
def caPassed (s : State) (i sub : Nat) (l : List Byte) : Bool :=
  (odEntry i sub).any (fun r => r.acc == .ro || r.acc == .const || (!classOk s r.cls && odValue s i sub == l))

/-- Every part is written, or none is. -/
def caAll (s : State) (i : Nat) (l : List (Nat × List Byte)) : State :=
  l.foldl (fun t p => if t.dev.answer ≠ 0 || (decide (0x6000 ≤ i) && caPassed t i p.1 p.2) then t else odWrite t i p.1 p.2) (answer s okCode)

def caWrite (s : State) (i sub : Nat) (l : List Byte) : State :=
  let body := caEntries i (odHighest i) 1 (if sub = 0 then l.drop 2 else l)
  let pdo := isTxMap i || isRxMap i || isAssign i
  let parts := if sub = 0 ∧ pdo then (0, [0]) :: body ++ [(0, l.take 1)] else body
  let t := if sub = 0 ∧ !pdo ∧ leNat (l.take 2) ≠ odHighest i then answer s writeRo
    else if !(body.any (fun p => !caPassed s i p.1 p.2)) ∧ 0x6000 ≤ i ∧ !configState s ∧ !runtimeState s then answer s wrongState
    else caAll s i parts
  if t.dev.answer = 0 then t else answer s t.dev.answer.toNat

def completeAccess (s : State) (write : Bool) (i sub : Nat) (l : List Byte) : State :=
  if !mailboxOn s then s else
  let s := endSdo s none
  if !reachable s then reply s wrongState []
  else if (odRows i).isEmpty then reply s noObject []
  else if write then
    (if caWritable i then (let t := caWrite s i sub l; reply t t.dev.answer.toNat []) else reply s 0x06010000 [])
  else
    let r := caRead s i sub
    if r.2.1 ≠ 0 then reply s r.2.1 []
    else if 65536 < r.2.2.length then reply s 0x05040005 []
    else sdoAnswer r.1 i sub r.2.2

def execCompleteAccess (write : Bool) (index : BitVec 16) (sub : Fin 2) (data : List Byte) (s : State) : Host.Outcome State Fault Refusal :=
  .next (completeAccess s write index.toNat sub.val data)

/-! ### SDO Information (R320) -/

def odExists (i : Nat) : Bool := !(odRows i).isEmpty
def odIndices : List Nat := (List.range 0x8000).filter odExists

/-- Lists 1 to 5: all, mappable into an RxPDO, into a TxPDO, for device replacement, for start-up. -/
def odListOf (t : Nat) : List Nat :=
  match t with
  | 1 => odIndices
  | 2 => odIndices.filter (fun i => (odRows i).any (fun r => r.mapping == 2))
  | 3 => odIndices.filter (fun i => (odRows i).any (fun r => r.mapping == 1))
  | _ => (Config.odList t).filter odExists

def inform (s : State) (x : OdInfo) : State := reply { s with field := { s.field with info := some x } } 0 []

def execGetOdList (listType : Fin 6) (s : State) : Host.Outcome State Fault Refusal :=
  .next (if !mailboxOn s then s
    else inform s (if listType.val = 0 then .lengths ((List.range 5).map (fun t => (odListOf (t + 1)).length)) else .list (odListOf listType.val)))

def execGetObjectDescription (index : BitVec 16) (s : State) : Host.Outcome State Fault Refusal :=
  .next (if !mailboxOn s then s
    else if odExists index.toNat then inform s (.object index.toNat (odHighest index.toNat)) else reply s noObject [])

/-- Data type, bit length, access, mappability, default, and the range where the manual gives one. -/
def execGetEntryDescription (index : BitVec 16) (sub : Byte) (s : State) : Host.Outcome State Fault Refusal :=
  .next (if !mailboxOn s then s
    else match odEntry index.toNat sub.toNat with
      | none => reply s (missing index.toNat) []
      | some r => inform s (.entry r.typ (8 * r.typ.size) r.acc r.mapping (odValue defaultState index.toNat sub.toNat) r.range))

/-! ### FoE (R321, spec/13 R350) -/

/-- FoE works in PREOP, SAFEOP and OP; in FAULT only the always class works (R324). -/
def foeOpen (s : State) : Bool := mailboxOn s && reachable s && s.power.pstate != 3 && decide (s.dev.state ≠ .fault)

def setFoe (s : State) (x : Option FoeSt) : State := { s with field := { s.field with foe := x } }

/-- The flash is erased or programmed, for an update that FoE or 0x2702 delivered: BUSY. -/
def foeBusy (s : State) : Bool := s.boot.upd.isSome

/-- A request that opens a transfer, with its password. -/
def foeRequest (s : State) (password : BitVec 32) (f : State → State) : State :=
  if !mailboxOn s then s
  else if !foeOpen s ∨ password ≠ 0 then replyOpen s
  else f s

/-- FOE_WRITE_FIRMWARE: only one update runs at a time. -/
def foeFirmware (s : State) : State :=
  if s.boot.upd.isSome then reply s 0x8002 [] else reply (setFoe s (some ⟨0, 0, 1, []⟩)) 0 []

def execFoeWriteFirmware (password : BitVec 32) (s : State) : Host.Outcome State Fault Refusal := .next (foeRequest s password foeFirmware)

/-- FOE_READ_FIRMWARE is refused. -/
def execFoeReadFirmware (s : State) : Host.Outcome State Fault Refusal := .next (if mailboxOn s then reply s 0x8002 [] else s)

def hexDigit (b : Byte) : Option Nat :=
  let n := b.toNat
  if 48 ≤ n ∧ n ≤ 57 then some (n - 48) else if 65 ≤ n ∧ n ≤ 70 then some (n - 55) else if 97 ≤ n ∧ n ≤ 102 then some (n - 87) else none

/-- The address of a PLM: name; none where it is another name. -/
def plmName (l : List Byte) : Option Nat :=
  if l.length = 13 ∧ l.take 4 = ascii "PLM:" then
    (l.drop 4).foldl (fun a b => match a, hexDigit b with | some v, some d => some (16 * v + d) | _, _ => none) (some 0)
  else none

/-- The name and the address of a PLM: file. -/
def plmFile (s : State) (name : List Byte) (f : Nat → State) : State :=
  match plmName name with
  | none => reply s 0x8001 []
  | some a => if a % 32 ≠ 0 ∨ lpddrSize ≤ a then reply s 0x8004 [] else if foeBusy s then replyBusy s else f a

def foePacket : Nat := 1012

/-- The part of a PLM: read that packet n carries. -/
def plmChunk (s : State) (a n : Nat) : List Byte :=
  let o := foePacket * (n - 1)
  let total := min 268435456 (lpddrSize - a)
  readBytes s.fabric.lpddr (a + o) (min foePacket (total - o))

/-- A packet of a PLM: read; one that holds an uncorrectable word or lies in a lost quarter is not delivered (spec/10 R254, spec/01 R25):
the error it ends the transfer with is the model's choice (notes/assumptions/148). -/
def plmSend (s : State) (x : FoeSt) : State :=
  let o := x.addr + foePacket * (x.packet - 1)
  let l := plmChunk s x.addr x.packet
  let bad := badIn s o l.length
  if bad.isEmpty && !lostIn s o l.length then reply (setFoe s (some x)) 0 l
  else reply (setFoe (bad.foldl (fun s a => memUncorrectable s 0 a) s) none) 0x8002 []

def execFoeReadPlm (name : List Byte) (password : BitVec 32) (s : State) : Host.Outcome State Fault Refusal :=
  .next (foeRequest s password (fun s =>
    if name = ascii "FIRMWARE" then reply s 0x8002 []
    else plmFile s name (fun a => plmSend s ⟨2, a, 1, []⟩)))

def execFoeWritePlm (name : List Byte) (password : BitVec 32) (s : State) : Host.Outcome State Fault Refusal :=
  .next (foeRequest s password (fun s =>
    if name = ascii "FIRMWARE" then foeFirmware s
    else plmFile s name (fun a => reply (setFoe s (some ⟨1, a, 1, []⟩)) 0 [])))

/-- Bytes written under the host owner tag up to the first line that it may not write, or that a lost quarter holds: the state, and whether all landed. -/
def plmLand (s : State) (a : Nat) : List Byte → State × Bool
  | [] => (s, true)
  | b :: l => if hostMayWrite s a && !asleep s && !lostAddr s a then plmLand (hostByte s a b) (a + 1) l else (s, false)

/-- The image is whole: the update begins, or the transfer ends with its error. -/
def foeImage (s : State) (image : List Byte) : State :=
  if s.boot.upd.isSome then reply (setFoe s none) 0x8002 [] else
  let s := beginUpdate s image true true
  if s.boot.upd.isSome then replyBusy (setFoe s (some ⟨3, 0, 0, []⟩)) else reply (setFoe s none) 0x800B []

/-- A data packet in order. -/
def foeTake (s : State) (x : FoeSt) (l : List Byte) : State :=
  let last := decide (l.length < foePacket)
  match x.kind with
  | 0 =>
    let d := x.data ++ l
    if 6295552 < d.length then reply (setFoe s none) 0x800B []
    else if last then foeImage s d
    else reply (setFoe s (some { x with packet := x.packet + 1, data := d })) 0 []
  | 1 =>
    let o := foePacket * (x.packet - 1)
    if min 268435456 (lpddrSize - x.addr) < o + l.length then reply (setFoe s none) 0x8004 []
    else
      let r := plmLand s (x.addr + o) l
      if !r.2 then reply (setFoe r.1 none) 0x8002 []
      else reply (setFoe r.1 (if last then none else some { x with packet := x.packet + 1 })) 0 []
  | _ =>
    if (plmChunk s x.addr x.packet).length < foePacket then reply (setFoe s none) 0 []
    else plmSend s { x with packet := x.packet + 1 }

/-- FOE_DATA: a data packet of a write, or the master's acknowledgement of a packet of a read. -/
def foeData (s : State) (packet : Nat) (l : List Byte) : State :=
  if !foeOpen s then s else
  match s.field.foe with
  | none => s
  | some x =>
    if x.kind = 3 || (foeBusy s && x.kind != 0) then replyBusy s
    else if packet ≠ x.packet then reply (setFoe s none) 0x8005 []
    else foeTake s x l

def execFoeData (packet : BitVec 32) (data : List Byte) (s : State) : Host.Outcome State Fault Refusal :=
  if data.length ≤ foePacket then .next (foeData s packet.toNat data) else .refused .illFormed

end Sys2Proof.Machine
end

