-- ==== Sys2Proof/Machine/VectorOps.lean ====
section
/-! DEFINITION. The Plamor-V instructions as commands (spec/05 R109): one instruction in the cell's current tile program, or
in a hardware thread. A command whose program or thread is not running changes nothing (notes/assumptions/2). -/

namespace Sys2Proof.Machine

/-- An instruction of the current tile program takes effect; an invalid one halts the cell (R110). -/
def tileExec (s : State) (g : Nat) (w : Word) : State :=
  let c := s.cell g
  if !c.live then s else
  match c.vctx with
  | [] => s
  | _ :: _ =>
    match vTile (vEnv s) c w with
    | .ok c => (s.setCell g c).draw
    | .invalid c => s.setCell g (haltProg s.now c .illegalOp)
    | .noPlace => s.modCell g (fun c => setStalls c (c.stalls ||| 0x08))

/-- A Plamor-V command: the word must be of the row. -/
def vectorOp (code : Nat) (g : CellNo) (m : VWhere) (w : Word) (s : State) : Host.Outcome State Fault Refusal :=
  if vOp w ≠ code then .refused .illFormed else
  match m with
  | .tile => .next (tileExec s g.val w)
  | .thread t =>
    .next (if (s.cell g.val).live && (lookup {} (s.cell g.val).threads t.val).status == 1 then threadExec s g.val t.val w else s)

/-- VNOP does nothing. -/
def execVnop (g : CellNo) (m : VWhere) (w : Word) (s : State) : Host.Outcome State Fault Refusal := vectorOp 0x00 g m w s
/-- VEND ends the tile program or the thread (R108, R118). -/
def execVend (g : CellNo) (m : VWhere) (w : Word) (s : State) : Host.Outcome State Fault Refusal := vectorOp 0x01 g m w s
/-- VZERO writes all bits 0. -/
def execVzero (g : CellNo) (m : VWhere) (w : Word) (s : State) : Host.Outcome State Fault Refusal := vectorOp 0x02 g m w s
/-- VMOV copies va. -/
def execVmov (g : CellNo) (m : VWhere) (w : Word) (s : State) : Host.Outcome State Fault Refusal := vectorOp 0x03 g m w s
/-- VSPLAT widens a BF16 immediate. -/
def execVsplat (g : CellNo) (m : VWhere) (w : Word) (s : State) : Host.Outcome State Fault Refusal := vectorOp 0x04 g m w s
/-- VADD adds. -/
def execVadd (g : CellNo) (m : VWhere) (w : Word) (s : State) : Host.Outcome State Fault Refusal := vectorOp 0x10 g m w s
/-- VSUB subtracts. -/
def execVsub (g : CellNo) (m : VWhere) (w : Word) (s : State) : Host.Outcome State Fault Refusal := vectorOp 0x11 g m w s
/-- VMUL multiplies. -/
def execVmul (g : CellNo) (m : VWhere) (w : Word) (s : State) : Host.Outcome State Fault Refusal := vectorOp 0x12 g m w s
/-- VFMA multiplies and adds with one rounding. -/
def execVfma (g : CellNo) (m : VWhere) (w : Word) (s : State) : Host.Outcome State Fault Refusal := vectorOp 0x13 g m w s
/-- VMAX takes the maximum. -/
def execVmax (g : CellNo) (m : VWhere) (w : Word) (s : State) : Host.Outcome State Fault Refusal := vectorOp 0x14 g m w s
/-- VMIN takes the minimum. -/
def execVmin (g : CellNo) (m : VWhere) (w : Word) (s : State) : Host.Outcome State Fault Refusal := vectorOp 0x15 g m w s
/-- VDIV divides. -/
def execVdiv (g : CellNo) (m : VWhere) (w : Word) (s : State) : Host.Outcome State Fault Refusal := vectorOp 0x16 g m w s
/-- VSQRT takes the square root. -/
def execVsqrt (g : CellNo) (m : VWhere) (w : Word) (s : State) : Host.Outcome State Fault Refusal := vectorOp 0x17 g m w s
/-- VABS takes the magnitude. -/
def execVabs (g : CellNo) (m : VWhere) (w : Word) (s : State) : Host.Outcome State Fault Refusal := vectorOp 0x18 g m w s
/-- VEXP e^va by table (R49). -/
def execVexp (g : CellNo) (m : VWhere) (w : Word) (s : State) : Host.Outcome State Fault Refusal := vectorOp 0x20 g m w s
/-- VLOG ln va by table (R49). -/
def execVlog (g : CellNo) (m : VWhere) (w : Word) (s : State) : Host.Outcome State Fault Refusal := vectorOp 0x21 g m w s
/-- VRSQRT 1/sqrt va by table (R49). -/
def execVrsqrt (g : CellNo) (m : VWhere) (w : Word) (s : State) : Host.Outcome State Fault Refusal := vectorOp 0x22 g m w s
/-- VSIGM the logistic function by table (R49). -/
def execVsigm (g : CellNo) (m : VWhere) (w : Word) (s : State) : Host.Outcome State Fault Refusal := vectorOp 0x23 g m w s
/-- VTANH tanh va by table (R49). -/
def execVtanh (g : CellNo) (m : VWhere) (w : Word) (s : State) : Host.Outcome State Fault Refusal := vectorOp 0x24 g m w s
/-- VCMP compares into a predicate. -/
def execVcmp (g : CellNo) (m : VWhere) (w : Word) (s : State) : Host.Outcome State Fault Refusal := vectorOp 0x30 g m w s
/-- VSEL selects by a predicate. -/
def execVsel (g : CellNo) (m : VWhere) (w : Word) (s : State) : Host.Outcome State Fault Refusal := vectorOp 0x31 g m w s
/-- VCVT converts to a FORMAT code (R32). -/
def execVcvt (g : CellNo) (m : VWhere) (w : Word) (s : State) : Host.Outcome State Fault Refusal := vectorOp 0x38 g m w s
/-- VQNT quantises (R41). -/
def execVqnt (g : CellNo) (m : VWhere) (w : Word) (s : State) : Host.Outcome State Fault Refusal := vectorOp 0x39 g m w s
/-- VDEQ dequantises. -/
def execVdeq (g : CellNo) (m : VWhere) (w : Word) (s : State) : Host.Outcome State Fault Refusal := vectorOp 0x3A g m w s
/-- VAMAX finds the largest magnitude. -/
def execVamax (g : CellNo) (m : VWhere) (w : Word) (s : State) : Host.Outcome State Fault Refusal := vectorOp 0x40 g m w s
/-- VSCALE forms a group scale (R122). -/
def execVscale (g : CellNo) (m : VWhere) (w : Word) (s : State) : Host.Outcome State Fault Refusal := vectorOp 0x41 g m w s
/-- VLDD reads the next drain slice (R113). -/
def execVldd (g : CellNo) (m : VWhere) (w : Word) (s : State) : Host.Outcome State Fault Refusal := vectorOp 0x50 g m w s
/-- VLDS reads a source slice (R117). -/
def execVlds (g : CellNo) (m : VWhere) (w : Word) (s : State) : Host.Outcome State Fault Refusal := vectorOp 0x51 g m w s
/-- VSTD stores a slice to the destination tile (R121). -/
def execVstd (g : CellNo) (m : VWhere) (w : Word) (s : State) : Host.Outcome State Fault Refusal := vectorOp 0x52 g m w s
/-- VLD loads a cell-store line. -/
def execVld (g : CellNo) (m : VWhere) (w : Word) (s : State) : Host.Outcome State Fault Refusal := vectorOp 0x53 g m w s
/-- VST stores a cell-store line. -/
def execVst (g : CellNo) (m : VWhere) (w : Word) (s : State) : Host.Outcome State Fault Refusal := vectorOp 0x54 g m w s
/-- VLDC loads per-column words. -/
def execVldc (g : CellNo) (m : VWhere) (w : Word) (s : State) : Host.Outcome State Fault Refusal := vectorOp 0x55 g m w s
/-- VSTS stores the tile's group scales (R122). -/
def execVsts (g : CellNo) (m : VWhere) (w : Word) (s : State) : Host.Outcome State Fault Refusal := vectorOp 0x56 g m w s
/-- VGATH gathers words (R119). -/
def execVgath (g : CellNo) (m : VWhere) (w : Word) (s : State) : Host.Outcome State Fault Refusal := vectorOp 0x58 g m w s
/-- VSCAT scatters words (R119). -/
def execVscat (g : CellNo) (m : VWhere) (w : Word) (s : State) : Host.Outcome State Fault Refusal := vectorOp 0x59 g m w s
/-- VSCADD adds into words (R119). -/
def execVscadd (g : CellNo) (m : VWhere) (w : Word) (s : State) : Host.Outcome State Fault Refusal := vectorOp 0x5A g m w s
/-- VHGET reads a history entry (R123). -/
def execVhget (g : CellNo) (m : VWhere) (w : Word) (s : State) : Host.Outcome State Fault Refusal := vectorOp 0x60 g m w s
/-- VHPUT writes a history entry (R123). -/
def execVhput (g : CellNo) (m : VWhere) (w : Word) (s : State) : Host.Outcome State Fault Refusal := vectorOp 0x61 g m w s
/-- VRSRST resets the row statistics (R131). -/
def execVrsrst (g : CellNo) (m : VWhere) (w : Word) (s : State) : Host.Outcome State Fault Refusal := vectorOp 0x68 g m w s
/-- VRNORM normalises a slice (R134). -/
def execVrnorm (g : CellNo) (m : VWhere) (w : Word) (s : State) : Host.Outcome State Fault Refusal := vectorOp 0x69 g m w s

end Sys2Proof.Machine
end

