-- ==== Sys2Proof/Machine/Dispatch.lean ====
section
/-! DEFINITION. The command's effect: one arm per row of spec/opcode_table.json. -/

namespace Sys2Proof.Machine

def exec (i : Instr) (s : State) : Host.Outcome State Fault Refusal :=
  match i with
  | .nop g w => Sys2Proof.Machine.execNop g w s
  | .halt g w => Sys2Proof.Machine.execHalt g w s
  | .waits g w => Sys2Proof.Machine.execWaits g w s
  | .drain g w => Sys2Proof.Machine.execDrain g w s
  | .hint g w => Sys2Proof.Machine.execHint g w s
  | .loop g w => Sys2Proof.Machine.execLoop g w s
  | .endloop g w => Sys2Proof.Machine.execEndloop g w s
  | .mma g w => Sys2Proof.Machine.execMma g w s
  | .mmat g w => Sys2Proof.Machine.execMmat g w s
  | .conv g w => Sys2Proof.Machine.execConv g w s
  | .dwc g w => Sys2Proof.Machine.execDwc g w s
  | .gap g w => Sys2Proof.Machine.execGap g w s
  | .awl g w => Sys2Proof.Machine.execAwl g w s
  | .vrun g w => Sys2Proof.Machine.execVrun g w s
  | .vthr g w => Sys2Proof.Machine.execVthr g w s
  | .lace g w => Sys2Proof.Machine.execLace g w s
  | .tpost g w => Sys2Proof.Machine.execTpost g w s
  | .sigset g w => Sys2Proof.Machine.execSigset g w s
  | .sigadd g w => Sys2Proof.Machine.execSigadd g w s
  | .sigwait g w => Sys2Proof.Machine.execSigwait g w s
  | .barrier g w => Sys2Proof.Machine.execBarrier g w s
  | .unassignedOpcode g w => Sys2Proof.Machine.execUnassignedOpcode g w s
  | .stitch g ev => Sys2Proof.Machine.execStitch g ev s
  | .stitchHang g => Sys2Proof.Machine.execStitchHang g s
  | .haltObeyed g => Sys2Proof.Machine.execHaltObeyed g s
  | .start g => Sys2Proof.Machine.execStart g s
  | .haltReq g => Sys2Proof.Machine.execHaltReq g s
  | .fence g => Sys2Proof.Machine.execFence g s
  | .fenceClear g => Sys2Proof.Machine.execFenceClear g s
  | .cntClr g => Sys2Proof.Machine.execCntClr g s
  | .registerWrite r => Sys2Proof.Machine.execRegisterWrite r s
  | .readClear f concurrent => Sys2Proof.Machine.execReadClear f concurrent s
  | .sentLogRead g e high => Sys2Proof.Machine.execSentLogRead g e high s
  | .lacerTransferComplete q l by_ => Sys2Proof.Machine.execLacerTransferComplete q l by_ s
  | .awlCommandBegin q => Sys2Proof.Machine.execAwlCommandBegin q s
  | .awlCommandComplete q => Sys2Proof.Machine.execAwlCommandComplete q s
  | .tpostLanded g => Sys2Proof.Machine.execTpostLanded g s
  | .counterUpdateApplied q => Sys2Proof.Machine.execCounterUpdateApplied q s
  | .releasedUpdate g => Sys2Proof.Machine.execReleasedUpdate g s
  | .threadStep g => Sys2Proof.Machine.execThreadStep g s
  | .vnop g m w => Sys2Proof.Machine.execVnop g m w s
  | .vend g m w => Sys2Proof.Machine.execVend g m w s
  | .vzero g m w => Sys2Proof.Machine.execVzero g m w s
  | .vmov g m w => Sys2Proof.Machine.execVmov g m w s
  | .vsplat g m w => Sys2Proof.Machine.execVsplat g m w s
  | .vadd g m w => Sys2Proof.Machine.execVadd g m w s
  | .vsub g m w => Sys2Proof.Machine.execVsub g m w s
  | .vmul g m w => Sys2Proof.Machine.execVmul g m w s
  | .vfma g m w => Sys2Proof.Machine.execVfma g m w s
  | .vmax g m w => Sys2Proof.Machine.execVmax g m w s
  | .vmin g m w => Sys2Proof.Machine.execVmin g m w s
  | .vdiv g m w => Sys2Proof.Machine.execVdiv g m w s
  | .vsqrt g m w => Sys2Proof.Machine.execVsqrt g m w s
  | .vabs g m w => Sys2Proof.Machine.execVabs g m w s
  | .vexp g m w => Sys2Proof.Machine.execVexp g m w s
  | .vlog g m w => Sys2Proof.Machine.execVlog g m w s
  | .vrsqrt g m w => Sys2Proof.Machine.execVrsqrt g m w s
  | .vsigm g m w => Sys2Proof.Machine.execVsigm g m w s
  | .vtanh g m w => Sys2Proof.Machine.execVtanh g m w s
  | .vcmp g m w => Sys2Proof.Machine.execVcmp g m w s
  | .vsel g m w => Sys2Proof.Machine.execVsel g m w s
  | .vcvt g m w => Sys2Proof.Machine.execVcvt g m w s
  | .vqnt g m w => Sys2Proof.Machine.execVqnt g m w s
  | .vdeq g m w => Sys2Proof.Machine.execVdeq g m w s
  | .vamax g m w => Sys2Proof.Machine.execVamax g m w s
  | .vscale g m w => Sys2Proof.Machine.execVscale g m w s
  | .vldd g m w => Sys2Proof.Machine.execVldd g m w s
  | .vlds g m w => Sys2Proof.Machine.execVlds g m w s
  | .vstd g m w => Sys2Proof.Machine.execVstd g m w s
  | .vld g m w => Sys2Proof.Machine.execVld g m w s
  | .vst g m w => Sys2Proof.Machine.execVst g m w s
  | .vldc g m w => Sys2Proof.Machine.execVldc g m w s
  | .vsts g m w => Sys2Proof.Machine.execVsts g m w s
  | .vgath g m w => Sys2Proof.Machine.execVgath g m w s
  | .vscat g m w => Sys2Proof.Machine.execVscat g m w s
  | .vscadd g m w => Sys2Proof.Machine.execVscadd g m w s
  | .vhget g m w => Sys2Proof.Machine.execVhget g m w s
  | .vhput g m w => Sys2Proof.Machine.execVhput g m w s
  | .vrsrst g m w => Sys2Proof.Machine.execVrsrst g m w s
  | .vrnorm g m w => Sys2Proof.Machine.execVrnorm g m w s
  | .tackerCellFailure g => Sys2Proof.Machine.execTackerCellFailure g s
  | .cellRestartDone g => Sys2Proof.Machine.execCellRestartDone g s
  | .inServiceTestDone g passed => Sys2Proof.Machine.execInServiceTestDone g passed s
  | .istIdleStart g => Sys2Proof.Machine.execIstIdleStart g s
  | .istCycleEnd => Sys2Proof.Machine.execIstCycleEnd s
  | .claim n g job => Sys2Proof.Machine.execClaim n g job s
  | .jobCommand t job => Sys2Proof.Machine.execJobCommand t job s
  | .jobRetirement g => Sys2Proof.Machine.execJobRetirement g s
  | .noticeWrite n x => Sys2Proof.Machine.execNoticeWrite n x s
  | .claimResult n => Sys2Proof.Machine.execClaimResult n s
  | .jobDone n => Sys2Proof.Machine.execJobDone n s
  | .cellFault n => Sys2Proof.Machine.execCellFault n s
  | .batchClosed n => Sys2Proof.Machine.execBatchClosed n s
  | .slotStopped n => Sys2Proof.Machine.execSlotStopped n s
  | .doorbell n => Sys2Proof.Machine.execDoorbell n s
  | .timer n => Sys2Proof.Machine.execTimer n s
  | .control n => Sys2Proof.Machine.execControl n s
  | .deadlineTimerExpiry n => Sys2Proof.Machine.execDeadlineTimerExpiry n s
  | .lasterWatchdog n => Sys2Proof.Machine.execLasterWatchdog n s
  | .replaceLaster v => Sys2Proof.Machine.execReplaceLaster v s
  | .lasterReplacementDone n => Sys2Proof.Machine.execLasterReplacementDone n s
  | .tackerWatchdog t => Sys2Proof.Machine.execTackerWatchdog t s
  | .restartTacker v => Sys2Proof.Machine.execRestartTacker v s
  | .tackerRestartDone t ok => Sys2Proof.Machine.execTackerRestartDone t ok s
  | .tackerComplexTimeout q => Sys2Proof.Machine.execTackerComplexTimeout q s
  | .quarterLinkFail l => Sys2Proof.Machine.execQuarterLinkFail l s
  | .linkTrained q => Sys2Proof.Machine.execLinkTrained q s
  | .frameStart p vc => Sys2Proof.Machine.execFrameStart p vc s
  | .longPacket p vc x => Sys2Proof.Machine.execLongPacket p vc x s
  | .lineStart p vc => Sys2Proof.Machine.execLineStart p vc s
  | .lineEnd p vc => Sys2Proof.Machine.execLineEnd p vc s
  | .frameEnd p vc => Sys2Proof.Machine.execFrameEnd p vc s
  | .frameTaken sl => Sys2Proof.Machine.execFrameTaken sl s
  | .sampleArrival c p => Sys2Proof.Machine.execSampleArrival c p s
  | .batchWindow c => Sys2Proof.Machine.execBatchWindow c s
  | .frameTimeout sl => Sys2Proof.Machine.execFrameTimeout sl s
  | .gcmdReadDone sl r => Sys2Proof.Machine.execGcmdReadDone sl r s
  | .meshBuilt sl v => Sys2Proof.Machine.execMeshBuilt sl v s
  | .triggerEdge n => Sys2Proof.Machine.execTriggerEdge n s
  | .triggerEnable n on => Sys2Proof.Machine.execTriggerEnable n on s
  | .triggerConfig n t0 period width polarity => Sys2Proof.Machine.execTriggerConfig n t0 period width polarity s
  | .inBandInterrupt b => Sys2Proof.Machine.execInBandInterrupt b s
  | .hotJoin b => Sys2Proof.Machine.execHotJoin b s
  | .busTransfer b data => Sys2Proof.Machine.execBusTransfer b data s
  | .busTransferDone b result => Sys2Proof.Machine.execBusTransferDone b result s
  | .slotStart sl => Sys2Proof.Machine.execSlotStart sl s
  | .stop sl => Sys2Proof.Machine.execStop sl s
  | .resume sl => Sys2Proof.Machine.execResume sl s
  | .rereadCal sl => Sys2Proof.Machine.execRereadCal sl s
  | .rearm sl desc => Sys2Proof.Machine.execRearm sl desc s
  | .hostCalibration sl image => Sys2Proof.Machine.execHostCalibration sl image s
  | .streamGroup sl grp => Sys2Proof.Machine.execStreamGroup sl grp s
  | .lanes p v => Sys2Proof.Machine.execLanes p v s
  | .streamDoorbell ch k w => Sys2Proof.Machine.execStreamDoorbell ch k w s
  | .frameEntryTaken sl d => Sys2Proof.Machine.execFrameEntryTaken sl d s
  | .decodeDone sl r => Sys2Proof.Machine.execDecodeDone sl r s
  | .encodedPicture e idr data => Sys2Proof.Machine.execEncodedPicture e idr data s
  | .recordingSource e v => Sys2Proof.Machine.execRecordingSource e v s
  | .consumerIndex e v => Sys2Proof.Machine.execConsumerIndex e v s
  | .act ch ba row => Sys2Proof.Machine.execAct ch ba row s
  | .pre ch ba => Sys2Proof.Machine.execPre ch ba s
  | .rd ch ba row col bl32 => Sys2Proof.Machine.execRd ch ba row col bl32 s
  | .wr ch ba row col data => Sys2Proof.Machine.execWr ch ba row col data s
  | .mwr ch ba row col data mask => Sys2Proof.Machine.execMwr ch ba row col data mask s
  | .cas ch => Sys2Proof.Machine.execCas ch s
  | .ref ch => Sys2Proof.Machine.execRef ch s
  | .rfm ch => Sys2Proof.Machine.execRfm ch s
  | .sre ch => Sys2Proof.Machine.execSre ch s
  | .srx ch => Sys2Proof.Machine.execSrx ch s
  | .pde ch => Sys2Proof.Machine.execPde ch s
  | .pdx ch => Sys2Proof.Machine.execPdx ch s
  | .mrw ch ma op => Sys2Proof.Machine.execMrw ch ma op s
  | .mrr ch ma => Sys2Proof.Machine.execMrr ch ma s
  | .commandBusTraining ch enter => Sys2Proof.Machine.execCommandBusTraining ch enter s
  | .wck2ckLevelling ch enter => Sys2Proof.Machine.execWck2ckLevelling ch enter s
  | .readDqCalibration ch => Sys2Proof.Machine.execReadDqCalibration ch s
  | .wff ch data => Sys2Proof.Machine.execWff ch data s
  | .rff ch => Sys2Proof.Machine.execRff ch s
  | .zqCalibrationStart ch => Sys2Proof.Machine.execZqCalibrationStart ch s
  | .zqCalibrationLatch ch => Sys2Proof.Machine.execZqCalibrationLatch ch s
  | .unsupportedCommand ch => Sys2Proof.Machine.execUnsupportedCommand ch s
  | .hmpResetN ch low => Sys2Proof.Machine.execHmpResetN ch low s
  | .queueDoorbell ch w => Sys2Proof.Machine.execQueueDoorbell ch w s
  | .multiQueueDoorbell ch ws => Sys2Proof.Machine.execMultiQueueDoorbell ch ws s
  | .negSelect ch w => Sys2Proof.Machine.execNegSelect ch w s
  | .bulkMap ch w => Sys2Proof.Machine.execBulkMap ch w s
  | .arm ch k w => Sys2Proof.Machine.execArm ch k w s
  | .disarm ch k w => Sys2Proof.Machine.execDisarm ch k w s
  | .armFillDone ch k => Sys2Proof.Machine.execArmFillDone ch k s
  | .bulkWriteLand ch => Sys2Proof.Machine.execBulkWriteLand ch s
  | .mailboxRead ch => Sys2Proof.Machine.execMailboxRead ch s
  | .mailboxWrite ch => Sys2Proof.Machine.execMailboxWrite ch s
  | .leafClear r v setting => Sys2Proof.Machine.execLeafClear r v setting s
  | .queueDestroy c b => Sys2Proof.Machine.execQueueDestroy c b s
  | .createSubmit c b => Sys2Proof.Machine.execCreateSubmit c b s
  | .createComplete c b => Sys2Proof.Machine.execCreateComplete c b s
  | .createEvent c b => Sys2Proof.Machine.execCreateEvent c b s
  | .job q => Sys2Proof.Machine.execJob q s
  | .cancel q => Sys2Proof.Machine.execCancel q s
  | .load c p place => Sys2Proof.Machine.execLoad c p place s
  | .unload c => Sys2Proof.Machine.execUnload c s
  | .activate c => Sys2Proof.Machine.execActivate c s
  | .suspend c => Sys2Proof.Machine.execSuspend c s
  | .reseed c => Sys2Proof.Machine.execReseed c s
  | .statisticsReset c v => Sys2Proof.Machine.execStatisticsReset c v s
  | .launch c => Sys2Proof.Machine.execLaunch c s
  | .cap v => Sys2Proof.Machine.execCap v s
  | .priorityOrder v => Sys2Proof.Machine.execPriorityOrder v s
  | .linkReserve v => Sys2Proof.Machine.execLinkReserve v s
  | .memoryReserve v => Sys2Proof.Machine.execMemoryReserve v s
  | .activeCellLimit v => Sys2Proof.Machine.execActiveCellLimit v s
  | .tjLimit v => Sys2Proof.Machine.execTjLimit v s
  | .lowBound v => Sys2Proof.Machine.execLowBound v s
  | .runRequest => Sys2Proof.Machine.execRunRequest s
  | .standby => Sys2Proof.Machine.execStandby s
  | .deepSleep => Sys2Proof.Machine.execDeepSleep s
  | .deepSleepEntry => Sys2Proof.Machine.execDeepSleepEntry s
  | .sleepAbandoned => Sys2Proof.Machine.execSleepAbandoned s
  | .estimateInterval a => Sys2Proof.Machine.execEstimateInterval a s
  | .telemetryCheck quarters fixed => Sys2Proof.Machine.execTelemetryCheck quarters fixed s
  | .setpointChoice q => Sys2Proof.Machine.execSetpointChoice q s
  | .slowThrottle q => Sys2Proof.Machine.execSlowThrottle q s
  | .pmbAlertN q => Sys2Proof.Machine.execPmbAlertN q s
  | .hintPhase g => Sys2Proof.Machine.execHintPhase g s
  | .sensorReport n t => Sys2Proof.Machine.execSensorReport n t s
  | .sensorFail n => Sys2Proof.Machine.execSensorFail n s
  | .floorHoldEnd => Sys2Proof.Machine.execFloorHoldEnd s
  | .thermalPrediction => Sys2Proof.Machine.execThermalPrediction s
  | .trip n t => Sys2Proof.Machine.execTrip n t s
  | .tripRelease => Sys2Proof.Machine.execTripRelease s
  | .zoneGate z => Sys2Proof.Machine.execZoneGate z s
  | .zonePowerGood z => Sys2Proof.Machine.execZonePowerGood z s
  | .zoneFail z => Sys2Proof.Machine.execZoneFail z s
  | .scrubRead p r => Sys2Proof.Machine.execScrubRead p r s
  | .initRequest => Sys2Proof.Machine.execInitRequest s
  | .preopRequest => Sys2Proof.Machine.execPreopRequest s
  | .safeopRequest e => Sys2Proof.Machine.execSafeopRequest e s
  | .opRequest => Sys2Proof.Machine.execOpRequest s
  | .bootstrapRequest => Sys2Proof.Machine.execBootstrapRequest s
  | .sm2Watchdog => Sys2Proof.Machine.execSm2Watchdog s
  | .inputLatch => Sys2Proof.Machine.execInputLatch s
  | .outputApply data => Sys2Proof.Machine.execOutputApply data s
  | .sdoUpload index sub => Sys2Proof.Machine.execSdoUpload index sub s
  | .sdoDownload index sub total data => Sys2Proof.Machine.execSdoDownload index sub total data s
  | .sdoSegment toggle last data => Sys2Proof.Machine.execSdoSegment toggle last data s
  | .sdoSegmentTimeout => Sys2Proof.Machine.execSdoSegmentTimeout s
  | .completeAccess write index sub data => Sys2Proof.Machine.execCompleteAccess write index sub data s
  | .getOdList listType => Sys2Proof.Machine.execGetOdList listType s
  | .getObjectDescription index => Sys2Proof.Machine.execGetObjectDescription index s
  | .getEntryDescription index sub => Sys2Proof.Machine.execGetEntryDescription index sub s
  | .foeWriteFirmware password => Sys2Proof.Machine.execFoeWriteFirmware password s
  | .foeReadFirmware => Sys2Proof.Machine.execFoeReadFirmware s
  | .foeReadPlm name password => Sys2Proof.Machine.execFoeReadPlm name password s
  | .foeWritePlm name password => Sys2Proof.Machine.execFoeWritePlm name password s
  | .foeData packet data => Sys2Proof.Machine.execFoeData packet data s
  | .mbxError mbxType => Sys2Proof.Machine.execMbxError mbxType s
  | .emergency => Sys2Proof.Machine.execEmergency s
  | .driftCompensation difference => Sys2Proof.Machine.execDriftCompensation difference s
  | .systemTimeOffset offset => Sys2Proof.Machine.execSystemTimeOffset offset s
  | .latchEdge pin rising => Sys2Proof.Machine.execLatchEdge pin rising s
  | .syncLost => Sys2Proof.Machine.execSyncLost s
  | .linkLost p => Sys2Proof.Machine.execLinkLost p s
  | .bypassEngage => Sys2Proof.Machine.execBypassEngage s
  | .bypassOverCurrent => Sys2Proof.Machine.execBypassOverCurrent s
  | .bypassOpenLoad => Sys2Proof.Machine.execBypassOpenLoad s
  | .bypassReengage v => Sys2Proof.Machine.execBypassReengage v s
  | .ack => Sys2Proof.Machine.execAck s
  | .restart => Sys2Proof.Machine.execRestart s
  | .hostState v => Sys2Proof.Machine.execHostState v s
  | .resultBinding k v => Sys2Proof.Machine.execResultBinding k v s
  | .argumentBinding k v => Sys2Proof.Machine.execArgumentBinding k v s
  | .pdoMapping index sub v => Sys2Proof.Machine.execPdoMapping index sub v s
  | .porNAssert => Sys2Proof.Machine.execPorNAssert s
  | .porNRelease => Sys2Proof.Machine.execPorNRelease s
  | .resetNAssert => Sys2Proof.Machine.execResetNAssert s
  | .resetNRelease => Sys2Proof.Machine.execResetNRelease s
  | .supplyOutOfLimits r => Sys2Proof.Machine.execSupplyOutOfLimits r s
  | .refclkStop => Sys2Proof.Machine.execRefclkStop s
  | .stage0Entry goldenLow readOk => Sys2Proof.Machine.execStage0Entry goldenLow readOk s
  | .bootComplete => Sys2Proof.Machine.execBootComplete s
  | .lockstepMismatch => Sys2Proof.Machine.execLockstepMismatch s
  | .cobblerWatchdog => Sys2Proof.Machine.execCobblerWatchdog s
  | .warmRestart v => Sys2Proof.Machine.execWarmRestart v s
  | .update v => Sys2Proof.Machine.execUpdate v s
  | .flashOperationDone ok => Sys2Proof.Machine.execFlashOperationDone ok s
  | .liveActivation v => Sys2Proof.Machine.execLiveActivation v s
  | .nonce data => Sys2Proof.Machine.execNonce data s
  | .quote => Sys2Proof.Machine.execQuote s
  | .linkUp p => Sys2Proof.Machine.execLinkUp p s
  | .syncEdge n => Sys2Proof.Machine.execSyncEdge n s
  | .siiWrite addr data => Sys2Proof.Machine.execSiiWrite addr data s
  | .tapInstruction op => Sys2Proof.Machine.execTapInstruction op s
  | .threadLoadReturn g t => Sys2Proof.Machine.execThreadLoadReturn g t s
  | .deskewCalibration p initial => Sys2Proof.Machine.execDeskewCalibration p initial s
  | .ulps p enter => Sys2Proof.Machine.execUlps p enter s
  | .refclkStart => Sys2Proof.Machine.execRefclkStart s
  | .supplyInLimits r => Sys2Proof.Machine.execSupplyInLimits r s

end Sys2Proof.Machine
end

