-- ==== Sys2Proof/Machine/Idle.lean ====
section
/-! DEFINITION. What 10 ns of DC time do while no command waits (notes/assumptions/1): the time of spec/12 R308, the time
counters of spec/03 R78, the settings of spec/09 R244, availability, scrub cycles and cell loads of spec/10 R253, R256 and
R268, and the repair of status lines of spec/11 R290. -/

namespace Sys2Proof.Machine

/-- The stretches of the last second in which a cell ran, with the 10 ns that end now (R268). -/
def ranUntil (now : Nat) (l : List (Nat × Nat)) : List (Nat × Nat) :=
  (match l with
    | p :: r => if p.2 + 10 = now then (p.1, now) :: r else (now - 10, now) :: p :: r
    | [] => [(now - 10, now)]).filter (fun p => decide (now ≤ p.2 + 1000000000))

/-- Four units of 2.5 ns of a running cell; a stall or pacing that holds is time without a hang (R62, R63, R78). -/
def cellTime (now : Nat) (c : CellState) : CellState :=
  if c.fence ∨ c.st ≠ .running then c else
  let c := { c with runTime := satAdd 48 c.runTime 4, idleSince := now, runMark := ranUntil now c.runMark }
  let c := if c.pacing then { c with paceTime := satAdd 48 c.paceTime 4, progressAt := now } else c
  if c.stalls = 0 then c else
  { c with frozenTime := satAdd 48 c.frozenTime 4, progressAt := now,
           stallTime := (List.range 8).foldl (fun t i => if c.stalls.getLsbD i then bump 48 t i 4 else t) c.stallTime }

/-- A boundary of a grid of `n` ns lies in the last 10 ns. -/
def crosses (now n : Nat) : Bool := decide (now / n ≠ (now - 10) / n)

/-- R253: a context withdrawn by no host write, a late job past its deadline whose record has not landed, the period of a cancelled
one, or a warm restart that a fault caused. -/
def serviceLost (s : State) : Bool :=
  s.ctxs.any (fun p => decide (p.2.st = .unadmitted) && !p.2.byHost && p.2.deadlineClass) ||
  s.resil.lateOpen.any (fun w => decide (w.due < s.now)) ||
  s.resil.windows.any (fun w => decide (w.1 < s.now ∧ s.now ≤ w.2)) ||
  (decide (s.dev.state = .boot) && decide (s.dev.restartReason ≠ 0 ∧ s.dev.restartReason ≠ 5))

/-- Ten nanoseconds more in a count that is published in microseconds and saturates at 64 bits (R270, spec/00 R10). -/
def countTime (t : Nat) : Nat := min (t + 10) (2 ^ 64 * 1000 - 1)

/-- The two times of 0x2600 advance, outside the power states that the host requested, which a trip's STANDBY is not. -/
def countService (s : State) : State :=
  let r := s.resil
  if !r.observing ∨ (s.power.pstate ≠ 0 ∧ !s.dev.thermTrip) then s else
  { s with resil := { r with observed := countTime r.observed,
                             unavailable := if serviceLost s then countTime r.unavailable else r.unavailable,
                             windows := r.windows.filter (fun w => decide (s.now < w.2)) } }

/-- A scrub cycle of the SRAM ends: its corrected words become those of the last cycle (R256, R258). -/
def sramCycleEnd (s : State) : State :=
  let r := s.resil
  { s with resil := { r with sramCycles := satAdd 32 r.sramCycles 1, sramEnd := s.now,
                             fixedLast := r.fixedLast.filter (fun k => k.1 == 0) ++ r.fixedNow.filter (fun k => k.1 != 0),
                             fixedNow := r.fixedNow.filter (fun k => k.1 == 0) } }

/-- The same of the LPDDR6. -/
def lpddrCycleEnd (s : State) : State :=
  let r := s.resil
  { s with resil := { r with lpCycles := satAdd 32 r.lpCycles 1, lpEnd := s.now,
                             fixedLast := r.fixedLast.filter (fun k => k.1 != 0) ++ r.fixedNow.filter (fun k => k.1 == 0),
                             fixedNow := r.fixedNow.filter (fun k => k.1 != 0) } }

/-- Uncorrectable words of a channel's status lines are rewritten from the indices (R290). -/
def repairChannel (s : State) (ch : Nat) : State :=
  (s.chan ch).bad.foldl (fun s w =>
    match queueAt s ch (w - 0x10000) with
    | some (q, x) => if 0x10000 ≤ w ∧ w - 0x10000 < x.base + 64 then commitQueue s q x else s
    | none => s) s

/-- What falls due on a grid of DC time. -/
def gridWork (s : State) : State :=
  let s := if crosses s.now 4000 && powered s then applySettings s else s
  let s := if crosses s.now 100000 then repairChannel (repairChannel s 0) 1 else s
  let s := if crosses s.now 8000000000 && powered s then sramCycleEnd s else s
  if crosses s.now 3600000000000 && powered s then lpddrCycleEnd s else s

/-- Ten nanoseconds pass when the always-on supply and the reference clock stand; while a trip holds the part in reset, DC time alone runs
(spec/12 R308, spec/14 R367). -/
def idle (s : State) : State :=
  if !supplied s.dev then s else
  let s := { s with dev := { s.dev with dc := s.dev.dc + 10 } }
  if s.dev.heldInReset then s else
  let s := (s.cells.map (·.1)).foldl (fun s g => s.modCell g (cellTime s.now)) s
  gridWork (settleSync (countService s))

end Sys2Proof.Machine
end

