-- ==== Sys2Proof/Machine/Step.lean ====
section
/-! DEFINITION. One step: the command at the front of the queue, or a tick of DC time when none waits. -/

namespace Sys2Proof.Machine

/-- A DC tick of 10 ns (spec/12 R308) with REFCLK_25 running: system time advances, and the time counters of running
cells advance by four units of 2.5 ns (spec/03 R78). -/
def tick (s : State) : State := idle s

def step (s : State) : Host.Outcome State Fault Refusal :=
  match s.pending with
  | [] => .next (tick s)
  | c :: rest => exec c { s with pending := rest }

/-- The command that a word spells, put at the front of the queue; no word spells one. -/
def State.withFetchWord (s : State) (nbits w : Nat) : State :=
  match Sys2Proof.decodeTableWord nbits w with
  | some c => { s with pending := c :: s.pending }
  | none => s

end Sys2Proof.Machine
end

