-- ==== Sys2Proof/WellFormed.lean ====
section
/-! DEFINITION. Which operands make a command of its row: the opcode of the word, the operation byte of a queue command, and
the lengths one message can carry. Every other operand of the type is a command of the row. -/

namespace Sys2Proof

open Sys2Proof.Machine (bits)

/-- OPCODE, bits 127:120 of a macro-operation word (spec/04 R82). -/
def macroIs (code : Nat) (w : BitVec 128) : Bool := bits w.toNat 127 120 == code

/-- OP, bits 63:56 of a Plamor-V word (spec/05 R107). -/
def vectorIs (code : Nat) (w : Word) : Bool := bits w.toNat 63 56 == code

/-- The opcodes that R91 lists. -/
def macroCodes : List Nat := [0x00, 0x01, 0x02, 0x03, 0x04, 0x08, 0x09, 0x10, 0x11, 0x12, 0x13, 0x14, 0x18, 0x20, 0x21, 0x28, 0x29, 0x30, 0x31, 0x32, 0x33]

/-- The operands of the command are those of its row. -/
def wellFormed (i : Instr) : Bool :=
  match i with
  | .nop _ w => macroIs 0x00 w
  | .halt _ w => macroIs 0x01 w
  | .waits _ w => macroIs 0x02 w
  | .drain _ w => macroIs 0x03 w
  | .hint _ w => macroIs 0x04 w
  | .loop _ w => macroIs 0x08 w
  | .endloop _ w => macroIs 0x09 w
  | .mma _ w => macroIs 0x10 w
  | .mmat _ w => macroIs 0x11 w
  | .conv _ w => macroIs 0x12 w
  | .dwc _ w => macroIs 0x13 w
  | .gap _ w => macroIs 0x14 w
  | .awl _ w => macroIs 0x18 w
  | .vrun _ w => macroIs 0x20 w
  | .vthr _ w => macroIs 0x21 w
  | .lace _ w => macroIs 0x28 w
  | .tpost _ w => macroIs 0x29 w
  | .sigset _ w => macroIs 0x30 w
  | .sigadd _ w => macroIs 0x31 w
  | .sigwait _ w => macroIs 0x32 w
  | .barrier _ w => macroIs 0x33 w
  | .unassignedOpcode _ w => !macroCodes.contains (bits w.toNat 127 120)
  | .stitch _ _ => true
  | .stitchHang _ => true
  | .haltObeyed _ => true
  | .start _ => true
  | .haltReq _ => true
  | .fence _ => true
  | .fenceClear _ => true
  | .cntClr _ => true
  | .registerWrite _ => true
  | .readClear _ _ => true
  | .sentLogRead _ _ _ => true
  | .lacerTransferComplete _ _ _ => true
  | .awlCommandBegin _ => true
  | .awlCommandComplete _ => true
  | .tpostLanded _ => true
  | .counterUpdateApplied _ => true
  | .releasedUpdate _ => true
  | .threadStep _ => true
  | .vnop _ _ w => vectorIs 0x00 w
  | .vend _ _ w => vectorIs 0x01 w
  | .vzero _ _ w => vectorIs 0x02 w
  | .vmov _ _ w => vectorIs 0x03 w
  | .vsplat _ _ w => vectorIs 0x04 w
  | .vadd _ _ w => vectorIs 0x10 w
  | .vsub _ _ w => vectorIs 0x11 w
  | .vmul _ _ w => vectorIs 0x12 w
  | .vfma _ _ w => vectorIs 0x13 w
  | .vmax _ _ w => vectorIs 0x14 w
  | .vmin _ _ w => vectorIs 0x15 w
  | .vdiv _ _ w => vectorIs 0x16 w
  | .vsqrt _ _ w => vectorIs 0x17 w
  | .vabs _ _ w => vectorIs 0x18 w
  | .vexp _ _ w => vectorIs 0x20 w
  | .vlog _ _ w => vectorIs 0x21 w
  | .vrsqrt _ _ w => vectorIs 0x22 w
  | .vsigm _ _ w => vectorIs 0x23 w
  | .vtanh _ _ w => vectorIs 0x24 w
  | .vcmp _ _ w => vectorIs 0x30 w
  | .vsel _ _ w => vectorIs 0x31 w
  | .vcvt _ _ w => vectorIs 0x38 w
  | .vqnt _ _ w => vectorIs 0x39 w
  | .vdeq _ _ w => vectorIs 0x3A w
  | .vamax _ _ w => vectorIs 0x40 w
  | .vscale _ _ w => vectorIs 0x41 w
  | .vldd _ _ w => vectorIs 0x50 w
  | .vlds _ _ w => vectorIs 0x51 w
  | .vstd _ _ w => vectorIs 0x52 w
  | .vld _ _ w => vectorIs 0x53 w
  | .vst _ _ w => vectorIs 0x54 w
  | .vldc _ _ w => vectorIs 0x55 w
  | .vsts _ _ w => vectorIs 0x56 w
  | .vgath _ _ w => vectorIs 0x58 w
  | .vscat _ _ w => vectorIs 0x59 w
  | .vscadd _ _ w => vectorIs 0x5A w
  | .vhget _ _ w => vectorIs 0x60 w
  | .vhput _ _ w => vectorIs 0x61 w
  | .vrsrst _ _ w => vectorIs 0x68 w
  | .vrnorm _ _ w => vectorIs 0x69 w
  | .tackerCellFailure _ => true
  | .cellRestartDone _ => true
  | .inServiceTestDone _ _ => true
  | .istIdleStart _ => true
  | .istCycleEnd => true
  | .claim _ _ _ => true
  | .jobCommand _ _ => true
  | .jobRetirement _ => true
  | .noticeWrite _ _ => true
  | .claimResult _ => true
  | .jobDone _ => true
  | .cellFault _ => true
  | .batchClosed _ => true
  | .slotStopped _ => true
  | .doorbell _ => true
  | .timer _ => true
  | .control _ => true
  | .deadlineTimerExpiry _ => true
  | .lasterWatchdog _ => true
  | .replaceLaster _ => true
  | .lasterReplacementDone _ => true
  | .tackerWatchdog _ => true
  | .restartTacker _ => true
  | .tackerRestartDone _ _ => true
  | .tackerComplexTimeout _ => true
  | .quarterLinkFail _ => true
  | .linkTrained _ => true
  | .frameStart _ _ => true
  | .longPacket _ _ _ => true
  | .lineStart _ _ => true
  | .lineEnd _ _ => true
  | .frameEnd _ _ => true
  | .frameTaken _ => true
  | .sampleArrival _ _ => true
  | .batchWindow _ => true
  | .frameTimeout _ => true
  | .gcmdReadDone _ _ => true
  | .meshBuilt _ _ => true
  | .triggerEdge _ => true
  | .triggerEnable _ _ => true
  | .triggerConfig _ _ _ _ _ => true
  | .inBandInterrupt _ => true
  | .hotJoin _ => true
  | .busTransfer _ _ => true
  | .busTransferDone _ _ => true
  | .slotStart _ => true
  | .stop _ => true
  | .resume _ => true
  | .rereadCal _ => true
  | .rearm _ _ => true
  | .hostCalibration _ _ => true
  | .streamGroup _ _ => true
  | .lanes _ _ => true
  | .streamDoorbell _ _ _ => true
  | .frameEntryTaken _ _ => true
  | .decodeDone _ _ => true
  | .encodedPicture _ _ _ => true
  | .recordingSource _ _ => true
  | .consumerIndex _ _ => true
  | .act _ _ _ => true
  | .pre _ _ => true
  | .rd _ _ _ _ _ => true
  | .wr _ _ _ _ _ => true
  | .mwr _ _ _ _ _ _ => true
  | .cas _ => true
  | .ref _ => true
  | .rfm _ => true
  | .sre _ => true
  | .srx _ => true
  | .pde _ => true
  | .pdx _ => true
  | .mrw _ _ _ => true
  | .mrr _ _ => true
  | .commandBusTraining _ _ => true
  | .wck2ckLevelling _ _ => true
  | .readDqCalibration _ => true
  | .wff _ _ => true
  | .rff _ => true
  | .zqCalibrationStart _ => true
  | .zqCalibrationLatch _ => true
  | .unsupportedCommand _ => true
  | .hmpResetN _ _ => true
  | .queueDoorbell _ _ => true
  | .multiQueueDoorbell _ ws => decide (ws.length ≤ 8)
  | .negSelect _ _ => true
  | .bulkMap _ _ => true
  | .arm _ _ _ => true
  | .disarm _ _ w => bits w.toNat 10 0 == 0
  | .armFillDone _ _ => true
  | .bulkWriteLand _ => true
  | .mailboxRead _ => true
  | .mailboxWrite _ => true
  | .leafClear _ _ _ => true
  | .queueDestroy _ b => bits b.toNat 23 16 == 0
  | .createSubmit _ b => bits b.toNat 23 16 == 1
  | .createComplete _ b => bits b.toNat 23 16 == 2
  | .createEvent _ b => bits b.toNat 23 16 == 3
  | .job _ => true
  | .cancel _ => true
  | .load _ _ _ => true
  | .unload _ => true
  | .activate _ => true
  | .suspend _ => true
  | .reseed _ => true
  | .statisticsReset _ _ => true
  | .launch _ => true
  | .cap _ => true
  | .priorityOrder _ => true
  | .linkReserve _ => true
  | .memoryReserve _ => true
  | .activeCellLimit _ => true
  | .tjLimit _ => true
  | .lowBound _ => true
  | .runRequest => true
  | .standby => true
  | .deepSleep => true
  | .deepSleepEntry => true
  | .sleepAbandoned => true
  | .estimateInterval _ => true
  | .telemetryCheck _ _ => true
  | .setpointChoice _ => true
  | .slowThrottle _ => true
  | .pmbAlertN _ => true
  | .hintPhase _ => true
  | .sensorReport _ _ => true
  | .sensorFail _ => true
  | .floorHoldEnd => true
  | .thermalPrediction => true
  | .trip _ _ => true
  | .tripRelease => true
  | .zoneGate _ => true
  | .zonePowerGood _ => true
  | .zoneFail _ => true
  | .scrubRead _ _ => true
  | .initRequest => true
  | .preopRequest => true
  | .safeopRequest _ => true
  | .opRequest => true
  | .bootstrapRequest => true
  | .sm2Watchdog => true
  | .inputLatch => true
  | .outputApply _ => true
  | .sdoUpload _ _ => true
  | .sdoDownload _ _ total data => decide (data.length ≤ total ∧ data.length ≤ 1008)
  | .sdoSegment _ _ data => decide (data.length ≤ 1015)
  | .sdoSegmentTimeout => true
  | .completeAccess _ _ _ _ => true
  | .getOdList _ => true
  | .getObjectDescription _ => true
  | .getEntryDescription _ _ => true
  | .foeWriteFirmware _ => true
  | .foeReadFirmware => true
  | .foeReadPlm _ _ => true
  | .foeWritePlm _ _ => true
  | .foeData _ data => decide (data.length ≤ 1012)
  | .mbxError _ => true
  | .emergency => true
  | .driftCompensation _ => true
  | .systemTimeOffset _ => true
  | .latchEdge _ _ => true
  | .syncLost => true
  | .linkLost _ => true
  | .bypassEngage => true
  | .bypassOverCurrent => true
  | .bypassOpenLoad => true
  | .bypassReengage _ => true
  | .ack => true
  | .restart => true
  | .hostState _ => true
  | .resultBinding _ _ => true
  | .argumentBinding _ _ => true
  | .pdoMapping index _ _ => (decide (0x1A00 ≤ index.toNat ∧ index.toNat < 0x1A20) || decide (0x1600 ≤ index.toNat ∧ index.toNat < 0x1608)) ||
      decide (index.toNat = 0x1C12 ∨ index.toNat = 0x1C13)
  | .porNAssert => true
  | .porNRelease => true
  | .resetNAssert => true
  | .resetNRelease => true
  | .supplyOutOfLimits _ => true
  | .refclkStop => true
  | .stage0Entry _ _ => true
  | .bootComplete => true
  | .lockstepMismatch => true
  | .cobblerWatchdog => true
  | .warmRestart _ => true
  | .update _ => true
  | .flashOperationDone _ => true
  | .liveActivation _ => true
  | .nonce _ => true
  | .quote => true
  | .linkUp _ => true
  | .syncEdge _ => true
  | .siiWrite _ _ => true
  | .tapInstruction _ => true
  | .threadLoadReturn _ _ => true
  | .deskewCalibration _ _ => true
  | .ulps _ _ => true
  | .refclkStart => true
  | .supplyInLimits _ => true

end Sys2Proof
end

