-- ==== Sys2Proof/Safety.lean ====
section
/-! DEFINITION. The words that claims about the block are made of: a command that completes, what else stays as it was, and
the conditions under which a cell, a tile program or a thread takes a command. -/

namespace Sys2Proof.Safety

open Sys2Proof.Machine

/-- The command answers a next state, and P holds of it. -/
def Completes (c : Instr) (s : State) (P : State → Prop) : Prop := ∃ t, exec c s = .next t ∧ P t

/-- Nothing but cell g and the model's counter of free values differs. -/
def OnlyCell (g : Nat) (s t : State) : Prop :=
  t = { s with cells := t.cells, free := t.free } ∧ ∀ h, h ≠ g → t.cell h = s.cell h

/-- Nothing but channel ch of the host port and the counter of free values differs. -/
def OnlyChan (ch : Nat) (s t : State) : Prop :=
  t = { s with hmp := { s.hmp with chan := t.hmp.chan }, free := t.free } ∧ ∀ k, k ≠ ch → t.chan k = s.chan k

/-- The cell stands at a macro-operation boundary with no halt asked for, no earlier operation in flight and a word left
in the bank (spec/04 R85, R100). -/
def Ready (s : State) (g : Nat) : Prop :=
  atBoundary (s.cell g) = true ∧ (s.cell g).haltReq = false ∧ (s.cell g).mats = [] ∧ (s.cell g).nextPc ≤ 1023

/-- A word of an opcode that passes the sequencer's check (spec/04 R82, R83). -/
def Passes (code : Nat) (w : BitVec 128) : Prop := opcode w = code ∧ wordOk w = true

/-- The memories and the vector state of a cell are unchanged. -/
def SameMemories (c d : CellState) : Prop :=
  d.store = c.store ∧ d.bbuf = c.bbuf ∧ d.imem = c.imem ∧ d.tmem = c.tmem ∧ d.vreg = c.vreg ∧ d.pred = c.pred ∧
  d.drainBuf = c.drainBuf ∧ d.hist = c.hist

/-- One stitch of cell g has completed with the macro-operation at the next index current, which takes i stitches (R57, R85). -/
def Stepped (s : State) (g i : Nat) (t : State) : Prop :=
  (t.cell g).pc = (s.cell g).nextPc ∧ (t.cell g).since = (s.cell g).since + 1 ∧ (t.cell g).next = (s.cell g).since + i ∧
  (t.cell g).stitchCount = satAdd 64 (s.cell g).stitchCount 1 ∧ (t.cell g).st = (s.cell g).st ∧ (t.cell g).stalls = 0

/-- Every part of a cell's work that mask names is complete: its LACE transfers, its posts, its threads (spec/04 R93). -/
def NothingLeft (s : State) (g mask : Nat) : Prop :=
  (mask.testBit 1 = true → ∀ p ∈ s.fabric.lacer, ∀ x ∈ p.2, x.by_ ≠ .cell (cellNo g)) ∧
  (mask.testBit 2 = true → (s.cell g).posts = []) ∧
  (mask.testBit 3 = true → ∀ p ∈ (s.cell g).threads, p.2.status = 0)

/-- The rows of the matrix macro-operations: operation, opcode, command. -/
def matrixRows : List (MatKind × Nat × (CellNo → BitVec 128 → Instr)) :=
  [(.mma, 0x10, .mma), (.mmat, 0x11, .mmat), (.conv, 0x12, .conv), (.dwc, 0x13, .dwc)]

/-- The cell has halted with a program error at macro-operation i (spec/04 R83). -/
def HaltedBy (c : CellState) (i : Nat) (why : JobFault) : Prop :=
  c.st = .halted ∧ c.prog = some why ∧ c.pc = i ∧ c.report = true ∧ c.loops = [] ∧ c.mats = [] ∧ c.threads = [] ∧ c.wait = none

/-- The cell stays in the issue stitch of the macro-operation that stands at the next index: the stitch does not complete, and
the causes show why (spec/03 R58, R78). -/
def Held (s : State) (g : Nat) (x : Wait) (causes : BitVec 8) (t : State) : Prop :=
  (t.cell g).wait = some x ∧ (t.cell g).stalls = causes ∧ (t.cell g).since = (s.cell g).since ∧
  (t.cell g).stitchCount = (s.cell g).stitchCount ∧ (t.cell g).pc = (s.cell g).nextPc ∧ (t.cell g).st = (s.cell g).st ∧
  (t.cell g).loops = (s.cell g).loops ∧ SameMemories (s.cell g) (t.cell g)

/-- The counter that a SIG and SIGINC pair names; an increment of 0 names none (spec/04 R84). -/
def Names (c : CellState) (sig inc k : Nat) : Prop := if inc = 0 then k = 0 else sig < c.sb.count ∧ k = c.sb.base + sig

/-- The macro-operation rows: opcode and command. -/
def macroRows : List (Nat × (CellNo → BitVec 128 → Instr)) :=
  [(0x00, .nop), (0x01, .halt), (0x02, .waits), (0x03, .drain), (0x04, .hint), (0x08, .loop), (0x09, .endloop), (0x10, .mma),
   (0x11, .mmat), (0x12, .conv), (0x13, .dwc), (0x14, .gap), (0x18, .awl), (0x20, .vrun), (0x21, .vthr), (0x28, .lace),
   (0x29, .tpost), (0x30, .sigset), (0x31, .sigadd), (0x32, .sigwait), (0x33, .barrier)]

/-- The cell has failed with the failure bit: it is FAULTED, its program state is gone and it reports; FAULT_INFO names the first failure
since the bits were clear (spec/03 R81). -/
def FailedWith (c d : CellState) (bit addr eyelet : Nat) : Prop :=
  d.st = .faulted ∧ d.report = true ∧ d.fault = c.fault ||| (1 <<< bit) ∧ d.loops = [] ∧ d.mats = [] ∧ d.wait = none ∧ d.threads = [] ∧
  d.faultInfo = (if c.fault.toNat % 256 = 0 then BitVec.ofNat 38 (addr % 4194304 * 65536 + eyelet % 256 * 256 + bit) else c.faultInfo) ∧
  SameMemories c d ∧ d.since = c.since ∧ d.stitchCount = c.stitchCount

/-- The cell is in a tile program of context x, and word w is valid there (spec/05 R106, R110). -/
def InTile (s : State) (g : Nat) (x : VCtx) (rest : List VCtx) (w : Word) : Prop :=
  (s.cell g).live = true ∧ (s.cell g).vctx = x :: rest ∧ vOk (placeOf x) w = true

/-- Thread k of the cell is ready, and word w is valid in a thread (spec/05 R110, R119). -/
def InThread (s : State) (g k : Nat) (w : Word) : Prop :=
  (s.cell g).live = true ∧ (lookup {} (s.cell g).threads k).status = 1 ∧ vOk 8 w = true

/-- The tile program's place after one instruction. -/
def Placed (x : VCtx) (rest : List VCtx) (d : CellState) : Prop := d.vctx = { x with pos := x.pos + 1 } :: rest

/-- Register vd holds f on the lanes where the predicate lets it, and its old lanes elsewhere; every other register is as it was. -/
def WritesReg (c d : CellState) (w : Word) (f : Nat → BitVec 32) : Prop :=
  (∀ i, i < 128 → vreg d (vD w) i = if acts c w i then f i else vreg c (vD w) i) ∧
  ∀ r, r ≠ vD w → lookup [] d.vreg r = lookup [] c.vreg r

/-- Beside the vector registers, the counts and the sentinel, nothing of the cell differs. -/
def OnlyVreg (c d : CellState) : Prop :=
  d.store = c.store ∧ d.bbuf = c.bbuf ∧ d.imem = c.imem ∧ d.tmem = c.tmem ∧ d.pred = c.pred ∧ d.drainBuf = c.drainBuf ∧
  d.hist = c.hist ∧ d.rmax = c.rmax ∧ d.rsum = c.rsum ∧ d.rscl = c.rscl ∧ d.posts = c.posts ∧ d.threads = c.threads ∧
  d.pc = c.pc ∧ d.since = c.since ∧ d.st = c.st ∧ d.loops = c.loops ∧ d.mats = c.mats

/-- The same for an instruction that leaves the vector registers too. -/
def SameVreg (c d : CellState) : Prop := d.vreg = c.vreg ∧ d.pred = c.pred ∧ d.drainBuf = c.drainBuf ∧ d.bbuf = c.bbuf ∧
  d.imem = c.imem ∧ d.tmem = c.tmem ∧ d.pc = c.pc ∧ d.since = c.since ∧ d.st = c.st ∧ d.loops = c.loops ∧ d.mats = c.mats ∧
  d.threads = c.threads

/-- What one thread's instruction leaves of a cell: everything but the thread. -/
def OnlyThread (c d : CellState) (k : Nat) : Prop :=
  d = { c with threads := d.threads } ∧ ∀ j, j ≠ k → lookup {} d.threads j = lookup {} c.threads j

/-- The instructions that compute vd lane by lane on FP32 lanes, with the value of a lane in a version of the interpolation tables
(spec/05 R109, spec/02 R49). -/
def fpRows (tab : BitVec 16) : List (Nat × (CellNo → VWhere → Word → Instr) × (Word → BitVec 32 → BitVec 32 → BitVec 32 → BitVec 32)) :=
  [(0x02, .vzero, fun _ _ _ _ => 0), (0x03, .vmov, fun _ a _ _ => a),
   (0x04, .vsplat, fun w _ _ _ => BitVec.ofNat 32 (vImm w % 65536 * 65536)),
   (0x10, .vadd, fun _ a b _ => addF32 a b), (0x11, .vsub, fun _ a b _ => subF32 a b), (0x12, .vmul, fun _ a b _ => mulF32 a b),
   (0x13, .vfma, fun _ a b c => fmaF32 a b c), (0x14, .vmax, fun _ a b _ => maxF32 a b), (0x15, .vmin, fun _ a b _ => minF32 a b),
   (0x16, .vdiv, fun _ a b _ => divF32 a b), (0x17, .vsqrt, fun _ a _ _ => BitVec.ofNat 32 (sqrtF32 (f32 a))),
   (0x18, .vabs, fun _ a _ _ => a &&& 0x7FFFFFFF), (0x20, .vexp, fun _ a _ _ => expF32 tab a),
   (0x21, .vlog, fun _ a _ _ => Config.tableLog tab a), (0x22, .vrsqrt, fun _ a _ _ => Config.tableRsqrt tab a),
   (0x23, .vsigm, fun _ a _ _ => Config.tableSigm tab a), (0x24, .vtanh, fun _ a _ _ => Config.tableTanh tab a),
   (0x39, .vqnt, fun w a b _ => BitVec.ofInt 32
      (quantInt (if vImm w % 32 = 0 then 8 else 4) (f32 a) (f32 b) (signed 8 (vImm w / 32 % 256))).1),
   (0x3A, .vdeq, fun _ a b c => toF32 ((f32 b).mul (FVal.ofInt (a.toInt - c.toInt))))]

/-- The instructions with INT32 and INT8 lanes, with their exact result before saturation (spec/05 R105, R109). -/
def intRows : List (Nat × (CellNo → VWhere → Word → Instr) × (Int → Int → Int → Int)) :=
  [(0x02, .vzero, fun _ _ _ => 0), (0x03, .vmov, fun a _ _ => a), (0x10, .vadd, fun a b _ => a + b), (0x11, .vsub, fun a b _ => a - b),
   (0x12, .vmul, fun a b _ => a * b), (0x13, .vfma, fun a b c => a * b + c), (0x14, .vmax, fun a b _ => max a b),
   (0x15, .vmin, fun a b _ => min a b), (0x18, .vabs, fun a _ _ => |a|)]

/-- An integer held to n bits in two's complement (spec/05 R105). -/
def clamp (n : Nat) (v : Int) : Int := max (-(2 ^ (n - 1) : Int)) (min (2 ^ (n - 1) - 1) v)

/-- INT8 sub-lane i of a lane. -/
def sub8 (v : BitVec 32) (i : Nat) : Int := signed 8 (v.toNat / 256 ^ i)

/-- A thread's active lanes name good addresses (spec/05 R119). -/
def GoodAddresses (th : Thread) (w : Word) : Prop := ∀ i, i < 32 → tacts th w i = true → threadAddrOk (treg th (vA w) i) = true

/-- A transfer's outcome is told to its submitting cell g: STATUS and DONE stand in the descriptor at byte a (spec/04 R95). -/
def StatusTold (c d : CellState) (a status : Nat) : Prop :=
  d.store = storeBytes (storeBytes c.store (a + 62) [storeByte c (a + 62) ||| 0x80]) (a + 63) [BitVec.ofNat 8 status]

/-- Nothing outside the cells has moved: map stores, LPDDR6 and its tags. -/
def SameOutside (s t : State) : Prop :=
  t.fabric.mapStore = s.fabric.mapStore ∧ t.fabric.lpddr = s.fabric.lpddr ∧ t.fabric.tags = s.fabric.tags

/-- A cell that has come back from its restart: no failure bit, empty memories but the store, whose uncorrectable words are zeroed, ready
for its test (spec/10 R262). -/
def Restarted (c d : CellState) : Prop :=
  d.st = .idle ∧ d.fault = c.fault &&& 0x300 ∧ d.faultInfo = 0 ∧ d.service = 3 ∧ d.bbuf = [] ∧ d.imem = [] ∧ d.tmem = [] ∧ d.vreg = [] ∧
  d.pred = [] ∧ d.drainBuf = [] ∧ d.hist = [] ∧ d.posts = [] ∧ d.held = [] ∧ d.report = false ∧ d.loops = [] ∧ d.threads = [] ∧
  d.fence = c.fence ∧ d.stitchCount = c.stitchCount ∧ d.tackerClaim = true ∧ d.badWords = [] ∧
  ∀ a, ((∃ b ∈ c.badWords, b.1 = 0 ∧ a / 8 = b.2 / 8) → readByte d.store a = 0) ∧
    ((∀ b ∈ c.badWords, b.1 = 0 → a / 8 ≠ b.2 / 8) → readByte d.store a = readByte c.store a)

/-- Laster n's FIFO with its front entry x taken: the next sequence number of x's source is expected (spec/08 R230, R231). -/
def TookFront (s : State) (n : Nat) (x : Notice) (rest : List Notice) : State :=
  s.setLaster n { s.laster n with fifo := rest, seen := put 0 (s.laster n).seen (srcKey x.src) ((x.seq + 1) % 65536) }

/-- The front entry of running Laster n is x, in sequence and with nothing lost before it. -/
def FrontInSequence (s : State) (n : Nat) (x : Notice) (rest : List Notice) : Prop :=
  (s.laster n).state = 0 ∧ (s.laster n).fifo = x :: rest ∧ x.seq = lookup 0 (s.laster n).seen (srcKey x.src) ∧ (s.laster n).lostSeen = false

/-- The row that takes a notice of a kind from the front of a FIFO; those of a camera bus and damaged ones name none (spec/08 R229, R231). -/
def noticeRow : NoticeKind → Nat
  | .claimResult .. => 0
  | .jobDone _ => 1
  | .cellFault .. => 2
  | .batchClosed _ => 3
  | .slotStopped _ => 4
  | .doorbell _ => 5
  | .timer _ => 6
  | .control _ => 7
  | .streamBus .. => 8
  | .bad => 9

/-- The rows of a Laster's notices. -/
def noticeRows : List (Nat × (LasterNo → Instr)) :=
  [(0, .claimResult), (1, .jobDone), (2, .cellFault), (3, .batchClosed), (4, .slotStopped), (5, .doorbell), (6, .timer), (7, .control)]

/-- What Laster n does with a notice of a kind (spec/08 R231). -/
def noticeAct (s : State) (n : Nat) : NoticeKind → State
  | .claimResult g id ok => claimResult s g id ok
  | .jobDone id => jobDone s id
  | .cellFault _ id _ => cellFault s id
  | .batchClosed c => dispatchAll (serveCtx s c)
  | .slotStopped k => slotStopped s n k
  | .doorbell q => dispatchAll (serveQueue s q)
  | .timer id => afterFree (lateCheck s id)
  | .control _ | .streamBus .. | .bad => s

/-- Laster n takes x from its front, and reconciles first where a sequence number is missing or an entry was lost before (spec/08 R231). -/
def tookAndSettled (s : State) (n : Nat) (x : Notice) (rest : List Notice) : State :=
  if x.seq ≠ lookup 0 (s.laster n).seen (srcKey x.src) ∨ (s.laster n).lostSeen = true then reconcile (TookFront s n x rest) n
  else TookFront s n x rest

/-- Nothing but the table of the Lasters is written, and every Laster reads as before. -/
def SameLasters (s t : State) : Prop := t = { s with lasters := t.lasters } ∧ ∀ m, t.laster m = s.laster m

/-- Quarter q has gone, with its cells, Tackers, Lacers, map store and LPDDR6 (spec/01 R25, R26); contexts and jobs are as they were. -/
def QuarterGone (s : State) (q : Nat) (u : State) : Prop :=
  u.fabric.lost = s.fabric.lost ++ [q] ∧ leafIsSet u.causes (.main gQuarter q) = true ∧ u.jobs = s.jobs ∧ u.ctxs = s.ctxs ∧
  (∀ i, i < 16 → (u.cell (16 * q + i)).fence = true ∧ (u.cell (16 * q + i)).service = 4 ∧ (u.cell (16 * q + i)).tackerClaim = false) ∧
  (∀ h, h / 16 ≠ q → (u.cell h).fence = (s.cell h).fence ∧ SameMemories (s.cell h) (u.cell h)) ∧
  (∀ c, c < 4 → (u.tacker (4 * q + c)).state = 2) ∧ (∀ t, t / 4 ≠ q → (u.tacker t).state = (s.tacker t).state) ∧
  (∀ a, a / 33554432 = q → readByte u.fabric.mapStore a = 0) ∧ (∀ a, a / quarterRegion = q → readByte u.fabric.lpddr a = 0) ∧
  ∀ p ∈ u.fabric.lacer, p.1 / 4 ≠ q

/-- What follows from a lost quarter in state u: contexts that reside in it are withdrawn, its cells' jobs replay, the transfers that
were on its Lacers end, and every context is judged again (spec/01 R26, spec/10 R260). -/
def afterLoss (gone : List Transfer) (q : Nat) (u : State) : State :=
  let v := ((loadedCtxs u).filter (fun p => residesIn p.2 q)).foldl (fun s p => unloadCtx s p.1 1) u
  let v := (List.range 16).foldl (fun s i => loseCell s (16 * q + i) .cobbler false) v
  afterFree (cellsChanged (gone.foldl (fun s x => releaseStarts ((x.orders.map (·.1)).foldl (dropTransfer x) s) x.tag) v))

/-- Passes of a LOOP word: its immediate count, or the 16-bit count word it points at (R99). -/
def loopCount (c : CellState) (w : BitVec 128) : Nat :=
  if fld w 119 119 = 1 then rdLE (storeByte c) (fld w 95 74) 2 else fld w 111 96

/-- Nothing but stream slot n differs. -/
def OnlySlot (n : Nat) (s t : State) : Prop :=
  t = { s with streams := { s.streams with slot := t.streams.slot } } ∧ ∀ m, m ≠ n → t.slot m = s.slot m

/-- A command of an LPDDR5X channel, with the state in which the channel receives it: 0 idle, 1 self-refresh, 2 power-down (spec/11 R298). -/
def channelCommand : Instr → Option (ChanNo × Nat)
  | .act ch _ _ => some (ch, 0)
  | .pre ch _ => some (ch, 0)
  | .rd ch _ _ _ _ => some (ch, 0)
  | .wr ch _ _ _ _ => some (ch, 0)
  | .mwr ch _ _ _ _ _ => some (ch, 0)
  | .cas ch => some (ch, 0)
  | .ref ch => some (ch, 0)
  | .rfm ch => some (ch, 0)
  | .sre ch => some (ch, 0)
  | .srx ch => some (ch, 1)
  | .pde ch => some (ch, 0)
  | .pdx ch => some (ch, 2)
  | .mrw ch _ _ => some (ch, 0)
  | .mrr ch _ => some (ch, 0)
  | .commandBusTraining ch _ => some (ch, 0)
  | .wck2ckLevelling ch _ => some (ch, 0)
  | .readDqCalibration ch => some (ch, 0)
  | .wff ch _ => some (ch, 0)
  | .rff ch => some (ch, 0)
  | .zqCalibrationStart ch => some (ch, 0)
  | .zqCalibrationLatch ch => some (ch, 0)
  | .queueDoorbell ch _ => some (ch, 0)
  | .multiQueueDoorbell ch _ => some (ch, 0)
  | .streamDoorbell ch _ _ => some (ch, 0)
  | .negSelect ch _ => some (ch, 0)
  | .bulkMap ch _ => some (ch, 0)
  | .arm ch _ _ => some (ch, 0)
  | .disarm ch _ _ => some (ch, 0)
  | .registerWrite (.port ch _ _) => some (ch, 0)
  | _ => none

/-- The channel receives commands: the port is powered, HMPn_RESET_N is high, and no unsupported command came since the last reset. -/
def Received (s : State) (ch : ChanNo) (power : Nat) : Prop :=
  portPowered s = true ∧ (s.chan ch.val).resetLow = false ∧ (s.chan ch.val).undefined = false ∧ (s.chan ch.val).power = power

/-- The channel takes register writes at once: it is idle, a version is selected, and no posted write waits. -/
def Writes (s : State) (ch : ChanNo) : Prop := Received s ch 0 ∧ selected s = true ∧ (s.chan ch.val).buffer = []

/-- A setting's write: WRONG_STATE outside its class, a range error outside its range, else its effect and the answer 0. -/
def SettingRule (i : Instr) (ok : Prop) (f : Power → Power) (s : State) : Prop :=
  (setupState s = false → exec i s = .next (answer s wrongState)) ∧
  (setupState s = true → ¬ ok → exec i s = .next (answer s outOfRange)) ∧
  (setupState s = true → ok → exec i s = .next (answer { s with power := f s.power } 0))

/-- What a cold reset leaves: the device off with everything volatile gone, flash, counters and pins as they were (spec/14 R366, R367). -/
def ColdlyReset (s t : State) : Prop :=
  t.dev.state = .off ∧ t.dev.bypassPin = false ∧ t.cells = [] ∧ t.ctxs = [] ∧ t.queues = [] ∧ t.jobs = [] ∧ t.tackers = [] ∧ t.lasters = [] ∧
  t.fabric = {} ∧ t.streams = {} ∧ t.power = {} ∧ t.resil = {} ∧ t.field = {} ∧ t.causes = {} ∧ t.boot.flash = s.boot.flash ∧
  t.boot.rollback = s.boot.rollback ∧ t.boot.leaf = s.boot.leaf ∧ t.pending = s.pending

/-- What a warm restart leaves: the device in BOOT with its AL error, cells, contexts, queues and LPDDR6 gone; clock, bypass, field port
links, retained counters, flash and monotonic counters as they were (spec/10 R266, spec/11 R300). -/
def WarmlyRestarted (s t : State) (reason : Nat) : Prop :=
  t.dev.state = .boot ∧ t.dev.restartReason = reason ∧ t.dev.alError = true ∧ t.dev.alCode = 0x8002 ∧ t.dev.dc = s.dev.dc ∧
  t.dev.bypass = s.dev.bypass ∧ t.dev.bypassPin = s.dev.bypassPin ∧ t.cells = [] ∧ t.ctxs = [] ∧ t.queues = [] ∧ t.jobs = [] ∧
  t.fabric = {} ∧ t.streams = {} ∧ t.power = {} ∧ t.field.links = s.field.links ∧ t.hmp.negState = 3 ∧
  t.resil.count = s.resil.count ∧ t.resil.unavailable = s.resil.unavailable ∧ t.resil.observed = s.resil.observed ∧
  t.boot.flash = s.boot.flash ∧ t.boot.rollback = s.boot.rollback ∧ t.boot.leaf = s.boot.leaf ∧ t.boot.released = false ∧
  -- of the leaves, AL_ERROR is set, and UNVERIFIED stays (spec/12 R335, spec/13 R349)
  leafIsSet t.causes (.main gField 2) = true ∧ t.causes.streamSlot = [] ∧ t.causes.istFailed = 0 ∧ t.causes.istUntested = 0 ∧
  (∀ g b, b < 64 → leafIsSet t.causes (.main g b) = true → (g = gField ∧ b = 2) ∨ (g = gBoot ∧ b = 0 ∧ s.boot.unverified = true)) ∧
  (s.boot.unverified = true → leafIsSet t.causes (.main gBoot 0) = true) ∧ t.pending = s.pending

/-- The power settings stand in the ranges of their entries (spec/09 R237, R238, R243). -/
def InRange (s : State) : Prop :=
  20000 ≤ s.power.cap ∧ s.power.cap ≤ 95000 ∧ 1 ≤ s.power.cellLimit ∧ s.power.cellLimit ≤ 64 ∧ 60 ≤ s.power.tjLimit ∧
  s.power.tjLimit ≤ 105 ∧ -40 ≤ s.power.lowBound ∧ s.power.lowBound ≤ 25 ∧ s.power.order ≤ 5

end Sys2Proof.Safety
end

