-- ==== Sys2Proof/Certificates/Slice0/Obligations.lean ====
section
/-! DEFINITION. What is claimed of the block. Each statement names the rules of spec/ it says. -/

open Sys2Proof Sys2Proof.Machine Sys2Proof.Safety

/-! ### The block -/

/-- The block takes the command at the front of its queue, and runs it with the queue's rest. -/
def Obligations.StepRunsTheFrontCommand : Prop :=
  ∀ (c : Instr) (rest : List Instr) (s : State), step { s with pending := c :: rest } = exec c { s with pending := rest }

/-- spec/12 R308, spec/03 R78 and log entry 1 (the tick is the model's choice): with an empty queue 10 ns of DC time pass where
the always-on supply and the reference clock stand, and nothing passes elsewhere; while a trip holds the part in reset DC time alone
moves, and else between boundaries of the 4 us grid only the running cells' time counters, the observation times, the DC synchronism
and its cause move with it. -/
def Obligations.IdleTick : Prop :=
  (∀ s : State, s.pending = [] → supplied s.dev = false → step s = .next s) ∧
  (∀ s : State, s.pending = [] → supplied s.dev = true → s.dev.heldInReset = true →
    step s = .next { s with dev := { s.dev with dc := s.dev.dc + 10 } }) ∧
  (∀ s : State, s.pending = [] → supplied s.dev = true → s.dev.heldInReset = false →
    ∃ u, step s = .next (gridWork u) ∧ u.dev.dc = s.dev.dc + 10 ∧ u.pending = [] ∧
      u = { s with resil := u.resil, causes := u.causes, cells := u.cells, dev := u.dev } ∧
      u.dev = { s.dev with dc := u.dev.dc, dcSynced := u.dev.dcSynced } ∧
      (Tab.wf {} s.cells = true → ∀ g, u.cell g = cellTime u.now (s.cell g)) ∧ (crosses u.now 4000 = false → gridWork u = u))

/-- The command at the front leaves the queue and puts nothing there: a step leaves the queue's rest, an idle step an empty queue.
-/
def Obligations.CommandsLeaveTheQueue : Prop :=
  (∀ (i : Instr) (s t : State), exec i s = .next t → t.pending = s.pending) ∧
  (∀ s t : State, step s = .next t → t.pending = s.pending.tail)

/-- A command is refused exactly where its operands are none of its row; it faults exactly where it is a command of a channel of
the host port that an unsupported command has left in the state whose behaviour spec/11 R272 leaves undefined, the channel powered
and out of reset. -/
def Obligations.CommandOutcomes : Prop :=
  ∀ (i : Instr) (s : State), (∀ r, exec i s = .refused r ↔ r = .illFormed ∧ wellFormed i = false) ∧
    (∀ f, exec i s = .fault f → f = .channelUndefined ∧ ∃ ch : ChanNo, portPowered s = true ∧ (s.chan ch.val).resetLow = false ∧
      (s.chan ch.val).undefined = true ∧ ((∃ p, channelCommand i = some (ch, p)) ∨ i = .unsupportedCommand ch)) ∧
    (∀ ch p, wellFormed i = true → channelCommand i = some (ch, p) → portPowered s = true → (s.chan ch.val).resetLow = false →
      (s.chan ch.val).undefined = true → exec i s = .fault .channelUndefined)

/-- After reset the block stands in BOOT at DC time 0 with AL INIT and an empty queue; the registers of a cell's page hold the
Reset column of spec/03 R81 and the objects the defaults of their tables (spec/00 R11, spec/09 R252, spec/10 R270, spec/12 R333 to
R336); memories that the spec gives no content, and the fields the spec does not give a reset value for, hold the model's choice,
and this statement says nothing of them. -/
def Obligations.AtReset : Prop :=
  State.reset.dev.state = .boot ∧ State.reset.now = 0 ∧ State.reset.dev.al = .init ∧ State.reset.dev.dcSynced = false ∧
  State.reset.pending = [] ∧
  (∀ g : CellNo, cellReg State.reset g.val 0x000 =
      BitVec.ofNat 64 (0xB1 * 65536 + g.val * 256 + g.val / 16 * 16 + g.val / 4 % 4 * 4 + g.val % 4) ∧
    cellReg State.reset g.val 0x028 = 20 ∧
    (∀ o ∈ [0x008, 0x010, 0x018, 0x020, 0x030, 0x040, 0x048, 0x050, 0x058, 0x060, 0x068, 0x100, 0x108], cellReg State.reset g.val o = 0) ∧
    (∀ i : Fin 8, cellReg State.reset g.val (0x080 + 8 * i.val) = 0 ∧ cellReg State.reset g.val (0x0C0 + 8 * i.val) = 0) ∧
    ∀ e : Fin 32, sentEntry (State.reset.cell g.val) e.val = 0) ∧
  (∀ r ∈ [(0x2200, 1, 60000), (0x2200, 2, 0), (0x2200, 3, 7000), (0x2200, 4, 12000), (0x2200, 5, 64), (0x2202, 1, 0), (0x2202, 2, 0),
      (0x2202, 3, 41000), (0x2202, 4, 64), (0x2202, 5, 0), (0x2204, 3, 1), (0x2210, 1, 0), (0x2300, 2, 0), (0x2400, 1, 2), (0x2400, 2, 4500), (0x2410, 1, 2),
      (0x2410, 2, 1000), (0x2420, 4, 10), (0x2420, 5, 1), (0x2440, 4, 1), (0x2440, 5, 0xFF), (0x2600, 1, 64), (0x2600, 4, 0), (0x2601, 1, 0),
      (0x2603, 1, 60), (0x2603, 2, 1), (0x2603, 3, 100), (0x2604, 1, 20), (0x2020, 1, 0), (0x2020, 2, 0x1FFFF), (0x2020, 3, 0),
      (0x2100, 1, 0), (0x2101, 1, 0), (0x2702, 4, 0), (0x2704, 2, 0), (0x1600, 1, 0x20000010), (0x1C12, 0, 1), (0x1C13, 0, 2),
      (0x1C32, 2, 62500), (0x1C33, 6, 10000), (0x1018, 0, 4), (0x2010, 0, 5)],
    odNumber State.reset r.1 r.2.1 = r.2.2) ∧
  odValue State.reset 0x2201 1 = [105] ∧ odValue State.reset 0x2201 2 = [0xD8] ∧ InRange State.reset

/-- Memories stay in their canonical form under the operations that write them, a byte reads as the last write to it left it, and
every other byte reads as before. -/
def Obligations.MemoryKeepsItsForm : Prop :=
  ∀ (m : Mem) (a : Nat) (l : List Byte), Memory.wf m = true →
    Memory.wf (writeBytes m a l) = true ∧ readBytes (writeBytes m a l) a l.length = l ∧
    (∀ b, b < a ∨ a + l.length ≤ b → readByte (writeBytes m a l) b = readByte m b) ∧
    (∀ n, Memory.wf (zeroRange m a n) = true ∧ ∀ b, readByte (zeroRange m a n) b = if a ≤ b ∧ b < a + n then 0 else readByte m b)

/-- spec/09 R237, R238, R243: from any state in which the power settings stand in the ranges of their entries, every step leaves
them there. -/
def Obligations.PowerSettingsStayInRange : Prop :=
  ∀ s t : State, InRange s → step s = .next t → InRange t

/-- spec/13 R342: no step changes a byte of the flash outside the commit area and the slots A and B; the golden slot is never
written. -/
def Obligations.GoldenSlotIsNeverWritten : Prop :=
  ∀ (s t : State) (a : Nat), step s = .next t → (0x20000 ≤ a ∧ a < 0x100000) ∨ 0x1100000 ≤ a → flashByte t a = flashByte s a

/-! ### Cells: the sequencer -/

/-- R85, R93: NOP takes one stitch, WAITS its count, HINT one stitch and a place among the pending hints. R99: LOOP opens a loop
of its count, or with a count of 0 goes on after its ENDLOOP, and raises ILLEGAL_OP where END does not name the ENDLOOP that closes
it or four loops are open; ENDLOOP goes back to the body while passes are left, and leaves the loop otherwise. -/
def Obligations.SimpleMacroOperations : Prop :=
  (∀ (g : CellNo) (w : BitVec 128) (s : State), Ready s g.val →
     (Passes 0x00 w → Completes (.nop g w) s (fun t => Stepped s g.val 1 t ∧ OnlyCell g.val s t ∧
       SameMemories (s.cell g.val) (t.cell g.val) ∧ (t.cell g.val).nextPc = (s.cell g.val).nextPc + 1 ∧
       (t.cell g.val).loops = (s.cell g.val).loops ∧ (t.cell g.val).hints = (s.cell g.val).hints)) ∧
     (Passes 0x02 w → Completes (.waits g w) s (fun t => Stepped s g.val (fld w 111 88) t ∧ OnlyCell g.val s t ∧
       SameMemories (s.cell g.val) (t.cell g.val) ∧ (t.cell g.val).nextPc = (s.cell g.val).nextPc + 1 ∧
       (t.cell g.val).loops = (s.cell g.val).loops ∧ (t.cell g.val).hints = (s.cell g.val).hints)) ∧
     (Passes 0x04 w → Completes (.hint g w) s (fun t => Stepped s g.val 1 t ∧ OnlyCell g.val s t ∧
       SameMemories (s.cell g.val) (t.cell g.val) ∧ (t.cell g.val).nextPc = (s.cell g.val).nextPc + 1 ∧
       (t.cell g.val).loops = (s.cell g.val).loops ∧
       (t.cell g.val).hints = addHint (liveHints (s.cell g.val).since (s.cell g.val).hints) ((s.cell g.val).since + fld w 111 88) (fld w 87 80) (fld w 79 56)))) ∧
  ((∀ (g : CellNo) (w : BitVec 128) (s : State), Ready s g.val → Passes 0x08 w → (s.cell g.val).loops.length < 4 →
     matchingEnd (s.cell g.val) 1024 ((s.cell g.val).nextPc + 1) 0 = some (fld w 73 64) →
     Completes (.loop g w) s (fun t => Stepped s g.val 1 t ∧ OnlyCell g.val s t ∧ SameMemories (s.cell g.val) (t.cell g.val) ∧
       (loopCount (s.cell g.val) w = 0 → (t.cell g.val).nextPc = fld w 73 64 + 1 ∧ (t.cell g.val).loops = (s.cell g.val).loops) ∧
       (loopCount (s.cell g.val) w ≠ 0 → (t.cell g.val).nextPc = (s.cell g.val).nextPc + 1 ∧
         (t.cell g.val).loops = ⟨(s.cell g.val).nextPc + 1, fld w 73 64, loopCount (s.cell g.val) w, 0⟩ :: (s.cell g.val).loops))) ∧
   (∀ (g : CellNo) (w : BitVec 128) (s : State), Ready s g.val → Passes 0x08 w →
     4 ≤ (s.cell g.val).loops.length ∨ matchingEnd (s.cell g.val) 1024 ((s.cell g.val).nextPc + 1) 0 ≠ some (fld w 73 64) →
     Completes (.loop g w) s (fun t => HaltedBy (t.cell g.val) (s.cell g.val).nextPc .illegalOp ∧ OnlyCell g.val s t)) ∧
   (∀ (g : CellNo) (w : BitVec 128) (s : State) (l : LoopFrame) (rest : List LoopFrame), Ready s g.val → Passes 0x09 w →
     (s.cell g.val).loops = l :: rest → l.endIdx = (s.cell g.val).nextPc →
     Completes (.endloop g w) s (fun t => Stepped s g.val 1 t ∧ OnlyCell g.val s t ∧ SameMemories (s.cell g.val) (t.cell g.val) ∧
       (1 < l.left → (t.cell g.val).nextPc = l.body ∧ (t.cell g.val).loops = { l with left := l.left - 1, pass := l.pass + 1 } :: rest) ∧
       (l.left ≤ 1 → (t.cell g.val).nextPc = (s.cell g.val).nextPc + 1 ∧ (t.cell g.val).loops = rest))))

/-- R85: a macro-operation that stands at a boundary issues whatever earlier operations have in flight, unless their vector step
fails. R100: the index after 1,023 raises PC_OVERRUN. R83: a word with a reserved bit or field, or of an opcode no row has, halts the cell with ILLEGAL_OP at its index. -/
def Obligations.IssueAndIllegalWords : Prop :=
  (∀ p ∈ ([(0x00, opNop, .nop), (0x01, opDrain 15 true, .halt), (0x02, opWaits, .waits), (0x04, opHint, .hint), (0x08, opLoop, .loop),
       (0x09, opEndloop, .endloop), (0x10, opMatrix .mma, .mma), (0x11, opMatrix .mmat, .mmat), (0x12, opMatrix .conv, .conv),
       (0x13, opMatrix .dwc, .dwc), (0x14, opGap, .gap), (0x18, opAwl, .awl), (0x20, opVrun, .vrun), (0x21, opVthr, .vthr),
       (0x28, opLace, .lace), (0x29, opTpost, .tpost), (0x30, opSignal false, .sigset), (0x31, opSignal true, .sigadd),
       (0x32, opSigwait, .sigwait), (0x33, opBarrier, .barrier)] :
       List (Nat × (State → Nat → BitVec 128 → State) × (CellNo → BitVec 128 → Instr))),
     ∀ (g : CellNo) (w : BitVec 128) (s : State),
       (opcode w ≠ p.1 → exec (p.2.2 g w) s = .refused .illFormed) ∧
       (opcode w = p.1 → atBoundary (s.cell g.val) = false → exec (p.2.2 g w) s = .next s) ∧
       (opcode w = p.1 → atBoundary (s.cell g.val) = true → (s.cell g.val).haltReq = true →
         exec (p.2.2 g w) s = .next (s.setCell g.val (haltReqObeyed (s.cell g.val)))) ∧
       (opcode w = p.1 → atBoundary (s.cell g.val) = true → (s.cell g.val).haltReq = false → 1023 < (s.cell g.val).nextPc →
         exec (p.2.2 g w) s = .next (s.setCell g.val (haltProg s.now (s.cell g.val) .pcOverrun))) ∧
       (∀ c, Passes p.1 w → atBoundary (s.cell g.val) = true → (s.cell g.val).haltReq = false → (s.cell g.val).nextPc ≤ 1023 →
         vectorPhase (vEnv s) (s.cell g.val).since (s.cell g.val) (s.cell g.val).mats = .ok c →
         exec (p.2.2 g w) s = .next (p.2.1 (s.setCell g.val { s.cell g.val with pc := (s.cell g.val).nextPc }) g.val w))) ∧
  ((∀ p ∈ ([(0x00, .nop), (0x01, .halt), (0x02, .waits), (0x03, .drain), (0x04, .hint), (0x08, .loop), (0x09, .endloop), (0x10, .mma),
       (0x11, .mmat), (0x12, .conv), (0x13, .dwc), (0x14, .gap), (0x18, .awl), (0x20, .vrun), (0x21, .vthr), (0x28, .lace),
       (0x29, .tpost), (0x30, .sigset), (0x31, .sigadd), (0x32, .sigwait), (0x33, .barrier)] :
       List (Nat × (CellNo → BitVec 128 → Instr))), ∀ (g : CellNo) (w : BitVec 128) (s : State),
     Ready s g.val → opcode w = p.1 → wordOk w = false →
     Completes (p.2 g w) s (fun t => HaltedBy (t.cell g.val) (s.cell g.val).nextPc .illegalOp ∧ OnlyCell g.val s t ∧
       SameMemories (s.cell g.val) (t.cell g.val))) ∧
   (∀ (g : CellNo) (w : BitVec 128) (s : State), Ready s g.val → opTable.contains (opcode w) = false →
     Completes (.unassignedOpcode g w) s (fun t => HaltedBy (t.cell g.val) (s.cell g.val).nextPc .illegalOp ∧ OnlyCell g.val s t ∧
       SameMemories (s.cell g.val) (t.cell g.val))))

/-- R93: DRAIN completes when every part MASK names is complete, and holds its cell until then on the causes of the parts that are
not; a DRAIN of all four parts ends the layer. R93: HALT is a DRAIN of all four parts, after which the cell is IDLE and its Tacker
has its report. -/
def Obligations.DrainAndHalt : Prop :=
  (∀ (g : CellNo) (w : BitVec 128) (s : State), Ready s g.val → Passes 0x03 w →
     (NothingLeft s g.val (fld w 119 116) → Completes (.drain g w) s (fun t => Stepped s g.val 1 t ∧
       SameMemories (s.cell g.val) (t.cell g.val) ∧ (t.cell g.val).nextPc = (s.cell g.val).nextPc + 1 ∧ (t.cell g.val).wait = none ∧
       (t.cell g.val).loops = (s.cell g.val).loops ∧ (∀ h, h ≠ g.val → t.cell h = s.cell h) ∧ t.fabric = s.fabric ∧
       (t.cell g.val).layersDone = (s.cell g.val).layersDone + (if fld w 119 116 = 15 then 1 else 0) ∧
       (fld w 119 116 ≠ 15 → OnlyCell g.val s t))) ∧
     (¬ NothingLeft s g.val (fld w 119 116) → Completes (.drain g w) s (fun t => OnlyCell g.val s t ∧
       Held s g.val (.drain (fld w 119 116) ((s.cell g.val).since + 1) false) (partsLeft s g.val (fld w 119 116)) t))) ∧
  (∀ (g : CellNo) (w : BitVec 128) (s : State), Ready s g.val → Passes 0x01 w →
     (NothingLeft s g.val 15 → Completes (.halt g w) s (fun t => (t.cell g.val).st = .idle ∧ (t.cell g.val).report = true ∧
       (t.cell g.val).loops = [] ∧ (t.cell g.val).threads = [] ∧ (t.cell g.val).wait = none ∧
       (t.cell g.val).since = (s.cell g.val).since + 1 ∧ (t.cell g.val).prog = (s.cell g.val).prog ∧
       SameMemories (s.cell g.val) (t.cell g.val) ∧ (∀ h, h ≠ g.val → t.cell h = s.cell h) ∧ t.fabric = s.fabric)) ∧
     (¬ NothingLeft s g.val 15 → Completes (.halt g w) s (fun t => OnlyCell g.val s t ∧
       Held s g.val (.drain 15 ((s.cell g.val).since + 1) true) (partsLeft s g.val 15) t)))

/-- R65, R66, R91, R92, R94: MMA, MMAT, CONV and DWC issue with the tiles of their operands and with what their feeders write, take
max(k_st, 64) stitches a tile, and write nothing at their issue but the B buffer; R68: their first stitch stays requested on
FEED_A_EMPTY and FEED_B_EMPTY while the feeders have written nothing, and one that takes no element completes; with POST and no
binding, or chain fields that R127 does not allow, they raise ILLEGAL_OP. -/
def Obligations.MatrixOperationIssues : Prop :=
  ∀ p ∈ matrixRows, ∀ (g : CellNo) (w : BitVec 128) (s : State), Ready s g.val → Passes p.2.1 w →
    let c := s.cell g.val
    let x := matIn c p.1 w
    let nt := ceilDiv x.rows 64 * ceilDiv x.cols 64
    let bad := (fld w 115 115 = 1 ∧ c.bind = none) ∨ chainOk c x (fld w 117 117 == 1) = false
    (bad → Completes (p.2.2 g w) s (fun t => HaltedBy (t.cell g.val) c.nextPc .illegalOp ∧ OnlyCell g.val s t ∧
      SameMemories c (t.cell g.val))) ∧
    (¬ bad → (0 < nt ∧ 0 < x.kst) ∨ fld w 116 116 = 0 → Completes (p.2.2 g w) s (fun t =>
      (0 < nt → 0 < x.kst → (t.cell g.val).pc = c.nextPc ∧ (t.cell g.val).next = c.since + max 1 (nt * max x.kst 64) ∧
        (t.cell g.val).since = c.since ∧ (t.cell g.val).stitchCount = c.stitchCount ∧ (t.cell g.val).st = c.st ∧
        (t.cell g.val).stalls.getLsbD 0 = true ∧ (t.cell g.val).stalls.getLsbD 1 = true) ∧
      (nt = 0 ∨ x.kst = 0 → Stepped s g.val (max 1 (nt * max x.kst 64)) t) ∧
      (t.cell g.val).nextPc = c.nextPc + 1 ∧ (t.cell g.val).loops = c.loops ∧ (t.cell g.val).eyes = [] ∧
      (t.cell g.val).bind = (if fld w 115 115 = 1 then none else c.bind) ∧
      (t.cell g.val).store = c.store ∧ (t.cell g.val).imem = c.imem ∧ (t.cell g.val).tmem = c.tmem ∧ (t.cell g.val).vreg = c.vreg ∧
      (t.cell g.val).pred = c.pred ∧ (t.cell g.val).drainBuf = c.drainBuf ∧ (t.cell g.val).hist = c.hist ∧
      (t.cell g.val).bbuf = (if fld w 118 118 = 1 then c.bbuf else loadB c x.b) ∧
      (∃ (m : MatOp) (e : Env) (rs : List F32), (t.cell g.val).mats = [m] ∧ m.kind = p.1 ∧ m.issue = c.since ∧ m.b = max x.kst 64 ∧ m.nt = nt ∧
        m.rowsTotal = x.rows ∧ m.colsTotal = x.cols ∧ m.src = x.a ∧ m.dst = x.d ∧ m.post = (if fld w 115 115 = 1 then c.bind else none) ∧
        m.tiles = (List.range nt).map (tileOut e x rs) ∧ feedOf e x m = m ∧ e.c.store = c.store ∧ e.c.bbuf = (t.cell g.val).bbuf ∧
        e.map = s.fabric.mapStore ∧ e.q = quarterOf g.val) ∧
      (∀ h, h ≠ g.val → t.cell h = s.cell h) ∧
      t = { s with cells := t.cells, free := t.free, fabric := { s.fabric with writer := t.fabric.writer } } ∧
      (x.chain ≠ 1 → t.fabric = s.fabric)))

/-- R91, R154, R117: GAP takes a stitch for every pixel and 64 channels and forms each channel's mean; VRUN takes one stitch and L
for each of its tiles. R118: VTHR starts its threads with the argument block and their numbers; one of them still running holds it
on VEC_BUSY. -/
def Obligations.GapVrunAndThreads : Prop :=
  (∀ (g : CellNo) (w : BitVec 128) (s : State), Ready s g.val →
     let c := s.cell g.val
     let a := readDesc c (fld w 111 95)
     let d := readDesc c (fld w 77 61)
     (Passes 0x14 w → Completes (.gap g w) s (fun t =>
       Stepped s g.val (max 1 (ceilDiv a.k 64 * a.height * a.extent)) t ∧ (t.cell g.val).nextPc = c.nextPc + 1 ∧ OnlyCell g.val s t ∧
       SameMemories c (t.cell g.val) ∧ (t.cell g.val).loops = c.loops ∧ (t.cell g.val).lastLayer = some d.layer ∧
       ∃ m o, (t.cell g.val).mats = [m] ∧ m.kind = .gap ∧ m.issue = c.since ∧ m.src = a ∧ m.dst = d ∧ m.colsTotal = a.k ∧
         m.final = c.since + max 1 (ceilDiv a.k 64 * a.height * a.extent) + 1 ∧ m.tiles = [o] ∧
         o.rows = [(List.range a.k).map (fun ch => BitVec.ofNat 32 (gapOut c a d ch).code)])) ∧
     (Passes 0x20 w → Completes (.vrun g w) s (fun t =>
       Stepped s g.val (1 + fld w 40 25 * progLen c (fld w 60 51)) t ∧ (t.cell g.val).nextPc = c.nextPc + 1 ∧ OnlyCell g.val s t ∧
       SameMemories c (t.cell g.val) ∧ (t.cell g.val).loops = c.loops ∧
       (0 < fld w 40 25 * progLen c (fld w 60 51) →
         ∃ m, (t.cell g.val).mats = [m] ∧ m.kind = .vrun ∧ m.issue = c.since ∧ m.src = a ∧ m.dst = d ∧
           m.nt = fld w 40 25 ∧ m.len = progLen c (fld w 60 51) ∧ m.final = c.since + m.nt * m.len)))) ∧
  (∀ (g : CellNo) (w : BitVec 128) (s : State) (k : Nat), Ready s g.val → Passes 0x21 w →
     Names (s.cell g.val) (fld w 94 81) (fld w 80 73) k →
     let c := s.cell g.val
     let mine := fun i => fld w 43 38 ≤ i ∧ i < fld w 43 38 + fld w 50 44
     ((∀ i, mine i → (lookup {} c.threads i).status = 0) → Completes (.vthr g w) s (fun t => Stepped s g.val 1 t ∧
       SameMemories c (t.cell g.val) ∧ (t.cell g.val).nextPc = c.nextPc + 1 ∧ OnlyCell g.val s t ∧
       (∀ i, ¬ mine i → lookup {} (t.cell g.val).threads i = lookup {} c.threads i) ∧
       (∀ i, mine i → let th := lookup {} (t.cell g.val).threads i
         th.status = 1 ∧ th.pc = fld w 60 51 ∧ th.tbank = c.actT ∧ th.sig = k ∧ th.inc = fld w 80 73 ∧
         lookup [] th.regs 1 = List.replicate 32 (BitVec.ofNat 32 (i - fld w 43 38)) ∧
         lookup [] th.regs 0 = (List.range 32).map (fun j => BitVec.ofNat 32 (rdLE (storeByte c) (fld w 111 95 * 32 + 4 * j) 4))))) ∧
     ((∃ i, mine i ∧ (lookup {} c.threads i).status ≠ 0) → Completes (.vthr g w) s (fun t => OnlyCell g.val s t ∧
       Held s g.val (.retry w 4) 0x10 t)))

/-- R96: SIGSET and SIGADD send their update to the counter's quarter; with REL, or behind one of the same counter that is held,
they are held in the cell. A counter beyond the job's is SYNC_RANGE (R84). R97: SIGWAIT goes on at once where its condition holds,
subtracting TARGET with CONSUME, which follows the cell's own earlier updates of the counter (R96), and freezes on SIGNAL_WAIT
where not. R98: BARRIER freezes its cell on SIGNAL_WAIT until every
member has arrived; the last arrival releases all and the generation advances; a cell that is no member raises SYNC_RANGE. It
releases as R96 says: its arrival waits until what the cell posted earlier has landed. -/
def Obligations.SignalsAndBarriers : Prop :=
  (∀ p ∈ ([(0x30, false, .sigset), (0x31, true, .sigadd)] : List (Nat × Bool × (CellNo → BitVec 128 → Instr))),
     ∀ (g : CellNo) (w : BitVec 128) (s : State), Ready s g.val → Passes p.1 w →
       let c := s.cell g.val
       let k := c.sb.base + fld w 111 98
       let late := fld w 119 119 = 1 ∨ ∃ h ∈ c.held, h.counter = k
       (fld w 111 98 < c.sb.count → ¬ late → Completes (p.2.2 g w) s (fun t => Stepped s g.val 1 t ∧ SameMemories c (t.cell g.val) ∧
         (t.cell g.val).nextPc = c.nextPc + 1 ∧ (t.cell g.val).held = c.held ∧ (∀ h, h ≠ g.val → t.cell h = s.cell h) ∧
         lookup [] t.fabric.updates (k / 4096) = lookup [] s.fabric.updates (k / 4096) ++ [⟨g.val, k, p.2.1, BitVec.ofNat 32 (fld w 95 64)⟩] ∧
         (∀ q, q ≠ k / 4096 → lookup [] t.fabric.updates q = lookup [] s.fabric.updates q) ∧
         t = { s with cells := t.cells, free := t.free, fabric := { s.fabric with updates := t.fabric.updates } })) ∧
       (fld w 111 98 < c.sb.count → late → Completes (p.2.2 g w) s (fun t => Stepped s g.val 1 t ∧ SameMemories c (t.cell g.val) ∧
         (t.cell g.val).nextPc = c.nextPc + 1 ∧ OnlyCell g.val s t ∧
         ∃ h : Held, (t.cell g.val).held = c.held ++ [h] ∧ h.counter = k ∧ h.add = p.2.1 ∧ h.value = BitVec.ofNat 32 (fld w 95 64) ∧
           (fld w 119 119 = 1 → h.posts = c.postsSent))) ∧
       (c.sb.count ≤ fld w 111 98 → Completes (p.2.2 g w) s (fun t => HaltedBy (t.cell g.val) c.nextPc .syncRange ∧ OnlyCell g.val s t))) ∧
  (∀ (g : CellNo) (w : BitVec 128) (s : State), Ready s g.val → Passes 0x32 w →
     let c := s.cell g.val
     let k := c.sb.base + fld w 111 98
     let target := BitVec.ofNat 32 (fld w 95 64)
     let met := (if fld w 118 118 = 1 then s.counter k = target else 0 ≤ (s.counter k - target).toInt) ∧
       (fld w 119 119 = 1 → ownPending s g.val k = false)
     (fld w 111 98 < c.sb.count → met → Completes (.sigwait g w) s (fun t => Stepped s g.val 1 t ∧ SameMemories c (t.cell g.val) ∧
       (t.cell g.val).nextPc = c.nextPc + 1 ∧ (∀ h, h ≠ g.val → t.cell h = s.cell h) ∧
       (∀ n, n ≠ k → t.counter n = s.counter n) ∧ t.counter k = (if fld w 119 119 = 1 then s.counter k - target else s.counter k) ∧
       t = { s with cells := t.cells, free := t.free, fabric := { s.fabric with counter := t.fabric.counter } })) ∧
     (fld w 111 98 < c.sb.count → ¬ met → Completes (.sigwait g w) s (fun t => OnlyCell g.val s t ∧
       Held s g.val (.signal k target (fld w 118 118 == 1) (fld w 119 119 == 1)) 0x20 t)) ∧
     (c.sb.count ≤ fld w 111 98 → Completes (.sigwait g w) s (fun t => HaltedBy (t.cell g.val) c.nextPc .syncRange ∧ OnlyCell g.val s t))) ∧
  (∀ (g : CellNo) (w : BitVec 128) (s : State), Ready s g.val → Passes 0x33 w →
     let c := s.cell g.val
     let n := lookup 64 c.sb.bars (fld w 111 109)
     let b := lookup {} s.fabric.barrier n
     let last := ∀ m ∈ b.members, m = g.val ∨ m ∈ b.arrived
     (n < 64 → g.val ∈ b.members → c.posts = [] → last → Completes (.barrier g w) s (fun t => Stepped s g.val 1 t ∧ SameMemories c (t.cell g.val) ∧
       (t.cell g.val).nextPc = c.nextPc + 1 ∧
       lookup {} t.fabric.barrier n = { members := b.members, arrived := [], gen := b.gen + 1 } ∧
       (∀ h, h ≠ g.val → h ∈ b.members → (s.cell h).wait = some (.barrier n) →
         t.cell h = { s.cell h with wait := none, stalls := 0 }) ∧
       (∀ h, h ≠ g.val → h ∉ b.members ∨ (s.cell h).wait ≠ some (.barrier n) → t.cell h = s.cell h) ∧
       t = { s with cells := t.cells, free := t.free, fabric := { s.fabric with barrier := t.fabric.barrier } })) ∧
     (n < 64 → g.val ∈ b.members → c.posts = [] → ¬ last → Completes (.barrier g w) s (fun t => Held s g.val (.barrier n) 0x20 t ∧
       g.val ∈ (lookup {} t.fabric.barrier n).arrived ∧ (∀ m ∈ b.arrived, m ∈ (lookup {} t.fabric.barrier n).arrived) ∧
       (lookup {} t.fabric.barrier n).gen = b.gen ∧ (∀ h, h ≠ g.val → t.cell h = s.cell h) ∧
       t = { s with cells := t.cells, free := t.free, fabric := { s.fabric with barrier := t.fabric.barrier } })) ∧
     (n < 64 → g.val ∈ b.members → c.posts ≠ [] → Completes (.barrier g w) s (fun t => Held s g.val (.retry w 5) 0x20 t ∧ OnlyCell g.val s t)) ∧
     (64 ≤ n ∨ g.val ∉ b.members → Completes (.barrier g w) s (fun t => HaltedBy (t.cell g.val) c.nextPc .syncRange ∧ OnlyCell g.val s t)))

/-- R96, R97: the oldest update of a quarter is applied, wrapping modulo 2^32; a cell that waits on the counter is released if the
update meets its condition, taking its TARGET with CONSUME once its own earlier updates of the counter are applied; a held update
is applied once earlier stores and posts are through. R88, R96: a completion's update comes after those of the same cell and
counter that are on their way, and waits behind held ones.
R84: a counter beyond the job's allocation, or a slot that is not valid, halts the cell with SYNC_RANGE. -/
def Obligations.CounterUpdates : Prop :=
  ((∀ (q : QuarterNo) (s : State), lookup [] s.fabric.updates q.val = [] → exec (.counterUpdateApplied q) s = .next s) ∧
   (∀ (q : QuarterNo) (s : State) (u : Update) (rest : List Update), lookup [] s.fabric.updates q.val = u :: rest →
     let v := if u.add then s.counter u.counter + u.value else u.value
     (waitersOf s u.counter = [] → Completes (.counterUpdateApplied q) s (fun t =>
       t = { s with fabric := { s.fabric with counter := t.fabric.counter, updates := t.fabric.updates } } ∧
       lookup [] t.fabric.updates q.val = rest ∧ (∀ r, r ≠ q.val → lookup [] t.fabric.updates r = lookup [] s.fabric.updates r) ∧
       t.counter u.counter = v ∧ ∀ k, k ≠ u.counter → t.counter k = s.counter k)) ∧
     (∀ (g : Nat) (target : BitVec 32) (equal consume : Bool), waitersOf s u.counter = [g] →
       (s.cell g).wait = some (.signal u.counter target equal consume) →
       Completes (.counterUpdateApplied q) s (fun t => (∀ h, h ≠ g → t.cell h = s.cell h) ∧
         (∀ k, k ≠ u.counter → t.counter k = s.counter k) ∧ lookup [] t.fabric.updates q.val = rest ∧
         let own := consume && ownPending { s with fabric := { s.fabric with updates := put [] s.fabric.updates q.val rest } } g u.counter
         (sigHolds v target equal = true → own = false → t.cell g = { s.cell g with wait := none, stalls := 0 } ∧
           t.counter u.counter = (if consume then v - target else v)) ∧
         (sigHolds v target equal = false ∨ own = true → t.cell g = s.cell g ∧ t.counter u.counter = v)))) ∧
   (∀ (g : CellNo) (s : State), (s.cell g.val).held = [] → exec (.releasedUpdate g) s = .next s) ∧
   (∀ (g : CellNo) (s : State) (h : Held) (rest : List Held), (s.cell g.val).held = h :: rest →
     let c := s.cell g.val
     let free := h.posts ≤ c.postsLanded ∧ (h.after < c.since ∨ c.mats = [])
     (free → exec (.releasedUpdate g) s = .next (applyUpdate (arriveOwn (s.setCell g.val { c with held := rest }) g.val h.counter) h.counter h.add h.value)) ∧
     (¬ free → exec (.releasedUpdate g) s = .next s)) ∧
   (∀ (s : State) (g k inc : Nat),
     let mine := fun (u : Update) => u.cell == g && u.counter == k
     let l := (lookup [] s.fabric.updates (k / 4096)).filter mine
     let behind := ∃ h ∈ (s.cell g).held, h.counter = k
     (inc = 0 → bumpSignal s g k inc = s) ∧
     (inc ≠ 0 → behind → bumpSignal s g k inc =
       s.setCell g { s.cell g with held := (s.cell g).held ++ [⟨k, true, BitVec.ofNat 32 inc, 0, 0⟩] }) ∧
     (inc ≠ 0 → ¬ behind → waitersOf s k = [] → ((bumpSignal s g k inc).counter k =
         l.foldl (fun v u => if u.add then v + u.value else u.value) (s.counter k) + BitVec.ofNat 32 inc) ∧
       (∀ n, n ≠ k → (bumpSignal s g k inc).counter n = s.counter n) ∧
       ∀ u ∈ lookup [] (bumpSignal s g k inc).fabric.updates (k / 4096), mine u = false))) ∧
  (∀ (g : CellNo) (w : BitVec 128) (s : State), Ready s g.val →
     let c := s.cell g.val
     let d := BitVec.ofNat 512 (rdLE (storeByte c) (fld w 111 95 * 32) 64)
     let halts := fun (i : Instr) => Completes i s (fun t => HaltedBy (t.cell g.val) c.nextPc .syncRange ∧ OnlyCell g.val s t ∧
       SameMemories c (t.cell g.val))
     let q := if fld w 94 92 = 4 then quarterOf g.val else fld w 94 92
     let room := (lookup [] s.fabric.lacer (q * 4 + fld w 91 90)).length < 256 ∧ s.fabric.lost.contains q = false
     (Passes 0x18 w → fld w 80 73 ≠ 0 → c.sb.count ≤ fld w 94 81 → halts (.awl g w)) ∧
     (Passes 0x21 w → fld w 80 73 ≠ 0 → c.sb.count ≤ fld w 94 81 → halts (.vthr g w)) ∧
     (Passes 0x28 w → tfield d 481 474 ≠ 0 → c.sb.count ≤ tfield d 495 482 → room → halts (.lace g w)) ∧
     (Passes 0x28 w → slotsOk c.sb d = false → room → halts (.lace g w)) ∧
     (Passes 0x29 w → fld w 91 84 ≠ 0 → c.sb.count ≤ fld w 105 92 → halts (.tpost g w)) ∧
     (Passes 0x29 w → c.sb.cellOf (fld w 111 106) = none → halts (.tpost g w)))

/-- R95, R149: LACE and AWL copy their block, clear its DONE bit and join their queue; a full one, or a Lacer of a lost quarter, which
is fenced whole (spec/01 R26), holds the cell on LACE_WAIT; of a store's other cell a LACE moves nothing but the sentinel's marks and numbers (spec/03 R79).
R94: a TPOST with BIND waits for the next posting matrix operation; one without sends its lines, and with four
places of the path in use it holds the cell on DRAIN_FULL. -/
def Obligations.QueuesAndPosts : Prop :=
  (∀ (g : CellNo) (w : BitVec 128) (s : State), Ready s g.val →
     let c := s.cell g.val
     let a := fld w 111 95 * 32
     let d := BitVec.ofNat 512 (rdLE (storeByte c) a 64)
     let q := if fld w 94 92 = 4 then quarterOf g.val else fld w 94 92
     let l := q * 4 + fld w 91 90
     let cleared := storeBytes c.store (a + 62) [storeByte c (a + 62) &&& 0x7F]
     (∀ k, Passes 0x28 w → Names c (tfield d 495 482) (tfield d 481 474) k → slotsOk c.sb d = true →
       ((lookup [] s.fabric.lacer l).length < 256 → s.fabric.lost.contains q = false → Completes (.lace g w) s (fun t =>
         (∃ x : Transfer, lookup [] t.fabric.lacer l = lookup [] s.fabric.lacer l ++ [x] ∧ x.desc = d ∧ x.descAddr = a ∧
           x.by_ = .cell (cellNo g.val) ∧ x.tag = s.fabric.tag ∧ x.sb = c.sb ∧
           (fld w 89 89 = 1 → (t.cell g.val).wait = some (.lace l x.tag) ∧ (t.cell g.val).stalls = 0x80 ∧
             (t.cell g.val).since = c.since)) ∧
         (fld w 89 89 = 0 → Stepped s g.val 1 t ∧ (t.cell g.val).nextPc = c.nextPc + 1) ∧
         (∀ n, n ≠ l → lookup [] t.fabric.lacer n = lookup [] s.fabric.lacer n) ∧
         (t.cell g.val).store = cleared ∧
         (∀ h, h ≠ g.val → t.cell h = { s.cell h with marks := (t.cell h).marks, orders := (t.cell h).orders }) ∧
         t = { s with cells := t.cells, free := t.free,
                      fabric := { s.fabric with lacer := t.fabric.lacer, tag := s.fabric.tag + 1 } })) ∧
       (256 ≤ (lookup [] s.fabric.lacer l).length ∨ s.fabric.lost.contains q = true → Completes (.lace g w) s (fun t => OnlyCell g.val s t ∧
         Held s g.val (.retry w 7) 0x80 t))) ∧
     (∀ k, Passes 0x18 w → Names c (fld w 94 81) (fld w 80 73) k →
       ((lookup [] s.fabric.awl (quarterOf g.val)).length < 16 → Completes (.awl g w) s (fun t => Stepped s g.val 1 t ∧
         (t.cell g.val).nextPc = c.nextPc + 1 ∧
         lookup [] t.fabric.awl (quarterOf g.val) = lookup [] s.fabric.awl (quarterOf g.val) ++
           [{ cell := g.val, addr := a, block := d, sig := k, inc := fld w 80 73, sb := c.sb, begun := false, refused := false }] ∧
         (t.cell g.val).store = cleared ∧ (∀ h, h ≠ g.val → t.cell h = s.cell h) ∧
         t = { s with cells := t.cells, free := t.free, fabric := { s.fabric with awl := t.fabric.awl } })) ∧
       (16 ≤ (lookup [] s.fabric.awl (quarterOf g.val)).length → Completes (.awl g w) s (fun t => OnlyCell g.val s t ∧
         Held s g.val (.retry w 7) 0x80 t)))) ∧
  (∀ (g : CellNo) (w : BitVec 128) (s : State) (peer k : Nat), Ready s g.val → Passes 0x29 w →
     (s.cell g.val).sb.cellOf (fld w 111 106) = some peer → Names (s.cell g.val) (fld w 105 92) (fld w 91 84) k →
     let c := s.cell g.val
     (fld w 119 119 = 1 → Completes (.tpost g w) s (fun t => Stepped s g.val 1 t ∧ SameMemories c (t.cell g.val) ∧ OnlyCell g.val s t ∧
       (t.cell g.val).nextPc = c.nextPc + 1 ∧ (t.cell g.val).posts = c.posts ∧
       (t.cell g.val).bind = some { peer := peer, sig := k, inc := fld w 91 84, dst := fld w 61 40, lines := fld w 39 24,
                                    local_ := fld w 118 118 == 1 })) ∧
     (fld w 119 119 = 0 → places c < 4 → Completes (.tpost g w) s (fun t => Stepped s g.val 1 t ∧
       SameMemories c (t.cell g.val) ∧ OnlyCell g.val s t ∧ (t.cell g.val).nextPc = c.nextPc + 1 ∧ (t.cell g.val).bind = c.bind ∧
       ∃ p : Post, (t.cell g.val).posts = c.posts ++ [p] ∧ p.peer = peer ∧ p.sig = k ∧ p.inc = fld w 91 84 ∧ p.dst = fld w 61 40 ∧
         p.cover = (List.range (fld w 39 24 * 512)).map (fun i => (i, true)) ∧
         ∀ i, i < fld w 39 24 * 512 → readByte p.data i = storeByte c (fld w 83 62 + i))) ∧
     (fld w 119 119 = 0 → 4 ≤ places c → Completes (.tpost g w) s (fun t => OnlyCell g.val s t ∧
       Held s g.val (.retry w 3) 0x08 t)))

/-- R94, R96, R137: the oldest post of a cell lands in its peer's store, byte for byte, and then its counter update is applied; a
fenced peer refuses it and the sender's job comes into a replay, and with nothing on the path nothing happens. R95: a transfer whose descriptor is bad (3), leaves its
space (2), meets a fenced cell (6) or an active bank (1) moves no byte; its submitting cell gets the status and DONE, its job, where the cell is still in that run, a
LACE_ERROR for 2 and 3, and the transfer leaves its Lacer. R95: a transfer of one run without CODEC, from a map store or a cell
store to the store of another cell, whose source is readable, copies its bytes and completes OK. R149 to R151: the Awl checks a
command as it begins it; a refused one ends with STATUS 1 and writes nothing, and one that passes writes each output element at
its place. -/
def Obligations.Transfers : Prop :=
  (∀ (g : CellNo) (s : State) (p : Post) (rest : List Post),
     let c := s.cell g.val
     (c.posts = [] → exec (.tpostLanded g) s = .next s) ∧
     (c.posts = p :: rest → (s.cell p.peer).fence = true → Completes (.tpostLanded g) s (fun t =>
       t.cell g.val = { c with posts := rest, report := true, reportAt := s.now } ∧ (∀ h, h ≠ g.val → t.cell h = s.cell h) ∧
       t = { s with cells := t.cells, jobs := s.jobs.map (fun (j : Job) =>
         if j.id = c.sb.job ∧ j.runs = c.sb.run then { j with needReplay := true } else j) })) ∧
     (c.posts = p :: rest → (s.cell p.peer).fence = false → (∀ k ∈ p.cover, p.dst + k.1 < 0x400000) →
       ∃ u, exec (.tpostLanded g) s = .next (bumpSignal u g.val p.sig p.inc) ∧
         u = { s with cells := u.cells } ∧ (u.cell g.val).posts = rest ∧ (u.cell g.val).postsLanded = c.postsLanded + 1 ∧
         (∀ h, h ≠ g.val → h ≠ p.peer → u.cell h = s.cell h) ∧ (u.cell p.peer).vreg = (s.cell p.peer).vreg ∧
         ∀ a, (p.dst ≤ a → (a - p.dst) ∈ p.cover.map (·.1) → readByte (u.cell p.peer).store a = readByte p.data (a - p.dst)) ∧
           (a < p.dst ∨ (a - p.dst) ∉ p.cover.map (·.1) → readByte (u.cell p.peer).store a = readByte (s.cell p.peer).store a))) ∧
  (∀ (q : QuarterNo) (l : Fin 4) (g : CellNo) (s : State) (x : Transfer) (sp dp : Nat) (err : TransferErr),
     let n := q.val * 4 + l.val
     let c := s.cell g.val
     let ss := tfield x.desc 139 136
     let ds := tfield x.desc 191 188
     let bank := tfield x.desc 199 192 / 128
     let e : Nat := if descValid x.desc = false then 3
       else if (rangeOk ss (sideRows x.desc false) && rangeOk ds (sideRows x.desc true)) = false then 2
       else if (fencedPlace s ss sp (sideRows x.desc false) || fencedPlace s ds dp (sideRows x.desc true)) = true then 6
       else if ((ds = 3 ∧ bank = (s.cell dp).actI) ∨ (ds = 4 ∧ bank = (s.cell dp).actT)) ∧ (s.cell dp).st = .running then 1 else 0
     s.fabric.lost.contains q.val = false → (lookup [] s.fabric.lacer n).find? (fun y => y.by_ = .cell g) = some x → x.load = none →
     c.fence = false → err ≠ .fabric →
     placeOf' (.cell g) x.sb ss (tfield x.desc 147 140) = some sp → placeOf' (.cell g) x.sb ds (tfield x.desc 199 192) = some dp →
     e ≠ 0 → (∀ h, h < 64 → (s.cell h).startHeld = false) →
     Completes (.lacerTransferComplete q l ⟨.cell g, err⟩) s (fun t => SameOutside s t ∧
       StatusTold c (t.cell g.val) x.descAddr e ∧ (∀ h, h ≠ g.val → (t.cell h).store = (s.cell h).store) ∧
       (∀ h, (t.cell h).imem = (s.cell h).imem ∧ (t.cell h).tmem = (s.cell h).tmem) ∧
       lookup [] t.fabric.lacer n = (lookup [] s.fabric.lacer n).filter (fun y => y.tag != x.tag) ∧
       (e = 2 ∨ e = 3 → sameRun c x.sb = true → c.prog = none → (t.cell g.val).prog = some .laceError ∧ (t.cell g.val).report = true) ∧
       (e = 1 → (t.cell dp).fault = (s.cell dp).fault ||| 0x100) ∧
       (e = 6 ∨ tfield x.desc 481 474 = 0 → t.fabric.counter = s.fabric.counter))) ∧
  (∀ (q : QuarterNo) (l : Fin 4) (g : CellNo) (s : State) (x : Transfer) (sp dp : Nat),
     let n := q.val * 4 + l.val
     let d := x.desc
     let ss := tfield d 139 136
     let sa := tfield d 135 96
     let da := tfield d 187 148
     s.fabric.lost.contains q.val = false → (lookup [] s.fabric.lacer n).find? (fun y => y.by_ = .cell g) = some x → x.load = none →
     (s.cell g.val).fence = false → placeOf' (.cell g) x.sb ss (tfield d 147 140) = some sp → placeOf' (.cell g) x.sb 2 (tfield d 199 192) = some dp →
     ss = 1 ∨ ss = 2 → tfield d 191 188 = 2 → descValid d = true → codecOf d = 0 →
     tfield d 239 224 ≤ 1 → tfield d 255 240 ≤ 1 → tfield d 271 256 ≤ 1 →
     sa + count0 d ≤ spaceSize ss → da + count0 d ≤ 0x400000 → fencedPlace s ss sp [] = false → (s.cell dp).fence = false →
     Machine.badWords s ss .clean = [] → dp ≠ g.val →
     Completes (.lacerTransferComplete q l ⟨.cell g, .clean⟩) s (fun t => SameOutside s t ∧
       (∀ i, i < count0 d → readByte (t.cell dp).store (da + i) = spaceRead s ss sp (tfield d 147 140) (sa + i)) ∧
       (∀ a, a < da ∨ da + count0 d ≤ a → readByte (t.cell dp).store a = readByte (s.cell dp).store a) ∧
       StatusTold (s.cell g.val) (t.cell g.val) x.descAddr 0 ∧
       (∀ h, h ≠ g.val → h ≠ dp → (t.cell h).store = (s.cell h).store) ∧
       lookup [] t.fabric.lacer n = (lookup [] s.fabric.lacer n).filter (fun y => y.tag != x.tag))) ∧
  (∀ (q : QuarterNo) (s : State) (x : AwlCmd) (rest : List AwlCmd),
     (lookup [] s.fabric.awl q.val = [] → exec (.awlCommandBegin q) s = .next s ∧ exec (.awlCommandComplete ⟨q, .clean⟩) s = .next s) ∧
     (lookup [] s.fabric.awl q.val = x :: rest → x.begun = false →
       exec (.awlCommandComplete ⟨q, .clean⟩) s = .next s ∧
       Completes (.awlCommandBegin q) s (fun t => t = { s with fabric := { s.fabric with awl := t.fabric.awl } } ∧
         lookup [] t.fabric.awl q.val = { x with begun := true, refused := !awlOk q.val x.sb x.block } :: rest ∧
         ∀ r, r ≠ q.val → lookup [] t.fabric.awl r = lookup [] s.fabric.awl r)) ∧
     (lookup [] s.fabric.awl q.val = x :: rest → x.begun = true → x.refused = true →
       (s.cell x.cell).fence = false → Completes (.awlCommandComplete ⟨q, .clean⟩) s (fun t => lookup [] t.fabric.awl q.val = rest ∧ SameOutside s t ∧
         StatusTold (s.cell x.cell) (t.cell x.cell) x.addr 1 ∧ ∀ h, h ≠ x.cell → (t.cell h).store = (s.cell h).store)) ∧
     (lookup [] s.fabric.awl q.val = x :: rest → x.begun = true → x.refused = false → (s.cell x.cell).fence = false →
       let a := awlArgs x.block
       let es := elemBytes a.outFmt
       ∀ ip op, awlOk q.val x.sb x.block = true → awlPlace q.val x.sb a.inSpace a.inSel = some ip →
         awlPlace q.val x.sb a.outSpace a.outSel = some op → fencedPlace s a.inSpace ip [] = false → fencedPlace s a.outSpace op [] = false →
         Machine.badWords s 1 .clean = [] → Machine.badWords s 2 .clean = [] → a.cout * es ≤ a.outStride → (a.outSpace = 2 → op ≠ x.cell) →
         Completes (.awlCommandComplete ⟨q, .clean⟩) s (fun t => lookup [] t.fabric.awl q.val = rest ∧
           (∀ p ch i, p < a.pixels → ch < a.cout → i < es →
             spaceRead t a.outSpace op 0 (a.outAddr + p * a.outStride + ch * es + i) =
               (leBytes es (awlOut (storeByte (s.cell x.cell)) a ch
                 (awlAcc (spaceRead s a.inSpace ip 0) (storeByte (s.cell x.cell)) a p ch)).code).getD i 0) ∧
           StatusTold (s.cell x.cell) (t.cell x.cell) x.addr 0)))

/-- R57, R85, R100: a stitch inside an interval only advances it; at a boundary it does what the macro-operation row of the word
at the next index of the active bank does, and beyond index 1,023 the cell halts with PC_OVERRUN. R67, R68, R69: a feeder writes the next
entry of its eyelet; a stitch that takes from an empty eyelet stays requested, and one whose popped entry is wrong fails the cell.
R48: the partials of a split sum are added word by word. R58, R62, R77, R78: a freeze
for a cause that can hold the stitch and pacing complete no stitch of a running cell, a freeze is no pacing, a cause ends when its
participant is ready and nothing holds on to it, and every 10 ns of them count their time once
on each cause. R63, R70, R77, R81: a wrong block tag, an eyelet parity error where the
eyelet pops, an uncorrectable memory error and a hang are cell failures. R77, R81, spec/10 R270: a corrected error of a cell's memory counts in
its ECC_CE field and among the device's corrected errors. -/
def Obligations.StitchesTimeAndFailures : Prop :=
  ((∀ p ∈ macroRows, ∀ (g : CellNo) (s : State), Ready s g.val →
     opcode (imemWord (s.cell g.val) (s.cell g.val).nextPc) = p.1 →
     exec (.stitch g .done) s = exec (p.2 g (imemWord (s.cell g.val) (s.cell g.val).nextPc)) s) ∧
   (∀ (g : CellNo) (s : State), atBoundary (s.cell g.val) = true → (s.cell g.val).haltReq = false → 1023 < (s.cell g.val).nextPc →
     Completes (.stitch g .done) s (fun t => HaltedBy (t.cell g.val) (s.cell g.val).pc .pcOverrun ∧ OnlyCell g.val s t ∧
       SameMemories (s.cell g.val) (t.cell g.val))) ∧
   (∀ (g : CellNo) (s : State), (s.cell g.val).live = true → (s.cell g.val).wait = none → (s.cell g.val).mats = [] →
     (s.cell g.val).since < (s.cell g.val).next →
     Completes (.stitch g .done) s (fun t => (t.cell g.val).since = (s.cell g.val).since + 1 ∧
       (t.cell g.val).stitchCount = satAdd 64 (s.cell g.val).stitchCount 1 ∧ (t.cell g.val).pc = (s.cell g.val).pc ∧
       (t.cell g.val).next = (s.cell g.val).next ∧ (t.cell g.val).nextPc = (s.cell g.val).nextPc ∧
       (t.cell g.val).loops = (s.cell g.val).loops ∧ SameMemories (s.cell g.val) (t.cell g.val) ∧ OnlyCell g.val s t)) ∧
   (∀ (g : CellNo) (s : State), (s.cell g.val).live = true → (s.cell g.val).wait = none → (s.cell g.val).since < (s.cell g.val).next →
     let c := s.cell g.val
     (feedStalls c ≠ 0 → exec (.stitch g .done) s =
       .next (s.setCell g.val (setStalls { c with progressAt := s.now } (c.stalls ||| feedStalls c)))) ∧
     (∀ b e, feedStalls c = 0 → popBad c = some (b, e) →
       Completes (.stitch g .done) s (fun t => FailedWith c (t.cell g.val) b 0 e ∧ OnlyCell g.val s t))) ∧
   (∀ (g : CellNo) (s : State), (s.cell g.val).live = false → exec (.stitch g .done) s = .next s)) ∧
  (∀ (g : CellNo) (s : State), (s.cell g.val).live = true →
     let c := s.cell g.val
     (∀ (e : Fin 129) (m : MatOp) (x : EyeEntry) (rest : List EyeEntry), reducing c = some m → m.kind ≠ .dwc ∨ 64 ≤ e.val →
       lookup [] m.feed e.val = x :: rest → Completes (.stitch g (.feed e)) s (fun t => OnlyCell g.val s t ∧
         let d := t.cell g.val
         SameMemories c d ∧ d.since = c.since ∧ d.stitchCount = c.stitchCount ∧ d.wait = c.wait ∧ d.loops = c.loops ∧
         ((lookup [] c.eyes e.val).length < 16 → lookup [] d.eyes e.val = lookup [] c.eyes e.val ++ [x] ∧
           ∀ k, k ≠ e.val → lookup [] d.eyes k = lookup [] c.eyes k) ∧
         (16 ≤ (lookup [] c.eyes e.val).length → d.eyes = c.eyes ∧ d.mats = c.mats) ∧
         d.stalls = c.stalls &&& (feedStalls d ||| ~~~7))) ∧
     (∀ x : SplitSum, Completes (.stitch g (.combine x)) s (fun t => OnlyCell g.val s t ∧
       (t.cell g.val).store = storeBytes c.store x.dst.toNat
         ((List.range x.words.val).flatMap (fun i => leBytes 4 (splitAcc c x i).val.toNat)) ∧
       (t.cell g.val).since = c.since ∧ (t.cell g.val).mats = c.mats ∧ (t.cell g.val).vreg = c.vreg ∧
       (∀ p q, x.int = true → x.parts = [p, q] → ∀ i, ((splitAcc c x i).val.toInt : Int) =
         clamp 32 ((BitVec.ofNat 32 (rdLE (storeByte c) (p.toNat + 4 * i) 4)).toInt + (BitVec.ofNat 32 (rdLE (storeByte c) (q.toNat + 4 * i) 4)).toInt))))) ∧
  (∀ (g : CellNo) (s : State), (s.cell g.val).live = true →
     let c := s.cell g.val
     (∀ cause : Fin 8, Completes (.stitch g (.freeze cause)) s (fun t => OnlyCell g.val s t ∧
       let d := t.cell g.val
       (freezeOk c cause.val = false → d = c) ∧
       (freezeOk c cause.val = true → d = { c with stalls := d.stalls, stallEvents := d.stallEvents, progressAt := s.now, pacing := false } ∧
         d.stalls = c.stalls ||| (1 <<< cause.val) ∧
         lookup 0 d.stallEvents cause.val = (if c.stalls.getLsbD cause.val then lookup 0 c.stallEvents cause.val
           else satAdd 32 (lookup 0 c.stallEvents cause.val) 1) ∧
         ∀ i, i ≠ cause.val → lookup 0 d.stallEvents i = lookup 0 c.stallEvents i))) ∧
     (c.stalls = 0 → Completes (.stitch g .paced) s (fun t => OnlyCell g.val s t ∧
       t.cell g.val = { c with pacing := true, progressAt := s.now })) ∧
     (c.stalls ≠ 0 → Completes (.stitch g .paced) s (fun t => OnlyCell g.val s t ∧ t.cell g.val = c)) ∧
     (∀ cause : Fin 8, (c.stalls.getLsbD cause.val = true → (heldCauses s g.val).getLsbD cause.val = false →
         Completes (.stitch g (.ready cause)) s (fun t => OnlyCell g.val s t ∧
           t.cell g.val = { c with stalls := c.stalls &&& ~~~((1 : BitVec 8) <<< cause.val) })) ∧
       (c.stalls.getLsbD cause.val = false ∨ (heldCauses s g.val).getLsbD cause.val = true → exec (.stitch g (.ready cause)) s = .next s)) ∧
     -- what such a stitch takes of each 10 ns
     (∀ now, (cellTime now c).runTime = satAdd 48 c.runTime 4 ∧ (cellTime now c).since = c.since ∧
       (cellTime now c).stitchCount = c.stitchCount ∧
       (cellTime now c).paceTime = (if c.pacing then satAdd 48 c.paceTime 4 else c.paceTime) ∧
       (cellTime now c).frozenTime = (if c.stalls = 0 then c.frozenTime else satAdd 48 c.frozenTime 4) ∧
       ∀ i, i < 8 → lookup 0 (cellTime now c).stallTime i =
         (if c.stalls.getLsbD i then satAdd 48 (lookup 0 c.stallTime i) 4 else lookup 0 c.stallTime i))) ∧
  (∀ (g : CellNo) (s : State),
     ((s.cell g.val).live = true → ∀ e : Fin 129,
       (popsNow (s.cell g.val) e.val = true →
         Completes (.stitch g (.skew e)) s (fun t => FailedWith (s.cell g.val) (t.cell g.val) 6 0 e.val ∧ OnlyCell g.val s t) ∧
         Completes (.stitch g (.parity e)) s (fun t => FailedWith (s.cell g.val) (t.cell g.val) 5 0 e.val ∧ OnlyCell g.val s t)) ∧
       (popsNow (s.cell g.val) e.val = false →
         Completes (.stitch g (.skew e)) s (fun t => t.cell g.val = s.cell g.val ∧ OnlyCell g.val s t) ∧
         Completes (.stitch g (.parity e)) s (fun t => t.cell g.val = s.cell g.val ∧ OnlyCell g.val s t))) ∧
     (∀ (m : Fin 5) (a : BitVec 22), Completes (.stitch g (.uncorrectable m a)) s (fun t =>
       FailedWith (s.cell g.val) (t.cell g.val) m.val a.toNat 0 ∧ (∀ h, h ≠ g.val → t.cell h = s.cell h) ∧
       t = { s with cells := t.cells, resil := { s.resil with count := bump 32 s.resil.count 6 1 } })) ∧
     ((s.cell g.val).live = true → (s.cell g.val).stalls = 0 →
       (s.cell g.val).hangHeld.getD (s.cell g.val).hangLimit * 1000 ≤ s.now - (s.cell g.val).progressAt →
       Completes (.stitchHang g) s (fun t => FailedWith (s.cell g.val) (t.cell g.val) 7 0 0 ∧ OnlyCell g.val s t)) ∧
     ((s.cell g.val).live = false ∨ (s.cell g.val).stalls ≠ 0 ∨
       s.now - (s.cell g.val).progressAt < (s.cell g.val).hangHeld.getD (s.cell g.val).hangLimit * 1000 →
       Completes (.stitchHang g) s (fun t => t.cell g.val = s.cell g.val ∧ OnlyCell g.val s t))) ∧
  (∀ (g : CellNo) (s : State) (m : Fin 3), Completes (.stitch g (.corrected m)) s (fun t =>
     t.cell g.val = (match m.val with
       | 0 => { s.cell g.val with corrected := satAdd 32 (s.cell g.val).corrected 1, ceStore := satAdd 16 (s.cell g.val).ceStore 1 }
       | 1 => { s.cell g.val with corrected := satAdd 32 (s.cell g.val).corrected 1, ceBbuf := satAdd 16 (s.cell g.val).ceBbuf 1 }
       | _ => { s.cell g.val with corrected := satAdd 32 (s.cell g.val).corrected 1, ceOther := satAdd 16 (s.cell g.val).ceOther 1 }) ∧
     (∀ h, h ≠ g.val → t.cell h = s.cell h) ∧
     t = { s with cells := t.cells, resil := { s.resil with count := bump 32 s.resil.count 5 1 } }))

/-- R81, R100, R104, R127: START begins an IDLE or HALTED cell at macro-operation 0 of the selected banks; it is held while a
transfer writes a bank it selects, and sets BAD_CMD on a cell that runs, has failed or is fenced. R81: HALT_REQ acts at once on a
cell frozen on SIGNAL_WAIT or LACE_WAIT, waits for the next boundary on another running cell, and does nothing elsewhere; the cell
obeys it at the boundary. A claim goes its own way when the cell has stopped (spec/08 R221). R81, R98: FENCE drops what leaves the
cell, resets its barriers and halts the members that wait there; cleared, the cell is FAULTED with a failure bit and IDLE without; the
figures that rest on the number of unfenced cells follow at once (spec/09 R236);
CNT_CLR clears every time and stall counter but STITCH_COUNT. R7, R8, R81: the writable fields of a cell's page take a whole-word
write; write-1-to-clear bits of CELL_FAULT clear, HANG_LIMIT is at least 2, SENT_CTRL keeps three bits; a write of any other
register of the page, read-only or reserved, changes nothing. R7, R9, R81: the read of an RC field returns it and clears it, and
counts an event of the same window after the clear; a SENT_LOG read of a low word latches the high word, which a read of the high
word then gives. -/
def Obligations.CellControlPage : Prop :=
  (∀ (g : CellNo) (s : State),
     let c := s.cell g.val
     (c.fence = false → c.st = .idle ∨ c.st = .halted → bankWrites s g.val = [] → Completes (.start g) s (fun t => OnlyCell g.val s t ∧
       let d := t.cell g.val
       d.st = .running ∧ d.pc = 0 ∧ d.nextPc = 0 ∧ d.since = 0 ∧ d.next = 0 ∧ d.actI = c.ibank ∧ d.actT = c.tbank ∧ d.loops = [] ∧
       d.mats = [] ∧ d.threads = [] ∧ d.wait = none ∧ d.bind = none ∧ d.chainOpen = 0 ∧ d.sentOn = c.sentCtrl ∧ d.sentLog = [] ∧
       d.violations = 0 ∧ d.sentLost = 0 ∧ d.tileStatus = c.tileStatus &&& 0xFFFFFFFFFFFF ∧ d.haltReq = false ∧ d.stitchCount = c.stitchCount ∧ d.store = c.store ∧
       d.bbuf = c.bbuf ∧ d.imem = c.imem ∧ d.tmem = c.tmem ∧ d.hist = c.hist ∧ d.fault = c.fault)) ∧
     (c.fence = false → c.st = .idle ∨ c.st = .halted → bankWrites s g.val ≠ [] → Completes (.start g) s (fun t => OnlyCell g.val s t ∧
       t.cell g.val = { c with startHeld := true, startFor := bankWrites s g.val })) ∧
     (c.fence = true ∨ c.st = .running ∨ c.st = .faulted → Completes (.start g) s (fun t => OnlyCell g.val s t ∧
       t.cell g.val = { c with fault := c.fault ||| 0x200 }))) ∧
  (∀ (g : CellNo) (s : State),
     let c := s.cell g.val
     (c.fence = true ∨ c.st ≠ .running → exec (.haltReq g) s = .next s) ∧
     (c.fence = false → c.st = .running → c.stalls.getLsbD 5 = true ∨ c.stalls.getLsbD 7 = true → Completes (.haltReq g) s (fun t =>
       OnlyCell g.val s t ∧ (t.cell g.val).st = .halted ∧ (t.cell g.val).wait = none ∧ (t.cell g.val).loops = [] ∧
       (t.cell g.val).prog = c.prog ∧ SameMemories c (t.cell g.val))) ∧
     (c.fence = false → c.st = .running → c.stalls.getLsbD 5 = false → c.stalls.getLsbD 7 = false → Completes (.haltReq g) s (fun t =>
       OnlyCell g.val s t ∧ t.cell g.val = { c with haltReq := true })) ∧
     (c.haltReq = true → atBoundary c = true → c.claim = none → Completes (.haltObeyed g) s (fun t =>
       OnlyCell g.val s t ∧ (t.cell g.val).st = .halted ∧ (t.cell g.val).haltReq = false ∧ (t.cell g.val).loops = [] ∧
       SameMemories c (t.cell g.val)))) ∧
  (∀ (g : CellNo) (s : State),
     let c := s.cell g.val
     (c.fence = true → exec (.fence g) s = .next s) ∧
     (c.fence = false → ∃ t, exec (.fence g) s = .next (if unfenced s g.val then cellsChanged t else t) ∧
       (t.cell g.val).fence = true ∧ (t.cell g.val).posts = [] ∧ (t.cell g.val).held = [] ∧ (t.cell g.val).fault = c.fault ∧
       SameMemories c (t.cell g.val) ∧
       (∀ n, n < 64 → g.val ∈ (lookup {} s.fabric.barrier n).members →
         lookup {} t.fabric.barrier n = { lookup {} s.fabric.barrier n with arrived := [] }) ∧
       (∀ n, g.val ∉ (lookup {} s.fabric.barrier n).members → lookup {} t.fabric.barrier n = lookup {} s.fabric.barrier n) ∧
       (∀ h, h ≠ g.val → (∀ n, (s.cell h).wait ≠ some (.barrier n)) → t.cell h = s.cell h) ∧
       (∀ q, ∀ u ∈ lookup [] t.fabric.updates q, u.cell ≠ g.val) ∧
       t = { s with cells := t.cells, fabric := { s.fabric with barrier := t.fabric.barrier, updates := t.fabric.updates } }) ∧
     (c.fence = true → ∃ t, exec (.fenceClear g) s = .next (if unfenced t g.val then cellsChanged t else t) ∧
       OnlyCell g.val s t ∧ (t.cell g.val).fence = false ∧
       (t.cell g.val).st = (if failuresOf c ≠ 0 then .faulted else .idle) ∧ (t.cell g.val).fault = c.fault ∧
       SameMemories c (t.cell g.val)) ∧
     (c.fence = false → Completes (.fenceClear g) s (fun t => OnlyCell g.val s t ∧ t.cell g.val = c)) ∧
     Completes (.cntClr g) s (fun t => OnlyCell g.val s t ∧
       t.cell g.val = { c with frozenTime := 0, paceTime := 0, runTime := 0, stallTime := [], stallEvents := [], handedTime := [],
                               handedEvents := [] })) ∧
  (∀ (g : CellNo) (v : Word) (s : State),
     let c := s.cell g.val
     Completes (.registerWrite (.cell g 0x018 v)) s (fun t => OnlyCell g.val s t ∧
       (t.cell g.val).fault = c.fault &&& ~~~(v.setWidth 10) ∧
       (t.cell g.val).faultInfo = (if (c.fault &&& ~~~(v.setWidth 10)).toNat % 256 = 0 then 0 else c.faultInfo) ∧
       SameMemories c (t.cell g.val) ∧ (t.cell g.val).st = c.st) ∧
     Completes (.registerWrite (.cell g 0x028 v)) s (fun t => OnlyCell g.val s t ∧
       t.cell g.val = { c with hangLimit := max 2 (v.toNat % 1024), hangHeld := none }) ∧
     Completes (.registerWrite (.cell g 0x100 v)) s (fun t => OnlyCell g.val s t ∧ t.cell g.val = { c with sentCtrl := v.setWidth 3 }) ∧
     (v.toNat < 4 → c.fence = false → Completes (.registerWrite (.cell g 0x008 v)) s (fun t => OnlyCell g.val s t ∧
       t.cell g.val = { c with tbank := v.toNat / 2, ibank := v.toNat % 2 })) ∧
     (∀ off : BitVec 12, off ≠ 0x008 → off ≠ 0x018 → off ≠ 0x028 → off ≠ 0x100 →
       exec (.registerWrite (.cell g off v)) s = .next s)) ∧
  ((∀ (g : CellNo) (b o n : Nat) (s : State), Completes (.readClear (.eccCe g b o) n) s (fun t =>
     (t.cell g.val).ceStore = min n 65535 ∧ (t.cell g.val).ceBbuf = min b 65535 ∧ (t.cell g.val).ceOther = min o 65535 ∧
     t.dev.regOut = cellReg s g.val 0x030 ∧ (∀ h, h ≠ g.val → t.cell h = s.cell h) ∧
     t = { s with cells := t.cells, dev := { s.dev with regOut := t.dev.regOut } })) ∧
   (∀ (k : LasterNo) (n : Nat) (s : State), Completes (.readClear (.lateInfo k) n) s (fun t =>
     lookup 0 t.causes.lateCount k.val = min n (2 ^ 32 - 1) ∧ (∀ j, j ≠ k.val → lookup 0 t.causes.lateCount j = lookup 0 s.causes.lateCount j) ∧
     t.dev.regOut = BitVec.ofNat 64 (lookup 0 s.causes.lateCount k.val * 2 ^ 32 + lookup 0 s.causes.lateLast k.val) ∧
     t = { s with causes := { s.causes with lateCount := t.causes.lateCount }, dev := { s.dev with regOut := t.dev.regOut } })) ∧
   (∀ (k : LasterNo) (n : Nat) (s : State), Completes (.readClear (.noticeLost k) n) s (fun t =>
     lookup 0 t.causes.noticeLost k.val = min n (2 ^ 32 - 1) ∧ t.dev.regOut = BitVec.ofNat 64 (lookup 0 s.causes.noticeLost k.val) ∧
     t = { s with causes := { s.causes with noticeLost := t.causes.noticeLost }, dev := { s.dev with regOut := t.dev.regOut } })) ∧
   (∀ (n : Nat) (s : State), exec (.readClear .highestWindow n) s = .next { s with
     power := { s.power with highest := n }, dev := { s.dev with regOut := BitVec.ofNat 64 s.power.highest } }) ∧
   (∀ (g : CellNo) (e : Fin 32) (s : State), ∃ t u,
     exec (.sentLogRead g e false) s = .next t ∧ t.dev.regOut = BitVec.ofNat 64 (sentEntry (s.cell g.val) e.val) ∧
     OnlyCell g.val s { t with dev := s.dev } ∧
     exec (.sentLogRead g e true) t = .next u ∧ u.dev.regOut = BitVec.ofNat 64 (sentEntry (s.cell g.val) e.val / 2 ^ 64) ∧
     OnlyCell g.val s { u with dev := s.dev }))

/-! ### Plamor-V -/

/-- R105, R108, R109: an instruction on FP32 lanes writes vd where its predicate lets it, and nothing else of the cell but counts; the
interpolated ones take the tables of the version that the running image carries (spec/02 R49). -/
def Obligations.FloatLanesInATileProgram : Prop :=
  ∀ (g : CellNo) (w : Word) (s : State) (x : VCtx) (rest : List VCtx), ∀ p ∈ fpRows s.boot.interp, vOp w = p.1 → vLane w = 0 → InTile s g.val x rest w →
    Completes (p.2.1 g .tile w) s (fun t => OnlyCell g.val s t ∧ OnlyVreg (s.cell g.val) (t.cell g.val) ∧ Placed x rest (t.cell g.val) ∧
      WritesReg (s.cell g.val) (t.cell g.val) w (fun i =>
        p.2.2 w (vreg (s.cell g.val) (vA w) i) (vreg (s.cell g.val) (vB w) i) (vreg (s.cell g.val) (vC w) i)))

/-- R105: INT32 lanes, and the four INT8 parts of a lane, are two's complement and saturate. -/
def Obligations.IntegerLanesSaturate : Prop :=
  ∀ p ∈ intRows, ∀ (g : CellNo) (w : Word) (s : State) (x : VCtx) (rest : List VCtx), vOp w = p.1 → InTile s g.val x rest w →
    let c := s.cell g.val
    (vLane w = 1 → Completes (p.2.1 g .tile w) s (fun t => OnlyCell g.val s t ∧ OnlyVreg c (t.cell g.val) ∧
      (∀ i, i < 128 → acts c w i = true → (vreg (t.cell g.val) (vD w) i).toInt =
        clamp 32 (p.2.2 (vreg c (vA w) i).toInt (vreg c (vB w) i).toInt (vreg c (vC w) i).toInt)) ∧
      (∀ i, i < 128 → acts c w i = false → vreg (t.cell g.val) (vD w) i = vreg c (vD w) i) ∧
      ∀ r, r ≠ vD w → lookup [] (t.cell g.val).vreg r = lookup [] c.vreg r)) ∧
    (vLane w = 2 → Completes (p.2.1 g .tile w) s (fun t => OnlyCell g.val s t ∧ OnlyVreg c (t.cell g.val) ∧
      (∀ i k, i < 128 → k < 4 → acts c w i = true → sub8 (vreg (t.cell g.val) (vD w) i) k =
        clamp 8 (p.2.2 (sub8 (vreg c (vA w) i) k) (sub8 (vreg c (vB w) i) k) (sub8 (vreg c (vC w) i) k))) ∧
      (∀ i, i < 128 → acts c w i = false → vreg (t.cell g.val) (vD w) i = vreg c (vD w) i) ∧
      ∀ r, r ≠ vD w → lookup [] (t.cell g.val).vreg r = lookup [] c.vreg r))

/-- R118, R119: the same instructions in a hardware thread act on the thread's registers of 32 lanes. -/
def Obligations.FloatLanesInAThread : Prop :=
  ∀ (g : CellNo) (k : ThreadNo) (w : Word) (s : State), ∀ p ∈ fpRows s.boot.interp, vOp w = p.1 → vLane w = 0 → InThread s g.val k.val w →
    let th := lookup {} (s.cell g.val).threads k.val
    Completes (p.2.1 g (.thread k) w) s (fun t => OnlyCell g.val s t ∧
      (∀ j, j ≠ k.val → lookup {} (t.cell g.val).threads j = lookup {} (s.cell g.val).threads j) ∧
      (t.cell g.val).vreg = (s.cell g.val).vreg ∧ (t.cell g.val).pred = (s.cell g.val).pred ∧
      (t.cell g.val).store = (s.cell g.val).store ∧ (t.cell g.val).since = (s.cell g.val).since ∧
      let u := lookup {} (t.cell g.val).threads k.val
      u.pc = th.pc + 1 ∧ u.status = 1 ∧ u.preds = th.preds ∧ u.sig = th.sig ∧ u.inc = th.inc ∧
      (∀ i, i < 32 → treg u (vD w) i = if tacts th w i then p.2.2 w (treg th (vA w) i) (treg th (vB w) i) (treg th (vC w) i)
        else treg th (vD w) i) ∧
      ∀ r, r ≠ vD w → lookup [] u.regs r = lookup [] th.regs r)

/-- R32, R35, R109: VCVT narrows each lane to its target, keeping INT8, INT4 and INT32 codes sign-extended, and an MX block of lanes
against its shared exponent; the bits the spec does not give (log entry 17) are whatever the free values are. R105, R109: VCMP writes one predicate by its condition and VSEL picks by
one; predicate 0 stays all ones. R108, R118, R136: VNOP does nothing; VEND ends the tile program, posting the tile of a posting
macro-operation once it has a place of the path, and ends a thread, whose counter gets its increment. R110: an instruction that is invalid where it executes halts
the cell in tile mode, and ends its thread in thread mode. -/
def Obligations.ConversionsComparesAndEnds : Prop :=
  (∀ (g : CellNo) (w : Word) (s : State) (x : VCtx) (rest : List VCtx), vOp w = 0x38 → InTile s g.val x rest w →
     Completes (.vcvt g .tile w) s (fun t => OnlyCell g.val s t ∧ OnlyVreg (s.cell g.val) (t.cell g.val) ∧ Placed x rest (t.cell g.val) ∧
       (∀ r, r ≠ vD w → lookup [] (t.cell g.val).vreg r = lookup [] (s.cell g.val).vreg r) ∧
       ∀ i, i < 128 → acts (s.cell g.val) w i = true →
         let a := vreg (s.cell g.val) (vA w) i
         let d := vreg (t.cell g.val) (vD w) i
         (vImm w = 0x0D → d = a) ∧
         (vImm w = 0x00 → d = BitVec.ofInt 32 (narrowInt (-128) 127 0 (f32 a)).1) ∧
         (vImm w = 0x01 → d = BitVec.ofInt 32 (narrowInt (-8) 7 0 (f32 a)).1) ∧
         (vImm w = 0x0E → d = BitVec.ofInt 32 (narrowInt (-2147483648) 2147483647 0 (f32 a)).1) ∧
         (vImm w = 0x0B ∨ vImm w = 0x0C ∨ vImm w = 0x02 ∨ vImm w = 0x03 →
           d.toNat % 2 ^ formatBits (vImm w) = (narrowElem (vImm w) (f32 a)).code % 2 ^ formatBits (vImm w)) ∧
         (isMx (vImm w) = true →
           let n := if Config.vcvtWide then 64 else 32
           let x := (mxQuant (vImm w) false ((List.range n).map (fun j =>
             if acts (s.cell g.val) w (i / n * n + j) then f32 (vreg (s.cell g.val) (vA w) (i / n * n + j)) else .fin false 0 1))).1
           x ≠ 0xFF → d.toNat % 2 ^ formatBits (vImm w) =
             (narrowElem (vImm w) ((f32 a).mul (dyadic false 1 (127 - (x : Int))))).code % 2 ^ formatBits (vImm w)))) ∧
  (∀ (g : CellNo) (w : Word) (s : State) (x : VCtx) (rest : List VCtx), InTile s g.val x rest w →
     let c := s.cell g.val
     let p := vImm w % 8
     (vOp w = 0x30 → Completes (.vcmp g .tile w) s (fun t => OnlyCell g.val s t ∧ Placed x rest (t.cell g.val) ∧
       (t.cell g.val).vreg = c.vreg ∧ (t.cell g.val).store = c.store ∧ (t.cell g.val).drainBuf = c.drainBuf ∧
       (∀ q, q ≠ p ∨ q = 0 → ∀ i, vpred (t.cell g.val) q i = vpred c q i) ∧
       (p ≠ 0 → ∀ i, i < 128 → acts c w i = false → vpred (t.cell g.val) p i = vpred c p i) ∧
       (p ≠ 0 → vLane w = 0 → ∀ i, i < 128 → acts c w i = true → vpred (t.cell g.val) p i =
         condHolds (vImm w / 8 % 8) ((f32 (vreg c (vA w) i)).isNan || (f32 (vreg c (vB w) i)).isNan)
           ((f32 (vreg c (vA w) i)).cmp (f32 (vreg c (vB w) i)))) ∧
       (p ≠ 0 → vLane w = 1 → ∀ i, i < 128 → acts c w i = true → vpred (t.cell g.val) p i =
         condHolds (vImm w / 8 % 8) false (if (vreg c (vA w) i).toInt < (vreg c (vB w) i).toInt then -1 else if vreg c (vA w) i = vreg c (vB w) i then 0 else 1)))) ∧
     (vOp w = 0x31 → Completes (.vsel g .tile w) s (fun t => OnlyCell g.val s t ∧ Placed x rest (t.cell g.val) ∧
       OnlyVreg c (t.cell g.val) ∧
       WritesReg c (t.cell g.val) w (fun i => if vpred c p i then vreg c (vA w) i else vreg c (vB w) i)))) ∧
  (∀ (g : CellNo) (w : Word) (s : State),
     let c := s.cell g.val
     (∀ x rest, vOp w = 0x00 → InTile s g.val x rest w → Completes (.vnop g .tile w) s (fun t => OnlyCell g.val s t ∧
       t.cell g.val = { c with vctx := { x with pos := x.pos + 1 } :: rest })) ∧
     (∀ k : ThreadNo, vOp w = 0x00 → InThread s g.val k.val w → Completes (.vnop g (.thread k) w) s (fun t => OnlyCell g.val s t ∧
       OnlyThread c (t.cell g.val) k.val ∧
       lookup {} (t.cell g.val).threads k.val = { lookup {} c.threads k.val with pc := (lookup {} c.threads k.val).pc + 1 })) ∧
     (∀ x rest, vOp w = 0x01 → InTile s g.val x rest w → x.kind ≠ 0 ∨ x.post = none → Completes (.vend g .tile w) s (fun t =>
       OnlyCell g.val s t ∧ t.cell g.val = { c with vctx := rest })) ∧
     (∀ x rest b, vOp w = 0x01 → InTile s g.val x rest w → x.kind = 0 → x.post = some b → x.place = false →
       4 ≤ places { c with vctx := rest } → Completes (.vend g .tile w) s (fun t => OnlyCell g.val s t ∧
       t.cell g.val = setStalls c (c.stalls ||| 0x08))) ∧
     (∀ x rest b, vOp w = 0x01 → InTile s g.val x rest w → x.kind = 0 → x.post = some b →
       x.place = true ∨ places { c with vctx := rest } < 4 → Completes (.vend g .tile w) s (fun t =>
       OnlyCell g.val s t ∧ t.cell g.val = { c with
         vctx := rest, postsSent := c.postsSent + 1
         posts := c.posts ++ [{ peer := b.peer, sig := b.sig, inc := b.inc, dst := b.dst + x.tile * b.lines * 512, data := x.gathered,
                                cover := x.cover }] })) ∧
     (∀ k : ThreadNo, vOp w = 0x01 → InThread s g.val k.val w →
       let th := lookup {} c.threads k.val
       ∃ u, exec (.vend g (.thread k) w) s = .next (bumpSignal u g.val th.sig th.inc) ∧
         OnlyCell g.val s u ∧ OnlyThread c (u.cell g.val) k.val ∧
         lookup {} (u.cell g.val).threads k.val = { th with pc := th.pc + 1, status := 0 })) ∧
  ((∀ p ∈ ((fpRows 0).map (fun r => (r.1, r.2.1)) ++ [(0x00, .vnop), (0x01, .vend), (0x30, .vcmp), (0x31, .vsel), (0x38, .vcvt), (0x40, .vamax),
       (0x41, .vscale), (0x50, .vldd), (0x51, .vlds), (0x52, .vstd), (0x53, .vld), (0x54, .vst), (0x55, .vldc), (0x56, .vsts),
       (0x58, .vgath), (0x59, .vscat), (0x5A, .vscadd), (0x60, .vhget), (0x61, .vhput), (0x68, .vrsrst), (0x69, .vrnorm)] :
       List (Nat × (CellNo → VWhere → Word → Instr))), ∀ (g : CellNo) (w : Word) (s : State), vOp w = p.1 → (s.cell g.val).live = true →
     (∀ x rest, (s.cell g.val).vctx = x :: rest → vOk (placeOf x) w = false → Completes (p.2 g .tile w) s (fun t =>
       OnlyCell g.val s t ∧ HaltedBy (t.cell g.val) (s.cell g.val).pc .illegalOp ∧ SameMemories (s.cell g.val) (t.cell g.val))) ∧
     (∀ k : ThreadNo, (lookup {} (s.cell g.val).threads k.val).status = 1 → vOk 8 w = false →
       Completes (p.2 g (.thread k) w) s (fun t => OnlyCell g.val s t ∧ (lookup {} (t.cell g.val).threads k.val).status = 0 ∧
         (∀ j, j ≠ k.val → lookup {} (t.cell g.val).threads j = lookup {} (s.cell g.val).threads j) ∧
         ((s.cell g.val).prog = none → (t.cell g.val).prog = some .illegalOp ∧ (t.cell g.val).report = true) ∧
         SameMemories (s.cell g.val) (t.cell g.val)))))

/-- R109, R113, R117: VLDD reads the next drain slice, VLDS a slice of the source, counting its invalid T5B bytes (spec/02 R43), VLD a line and VLDC a word for each column.
R109: VST stores the lanes that act at their words of the line, and leaves every other byte of the store as it was. R121, R136:
VSTD narrows and stores a slice of the destination tile; a posted tile that finds no place on the path freezes the cell on
DRAIN_FULL, and one that has a place keeps it. R122, R108: VSTS stores the FP16 group scale and a zero point 0 for every row of the tile whose lane acts
(which lane stands for a row is the model's choice, log entry 99). R122, R123, R131, R134: group
scales, the history entries and the row statistics. -/
def Obligations.TileMemoryAccess : Prop :=
  (∀ (g : CellNo) (w : Word) (s : State) (x : VCtx) (rest : List VCtx), InTile s g.val x rest w →
     let c := s.cell g.val
     (vOp w = 0x50 → x.vldd < 32 → 2 * x.vldd + 2 ≤ x.pos → Completes (.vldd g .tile w) s (fun t => OnlyCell g.val s t ∧
       OnlyVreg c (t.cell g.val) ∧ (t.cell g.val).vctx = { x with pos := x.pos + 1, vldd := x.vldd + 1 } :: rest ∧
       WritesReg c (t.cell g.val) w (drainLane s.free c (x.tile % 2 * 32 + x.vldd)))) ∧
     (vOp w = 0x50 → 32 ≤ x.vldd ∨ x.pos < 2 * x.vldd + 2 → Completes (.vldd g .tile w) s (fun t => OnlyCell g.val s t ∧
       HaltedBy (t.cell g.val) c.pc .illegalOp ∧ SameMemories c (t.cell g.val))) ∧
     (vOp w = 0x51 → Completes (.vlds g .tile w) s (fun t => OnlyCell g.val s t ∧ OnlyVreg c (t.cell g.val) ∧
       WritesReg c (t.cell g.val) w (sourceLane c (srcTile x) (vImm w)) ∧
       (t.cell g.val).counts.t5b = satAdd 32 c.counts.t5b (sliceBad c (srcTile x) (vImm w)))) ∧
     (vOp w = 0x53 → Completes (.vld g .tile w) s (fun t => OnlyCell g.val s t ∧ OnlyVreg c (t.cell g.val) ∧
       WritesReg c (t.cell g.val) w (fun i => BitVec.ofNat 32 (rdLE (storeByte c) (vImm w * 512 + 4 * i) 4)))) ∧
     (vOp w = 0x55 → Completes (.vldc g .tile w) s (fun t => OnlyCell g.val s t ∧ OnlyVreg c (t.cell g.val) ∧
       WritesReg c (t.cell g.val) w (fun i =>
         BitVec.ofNat 32 (rdLE (storeByte c) (vImm w * 512 + 256 * x.colTile + 4 * (i % 64)) 4))))) ∧
  (∀ (g : CellNo) (w : Word) (s : State) (x : VCtx) (rest : List VCtx), vOp w = 0x54 → InTile s g.val x rest w →
     let c := s.cell g.val
     Completes (.vst g .tile w) s (fun t => OnlyCell g.val s t ∧ SameVreg c (t.cell g.val) ∧ Placed x rest (t.cell g.val) ∧
       (∀ i b, i < 128 → b < 4 → acts c w i = true →
         storeByte (t.cell g.val) (vImm w * 512 + 4 * i + b) = (vreg c (vA w) i).extractLsb' (8 * b) 8) ∧
       (∀ i b, i < 128 → b < 4 → acts c w i = false →
         storeByte (t.cell g.val) (vImm w * 512 + 4 * i + b) = storeByte c (vImm w * 512 + 4 * i + b)) ∧
       ∀ a, a < 0x400000 → a / 512 ≠ vImm w → storeByte (t.cell g.val) a = storeByte c a)) ∧
  (∀ (g : CellNo) (w : Word) (s : State) (x : VCtx) (rest : List VCtx), InTile s g.val x rest w →
     let c := s.cell g.val
     let lanes := fun (h : Nat) => (List.range 64).map (fun i =>
       if acts c w (64 * h + i) && decide (x.rowTile * 64 + 2 * vImm w + h < x.rowsTotal ∧ x.colTile * 64 + i < x.colsTotal)
         then some (vreg c (vA w) (64 * h + i)) else none)
     let half := isMx x.dst.format = true ∧ 64 < groupSize x.dst
     (vOp w = 0x52 → x.post = none → Completes (.vstd g .tile w) s (fun t => OnlyCell g.val s t ∧ SameVreg c (t.cell g.val) ∧
       Placed x rest (t.cell g.val) ∧ (t.cell g.val).posts = c.posts ∧
       (¬ half → (t.cell g.val).store = [0, 1].foldl (fun m h =>
         putLocal m x.dst (x.rowTile * 64 + 2 * vImm w + h) (x.colTile * 64)
           (narrowSeg .code x.dst (fun _ => (.nan, 0)) (lanes h))) c.store) ∧
       (half → (t.cell g.val).store = ([0, 1].foldl (fun d h =>
         storeHalf d (x.latest c) false x.dst (x.rowTile * 64 + 2 * vImm w + h) (x.colTile * 64) (lanes h)) c).store))) ∧
     (vOp w = 0x52 → x.post ≠ none → x.place = false → 4 ≤ places c → Completes (.vstd g .tile w) s (fun t =>
       OnlyCell g.val s t ∧ t.cell g.val = setStalls c (c.stalls ||| 0x08))) ∧
     (∀ b, vOp w = 0x52 → x.post = some b → x.place = true ∨ places c < 4 → Completes (.vstd g .tile w) s (fun t =>
       OnlyCell g.val s t ∧ SameVreg c (t.cell g.val) ∧ (t.cell g.val).posts = c.posts ∧
       (b.local_ = false → (t.cell g.val).store = c.store) ∧ ∃ y, (t.cell g.val).vctx = y :: rest ∧ y.post = x.post ∧ y.pos = x.pos + 1 ∧ y.place = true)) ∧
     (vOp w = 0x56 → x.post = none → Completes (.vsts g .tile w) s (fun t => OnlyCell g.val s t ∧ SameVreg c (t.cell g.val) ∧
       Placed x rest (t.cell g.val) ∧ (t.cell g.val).posts = c.posts ∧
       (t.cell g.val).store = ((List.range (min 64 (x.rowsTotal - x.rowTile * 64))).filter (fun r => acts c w r)).foldl (fun m r =>
         let e := (x.rowTile * 64 + r) * ceilDiv x.dst.k 64 + x.colTile
         storeBytes (storeBytes m (x.dst.scAddr + 2 * e) (leBytes 2 (narrowF fp16 (f32 (vreg c (vA w) 0))).code))
           (x.dst.zpAddr + e) [0]) c.store))) ∧
  (∀ (g : CellNo) (w : Word) (s : State) (x : VCtx) (rest : List VCtx), InTile s g.val x rest w →
     let c := s.cell g.val
     (vOp w = 0x40 → Completes (.vamax g .tile w) s (fun t => OnlyCell g.val s t ∧ OnlyVreg c (t.cell g.val) ∧
       WritesReg c (t.cell g.val) w (fun _ => amaxLanes (vreg c (vD w) 0) ((List.range 128).map (vreg c (vA w)))))) ∧
     (vOp w = 0x41 → Completes (.vscale g .tile w) s (fun t => OnlyCell g.val s t ∧ OnlyVreg c (t.cell g.val) ∧
       WritesReg c (t.cell g.val) w (fun _ =>
         toF32 (decodeF fp16 (vscale (f32 (vreg c (vA w) 0)) (if vImm w % 32 = 0 then 127 else 7)))))) ∧
     (vOp w = 0x60 → Completes (.vhget g .tile w) s (fun t => OnlyCell g.val s t ∧ OnlyVreg c (t.cell g.val) ∧
       WritesReg c (t.cell g.val) w (fun _ => if (lookup (0, true) c.hist (vImm w)).2 then lookup 0 c.seed (vImm w)
         else (lookup (0, true) c.hist (vImm w)).1) ∧
       (t.cell g.val).counts.cold = (c.counts.cold || (lookup (0, true) c.hist (vImm w)).2))) ∧
     (vOp w = 0x61 → Completes (.vhput g .tile w) s (fun t => OnlyCell g.val s t ∧ SameVreg c (t.cell g.val) ∧
       (t.cell g.val).store = c.store ∧ lookup (0, true) (t.cell g.val).hist (vImm w) = (vreg c (vA w) 0, false) ∧
       ∀ h, h ≠ vImm w → lookup (0, true) (t.cell g.val).hist h = lookup (0, true) c.hist h)) ∧
     (vOp w = 0x68 → Completes (.vrsrst g .tile w) s (fun t => OnlyCell g.val s t ∧
       t.cell g.val = { c with vctx := { x with pos := x.pos + 1 } :: rest, rmax := [], rsum := [], rscl := [] })) ∧
     (vOp w = 0x69 → Completes (.vrnorm g .tile w) s (fun t => OnlyCell g.val s t ∧ OnlyVreg c (t.cell g.val) ∧
       WritesReg c (t.cell g.val) w (fun i => if lookup 0 c.rsum (2 * vImm w + i / 64) = 0 then 0
         else mulF32 (vreg c (vA w) i) (divF32 0x3F800000 (lookup 0 c.rsum (2 * vImm w + i / 64)))))))

/-- R119: VGATH leaves its thread waiting until its words return; VSCAT and VSCADD write the store or the quarter's map store; a
bad address ends the thread with THREAD_ADDR and no counter update. R119: a thread step issues one instruction of each
of the next four ready threads from its bank, in round robin, and of no other; a cell that does not run, or without a ready thread,
does nothing. R53 to R56 of spec/02: a ready thread takes a block of an optimiser step, which requantises both moments and counts their
128 elements each in its layer; a block outside the store ends the thread with THREAD_ADDR (that one step takes a block, and the block's
layout, are the model's choices, log entry 135). R257 of spec/10: an uncorrectable word that a load reads makes the cell report, and its
thread ends (the model's choice, log entry 133). R106, R119: an instruction of a thread as
a command does what the thread's own step does with it, apart from the round robin. -/
def Obligations.Threads : Prop :=
  (∀ (g : CellNo) (k : ThreadNo) (w : Word) (s : State), InThread s g.val k.val w →
     let c := s.cell g.val
     let q := quarterOf g.val
     let th := lookup {} c.threads k.val
     let act := (List.range 32).filter (fun i => tacts th w i)
     (vOp w = 0x58 → GoodAddresses th w → threadBad s g.val k.val w = none → ∃ t u, exec (.vgath g (.thread k) w) s = .next t ∧
       exec (.threadLoadReturn g k) t = .next u ∧ OnlyCell g.val s t ∧ OnlyCell g.val s u ∧
       (lookup {} (t.cell g.val).threads k.val).status = 2 ∧ OnlyThread c (u.cell g.val) k.val ∧
       let v := lookup {} (u.cell g.val).threads k.val
       v.status = 1 ∧ v.pc = th.pc + 1 ∧ (∀ r, r ≠ vD w → lookup [] v.regs r = lookup [] th.regs r) ∧
       ∀ i, i < 32 → treg v (vD w) i = if tacts th w i then threadRead c s.fabric.mapStore q (treg th (vA w) i) else treg th (vD w) i) ∧
     (vOp w = 0x59 → GoodAddresses th w → Completes (.vscat g (.thread k) w) s (fun t =>
       let r := act.foldl (fun (p : CellState × Mem) i => threadWrite p.1 p.2 q (treg th (vA w) i) (treg th (vB w) i)) (c, s.fabric.mapStore)
       (t.cell g.val).store = r.1.store ∧ t.fabric.mapStore = r.2 ∧ (∀ h, h ≠ g.val → t.cell h = s.cell h) ∧
       t = { s with cells := t.cells, fabric := { s.fabric with mapStore := t.fabric.mapStore, writer := t.fabric.writer,
                                                                bad := t.fabric.bad, failedBefore := t.fabric.failedBefore } } ∧
       (s.fabric.bad = [] → t.fabric.bad = [] ∧ t.fabric.failedBefore = s.fabric.failedBefore) ∧
       (∀ n, (∀ a ∈ threadMap s g.val k.val w, n ≠ lineKey 1 a) → lookup 0 t.fabric.writer n = lookup 0 s.fabric.writer n) ∧
       (∀ a ∈ threadMap s g.val k.val w, lookup 0 t.fabric.writer (lineKey 1 a) = runKey c.sb) ∧
       t.cell g.val = { c with store := r.1.store, threads := (t.cell g.val).threads } ∧
       lookup {} (t.cell g.val).threads k.val = { th with pc := th.pc + 1 })) ∧
     (vOp w = 0x5A → GoodAddresses th w → threadBad s g.val k.val w = none → Completes (.vscadd g (.thread k) w) s (fun t =>
       let r := act.foldl (fun (p : CellState × Mem) i => threadWrite p.1 p.2 q (treg th (vA w) i)
         (addF32 (threadRead p.1 p.2 q (treg th (vA w) i)) (treg th (vB w) i))) (c, s.fabric.mapStore)
       (t.cell g.val).store = r.1.store ∧ t.fabric.mapStore = r.2 ∧ (∀ h, h ≠ g.val → t.cell h = s.cell h) ∧
       t = { s with cells := t.cells, fabric := { s.fabric with mapStore := t.fabric.mapStore, writer := t.fabric.writer,
                                                                bad := t.fabric.bad, failedBefore := t.fabric.failedBefore } } ∧
       (s.fabric.bad = [] → t.fabric.bad = [] ∧ t.fabric.failedBefore = s.fabric.failedBefore) ∧
       (∀ n, (∀ a ∈ threadMap s g.val k.val w, n ≠ lineKey 1 a) → lookup 0 t.fabric.writer n = lookup 0 s.fabric.writer n) ∧
       (∀ a ∈ threadMap s g.val k.val w, lookup 0 t.fabric.writer (lineKey 1 a) = runKey c.sb) ∧
       t.cell g.val = { c with store := r.1.store, threads := (t.cell g.val).threads } ∧
       lookup {} (t.cell g.val).threads k.val = { th with pc := th.pc + 1 })) ∧
     (∀ i ∈ ([(0x58, .vgath), (0x5A, .vscadd)] : List (Nat × (CellNo → VWhere → Word → Instr))),
       vOp w = i.1 → GoodAddresses th w → threadBad s g.val k.val w ≠ none → c.prog = none →
       Completes (i.2 g (.thread k) w) s (fun t => (t.cell g.val).report = true ∧ (lookup {} (t.cell g.val).threads k.val).status = 0 ∧
         t.fabric.mapStore = s.fabric.mapStore ∧ SameMemories c (t.cell g.val) ∧ ∀ h, h ≠ g.val → t.cell h = s.cell h)) ∧
     (∀ i ∈ ([(0x58, .vgath), (0x59, .vscat), (0x5A, .vscadd)] : List (Nat × (CellNo → VWhere → Word → Instr))),
       vOp w = i.1 → ¬ GoodAddresses th w → Completes (i.2 g (.thread k) w) s (fun t => OnlyCell g.val s t ∧
         (lookup {} (t.cell g.val).threads k.val).status = 0 ∧ (t.cell g.val).prog ≠ none ∧
         (c.prog = none → (t.cell g.val).prog = some .threadAddr ∧ (t.cell g.val).report = true) ∧
         (t.cell g.val).store = c.store ∧ t.fabric = s.fabric))) ∧
  (∀ (g : CellNo) (s : State),
     let c := s.cell g.val
     let ready := (((List.range 64).map (fun i => (c.threadRR + i) % 64)).filter (fun k => (lookup {} c.threads k).status == 1)).take 4
     (c.live = false ∨ (∀ k, k < 64 → (lookup {} c.threads k).status ≠ 1) → exec (.threadStep ⟨g, none⟩) s = .next s) ∧
     (∀ l, c.live = true → ready.getLast? = some l → Completes (.threadStep ⟨g, none⟩) s (fun t =>
       t = ready.foldl (fun s k => threadIssue s g.val k) (s.setCell g.val { c with threadRR := (l + 1) % 64 }) ∧
       (t.cell g.val).threadRR = (l + 1) % 64 ∧
       ∀ k, k ∉ ready → lookup {} (t.cell g.val).threads k = lookup {} c.threads k)) ∧
     (∀ k : ThreadNo, c.live = true → (∀ j, j < 64 → ((lookup {} c.threads j).status = 1 ↔ j = k.val)) →
       let th := lookup {} c.threads k.val
       let w := BitVec.ofNat 64 (readLE c.tmem (th.tbank * 8192 + 8 * th.pc) 8)
       let u := s.setCell g.val { c with threadRR := (k.val + 1) % 64 }
       (th.pc ≤ 1023 → exec (.threadStep ⟨g, none⟩) s = .next (threadExec u g.val k.val w)) ∧
       (1023 < th.pc → Completes (.threadStep ⟨g, none⟩) s (fun t => OnlyCell g.val s t ∧ (lookup {} (t.cell g.val).threads k.val).status = 0 ∧
         (c.prog = none → (t.cell g.val).prog = some .illegalOp) ∧ SameMemories c (t.cell g.val)))) ∧
     (∀ b : MomentStep, c.live = true → (lookup {} c.threads b.t.val).status = 1 →
       let grads := (List.range 128).map (fun i => (gradient (storeByte c (b.gradScale.toNat + i / 32)).toNat (storeByte c (b.grad.toNat + i)).toNat).1)
       let v := ((momentsAt (storeByte c) b.vCodes.toNat b.vScale.toNat b.vZero.toNat).zip grads).map (fun p => moment2 b.beta2 b.c2 p.1 p.2)
       (momentInStore b = true → Completes (.threadStep ⟨g, some b⟩) s (fun t => OnlyCell g.val s t ∧
         storeByte (t.cell g.val) b.vZero.toNat = BitVec.ofInt 8 (requant (v.map f32)).2.1 ∧
         lookup 0 (t.cell g.val).counts.written b.layer.val = satAdd 32 (satAdd 32 (lookup 0 c.counts.written b.layer.val) 128) 128 ∧
         (t.cell g.val).threads = c.threads ∧ (t.cell g.val).bbuf = c.bbuf ∧ (t.cell g.val).vreg = c.vreg ∧ (t.cell g.val).since = c.since)) ∧
       (momentInStore b = false → Completes (.threadStep ⟨g, some b⟩) s (fun t => OnlyCell g.val s t ∧
         (lookup {} (t.cell g.val).threads b.t.val).status = 0 ∧ (c.prog = none → (t.cell g.val).prog = some .threadAddr) ∧
         SameMemories c (t.cell g.val)))) ∧
     (∀ b : MomentStep, c.live = false ∨ (lookup {} c.threads b.t.val).status ≠ 1 → exec (.threadStep ⟨g, some b⟩) s = .next s)) ∧
  (∀ p ∈ ((fpRows 0).map (fun r => (r.1, r.2.1)) ++ [(0x00, .vnop), (0x01, .vend), (0x30, .vcmp), (0x31, .vsel), (0x38, .vcvt),
       (0x58, .vgath), (0x59, .vscat), (0x5A, .vscadd)] : List (Nat × (CellNo → VWhere → Word → Instr))),
     ∀ (g : CellNo) (k : ThreadNo) (s : State),
       let c := s.cell g.val
       let th := lookup {} c.threads k.val
       let w := BitVec.ofNat 64 (readLE c.tmem (th.tbank * 8192 + 8 * th.pc) 8)
       c.live = true → (∀ j, j < 64 → ((lookup {} c.threads j).status = 1 ↔ j = k.val)) → th.pc ≤ 1023 → vOp w = p.1 →
       exec (.threadStep ⟨g, none⟩) s = exec (p.2 g (.thread k) w) (s.setCell g.val { c with threadRR := (k.val + 1) % 64 }))

/-! ### Jobs and firmware -/

/-- R262, R267: a restarted cell, claimed by its Tacker within the active-cell limit, waits for its test with its logic and memories clear and the uncorrectable words of its store zeroed; a cell that fails the test is retired and
fenced and sets its cause, and one that passes goes back to service with its result. R268: a Tacker takes an idle due cell for its
test, within the active-cell limit (spec/09 R238); at the end of a cycle the cells not tested that are reserved or in a home set set UNTESTED, and
every cell is due again; after a test the next forced slot of the quarter goes on.
R259 to R262: a failed cell that its Tacker sees is fenced and its failure recorded; a second one within an hour retires it, a
retired cell's is only recorded, and a cell under test has failed its test. -/
def Obligations.RestartsTestsAndFailures : Prop :=
  (∀ (g : CellNo) (s : State),
     let c := s.cell g.val
     (c.service = 2 → c.tackerClaim = true ∨ claimedCount s < s.power.cellLimit →
       Completes (.cellRestartDone g) s (fun t => OnlyCell g.val s t ∧ Restarted c (t.cell g.val))) ∧
     (c.service ≠ 2 ∨ (c.tackerClaim = false ∧ s.power.cellLimit ≤ claimedCount s) → exec (.cellRestartDone g) s = .next s) ∧
     (c.service ≠ 3 → ∀ ok, exec (.inServiceTestDone g ok) s = .next s) ∧
     (c.service = 3 → ∃ u, exec (.inServiceTestDone g false) s = .next (forceNext (afterFree (cellsChanged u)) (quarterOf g.val)) ∧
       (u.cell g.val).fence = true ∧ (u.cell g.val).tackerClaim = false ∧
       (u.cell g.val).service = 4 ∧ (u.cell g.val).lastTest = 2 ∧ (u.cell g.val).lastTestAt = s.now ∧ (u.cell g.val).tested = true ∧
       leafIsSet u.causes (.istFailed g.val) = true) ∧
     (c.service = 3 → (s.zone (zoneOf g.val)).failed = false →
       ∃ u, exec (.inServiceTestDone g true) s = .next (forceNext (afterFree (if c.fence then cellsChanged u else u)) (quarterOf g.val)) ∧
         OnlyCell g.val s u ∧ (u.cell g.val).vreg = [] ∧ (u.cell g.val).tackerClaim = false ∧
         (u.cell g.val).fence = false ∧ (u.cell g.val).service = 0 ∧ (u.cell g.val).lastTest = 1 ∧ (u.cell g.val).lastTestAt = s.now ∧
         (u.cell g.val).tested = true ∧ (u.cell g.val).store = c.store ∧ (u.cell g.val).imem = c.imem) ∧
     (c.service = 3 → (s.zone (zoneOf g.val)).failed = true →
       (∃ h ∈ zoneCells (zoneOf g.val), h ≠ g.val ∧ ((s.cell h).service ≠ 1 ∨ (s.cell h).lastTest ≠ 1 ∨ (s.cell h).tested = false)) →
       ∃ t, exec (.inServiceTestDone g true) s = .next (forceNext t (quarterOf g.val)) ∧ OnlyCell g.val s t ∧
         (t.cell g.val).fence = c.fence ∧ (t.cell g.val).service = 1 ∧ (t.cell g.val).lastTest = 1 ∧ (t.cell g.val).tested = true)) ∧
  ((∀ (g : CellNo) (s : State),
     let due := testDue s g.val = true ∧ isReserved s g.val = false ∧ isHome s g.val = false ∧ isClaimed s g.val = false ∧
       cellRuns s g.val = false ∧ (s.zone (zoneOf g.val)).on = true ∧ (s.cell g.val).idleSince + s.resil.idleTime * 1000 ≤ s.now ∧
       (s.tacker (tackerOf g.val)).state = 0 ∧ claimedCount s < s.power.cellLimit
     (due → Completes (.istIdleStart g) s (fun t => OnlyCell g.val s t ∧
       t.cell g.val = { s.cell g.val with tackerClaim := true, service := 3 })) ∧
     (¬ due → exec (.istIdleStart g) s = .next s)) ∧
   (∀ s : State, s.now < s.resil.cycleFrom + s.resil.testCycle * 1000000000 → exec .istCycleEnd s = .next s) ∧
   (∀ s : State, s.resil.cycleFrom + s.resil.testCycle * 1000000000 ≤ s.now → s.resil.forcedOn = false →
     Completes .istCycleEnd s (fun t => t.resil = { s.resil with cycleFrom := s.now } ∧
       (∀ g, g < 64 → t.cell g = { s.cell g with tested := false, overdue := false }) ∧
       (∀ g, g < 64 → testDue s g = true → isReserved s g = true ∨ isHome s g = true → leafIsSet t.causes (.istUntested g) = true) ∧
       (∀ l, leafIsSet s.causes l = true → leafIsSet t.causes l = true) ∧
       (∀ z, z < 16 → (t.zone z).waking = ((s.zone z).waking || ((s.zone z).failed && !(s.zone z).retired))) ∧
       t.fabric = s.fabric ∧ t.jobs = s.jobs ∧ t.ctxs = s.ctxs))) ∧
  (∀ (g : CellNo) (s : State),
     let c := s.cell g.val
     let seen := failuresOf c ≠ 0 ∧ c.report = true ∧ (s.tacker (tackerOf g.val)).state = 0
     let again := match c.firstFail with | some t => c.reportAt ≤ t + 3600000000000 | none => False
     (¬ seen → exec (.tackerCellFailure g) s = .next s) ∧
     (seen → c.service = 4 → Completes (.tackerCellFailure g) s (fun t =>
       t.cell g.val = { c with report := false, failures := satAdd 16 c.failures 1, lastFault := c.fault.toNat,
                               lastInfo := c.faultInfo.toNat, lastFail := c.reportAt } ∧
       (∀ h, h ≠ g.val → t.cell h = s.cell h) ∧ leafIsSet t.causes (.main gCell g.val) = true ∧ t.jobs = s.jobs)) ∧
     (seen → c.service ≠ 3 → c.service ≠ 4 → ∃ u,
       exec (.tackerCellFailure g) s = .next (cellsChanged (loseCell u g.val (tackerSrc (tackerOf g.val)) true)) ∧
       (u.cell g.val).fence = true ∧ (u.cell g.val).report = false ∧ (u.cell g.val).failures = satAdd 16 c.failures 1 ∧
       (u.cell g.val).lastFault = c.fault.toNat ∧ (u.cell g.val).lastFail = c.reportAt ∧
       (again → (u.cell g.val).service = 4 ∧ (u.cell g.val).tackerClaim = false ∧ (u.cell g.val).firstFail = c.firstFail) ∧
       (¬ again → (u.cell g.val).service = 2 ∧ (u.cell g.val).firstFail = some c.reportAt ∧
         ((u.cell g.val).tackerClaim = true ↔ c.tackerClaim = true ∨ c.claim ≠ none ∨ claimedCount s < s.power.cellLimit)) ∧
       leafIsSet u.causes (.main gCell g.val) = true ∧ u.jobs = s.jobs) ∧
     (seen → c.service = 3 → ∃ u, exec (.tackerCellFailure g) s =
         .next (raiseCell (forceNext (afterFree (cellsChanged u)) (quarterOf g.val)) g.val) ∧
       (u.cell g.val).fence = true ∧ (u.cell g.val).service = 4 ∧ (u.cell g.val).lastTest = 2 ∧
       leafIsSet u.causes (.istFailed g.val) = true))

/-- spec/01 R19 to R21, R238 of spec/09: a claim of a cell held, fenced or out of service comes back CLAIM_BUSY; one in a gated
zone waits for its power, and one beyond the active-cell limit in its Laster; else the cell is the job's. A Tacker that restarts
queues 16 claims, START and HALT_REQ commands of each Laster, and a running one takes the next Laster's queue first. spec/04 R84,
spec/08 R227: the cells of a claimed job under a running Tacker get the job's start block and start, those that do not hold their slot's
program once the transfer that brings it in is over; a job that is not claimed, or one
with no cell of the job to start, starts nothing. spec/08 R231, spec/02 R51:
a Tacker takes a completion report; the job retires with the last of its cells, at the time of the last report, and tells its Laster, a program error retires it at
once with its code, and a cell without a report whose job goes on, or without a claim, does nothing more. -/
def Obligations.ClaimsJobsAndReports : Prop :=
  (∀ (n : LasterNo) (g : CellNo) (job : Nat) (s : State),
     let c := s.cell g.val
     let tk := s.tacker (tackerOf g.val)
     let z := s.zone (zoneOf g.val)
     let q := lookup [] tk.queues n.val
     let other := match reservedBy s g.val with | some r => ctxLaster s r ≠ n.val | none => False
     let busy := c.claim ≠ none ∨ c.tackerClaim = true ∨ unfenced s g.val = false ∨ c.service ≠ 0 ∨ other
     let u := s.setTacker (tackerOf g.val) { tk with rr := (n.val + 1) % 4 }
     (tk.state = 1 → q.length < 16 → Completes (.claim n g job) s (fun t => t.cells = s.cells ∧ t.jobs = s.jobs ∧
       lookup [] (t.tacker (tackerOf g.val)).queues n.val = q ++ [.claim g.val job])) ∧
     (tk.state = 1 → 16 ≤ q.length → Completes (.claim n g job) s (fun t => t.cells = s.cells ∧ t.tackers = s.tackers ∧
       (t.laster n.val).waiting = (s.laster n.val).waiting ++ [.claim g.val job])) ∧
     (tk.state ≠ 1 → busy → exec (.claim n g job) s = .next (sendNotice u n.val (tackerSrc (tackerOf g.val)) (.claimResult g.val job false))) ∧
     (tk.state ≠ 1 → ¬ busy → z.on = false → Completes (.claim n g job) s (fun t => t.cells = s.cells ∧ t.lasters = s.lasters ∧
       t.zone (zoneOf g.val) = { z with waking := true, held := z.held ++ [⟨n.val, g.val, job, false⟩] } ∧
       (∀ y, y ≠ zoneOf g.val → t.zone y = s.zone y) ∧ t.jobs = s.jobs)) ∧
     (tk.state ≠ 1 → ¬ busy → z.on = true → claimedCount s < s.power.cellLimit → exec (.claim n g job) s =
       .next (sendNotice (u.setCell g.val { c with claim := some (n.val, job) }) n.val (tackerSrc (tackerOf g.val)) (.claimResult g.val job true))) ∧
     (tk.state ≠ 1 → ¬ busy → z.on = true → s.power.cellLimit ≤ claimedCount s → Completes (.claim n g job) s (fun t =>
       t.cells = s.cells ∧ (t.laster n.val).waiting = (s.laster n.val).waiting ++ [.claim g.val job] ∧
       leafIsSet t.causes (.main gSched 4) = true))) ∧
  (∀ (tk : TackerNo) (id : Nat) (s : State),
     let x := s.tacker tk.val
     let n := match s.job? id with | some j => ctxLaster s j.ctx | none => 0
     let u := s.setTacker tk.val { x with rr := (n + 1) % 4 }
     (x.state = 1 → (lookup [] x.queues n).length < 16 → Completes (.jobCommand tk id) s (fun t => t.cells = s.cells ∧
       t.jobs = s.jobs ∧ lookup [] (t.tacker tk.val).queues n = lookup [] x.queues n ++ [.start tk.val id])) ∧
     (x.state = 1 → 16 ≤ (lookup [] x.queues n).length → Completes (.jobCommand tk id) s (fun t => t.cells = s.cells ∧
       t.jobs = s.jobs ∧ t.tackers = s.tackers ∧ (t.laster n).waiting = (s.laster n).waiting ++ [.start tk.val id])) ∧
     (x.state ≠ 1 → s.job? id = none → exec (.jobCommand tk id) s = .next u) ∧
     (∀ j, x.state ≠ 1 → s.job? id = some j → (j.phase ≠ .claimed ∧ j.phase ≠ .running) ∨ (∃ g ∈ j.cells, hasClaim s id g = false) ∨
         x.state ≠ 0 ∨ (∀ g ∈ j.cells, tackerOf g ≠ tk.val ∨ g ∈ j.done ∨ cellRuns s g = true) →
       exec (.jobCommand tk id) s = .next u) ∧
     (∀ j p, s.job? id = some j → j.phase = .claimed → j.tStart = none → j.done = [] → j.cells.Nodup → (∀ g ∈ j.cells, g < 64) →
       (∀ g ∈ j.cells, hasClaim s id g = true ∧ (s.cell g).fence = false ∧ (s.cell g).startHeld = false ∧
         ((s.cell g).st = .idle ∨ (s.cell g).st = .halted)) →
       (∃ g ∈ j.cells, tackerOf g = tk.val) → (s.tacker tk.val).state = 0 → (s.ctx j.ctx).pkg = some p → s.fabric.lacer = [] →
       let slot := fun i => (planOf (s.ctx j.ctx) j.stripe (runsStreamed s j)).slots.getD i noProg
       ∃ t, exec (.jobCommand tk id) s = .next (dispatch t n) ∧
         (∀ i g, j.cells[i]? = some g → tackerOf g = tk.val → (t.cell g).sb.job = id ∧ (t.cell g).sb.tag = ctxTag j.ctx (s.ctx j.ctx) ∧
           (t.cell g).sb.cellOf i = some g ∧ (t.cell g).report = false ∧
           (holdsProgram (s.cell g) (slot i) = true → (t.cell g).st = .running ∧ (t.cell g).pc = 0) ∧
           (holdsProgram (s.cell g) (slot i) = false → (t.cell g).st = (s.cell g).st ∧ (t.cell g).startHeld = true ∧
             ∃ m x, x ∈ lookup [] t.fabric.lacer m ∧ x.load = some (g, slot i) ∧ (t.cell g).startFor = [x.tag])) ∧
         (∀ g, g ∉ j.cells → t.cell g = s.cell g) ∧
         (∃ k, t.job? id = some k ∧ k.tStart = some s.now ∧ k.phase = .running ∧ k.cells = j.cells))) ∧
  (∀ (g : CellNo) (s : State),
     let c := s.cell g.val
     let up := (s.tacker (tackerOf g.val)).state = 0 ∧ (failuresOf c = 0 ∨ c.st ≠ .faulted)
     let settled := c.claim = none ∨ ∃ n id j, c.claim = some (n, id) ∧ s.job? id = some j ∧ j.phase ≠ .halting
     (c.report = false ∨ ¬ up → settled → exec (.jobRetirement g) s = .next s) ∧
     (c.report = true → up → c.claim = none → Completes (.jobRetirement g) s (fun t => OnlyCell g.val s t ∧
       t.cell g.val = { c with report := false })) ∧
     (∀ n id j, c.report = true → up → c.claim = some (n, id) → s.job? id = some j → inRun s j g.val = true → j.cancelled = false →
       j.evicted = false → j.retire = none → j.needReplay = false → c.prog = none →
       (∀ h ∈ j.cells, h = g.val ∨ h ∈ j.done) → ∃ u, exec (.jobRetirement g) s =
         .next (sendNotice u n (tackerSrc (tackerOf g.val)) (.jobDone id)) ∧ OnlyCell g.val s { u with jobs := s.jobs } ∧
         ∃ k, u.job? id = some k ∧ k.phase = .retired ∧
           k.retire = some ⟨none, (j.cells.map (fun h => (s.cell h).reportAt)).foldl max 0⟩ ∧ k.done = j.done ++ [g.val] ∧
           k.counts = j.counts ++ [c.counts]) ∧
     (∀ n id j f, c.report = true → up → c.claim = some (n, id) → s.job? id = some j → inRun s j g.val = true → j.cancelled = false →
       j.evicted = false → j.retire = none → j.needReplay = false → c.prog = some f → ∃ u, exec (.jobRetirement g) s =
         .next (sendNotice u n (tackerSrc (tackerOf g.val)) (.jobDone id)) ∧
         ∃ k, u.job? id = some k ∧ k.phase = .retired ∧ k.retire = some ⟨some f, c.reportAt⟩))

/-- R229, R230: a notice packet joins its FIFO of 1,024; a full FIFO loses its oldest entry, counts it and sets its leaf. R231: a
running Laster takes the front entry of its FIFO and does what its kind asks; with an
entry of another kind in front, with none, or while it is being replaced, the row does nothing; one of a camera bus names nothing and goes
by. R231: a gap in a source's sequence
numbers, an entry lost before, or one whose KIND or ARG is out of range makes the Laster reconcile before it acts. R218, R219, R230: at a deadline moment a running
Laster gets a TIMER notice for each job that has reached one, and the moment is disarmed; with no such job nothing happens. Of a Laster
that is being replaced the deadline unit makes the LATE decisions itself, those of batches that no job has taken among them (spec/10
R265). -/
def Obligations.NoticesAndLasters : Prop :=
  (∀ (n : LasterNo) (x : Notice) (s : State),
     let l := s.laster n.val
     (l.fifo.length < 1024 → exec (.noticeWrite n x) s = .next (s.setLaster n.val { l with fifo := l.fifo ++ [x] })) ∧
     (1024 ≤ l.fifo.length → Completes (.noticeWrite n x) s (fun t => (t.laster n.val).fifo = l.fifo.drop 1 ++ [x] ∧
       (t.laster n.val).lostSeen = true ∧ (t.laster n.val).seen = l.seen ∧
       lookup 0 t.causes.noticeLost n.val = satAdd 32 (lookup 0 s.causes.noticeLost n.val) 1 ∧
       leafIsSet t.causes (.main gNotice n.val) = true ∧ (∀ m, m ≠ n.val → t.laster m = s.laster m) ∧
       t.cells = s.cells ∧ t.jobs = s.jobs ∧ t.ctxs = s.ctxs ∧ t.fabric = s.fabric))) ∧
  (∀ p ∈ noticeRows, ∀ (n : LasterNo) (s : State),
     ((s.laster n.val).state ≠ 0 → exec (p.2 n) s = .next s) ∧
     ((s.laster n.val).state = 0 → (s.laster n.val).fifo = [] → Completes (p.2 n) s (SameLasters s)) ∧
     (∀ x rest, (s.laster n.val).state = 0 → (s.laster n.val).fifo = x :: rest →
       (isBad x.kind = false → isBus x.kind = false → noticeRow x.kind ≠ p.1 → Completes (p.2 n) s (SameLasters s)) ∧
       (isBad x.kind = false → noticeRow x.kind = p.1 → exec (p.2 n) s = .next (noticeAct (tookAndSettled s n.val x rest) n.val x.kind)) ∧
       (isBad x.kind = false → isBus x.kind = true → exec (p.2 n) s = exec (p.2 n) (s.setLaster n.val { s.laster n.val with fifo := rest })) ∧
       (isBad x.kind = true →
         let u := reconcile (s.setLaster n.val { s.laster n.val with
           fifo := (s.laster n.val).fifo.dropWhile (fun y => isBad y.kind || isBus y.kind) }) n.val
         ((u.laster n.val).fifo = [] → exec (p.2 n) s = .next u) ∧
         (∀ y r, (u.laster n.val).fifo = y :: r →
           (noticeRow y.kind ≠ p.1 → exec (p.2 n) s = .next u) ∧
           (noticeRow y.kind = p.1 → exec (p.2 n) s = .next (noticeAct (tookAndSettled u n.val y r) n.val y.kind)))))) ∧
  (∀ (n : LasterNo) (s : State) (x : Notice) (rest : List Notice), FrontInSequence s n.val x rest → isBad x.kind = false →
     let u := TookFront s n.val x rest
     -- what the answers to claims, a retirement and a failed cell do to their job
     (∀ g id ok, x.kind = .claimResult g id ok → u.job? id = none → hasClaim u id g = false → exec (.claimResult n) s = .next u) ∧
     (∀ g id j, x.kind = .claimResult g id true → u.job? id = some j → j.cancelled = false → j.phase = .claiming →
       exec (.claimResult n) s = .next (if j.cells.all (hasClaim u id) then u.modJob id (fun j => { j with phase := .claimed }) else u)) ∧
     (∀ g id j, x.kind = .claimResult g id false → u.job? id = some j → j.cancelled = false → j.phase = .claiming →
       exec (.claimResult n) s = .next (afterFree ((releaseJob u j).modJob id (fun j =>
         { j with phase := .waiting, cells := [], busy := j.busy ++ [g] })))) ∧
     (∀ id, x.kind = .jobDone id → u.job? id = none → exec (.jobDone n) s = .next u) ∧
     (∀ id j, x.kind = .jobDone id → u.job? id = some j → j.retire ≠ none →
       exec (.jobDone n) s = .next (afterFree (rotate (finishJob u id) j.ctx j.replica))) ∧
     (∀ g id b, x.kind = .cellFault g id b → u.job? id = none → exec (.cellFault n) s = .next (afterFree u)) ∧
     (∀ g id b j, x.kind = .cellFault g id b → u.job? id = some j → j.needReplay = true → j.phase = .claiming →
       exec (.cellFault n) s = .next (afterFree (placeReplay u id)))) ∧
  (∀ (n : LasterNo) (s : State),
     let due := (groupJobs s n.val).filter (fun j => !(momentsPassed s j).isEmpty)
     let disarmed := s.jobs.map (fun (j : Job) =>
       if due.contains j then { j with armed := j.armed.filter (fun m => !(momentsPassed s j).contains m) } else j)
     ((s.laster n.val).state = 0 → due = [] → exec (.deadlineTimerExpiry n) s = .next s) ∧
     ((s.laster n.val).state = 0 → (s.jobs.map (·.id)).Nodup → (s.laster n.val).fifo.length + due.length ≤ 1024 →
       Completes (.deadlineTimerExpiry n) s (fun t => t = { s with jobs := disarmed, lasters := t.lasters } ∧
         (∀ m, m ≠ n.val → t.laster m = s.laster m) ∧ ∃ l, (t.laster n.val).fifo = (s.laster n.val).fifo ++ l ∧
           l.map (·.kind) = due.map (fun j => .timer j.id) ∧ ∀ x ∈ l, x.src = .deadline)) ∧
     ((s.laster n.val).state ≠ 0 → (s.jobs.map (·.id)).Nodup → exec (.deadlineTimerExpiry n) s =
       .next ((groupCtxs s n.val).foldl lateBatches (due.foldl (fun s j => lateCheck s j.id) { s with jobs := disarmed }))))

/-- R264, R265, R270: the watchdogs and the commands that restart a Tacker or replace a Laster count it, set its cause and hold
its work; a command answers WRONG_STATE or a range error where it does not apply. R264, R265: a restarted Tacker runs and does
what waited; one that fails tries again, and a third failure puts it out of service. A replaced Laster reconciles and takes work
again. spec/01 R15, R26, spec/13 R338: a link between two quarters that fails is fenced, sets its leaf and leads to a new check of
every context; a link of a quarter to the I/O die, or a Tacker complex that times out, loses the quarter with its cells, Tackers and
memories, the fourth one the device; a link whose quarter has its rail trains in BOOT, and a quarter that comes after the release starts
its Tackers from the image's section. R354 of spec/13: a second watchdog of a Laster that takes a new image ends an activation (log entry
140). -/
def Obligations.FirmwareLinksAndQuarters : Prop :=
  ((∀ (t : TackerNo) (s : State),
     ((s.tacker t.val).state ≠ 0 → exec (.tackerWatchdog t) s = .next s) ∧
     ((s.tacker t.val).state = 0 → Completes (.tackerWatchdog t) s (fun u =>
       u.tacker t.val = { s.tacker t.val with state := 1, restarts := satAdd 16 (s.tacker t.val).restarts 1 } ∧
       (∀ k, k ≠ t.val → u.tacker k = s.tacker k) ∧ leafIsSet u.causes (.main gFw 0) = true ∧
       lookup 0 u.resil.count 3 = satAdd 32 (lookup 0 s.resil.count 3) 1 ∧ u.cells = s.cells ∧ u.jobs = s.jobs ∧ u.lasters = s.lasters))) ∧
   (∀ (n : LasterNo) (s : State),
     ((s.laster n.val).state ≠ 0 → exec (.lasterWatchdog n) s = .next (activated s n.val false) ∧
       (s.boot.activation ≠ 1 → exec (.lasterWatchdog n) s = .next s)) ∧
     ((s.laster n.val).state = 0 → Completes (.lasterWatchdog n) s (fun u =>
       u.laster n.val = { s.laster n.val with state := 1, replacements := satAdd 16 (s.laster n.val).replacements 1 } ∧
       (∀ k, k ≠ n.val → u.laster k = s.laster k) ∧ leafIsSet u.causes (.main gFw 1) = true ∧
       lookup 0 u.resil.count 4 = satAdd 32 (lookup 0 s.resil.count 4) 1 ∧ u.cells = s.cells ∧ u.jobs = s.jobs ∧ u.tackers = s.tackers))) ∧
   (∀ (v : Byte) (s : State),
     (runtimeState s = false → exec (.replaceLaster v) s = .next (answer s wrongState) ∧
       exec (.restartTacker v) s = .next (answer s wrongState)) ∧
     (runtimeState s = true → 3 < v.toNat → exec (.replaceLaster v) s = .next (answer s outOfRange)) ∧
     (runtimeState s = true → 15 < v.toNat → exec (.restartTacker v) s = .next (answer s outOfRange)) ∧
     (runtimeState s = true → v.toNat ≤ 3 → (s.laster v.toNat).state ≠ 0 → exec (.replaceLaster v) s = .next (answer s wrongState)) ∧
     (runtimeState s = true → v.toNat ≤ 15 → (s.tacker v.toNat).state ≠ 0 → exec (.restartTacker v) s = .next (answer s wrongState)) ∧
     (runtimeState s = true → v.toNat ≤ 3 → (s.laster v.toNat).state = 0 → Completes (.replaceLaster v) s (fun u =>
       (u.laster v.toNat).state = 1 ∧ u.dev.answer = 0 ∧ u.cells = s.cells ∧ u.jobs = s.jobs)) ∧
     (runtimeState s = true → v.toNat ≤ 15 → (s.tacker v.toNat).state = 0 → Completes (.restartTacker v) s (fun u =>
       (u.tacker v.toNat).state = 1 ∧ u.dev.answer = 0 ∧ u.cells = s.cells ∧ u.jobs = s.jobs)))) ∧
  ((∀ (n : LasterNo) (s : State),
     ((s.laster n.val).state = 0 → exec (.lasterReplacementDone n) s = .next s) ∧
     ((s.laster n.val).state ≠ 0 → exec (.lasterReplacementDone n) s =
       .next (activated (reconcile (s.setLaster n.val { s.laster n.val with state := 0 }) n.val) n.val true))) ∧
   (∀ (t : TackerNo) (s : State),
     let x := s.tacker t.val
     (x.state ≠ 1 → ∀ ok, exec (.tackerRestartDone t ok) s = .next s) ∧
     (x.state = 1 → exec (.tackerRestartDone t true) s = .next (activated
       (forceNext (afterFree (serveQueues (pendingActions (s.setTacker t.val { x with state := 0, failed := 0 }) t.val) t.val)) (t.val / 4))
       (4 + t.val) true)) ∧
     (x.state = 1 → x.failed < 2 → s.boot.activation ≠ 1 → Completes (.tackerRestartDone t false) s (fun u =>
       u.tacker t.val = { x with state := 1, failed := x.failed + 1, restarts := satAdd 16 x.restarts 1 } ∧
       u.cells = s.cells ∧ u.jobs = s.jobs ∧ leafIsSet u.causes (.main gFw 0) = true)) ∧
     (x.state = 1 → 2 ≤ x.failed → exec (.tackerRestartDone t false) s =
       .next (activated (isolateTacker (s.setTacker t.val { x with failed := 3 }) t.val) (4 + t.val) false)))) ∧
  ((∀ (l : LinkNo) (s : State), l.val < 6 → ∃ u, exec (.quarterLinkFail l) s = .next (recheck u false) ∧
     l.val ∈ u.fabric.linkFenced ∧ (∀ k ∈ s.fabric.linkFenced, k ∈ u.fabric.linkFenced) ∧
     leafIsSet u.causes (.main gQuarter (8 + l.val)) = true ∧ u.fabric.lost = s.fabric.lost ∧ u.cells = s.cells) ∧
   (∀ (l : LinkNo) (q : QuarterNo) (s : State), l.val = q.val + 6 → q.val ∈ s.fabric.lost →
     Completes (.quarterLinkFail l) s (fun t => t.cells = s.cells ∧ t.fabric = s.fabric ∧
       leafIsSet t.causes (.main gQuarter (8 + l.val)) = true)) ∧
   (∀ (q : QuarterNo) (s : State), q.val ∈ s.fabric.lost → exec (.tackerComplexTimeout q) s = .next s) ∧
   (∀ (l : LinkNo) (q : QuarterNo) (s : State), l.val = q.val + 6 → q.val ∉ s.fabric.lost →
     let u := raise s (.main gQuarter (8 + l.val)) 0 0
     leafIsSet u.causes (.main gQuarter (8 + l.val)) = true ∧ exec (.quarterLinkFail l) s = exec (.tackerComplexTimeout q) u ∧
     (s.fabric.lost.length < 3 → ∃ v, exec (.quarterLinkFail l) s =
       .next (afterLoss ((s.fabric.lacer.filter (fun p => decide (p.1 / 4 = q.val))).flatMap (·.2)) q.val v) ∧ QuarterGone s q.val v)) ∧
   (∀ (q : QuarterNo) (s : State), q.val ∉ s.fabric.lost → s.fabric.lost.length < 3 → ∃ u, exec (.tackerComplexTimeout q) s =
     .next (afterLoss ((s.fabric.lacer.filter (fun p => decide (p.1 / 4 = q.val))).flatMap (·.2)) q.val u) ∧ QuarterGone s q.val u) ∧
   (∀ (q : QuarterNo) (s : State), q.val ∉ s.fabric.lost → s.fabric.lost.length = 3 → ∃ u, exec (.tackerComplexTimeout q) s =
     .next (publish u false) ∧ u.dev.state = .fault ∧ u.dev.alError = true ∧ u.dev.alCode = 0x8001 ∧ u.jobs = [] ∧
       (∀ t, t < 16 → (u.tacker t).state = 2) ∧ (∀ n, n < 32 → (u.slot n).st = 0) ∧ ∀ k, k < 4 → k ∈ u.fabric.lost) ∧
   (∀ (q : QuarterNo) (s : State),
     (s.dev.state ≠ .boot ∨ q.val ∈ s.fabric.linkUp ∨ quarterRailOut s q.val = true → exec (.linkTrained q) s = .next s) ∧
     (s.dev.state = .boot → q.val ∉ s.fabric.linkUp → quarterRailOut s q.val = false → Completes (.linkTrained q) s (fun t =>
       t = { s with fabric := { s.fabric with linkUp := s.fabric.linkUp ++ [q.val] }, boot := t.boot } ∧
       (s.boot.released = false → t.boot = s.boot) ∧
       (s.boot.released = true → (∀ h ∈ tackerHarts q.val, lookup [] t.boot.code h = imageSection s.boot.header s.boot.body 2 ∧
           lookup none t.boot.release h = some (Config.entryAddress h (imageSection s.boot.header s.boot.body 2))) ∧
         ∀ h, h ∉ tackerHarts q.val → lookup [] t.boot.code h = lookup [] s.boot.code h)))))

/-! ### Streams -/

/-- spec/07 R164, R166, R187, R188, R190: packets of a virtual channel that feeds no slot, and Line Start and Line End, do
nothing; a frame of a running slot is taken in line by line, and a frame that breaks a rule stops its slot with the reason R187
gives. spec/07 R188: a slot that stops keeps its reason, sets the leaf of its cause, and its Laster hears of it. -/
def Obligations.CameraFramesAndStops : Prop :=
  ((∀ (p : PortNo) (vc : Fin 4) (k : LongPacket) (s : State), exec (.lineStart p vc) s = .next s ∧ exec (.lineEnd p vc) s = .next s ∧
     (slotOf s p.val vc.val = none → exec (.frameStart p vc) s = .next s ∧ exec (.longPacket p vc k) s = .next s ∧
       exec (.frameEnd p vc) s = .next s)) ∧
   (∀ (p : PortNo) (vc : Fin 4) (k : LongPacket) (s : State) (n : Nat), slotOf s p.val vc.val = some n →
     let x := s.slot n
     let open_ := k.vcx = false ∧ x.st = 1 ∧ x.waiting = false ∧ x.dropFrame = false
     let begun := { x with seenAt := s.now, waiting := false, inFrame := true, lines := [] }
     (x.st = 2 → Completes (.frameStart p vc) s (fun t => OnlySlot n s t ∧ t.slot n = { x with dropped := satAdd 32 x.dropped 1 })) ∧
     (x.st = 1 → x.inFrame = true → x.waiting = false → exec (.frameStart p vc) s = .next (stopSlot s n 0x0004)) ∧
     (x.st = 1 → x.inFrame = false ∨ x.waiting = true → x.timedOut = false → (∀ d, x.shadow ≠ some (d, true)) → Completes (.frameStart p vc) s (fun t =>
       OnlySlot n s t ∧ (x.buffered = none → t.slot n = { begun with dropFrame := false }) ∧
       (x.buffered ≠ none → t.slot n = { begun with dropFrame := true, dropped := satAdd 32 x.dropped 1 }))) ∧
     (x.st = 1 → x.inFrame = false ∨ x.waiting = true → x.timedOut = true → Completes (.frameStart p vc) s (fun t =>
       t = { s with streams := { s.streams with slot := t.streams.slot, bus := t.streams.bus }, causes := t.causes } ∧
       (∀ m, m ≠ n → t.slot m = s.slot m) ∧ (∀ b, b ≠ slotBus x → t.bus b = s.bus b) ∧
       (x.reads.contains 2 = true → t.bus (slotBus x) = s.bus (slotBus x) ∧ (t.slot n).reads = x.reads) ∧
       (x.reads.contains 2 = false → t.bus (slotBus x) = { s.bus (slotBus x) with
           waiting := (s.bus (slotBus x)).waiting ++ [.gcmd n (gcmdAddress x) x.gcmdWidth] } ∧
         (t.slot n).reads = x.reads ++ [2] ∧ (t.slot n).reading = true) ∧
       (t.slot n).dropFrame = true ∧ (t.slot n).dropped = satAdd 32 x.dropped 1 ∧ (t.slot n).seenAt = s.now ∧
       (t.slot n).timedOut = true ∧ ∀ d, x.shadow = some (d, true) → (t.slot n).desc = d ∧ (t.slot n).gcmdStatus = statusUnder x d)) ∧
     (∀ d, x.st = 1 → x.inFrame = false ∨ x.waiting = true → x.timedOut = false → x.shadow = some (d, true) → Completes (.frameStart p vc) s (fun t =>
       OnlySlot n s { t with causes := s.causes } ∧ (t.slot n).desc = d ∧ (t.slot n).tabs = x.shadowTabs ∧ (t.slot n).shadow = none ∧
       (t.slot n).inFrame = true ∧ (t.slot n).gcmdStatus = statusUnder x d ∧
       (statusUnder x d < 3 ∨ 3 ≤ x.gcmdStatus → t.causes = s.causes) ∧
       (x.gcmdStatus < 3 → 3 ≤ statusUnder x d → leafIsSet t.causes (.slot n 1) = true))) ∧
     (¬ open_ → exec (.longPacket p vc k) s = .next s) ∧
     (open_ → k.ecc = 2 → exec (.longPacket p vc k) s = .next (stopSlot s n 0x0001)) ∧
     (open_ → k.ecc ≠ 2 → k.dataType.toNat ≠ dType x.desc → exec (.longPacket p vc k) s = .next (stopSlot s n 0x0005)) ∧
     (open_ → k.ecc ≠ 2 → k.dataType.toNat = dType x.desc → k.crcOk = false → exec (.longPacket p vc k) s = .next (stopSlot s n 0x0002)) ∧
     (open_ → k.ecc ≠ 2 → k.dataType.toNat = dType x.desc → k.crcOk = true → k.pixels.length ≠ dWidth x.desc →
       exec (.longPacket p vc k) s = .next (stopSlot s n 0x0003)) ∧
     (open_ → k.ecc ≠ 2 → k.dataType.toNat = dType x.desc → k.crcOk = true → k.pixels.length = dWidth x.desc → x.inFrame = true →
       Completes (.longPacket p vc k) s (fun t => OnlySlot n s t ∧ t.slot n = { x with lines := x.lines ++ [k.pixels] })) ∧
     (x.st ≠ 1 ∨ x.waiting = true → exec (.frameEnd p vc) s = .next s) ∧
     (x.st = 1 → x.waiting = false → x.inFrame = false → exec (.frameEnd p vc) s = .next (stopSlot s n 0x0004)) ∧
     (x.st = 1 → x.waiting = false → x.inFrame = true → x.dropFrame = false → x.lines.length ≠ dHeight x.desc →
       exec (.frameEnd p vc) s = .next (stopSlot s n 0x0003)) ∧
     (x.st = 1 → x.waiting = false → x.inFrame = true → x.dropFrame = true → Completes (.frameEnd p vc) s (fun t => OnlySlot n s t ∧
       t.slot n = { x with inFrame := false, dropFrame := false, lines := [] })) ∧
     (x.st = 1 → x.waiting = false → x.inFrame = true → x.dropFrame = false → x.lines.length = dHeight x.desc →
       Completes (.frameEnd p vc) s (fun t => OnlySlot n s t ∧ t.slot n = { x with
         inFrame := false, lines := [], accepted := satAdd 32 x.accepted 1, buffered := some ⟨x.lines, s.now, x.desc, x.tabs⟩ }))) ∧
   (∀ (n : SlotNo) (s : State), (s.slot n.val).buffered = none → exec (.frameTaken n) s = .next s) ∧
   (∀ (n : SlotNo) (s : State) (f : Frame), (s.slot n.val).buffered = some f →
     let m := temporal f.desc (s.slot n.val).tf (cameraImage f s.free)
     ∃ u, exec (.frameTaken n) s = .next ((clickFrame u n.val f.desc f.tabs m.1 f.tInput m.2).draw) ∧ OnlySlot n.val s u ∧
       (u.slot n.val).buffered = none ∧ (u.slot n.val).tf = (if dFlag f.desc 2 = true then some m.1.px else none)) ∧
   (∀ (n : SlotNo) (s : State), let x := s.slot n.val
     let due := x.st = 1 ∧ dSource x.desc = 1 ∧ x.timedOut = false ∧ x.seenAt + ceilDiv 64000000000 (dRate x.desc) ≤ s.now
     (¬ due → exec (.frameTimeout n) s = .next s) ∧
     (due → Completes (.frameTimeout n) s (fun t => leafIsSet t.causes (.slot n.val 2) = true ∧
       t.slot n.val = { x with timedOut := true, timeouts := satAdd 32 x.timeouts 1 } ∧
       (∀ m, m ≠ n.val → t.slot m = s.slot m) ∧ t = { s with streams := t.streams, causes := t.causes })))) ∧
  (∀ (n reason : Nat) (s : State), n < 32 → boundCtxs s n = [] → ∃ u, stopSlot s n reason = sendNotice u (slotGroup s n % 4) (streamSrc n) (.slotStopped n) ∧
     (u.slot n).st = 2 ∧ (u.slot n).reason = reason ∧ (u.slot n).desc = (s.slot n).desc ∧ (u.slot n).inFrame = false ∧ (u.slot n).lines = [] ∧
     (u.slot n).reads = [] ∧ (∀ b, b < 8 → (u.bus b).waiting = (s.bus b).waiting.filter (fun r => !isGcmdOf n r)) ∧
     leafIsSet u.causes (stopLeaf n reason) = true ∧ (∀ m, m ≠ n → u.slot m = s.slot m) ∧ u.ctxs = s.ctxs ∧ u.cells = s.cells ∧
     u.lasters = s.lasters)

/-- spec/07 R161, R162, R171, R189: a slot command answers WRONG_STATE where it does not apply and REFUSED with its reason where a
check fails; START of a camera slot reads its GCMD first and is answered when that read has ended, STOP makes the slot IDLE, RESUME runs
it again, or takes the shadow of a slot whose START built no meshes (log entry 120), REREAD_CAL reads the image again. -/
def Obligations.SlotCommands : Prop :=
  ∀ (n : SlotNo) (s : State),
    let x := s.slot n.val
    let cam := dSource x.desc = 1
    let asks := fun (why : Nat) (t : State) => t = { s with dev := t.dev, streams := { s.streams with slot := t.streams.slot, bus := t.streams.bus } } ∧
      (∀ m, m ≠ n.val → t.slot m = s.slot m) ∧ (∀ b, b ≠ slotBus x → t.bus b = s.bus b) ∧
      (x.reads.contains why = true → t.bus (slotBus x) = s.bus (slotBus x) ∧ (t.slot n.val).reads = x.reads) ∧
      (x.reads.contains why = false → t.bus (slotBus x) = { s.bus (slotBus x) with
          waiting := (s.bus (slotBus x)).waiting ++ [.gcmd n.val (gcmdAddress x) x.gcmdWidth] } ∧
        (t.slot n.val).reads = x.reads ++ [why] ∧ (t.slot n.val).reading = true)
    let okIn := ∃ i, x.instance_ = some i ∧ instanceFits s n.val x.desc i = true
    let refused := fun (r : Nat) (t : State) => t.slot n.val = { x with reason := r } ∧ OnlySlot n.val s { t with dev := s.dev } ∧
      t.dev = { s.dev with answer := 0x08000020 }
    (runtimeState s = false → exec (.slotStart n) s = .next (answer s wrongState) ∧ exec (.stop n) s = .next (answer s wrongState) ∧
      exec (.resume n) s = .next (answer s wrongState) ∧ exec (.rereadCal n) s = .next (answer s wrongState)) ∧
    (runtimeState s = true →
      (x.st ≠ 0 ∨ x.starting = true → exec (.slotStart n) s = .next (answer s wrongState)) ∧
      (x.st = 0 → x.starting = false → streamDescOk s n.val x.desc = false → Completes (.slotStart n) s (refused 0x0103)) ∧
      (x.st = 0 → x.starting = false → streamDescOk s n.val x.desc = true → portBusy s n.val x.desc = true →
        Completes (.slotStart n) s (refused 0x0104)) ∧
      (x.st = 0 → x.starting = false → streamDescOk s n.val x.desc = true → portBusy s n.val x.desc = false → capacity s n.val x.desc = none →
        Completes (.slotStart n) s (refused 0x0102)) ∧
      (∀ i k p, x.st = 0 → x.starting = false → streamDescOk s n.val x.desc = true → portBusy s n.val x.desc = false →
        capacity s n.val x.desc = some (i, k, p) → cam → Completes (.slotStart n) s (fun t => asks 0 t ∧
          t.dev = s.dev ∧ (t.slot n.val).starting = true ∧ (t.slot n.val).st = 0 ∧
          (t.slot n.val).instance_ = some i ∧ (t.slot n.val).desc = x.desc)) ∧
      (∀ i k p, x.st = 0 → x.starting = false → streamDescOk s n.val x.desc = true → portBusy s n.val x.desc = false →
        capacity s n.val x.desc = some (i, k, p) → ¬ cam → needsCal x.desc = false → meshRange x.desc = false →
        Completes (.slotStart n) s (fun t => OnlySlot n.val s { t with dev := s.dev } ∧
          t.dev = { s.dev with answer := 0 } ∧ (t.slot n.val).st = 1 ∧ (t.slot n.val).starting = false ∧ (t.slot n.val).reason = 0 ∧
          (t.slot n.val).instance_ = some i ∧ (t.slot n.val).decoder = k ∧ (t.slot n.val).page = p ∧ (t.slot n.val).pages = dStage x.desc ∧
          (t.slot n.val).seenAt = s.now ∧ (t.slot n.val).accepted = 0 ∧ (t.slot n.val).desc = x.desc)) ∧
      (∀ i k p, x.st = 0 → x.starting = false → streamDescOk s n.val x.desc = true → portBusy s n.val x.desc = false →
        capacity s n.val x.desc = some (i, k, p) → ¬ cam → needsCal x.desc = true → x.hostCal ≠ [] → meshRange x.desc = false →
        Completes (.slotStart n) s (fun t => OnlySlot n.val s { t with dev := s.dev } ∧
          t.dev = { s.dev with answer := 0 } ∧ (t.slot n.val).st = 0 ∧ (t.slot n.val).starting = true ∧
          (t.slot n.val).meshWait = builtViews x.desc ∧ (t.slot n.val).tabs = copyTables s x.desc)) ∧
      (∀ i k p, x.st = 0 → x.starting = false → streamDescOk s n.val x.desc = true → portBusy s n.val x.desc = false →
        capacity s n.val x.desc = some (i, k, p) → ¬ cam → needsCal x.desc = false ∨ x.hostCal ≠ [] → meshRange x.desc = true →
        ∃ u, exec (.slotStart n) s = .next (answer (stopSlot u n.val 0x0020) okCode) ∧ OnlySlot n.val s u ∧
          (u.slot n.val).desc = x.desc ∧ (u.slot n.val).instance_ = some i ∧ (u.slot n.val).tabs = {}) ∧
      (∀ i k p, x.st = 0 → x.starting = false → streamDescOk s n.val x.desc = true → portBusy s n.val x.desc = false →
        capacity s n.val x.desc = some (i, k, p) → ¬ cam → needsCal x.desc = true → x.hostCal = [] →
        Completes (.slotStart n) s (refused 0x0101)) ∧
      (x.st = 0 → exec (.stop n) s = .next (answer s wrongState)) ∧
      (x.st ≠ 0 → ∃ u, exec (.stop n) s = .next (answer (reviewBatches u n.val) okCode) ∧
        u = { s with streams := { s.streams with slot := u.streams.slot, bus := u.streams.bus } } ∧ (∀ m, m ≠ n.val → u.slot m = s.slot m) ∧
        (∀ b, b < 8 → (u.bus b).waiting = (s.bus b).waiting.filter (fun r => !isGcmdOf n.val r)) ∧
        (u.slot n.val).st = 0 ∧ (u.slot n.val).reason = 0x00FF ∧ (u.slot n.val).instance_ = none ∧ (u.slot n.val).page = [] ∧
        (u.slot n.val).pages = 0 ∧ (u.slot n.val).tabs = {}) ∧
      (x.st ≠ 2 ∨ x.starting = true → exec (.resume n) s = .next (answer s wrongState)) ∧
      (x.st = 2 → x.starting = false → needsCal x.desc = true → calibOf x = 0 → Completes (.resume n) s (refused 0x0101)) ∧
      (x.st = 2 → x.starting = false → needsCal x.desc = false ∨ calibOf x ≠ 0 → ¬ okIn → Completes (.resume n) s (refused 0x0102)) ∧
      (∀ d, x.st = 2 → x.starting = false → needsCal x.desc = false ∨ calibOf x ≠ 0 → okIn → meshMissing x = true → x.shadow = some (d, true) →
        Completes (.resume n) s (fun t => OnlySlot n.val s { t with dev := s.dev, causes := s.causes } ∧ t.dev = { s.dev with answer := 0 } ∧
          (t.slot n.val).st = 1 ∧ (t.slot n.val).desc = d ∧ (t.slot n.val).tabs = x.shadowTabs)) ∧
      (∀ d, x.st = 2 → x.starting = false → needsCal x.desc = false ∨ calibOf x ≠ 0 → okIn → meshMissing x = true → x.shadow = some (d, false) →
        (x.meshWait = [] → Completes (.resume n) s (refused 0x0020)) ∧
        (x.meshWait ≠ [] → exec (.resume n) s = .next (answer (s.setSlot n.val { x with starting := true }) okCode))) ∧
      (x.st = 2 → x.starting = false → needsCal x.desc = false ∨ calibOf x ≠ 0 → okIn → meshMissing x = true → x.shadow = none →
        Completes (.resume n) s (refused 0x0020)) ∧
      (x.st = 2 → x.starting = false → needsCal x.desc = false ∨ calibOf x ≠ 0 → okIn → meshMissing x = false → Completes (.resume n) s (fun t =>
        OnlySlot n.val s { t with dev := s.dev } ∧ t.dev = { s.dev with answer := 0 } ∧ (t.slot n.val).st = 1 ∧ (t.slot n.val).reason = 0 ∧
        (t.slot n.val).tf = none ∧ (t.slot n.val).seenAt = s.now ∧ ((t.slot n.val).waiting = true ↔ dSource x.desc = 1 ∨ dSource x.desc = 2))) ∧
      (x.st ≠ 1 → exec (.rereadCal n) s = .next (answer s wrongState)) ∧
      (x.st = 1 → cam → Completes (.rereadCal n) s (fun t => asks 1 t ∧ t.dev = { s.dev with answer := 0 } ∧
        t.slot n.val = { x with reading := (t.slot n.val).reading, reads := (t.slot n.val).reads })) ∧
      (x.st = 1 → ¬ cam → exec (.rereadCal n) s = .next (answer s okCode)))

/-- spec/07 R171, R193, R194, spec/01 R18: writing a slot's descriptor, its host calibration or its group; a running slot holds
the new descriptor as its shadow, and a second one before the frame boundary counts an overrun. spec/07 R169, R171, R172, R190: a
GCMD read that ends leaves its bus to the next transfer and stores its image and status; a starting slot goes on to its tables and meshes, one that timed out compares the
module, and the last mesh of a starting slot makes it RUNNING. -/
def Obligations.SlotSettingsAndCalibration : Prop :=
  (∀ (n : SlotNo) (s : State),
     let x := s.slot n.val
     (setupState s = false → ∀ d v, exec (.rearm n d) s = .next (answer s wrongState) ∧
       exec (.hostCalibration n d) s = .next (answer s wrongState) ∧ exec (.streamGroup n v) s = .next (answer s wrongState)) ∧
     (setupState s = true →
       (∀ d, d.length ≠ 192 → exec (.rearm n d) s = .next (answer s 0x06070010)) ∧
       (∀ d, d.length = 192 → x.starting = true → exec (.rearm n d) s = .next (answer s wrongState)) ∧
       (∀ d, d.length = 192 → x.starting = false → x.st = 0 →
         exec (.rearm n d) s = .next (answer (s.setSlot n.val { x with desc := writeBytes [] 0 d }) okCode)) ∧
       (∀ d, d.length = 192 → x.starting = false → x.st ≠ 0 → let e := writeBytes [] 0 d
         let fits := dSource e = dSource x.desc ∧ dPort e = dPort x.desc ∧ dVc e = dVc x.desc ∧ streamDescOk s n.val e = true ∧
           (needsCal e = true → calibOf { x with gcmdStatus := statusUnder x e } ≠ 0) ∧
           (∃ i, x.instance_ = some i ∧ instanceFits s n.val e i = true) ∧ encoderFits s n.val e = true ∧
           ∀ k, x.decoder = some k → decoderFits s n.val e k = true
         let overrun := if x.shadow.isSome then satAdd 32 x.overrun 1 else x.overrun
         (¬ fits → exec (.rearm n d) s = .next (answer s refusedCode)) ∧
         (fits → meshRange e = false → Completes (.rearm n d) s (fun t => OnlySlot n.val s { t with dev := s.dev } ∧
             t.dev = { s.dev with answer := 0 } ∧ (t.slot n.val).shadow = some (e, (builtViews e).isEmpty) ∧
             (t.slot n.val).shadowTabs = copyTables s e ∧ (t.slot n.val).meshWait = builtViews e ∧ (t.slot n.val).desc = x.desc ∧
             (t.slot n.val).st = x.st ∧ (t.slot n.val).overrun = overrun)) ∧
         (fits → meshRange e = true → ∃ u, exec (.rearm n d) s = .next (answer (stopSlot u n.val 0x0020) okCode) ∧ OnlySlot n.val s u ∧
             (u.slot n.val).shadow = some (e, false) ∧ (u.slot n.val).desc = x.desc ∧ (u.slot n.val).overrun = overrun)) ∧
       (∀ l, 192 < l.length → exec (.hostCalibration n l) s = .next (answer s 0x06070010)) ∧
       (exec (.hostCalibration n []) s = .next (answer (s.setSlot n.val { x with hostCal := [] }) okCode)) ∧
       (∀ l, l ≠ [] → l.length ≤ 192 → 3 ≤ gcmdStatus x.desc l ∨ gWord l 6 2 ≠ l.length →
         exec (.hostCalibration n l) s = .next (answer s refusedCode)) ∧
       (∀ l, l ≠ [] → l.length ≤ 192 → gcmdStatus x.desc l ≤ 2 → gWord l 6 2 = l.length →
         exec (.hostCalibration n l) s = .next (answer (s.setSlot n.val { x with hostCal := l }) okCode)) ∧
       (∀ v : Byte, 3 < v.toNat → exec (.streamGroup n v) s = .next (answer s outOfRange)) ∧
       (∀ v : Byte, v.toNat ≤ 3 → boundCtxs s n.val ≠ [] → exec (.streamGroup n v) s = .next (answer s wrongState)) ∧
       (∀ v : Byte, v.toNat ≤ 3 → boundCtxs s n.val = [] → Completes (.streamGroup n v) s (fun t =>
         slotGroup t n.val = v.toNat ∧ OnlySlot n.val s { t with dev := s.dev } ∧ t.dev = { s.dev with answer := 0 })))) ∧
  ((∀ (n : SlotNo) (r : GcmdRead) (s : State), (∀ b, b < 8 → (s.bus b).waiting.head?.any (isGcmdOf n.val) = false) →
     exec (.gcmdReadDone n r) s = .next s) ∧
   (∀ (n : SlotNo) (r : GcmdRead) (s : State) (b : Nat), gcmdBus s n.val = some b →
     let x := s.slot n.val
     let v := s.setBus b { s.bus b with waiting := (s.bus b).waiting.drop 1 }
     (x.reads = [] → exec (.gcmdReadDone n r) s = .next v) ∧
     (∀ why rest, x.reads = why :: rest →
     let u := storeGcmd (v.setSlot n.val { x with reads := rest, reading := !rest.isEmpty }) n.val r
     let y := u.slot n.val
     let d := match x.shadow with | some (d, _) => (d, x.shadowTabs) | none => (x.desc, x.tabs)
     (3 ≤ r.nacks → y.gcmdStatus = 3 ∧ y.gcmd = [] ∧ leafIsSet u.causes (.slot n.val 1) = true) ∧
     (r.nacks < 3 → y.gcmd = r.bytes.take (max 8 (min 192 (gWord r.bytes 6 2))) ∧ y.gcmdStatus = gcmdStatus x.desc y.gcmd ∧
       (3 ≤ y.gcmdStatus → leafIsSet u.causes (.slot n.val 1) = true) ∧ (y.gcmdStatus ≤ 2 → u.causes = s.causes)) ∧ y.reads = rest ∧ y.reading = !rest.isEmpty ∧
     (why = 0 → exec (.gcmdReadDone n r) s = .next (startTables u n.val)) ∧
     (why = 2 → moduleChanged x y = true → exec (.gcmdReadDone n r) s = .next (stopSlot u n.val 0x0030)) ∧
     (why = 2 → moduleChanged x y = false → exec (.gcmdReadDone n r) s =
       .next (u.setSlot n.val { y with timedOut := false, tf := none, smooth := none, waiting := true })) ∧
     (why = 1 → needsCal d.1 = true → calibOf y = 0 → exec (.gcmdReadDone n r) s = .next u) ∧
     (why = 1 → needsCal d.1 = false ∨ calibOf y ≠ 0 → exec (.gcmdReadDone n r) s = .next (holdTabs (u.setSlot n.val { y with
       moduleId := if imageReadable y then moduleOf y.gcmd else y.moduleId }) n.val d.1 d.2)))) ∧
   (∀ (n : SlotNo) (v : ViewNo) (s : State), let x := s.slot n.val
     (v.val ∉ x.meshWait → exec (.meshBuilt n v) s = .next s) ∧
     (x.starting = false → x.shadow = none → exec (.meshBuilt n v) s = .next s) ∧
     (v.val ∈ x.meshWait → x.starting = true → x.shadow = none → (∃ k ∈ x.meshWait, k ≠ v.val) → Completes (.meshBuilt n v) s (fun t => OnlySlot n.val s t ∧
       (t.slot n.val).meshWait = x.meshWait.filter (fun k => k != v.val) ∧ (t.slot n.val).st = x.st ∧ (t.slot n.val).starting = true ∧
       lookup [] (t.slot n.val).tabs.mesh v.val = buildMesh s x.desc x.tabs (calibBytes x) v.val)) ∧
     (v.val ∈ x.meshWait → x.starting = true → x.shadow = none → (∀ k ∈ x.meshWait, k = v.val) → Completes (.meshBuilt n v) s (fun t => OnlySlot n.val s t ∧
       (t.slot n.val).meshWait = [] ∧ (t.slot n.val).st = 1 ∧ (t.slot n.val).starting = false ∧ (t.slot n.val).calib = calibOf x ∧
       lookup [] (t.slot n.val).tabs.mesh v.val = buildMesh s x.desc x.tabs (calibBytes x) v.val)) ∧
     (∀ d b, v.val ∈ x.meshWait → x.starting = true → x.shadow = some (d, b) → (∀ k ∈ x.meshWait, k = v.val) → Completes (.meshBuilt n v) s (fun t =>
       OnlySlot n.val s { t with causes := s.causes } ∧ (t.slot n.val).desc = d ∧ (t.slot n.val).st = 1 ∧ (t.slot n.val).starting = false ∧
       lookup [] (t.slot n.val).tabs.mesh v.val = buildMesh s d x.shadowTabs (calibBytes x) v.val)) ∧
     (∀ d b, v.val ∈ x.meshWait → x.starting = false ∨ (∃ k ∈ x.meshWait, k ≠ v.val) → x.shadow = some (d, b) → Completes (.meshBuilt n v) s (fun t => OnlySlot n.val s t ∧
       (t.slot n.val).desc = x.desc ∧ (t.slot n.val).shadow = some (d, (x.meshWait.filter (fun k => k != v.val)).isEmpty) ∧
       lookup [] (t.slot n.val).shadowTabs.mesh v.val = buildMesh s d x.shadowTabs (calibBytes x) v.val))))

/-- spec/07 R165, R167, R168: lane settings, deskew and ULPS of a port; triggers pulse at T0 + k x P; a camera bus runs its
transfers one at a time and tells a Laster of in-band interrupts. -/
def Obligations.PortsTriggersAndBuses : Prop :=
  (∀ (p : PortNo) (v : Byte) (s : State),
    (setupState s = false → exec (.lanes p v) s = .next (answer s wrongState)) ∧
    (setupState s = true → (v ≠ 2 ∧ v ≠ 4) ∨ (v = 4 ∧ p.val % 2 = 1) → exec (.lanes p v) s = .next (answer s outOfRange)) ∧
    (setupState s = true → v = 2 ∨ (v = 4 ∧ p.val % 2 = 0) → namesPort s [p.val / 2 * 2, p.val / 2 * 2 + 1] = true →
      exec (.lanes p v) s = .next (answer s wrongState)) ∧
    (setupState s = true → v = 2 ∨ (v = 4 ∧ p.val % 2 = 0) → namesPort s [p.val / 2 * 2, p.val / 2 * 2 + 1] = false →
      exec (.lanes p v) s = .next (answer (s.setPort p.val { s.port p.val with lanes := v.toNat }) okCode))) ∧
  (∀ (p : PortNo) (b : Bool) (s : State),
    exec (.deskewCalibration p b) s = .next (s.setPort p.val { s.port p.val with deskewed := true }) ∧
    exec (.ulps p b) s = .next (s.setPort p.val { s.port p.val with ulps := b })) ∧
  (∀ (n : TrigNo) (s : State),
    let x := s.trig n.val
    (∀ e, x.nextEdge = some e → x.enable = true → e ≤ s.now → x.pend = none → Completes (.triggerEdge n) s (fun t =>
      t = { s with streams := { s.streams with trig := t.streams.trig } } ∧ (∀ m, m ≠ n.val → t.trig m = s.trig m) ∧
      t.trig n.val = { x with pulseUntil := some (e + x.width), nextEdge := if x.period = 0 then none else firstEdge (e + 1) x.t0 x.period })) ∧
    (∀ e t0 pd w pol, x.nextEdge = some e → x.enable = true → e ≤ s.now → x.pend = some (t0, pd, w, pol) → Completes (.triggerEdge n) s (fun t =>
      t.trig n.val = { x with t0 := t0, period := pd, width := w, polarity := pol, pend := none, pulseUntil := some (e + w),
                              nextEdge := firstEdge (e + 1) t0 pd })) ∧
    (x.nextEdge = none ∨ x.enable = false ∨ (∃ e, x.nextEdge = some e ∧ s.now < e) → exec (.triggerEdge n) s = .next s) ∧
    (setupState s = false → ∀ on t0 pd w pol, exec (.triggerEnable n on) s = .next (answer s wrongState) ∧
      exec (.triggerConfig n t0 pd w pol) s = .next (answer s wrongState)) ∧
    (setupState s = true → x.pend = none → ∀ on, Completes (.triggerEnable n on) s (fun t => t.dev = { s.dev with answer := 0 } ∧
      (∀ m, m ≠ n.val → t.trig m = s.trig m) ∧
      t.trig n.val = { x with enable := on, nextEdge := if on then firstEdge s.now x.t0 x.period else none } ∧
      (on = true → firstEdge s.now x.t0 x.period = none → leafIsSet t.causes (.main gStream (32 + n.val)) = true) ∧
      (on = false → t.causes = s.causes))) ∧
    (setupState s = true → ∀ (t0 : BitVec 64) (pd w : BitVec 32) (pol : Byte),
      (trigOk pd.toNat w.toNat pol.toNat = false → exec (.triggerConfig n t0 pd w pol) s = .next (answer s outOfRange)) ∧
      (trigOk pd.toNat w.toNat pol.toNat = true → x.enable = false → exec (.triggerConfig n t0 pd w pol) s = .next (answer (s.setTrig n.val
        { x with t0 := t0.toNat, period := pd.toNat, width := w.toNat, polarity := pol.toNat }) okCode)) ∧
      (trigOk pd.toNat w.toNat pol.toNat = true → x.enable = true → exec (.triggerConfig n t0 pd w pol) s = .next (answer (s.setTrig n.val
        { x with pend := some (t0.toNat, pd.toNat, w.toNat, pol.toNat) }) okCode)))) ∧
  (∀ now t0 p e, 0 < p → t0 < now → firstEdge now t0 p = some e → e % 10 = 0 ∧ ∃ k, now < t0 + k * p ∧ t0 + k * p ≤ now + p ∧
    t0 + k * p ≤ e ∧ e < t0 + k * p + 10) ∧
  (∀ (b : BusNo) (s : State), ((s.bus b.val).mode = 2 → exec (.inBandInterrupt b) s = .next s ∧ exec (.hotJoin b) s = .next s) ∧
    (∀ m, (s.bus b.val).mode ≠ 2 → busSlot s b.val = some m →
      exec (.inBandInterrupt b) s = .next (sendNotice s (slotGroup s m % 4) (streamSrc m) (.streamBus b.val false)) ∧
      exec (.hotJoin b) s = .next (sendNotice s (slotGroup s m % 4) (streamSrc m) (.streamBus b.val true)))) ∧
  (∀ (b : BusNo) (l : List Byte) (s : State), let x := s.bus b.val
    (setupState s = false → exec (.busTransfer b l) s = .next (answer s wrongState)) ∧
    (setupState s = true → 260 < l.length → exec (.busTransfer b l) s = .next (answer s 0x06070010)) ∧
    (setupState s = true → l.length ≤ 260 → exec (.busTransfer b l) s =
      .next (answer (s.setBus b.val { x with waiting := x.waiting ++ [.host l] }) okCode)) ∧
    (x.waiting = [] → exec (.busTransferDone b l) s = .next s) ∧
    (∀ k a w rest, x.waiting = .gcmd k a w :: rest → exec (.busTransferDone b l) s = .next s) ∧
    (∀ q rest, x.waiting = .host q :: rest → exec (.busTransferDone b l) s =
      .next (s.setBus b.val { x with waiting := rest, result := l.take 260 })))

/-- The bytes of a sample lie in its place of a batch buffer of LPDDR6, where the package gives one, and every other byte of
LPDDR6 reads as before. -/
def SampleIn (s u : State) (c : Nat) (buf : Option Nat) (p : Nat) (data : List Byte) : Prop :=
  (∀ k g o, buf = some k → (s.ctx c).pkg = some g → (g.batchAt.getD k [])[p]? = some o → o + data.length ≤ g.allocBytes →
    (∀ i, i < data.length → readByte u.fabric.lpddr ((s.ctx c).allocAt + o + i) = data.getD i 0) ∧
    (∀ a, a < (s.ctx c).allocAt + o ∨ (s.ctx c).allocAt + o + data.length ≤ a → readByte u.fabric.lpddr a = readByte s.fabric.lpddr a)) ∧
  (buf = none → u.fabric = s.fabric)

/-- spec/11 R283, spec/07 R181, R184, R185, R187, R189: a stream doorbell moves a slot's producer index or sets DB_RANGE; the
decoder takes the entry at the consumer index, stops the slot on a bad entry, a declared size beyond its descriptor or a bitstream
error, and passes a frame on. spec/07 R191, R192, spec/12 R313: a sample joins the open batch of its context or opens one, and one
from before the launch is passed over; a batch closes at the end of its window. -/
def Obligations.HostFramesSamplesAndBatches : Prop :=
  ((∀ (ch : ChanNo) (k : Fin 16) (w : Word) (s : State),
     let n := 2 * k.val + ch.val
     let x := s.slot n
     let i := BitVec.ofNat 32 (w.toNat / 2 ^ 32)
     let bad := x.st = 0 ∨ hostSlot x = false ∨ 128 < (i - x.cons).toNat ∨ (i - x.cons).toNat < (x.prod - x.cons).toNat
     (¬ bad → i ≠ x.prod → streamRing s ch.val k.val (w ||| 0x80000000) =
       s.setSlot n { x with prod := i, rings := x.rings ++ [(i, s.now)] }) ∧
     (¬ bad → i = x.prod → streamRing s ch.val k.val (w ||| 0x80000000) = s) ∧
     (bad → leafIsSet (streamRing s ch.val k.val (w ||| 0x80000000)).causes (.main gHmp 4) = true ∧
       (streamRing s ch.val k.val (w ||| 0x80000000)).streams = s.streams) ∧
     (∀ v : Word, v.getLsbD 31 = false → streamRing s ch.val k.val v = s)) ∧
   (∀ (n : SlotNo) (d : Declared) (s : State),
     let x := s.slot n.val
     let e := frameEntry s n.val
     let ready := x.st = 1 ∧ x.decoding = false ∧ x.prod ≠ x.cons ∧ slotBlocked s n.val = false ∧ declaredFits x d = true
     let clean := (s.chan (n.val % 2)).bad = []
     (¬ ready → exec (.frameEntryTaken n d) s = .next s) ∧
     (ready → x.shadow = none → streamBad (s.chan (n.val % 2)) (entryBase n.val + 32 * (x.cons.toNat % 128)) 32 = true →
       exec (.frameEntryTaken n d) s = .next (stopEntry s n.val 0x0011)) ∧
     (ready → x.shadow = none → clean → e.2 = 0 ∨ x.pages * 65536 ≤ e.1 ∨ x.pages * 65536 < e.2 →
       exec (.frameEntryTaken n d) s = .next (stopEntry s n.val 0x0013)) ∧
     (∀ r, ready → x.shadow = none → clean → ¬ (e.2 = 0 ∨ x.pages * 65536 ≤ e.1 ∨ x.pages * 65536 < e.2) → declaredCheck x d = some r →
       exec (.frameEntryTaken n d) s = .next (stopEntry s n.val r)) ∧
     (ready → x.shadow = none → clean → ¬ (e.2 = 0 ∨ x.pages * 65536 ≤ e.1 ∨ x.pages * 65536 < e.2) → declaredCheck x d = none →
       Completes (.frameEntryTaken n d) s (fun t => OnlySlot n.val s t ∧ t.slot n.val = { x with decoding := true }))) ∧
   (∀ (n : SlotNo) (r : Decoded) (s : State),
     let x := s.slot n.val
     (x.st ≠ 1 ∨ x.decoding = false → exec (.decodeDone n r) s = .next s) ∧
     (x.st = 1 → x.decoding = true → r = .bitstreamError → exec (.decodeDone n r) s = .next (stopEntry s n.val 0x0011)) ∧
     (x.st = 1 → x.decoding = true → r = .unsupported → exec (.decodeDone n r) s = .next (stopEntry s n.val 0x0012)) ∧
     (∀ vui ten w h px, x.st = 1 → x.decoding = true → r = .frame vui ten w h px false → x.waiting = true → Completes (.decodeDone n r) s (fun t =>
       OnlySlot n.val s t ∧ (t.slot n.val).cons = x.cons + 1 ∧ (t.slot n.val).dropped = satAdd 32 x.dropped 1 ∧
       (t.slot n.val).decoding = false ∧ (t.slot n.val).accepted = x.accepted)) ∧
     (∀ vui ten w h px i, x.st = 1 → x.decoding = true → r = .frame vui ten w h px i → x.waiting = false ∨ i = true →
       decodedMatrix x vui = none → exec (.decodeDone n r) s = .next (stopEntry s n.val 0x0012)) ∧
     (dSource x.desc = 3 → ∀ vui, decodedMatrix x vui = some (0, true)) ∧
     (dSource x.desc = 2 → decodedMatrix x none = some (1, false) ∧ ∀ m full,
       (m = 1 → decodedMatrix x (some (m, full)) = some (1, full)) ∧ (m = 5 ∨ m = 6 → decodedMatrix x (some (m, full)) = some (0, full)) ∧
       (m ≠ 1 → m ≠ 5 → m ≠ 6 → decodedMatrix x (some (m, full)) = none)) ∧
     (∀ vui ten w h px i m, x.st = 1 → x.decoding = true → r = .frame vui ten w h px i → x.waiting = false ∨ i = true →
       decodedMatrix x vui = some m → ∃ u,
       exec (.decodeDone n r) s = .next (clickFrame u n.val x.desc x.tabs (decodedImage m ten w h px) (entryTime x) false) ∧
       OnlySlot n.val s u ∧ (u.slot n.val).cons = x.cons + 1 ∧ (u.slot n.val).accepted = satAdd 32 x.accepted 1 ∧
       (u.slot n.val).waiting = false ∧ (u.slot n.val).decoding = false))) ∧
  ((∀ (c : CtxNo) (p : Fin 16) (s : State),
     let x := s.ctx c.val
     (x.loaded = false ∨ x.npos ≤ p.val ∨ nextSample s x p.val = none → exec (.sampleArrival c p) s = .next s) ∧
     (∀ v, x.loaded = true → p.val < x.npos → nextSample s x p.val = some v →
       let u := s.setCtx c.val { x with taken := put 0 x.taken p.val v.seq }
       (forms x = false ∨ v.tInput < x.launched →
         exec (.sampleArrival c p) s = .next (pruneView u (x.pos p.val).1 (x.pos p.val).2)) ∧
       (forms x = true → x.launched ≤ v.tInput →
         exec (.sampleArrival c p) s = .next (pruneView (addSample u c.val p.val v) (x.pos p.val).1 (x.pos p.val).2)))) ∧
   (∀ (c p : Nat) (v : Sample) (s : State),
     let x := s.ctx c
     (x.openBatch = none → ∃ u b, addSample s c p v = tryClose u c ∧ (u.ctx c).openBatch = some b ∧ b.samples = [(p, v)] ∧ b.opened = s.now ∧
       b.buf = freeBuffer s c ∧ SampleIn s u c b.buf p v.data ∧ u = { s with ctxs := u.ctxs, fabric := u.fabric }) ∧
     (∀ b, x.openBatch = some b → (b.samples.any (fun q => q.1 == p)) = false → ∃ u d, addSample s c p v = tryClose u c ∧
       (u.ctx c).openBatch = some d ∧ (p, v) ∈ d.samples ∧ d.opened = b.opened ∧
       d.buf = b.buf ∧ SampleIn s u c b.buf p v.data ∧ u = { s with ctxs := u.ctxs, fabric := u.fabric })) ∧
   (∀ (c : CtxNo) (s : State),
     ((s.ctx c.val).openBatch = none → exec (.batchWindow c) s = .next s) ∧
     (∀ b, (s.ctx c.val).openBatch = some b → s.now < b.opened + (s.ctx c.val).window → exec (.batchWindow c) s = .next s) ∧
     (∀ b, (s.ctx c.val).openBatch = some b → b.opened + (s.ctx c.val).window ≤ s.now →
       exec (.batchWindow c) s = .next (closeBatch s c.val))) ∧
   (∀ (c : Nat) (s : State) (b : Batch), (s.ctx c).openBatch = some b → activeCtx (s.ctx c) = false → (s.ctx c).batches.length < (s.ctx c).depth →
     ((closeBatch s c).ctx c).openBatch = none ∧ ((closeBatch s c).ctx c).batches = (s.ctx c).batches ++ [closeOf s (s.ctx c) b] ∧
     (closeOf s (s.ctx c) b).voidPos = emptyPos (s.ctx c) b ∧ closeBatch s c = { s with ctxs := (closeBatch s c).ctxs, fabric := (closeBatch s c).fabric } ∧
     (emptyPos (s.ctx c) b = [] → (closeBatch s c).fabric = s.fabric)))

/-- spec/07 R186: an encoder writes its pictures into the recording's ring in LPDDR6, under the host's owner tag, an IDR picture begins a
GOP under the settings then in force, one is due at the first picture and once the GOP in force has its length, and the producer index
advances; where the host has not taken the ring in time the oldest complete GOP is overwritten, counted and reported; the source is
chosen while the slots it names are idle, its reserved bits ignored (spec/00 R8); the host writes its consumer index. -/
def Obligations.Recording : Prop :=
  (∀ (e : RecNo) (idr : Bool) (data : List Byte) (s : State), let x := s.record e.val
    (x.source.getLsbD 15 = false → exec (.encodedPicture e idr data) s = .next s) ∧
    (x.source.getLsbD 15 = true → idr ≠ gopDue x → exec (.encodedPicture e idr data) s = .next s) ∧
    (gopDue x = true ↔ x.inGop = 0 ∨ x.inForce.1 ≤ x.inGop) ∧
    (x.source.getLsbD 15 = true → idr = gopDue x →
      let p := x.prod + BitVec.ofNat 32 data.length
      let gops := if idr then x.gops ++ [x.prod] else x.gops
      let place := fun (i : Nat) => x.addr + (x.prod.toNat + i) % 2 ^ 32 % x.size
      Completes (.encodedPicture e idr data) s (fun t =>
        (t.record e.val).prod = p ∧ (t.record e.val).inGop = (if idr then 1 else x.inGop + 1) ∧
        (t.record e.val).inForce = (if idr then (x.gop, x.rate, x.qp, x.bitrate) else x.inForce) ∧
        (t.record e.val).source = x.source ∧ (t.record e.val).cons = x.cons ∧ (t.record e.val).addr = x.addr ∧ (t.record e.val).size = x.size ∧
        t = { s with streams := { s.streams with rec_ := t.streams.rec_ }, fabric := t.fabric, causes := t.causes } ∧
        (∀ k, k ≠ e.val → t.record k = s.record k) ∧
        -- the ring's bytes, in LPDDR6 under the host's tag
        (∀ i, i < data.length → (∀ j, i < j → j < data.length → place j ≠ place i) → hostMayWrite s (place i) = true →
          place i < lpddrSize → lostAddr s (place i) = false →
          readByte t.fabric.lpddr (place i) = data.getD i 0 ∧ ownerTag t (place i) = 0xFFFE) ∧
        (∀ a, (∀ i, i < data.length → place i ≠ a) ∨ hostMayWrite s a = false ∨ lostAddr s a = true →
          readByte t.fabric.lpddr a = readByte s.fabric.lpddr a) ∧
        -- a picture that fits, or one with no complete GOP to give up, overwrites none
        (recUsed x + data.length ≤ x.size ∨ gops.length ≤ 1 → t.causes = s.causes ∧ (t.record e.val).overwritten = x.overwritten ∧
          ((∀ b ∈ gops, (p - b).toNat ≤ x.size) → (t.record e.val).gops = gops ∧ (t.record e.val).oldest = gops.headD x.oldest)) ∧
        -- another one overwrites the oldest complete GOP
        (∀ a b l, gops = a :: b :: l → x.size < recUsed x + data.length → recUsed { x with oldest := b } + data.length ≤ x.size →
          leafIsSet t.causes (.main gCodec (32 + e.val)) = true ∧ (t.record e.val).overwritten = satAdd 32 x.overwritten 1 ∧
          ((∀ g ∈ b :: l, (p - g).toNat ≤ x.size) → (t.record e.val).gops = b :: l ∧ (t.record e.val).oldest = b))))) ∧
  (∀ (e : RecNo) (v : BitVec 16) (s : State), let x := s.record e.val
    let on := v.getLsbD 15 = true
    let busy := (on ∧ (s.slot (v.toNat % 32)).held = true) ∨ (x.source.getLsbD 15 = true ∧ (s.slot (x.source.toNat % 32)).held = true)
    (setupState s = false → exec (.recordingSource e v) s = .next (answer s wrongState)) ∧
    (setupState s = true → busy → exec (.recordingSource e v) s = .next (answer s wrongState)) ∧
    (setupState s = true → ¬ busy → on → x.size = 0 → exec (.recordingSource e v) s = .next (answer s refusedCode)) ∧
    (setupState s = true → ¬ busy → ¬ on ∨ x.size ≠ 0 → Completes (.recordingSource e v) s (fun t =>
      (t.record e.val).source = v &&& 0x831F ∧ t.dev = { s.dev with answer := 0 } ∧ (∀ k, k ≠ e.val → t.record k = s.record k) ∧
      (t.record e.val).addr = x.addr ∧ (t.record e.val).size = x.size ∧
      (on → x.source.getLsbD 15 = false → (t.record e.val).prod = 0 ∧ (t.record e.val).cons = 0)))) ∧
  (∀ (e : RecNo) (v : BitVec 32) (s : State),
    (setupState s = false → exec (.consumerIndex e v) s = .next (answer s wrongState)) ∧
    (setupState s = true → exec (.consumerIndex e v) s = .next (answer (s.setRec e.val { s.record e.val with cons := v }) okCode)))

/-! ### The host port -/

/-- spec/11 R272, R298, R299: a channel that is unpowered or in reset receives no command; after an unsupported command it faults
until it is initialised again; in self-refresh it receives SRX alone, in power-down PDX alone. spec/11 R271 to R274, R298: what
each LPDDR5X command does to an idle channel; RD and WR address the aperture at row x 32,768 + bank x 2,048 + 2 x column. -/
def Obligations.ChannelCommands : Prop :=
  ((∀ (i : Instr) (ch : ChanNo) (wake : Nat) (s : State), channelCommand i = some (ch, wake) → wellFormed i = true →
     (portPowered s = false ∨ (s.chan ch.val).resetLow = true → exec i s = .next s) ∧
     (portPowered s = true → (s.chan ch.val).resetLow = false → (s.chan ch.val).undefined = true → exec i s = .fault .channelUndefined) ∧
     (∀ power, Received s ch power → power ≠ wake → exec i s = .next s)) ∧
   (∀ (ch : ChanNo) (power : Nat) (s : State), Received s ch power →
     exec (.unsupportedCommand ch) s = .next (s.setChan ch.val { s.chan ch.val with undefined := true })) ∧
   (∀ (ch : ChanNo) (low : Bool) (s : State), let c := s.chan ch.val
     exec (.hmpResetN ch low) s = .next (s.setChan ch.val
       { c with power := 0, wckSync := false, cbt := false, wckLevel := false, mr := [], wfifo := [], undefined := false, dq := [], resetLow := low }))) ∧
  (∀ (ch : ChanNo) (s : State) (ba : Fin 16) (row : BitVec 16) (col : BitVec 10),
     let c := s.chan ch.val
     let a := row.toNat * 32768 + ba.val * 2048 + 2 * col.toNat
     (Received s ch 0 →
       (∀ b, exec (.act ch ba row) s = .next s ∧ exec (.pre ch b) s = .next s ∧ exec (.rfm ch) s = .next s ∧
         exec (.zqCalibrationStart ch) s = .next s ∧ exec (.zqCalibrationLatch ch) s = .next s) ∧
       exec (.rd ch ba row col false) s = .next (portRead s ch.val a 32) ∧ exec (.rd ch ba row col true) s = .next (portRead s ch.val a 64) ∧
       (∀ data mask, exec (.wr ch ba row col data) s = .next (portWrite s ch.val a data []) ∧
         exec (.mwr ch ba row col data mask) s = .next (portWrite s ch.val a data mask)) ∧
       exec (.cas ch) s = .next (s.setChan ch.val { c with wckSync := true }) ∧
       exec (.ref ch) s = .next (s.setChan ch.val { c with fixes := [] }) ∧
       exec (.sre ch) s = .next (s.setChan ch.val { c with power := 1, wckSync := false }) ∧
       exec (.pde ch) s = .next (s.setChan ch.val { c with power := 2, wckSync := false }) ∧
       (∀ ma op, exec (.mrw ch ma op) s = .next (s.setChan ch.val
         (if Config.mrEffective ma.toNat then { c with mr := put 0 c.mr ma.toNat op } else c))) ∧
       exec (.mrr ch 5) s = .next (s.setChan ch.val { c with dq := [0xA7] }) ∧
       exec (.mrr ch 6) s = .next (s.setChan ch.val { c with dq := [0xB1] }) ∧
       (∀ ma : Byte, ma ≠ 4 → ma ≠ 5 → ma ≠ 6 → ma ≠ 8 → exec (.mrr ch ma) s = .next (s.setChan ch.val
         { c with dq := [if Config.mrEffective ma.toNat then lookup 0 c.mr ma.toNat else 0] })) ∧
       (∀ b, exec (.commandBusTraining ch b) s = .next (s.setChan ch.val { c with cbt := b }) ∧
         exec (.wck2ckLevelling ch b) s = .next (s.setChan ch.val { c with wckLevel := b })) ∧
       exec (.readDqCalibration ch) s = .next (s.setChan ch.val { c with dq := Config.dqCalibration c.mr }) ∧
       (∀ data, exec (.wff ch data) s = .next (s.setChan ch.val { c with wfifo := c.wfifo ++ data })) ∧
       Completes (.rff ch) s (fun t => OnlyChan ch.val s t ∧ (t.chan ch.val).dq.take c.wfifo.length = c.wfifo.take 32 ∧
         (t.chan ch.val).dq.length = 32 ∧ (t.chan ch.val).wfifo = c.wfifo.drop 32 ∧ (t.chan ch.val).buffer = c.buffer)) ∧
     (Received s ch 1 → exec (.srx ch) s = .next (s.setChan ch.val { c with power := 0 })) ∧
     (Received s ch 2 → exec (.pdx ch) s = .next (s.setChan ch.val { c with power := 0 })))

/-- spec/11 R274, R275, R278 to R281, R289: a read of the identification page returns its words whether a version is selected or
not; before one is selected every other offset reads 0; a bulk read that no armed slot serves returns 0x5A and sets UNARMED_READ;
a write before selection changes nothing but NEG_SELECT. spec/11 R277, R278, R281, R283, R286, R287: a doubleword written to a
port register is performed at once where no posted write waits, and waits behind the posted writes otherwise; the doorbells, the
bulk map and the arm registers are such registers. spec/11 R279, R281, R284, R285, R287, R288: a register under a partial mask is left
unchanged; a ring-window byte lands in a SUBMIT ring's entries alone, a stream-window byte where the region is backed; reads of armed
lines return the staged copy, which host writes to them update; a selected version stays. -/
def Obligations.PortReadsAndWrites : Prop :=
  ((∀ (ch n : Nat) (s : State), ch < 2 → n ≤ 8 →
     (portRead s ch 0 n).chan ch = { s.chan ch with dq := (leBytes 8 (0x6440 * 2 ^ 48 + 0xB1 * 2 ^ 40 + ch * 2 ^ 32 + 0x41494C51)).take n } ∧
     portRead s ch 0 n = s.setChan ch ((portRead s ch 0 n).chan ch)) ∧
   (∀ (ch off n : Nat) (s : State), selected s = false → 0x1010 ≤ off → off + n ≤ 2 ^ 31 →
     portRead s ch off n = s.setChan ch { s.chan ch with dq := List.replicate n 0 }) ∧
   (∀ (ch off n : Nat) (s : State), selected s = true → 0x40000000 ≤ off → off + n ≤ 2 ^ 31 → 0 < n →
     ((s.chan ch).slotOf 0).state = 0 → ((s.chan ch).slotOf 1).state = 0 →
     ((portRead s ch off n).chan ch).dq = List.replicate n 0x5A ∧ leafIsSet (portRead s ch off n).causes (.main gHmp 0) = true ∧
     (portRead s ch off n).fabric = s.fabric ∧ (portRead s ch off n).cells = s.cells) ∧
   (∀ (ch off : Nat) (data : List Byte) (s : State), selected s = false → s.hmp.negState ≠ 3 → data ≠ [] → 0x1010 ≤ off →
     leafIsSet (portWrite s ch off data []).causes (.main gHmp 2) = true ∧ (portWrite s ch off data []).hmp = s.hmp ∧
     (portWrite s ch off data []).fabric = s.fabric ∧ (portWrite s ch off data []).queues = s.queues) ∧
   -- armed lines of the bulk window
   (∀ (c : Chan) (w k : Nat), k < 2 → let x := c.slotOf k
     (armServes x w = true ↔ armStart x ≤ w ∧ w < armStart x + armPages x * 4096 ∧
       (x.state = 2 ∨ (x.state = 3 ∧ w - armStart x < x.readable))) ∧
     ((k = 1 → armServes (c.slotOf 0) w = false) → armServes x w = true → bulkByte c w = some
       (if (w - armStart x) / 32 ∈ x.fill ∨ stagingBad c (0x800000 + 0x400000 * k + (w - armStart x)) = true then 0x5A
        else readByte x.data (w - armStart x))) ∧
     (armServes (c.slotOf 0) w = false → armServes (c.slotOf 1) w = false → bulkByte c w = none)) ∧
   (∀ (ch off n : Nat) (s : State), selected s = true → 0x40000000 ≤ off → off + n ≤ 2 ^ 31 →
     (∀ i, i < n → bulkByte (s.chan ch) (off + i - 0x40000000) ≠ none) → portRead s ch off n = s.setChan ch { s.chan ch with
       dq := (List.range n).map (fun i => (bulkByte (s.chan ch) (off + i - 0x40000000)).getD 0x5A) }) ∧
   (∀ (ch off : Nat) (data : List Byte) (mask : List Bool) (s : State), selected s = true → 0x40000000 ≤ off → mapped (s.chan ch) = true →
     asleep s = false → let t := portWrite s ch off data mask
     t = s.setChan ch (t.chan ch) ∧ (t.chan ch).buffer = (s.chan ch).buffer ++ [⟨off, data, mask⟩] ∧
     ∀ i, i < data.length → let w := off + i - 0x40000000
       let c := s.chan ch
       (∀ k, k < 2 → armServes (c.slotOf k) w = true → (c.slotOf k).state = 2) →
       armServes (c.slotOf 0) w = true ∨ armServes (c.slotOf 1) w = true →
       mask.getD i false = false → (bulkRights s (mapOwner c) (mapBase c + w)).1 = true → lostAddr s (mapBase c + w) = false →
       bulkByte (t.chan ch) w = some (data.getD i 0))) ∧
  -- the ring and stream windows
  ((∀ (ch off n : Nat) (s : State), selected s = true → (s.chan ch).buffer = [] → off + n ≤ 0x4000000 →
     (0x1000000 ≤ off → off + n ≤ 0x2000000 → portRead s ch off n = s.setChan ch { s.chan ch with
       dq := (List.range n).map (fun i => ringByteRead s ch (off + i - 0x1000000)) }) ∧
     (0x2000000 ≤ off → portRead s ch off n = s.setChan ch { s.chan ch with
       dq := (List.range n).map (fun i => streamByteRead s ch (off + i - 0x2000000)) })) ∧
   (∀ (ch o : Nat) (s : State),
     (∀ a, streamAt s ch o = some a → stagingBad (s.chan ch) (0x500000 + a) = false → streamByteRead s ch o = readByte (s.chan ch).stream a) ∧
     (streamAt s ch o = none → streamByteRead s ch o = 0) ∧ (queueAt s ch o = none → ringByteRead s ch o = 0) ∧
     (queueAt s ch o ≠ none → stagingBad (s.chan ch) (0x10000 + o) = false → ringByteRead s ch o = readByte (s.chan ch).ring o) ∧
     let x := s.slot (2 * (o / 0x200000) + ch)
     let r := o % 0x200000
     (ch < 2 → r < 0x1000 → streamAt s ch o = some (o / 0x200000 * 4096 + r)) ∧
     (0x1000 ≤ r → (streamAt s ch o ≠ none ↔ (dSource x.desc = 2 ∨ dSource x.desc = 3) ∧ r - 0x1000 < x.pages * 65536))) ∧
   (∀ (ch off : Nat) (data : List Byte) (mask : List Bool) (s : State), selected s = true → (s.chan ch).buffer = [] → 0x1000000 ≤ off →
     off + data.length ≤ 0x2000000 → let t := portWrite s ch off data mask
     let taken := fun (o : Nat) => ∃ q x, queueAt s ch o = some (q, x) ∧ x.typ = .submit ∧ x.base + 64 ≤ o ∧ o < x.base + 64 + 64 * x.entries
     t = { s with causes := t.causes, hmp := { s.hmp with chan := t.hmp.chan } } ∧ (∀ k, k ≠ ch → t.chan k = s.chan k) ∧
     (∀ i, i < data.length → let o := off + i - 0x1000000
       (mask.getD i false = false → taken o → ringByteRead t ch o = data.getD i 0) ∧
       (mask.getD i false = true ∨ ¬ taken o → readByte (t.chan ch).ring o = readByte (s.chan ch).ring o) ∧
       (mask.getD i false = false → queueAt s ch o = none → leafIsSet t.causes (.main gHmp 1) = true) ∧
       (mask.getD i false = false → queueAt s ch o ≠ none → ¬ taken o → leafIsSet t.causes (.main gHmp 3) = true)) ∧
     ∀ o, o + 0x1000000 < off ∨ off + data.length ≤ o + 0x1000000 → readByte (t.chan ch).ring o = readByte (s.chan ch).ring o) ∧
   (∀ (ch off : Nat) (data : List Byte) (mask : List Bool) (s : State), selected s = true → (s.chan ch).buffer = [] → 0x2000000 ≤ off →
     off + data.length ≤ 0x4000000 → let t := portWrite s ch off data mask
     let at_ := fun (i : Nat) => if mask.getD i false then none else streamAt s ch (off + i - 0x2000000)
     t = { s with causes := t.causes, hmp := { s.hmp with chan := t.hmp.chan } } ∧ (∀ k, k ≠ ch → t.chan k = s.chan k) ∧
     (∀ i a, i < data.length → at_ i = some a → (∀ j, i < j → j < data.length → at_ j ≠ some a) →
       streamByteRead t ch (off + i - 0x2000000) = data.getD i 0) ∧
     (∀ i, i < data.length → mask.getD i false = false → streamAt s ch (off + i - 0x2000000) = none →
       leafIsSet t.causes (.main gHmp 1) = true) ∧
     ∀ a, (∀ i, i < data.length → at_ i ≠ some a) → readByte (t.chan ch).stream a = readByte (s.chan ch).stream a)) ∧
  -- registers under a mask, and negotiation once a version is selected
  ((∀ (ch off k : Nat) (data : List Byte) (mask : List Bool) (s : State), selected s = true → data.length = 8 * k → off % 8 = 0 →
     0x1000 ≤ off → off + 8 * k ≤ 0x9000 → portWrite s ch off data mask = (List.range k).foldl (fun u w =>
       let m := (List.range 8).map (fun i => mask.getD (8 * w + i) false)
       if m.all (! ·) then postControl u ch (off + 8 * w) (BitVec.ofNat 64 (leNat ((data.drop (8 * w)).take 8)))
       else if m.all (·) then u else hmpLeaf u ch 6 (off + 8 * w)) s) ∧
   (∀ (ch off : Nat) (v : Word) (s : State),
     ((s.chan ch).buffer = [] → postControl s ch off v = performWrite s ch off v) ∧
     ((s.chan ch).buffer ≠ [] → postControl s ch off v = s.setChan ch
       { s.chan ch with buffer := (s.chan ch).buffer ++ [⟨off, leBytes 8 v.toNat, []⟩] })) ∧
   (∀ (ch : Nat) (w : Word) (s : State), selected s = true →
     (s.hmp.major = w.toNat / 256 % 256 → s.hmp.minor = w.toNat % 256 → negotiate s ch w = { s with hmp := { s.hmp with negSelect := w &&& 0xFFFF } }) ∧
     (s.hmp.major ≠ w.toNat / 256 % 256 ∨ s.hmp.minor ≠ w.toNat % 256 → (negotiate s ch w).hmp.negState = 2 ∧
       (negotiate s ch w).hmp.major = s.hmp.major ∧ (negotiate s ch w).hmp.minor = s.hmp.minor ∧
       leafIsSet (negotiate s ch w).causes (.main gHmp 13) = true))) ∧
  (∀ (ch : ChanNo) (w : Word) (s : State),
     (Writes s ch →
       exec (.queueDoorbell ch w) s = .next (ringQueue s ch.val 0x4000 w) ∧
       (∀ k, exec (.streamDoorbell ch k w) s = .next (streamRing s ch.val k.val w)) ∧
       exec (.bulkMap ch w) s = .next (performMap s ch.val w) ∧
       (∀ k, exec (.arm ch k w) s = .next (performArm s ch.val k.val w)) ∧
       (∀ k, w.toNat % 2048 = 0 → exec (.disarm ch k w) s = .next (performArm s ch.val k.val w)) ∧
       exec (.negSelect ch w) s = .next (negotiate s ch.val w) ∧
       (∀ ws, ws.length ≤ 8 → 3 ≤ s.hmp.minor → exec (.multiQueueDoorbell ch ws) s =
         .next ((indexed ws).foldl (fun s p => ringQueue s ch.val (0x4040 + 8 * p.1) p.2) s)) ∧
       (∀ v ws, ws.length ≤ 7 → s.hmp.minor < 3 → Completes (.multiQueueDoorbell ch (v :: ws)) s (fun t =>
         leafIsSet t.causes (.main gHmp 2) = true ∧ t.queues = s.queues ∧ t.lasters = s.lasters)) ∧
       (∀ off : BitVec 16, off.toNat % 8 = 0 → 0x1000 ≤ off.toNat → off.toNat < 0x9000 →
         exec (.registerWrite (.port ch off w)) s = .next (performWrite s ch.val off.toNat w))) ∧
     (∀ off : BitVec 16, Received s ch 0 → selected s = true → (s.chan ch.val).buffer ≠ [] → off.toNat % 8 = 0 → 0x1000 ≤ off.toNat →
       off.toNat < 0x9000 → exec (.registerWrite (.port ch off w)) s = .next (s.setChan ch.val
         { s.chan ch.val with buffer := (s.chan ch.val).buffer ++ [⟨off.toNat, leBytes 8 w.toNat, []⟩] })) ∧
     (Received s ch 0 → selected s = false → s.hmp.negState ≠ 3 → exec (.negSelect ch w) s = .next (negotiate s ch.val w)) ∧
     (Received s ch 0 → selected s = false → s.hmp.negState = 3 → exec (.negSelect ch w) s = .next s) ∧
     (selected s = false → w.toNat / 256 % 256 = 1 → w.toNat % 256 ≤ 3 → negotiate s ch.val w =
       { s with hmp := { s.hmp with negSelect := w &&& 0xFFFF, major := 1, minor := w.toNat % 256, negState := 1 } }) ∧
     (selected s = false → w.toNat / 256 % 256 ≠ 1 ∨ 3 < w.toNat % 256 → (negotiate s ch.val w).hmp.negState = 2 ∧
       (negotiate s ch.val w).hmp.major = s.hmp.major ∧ leafIsSet (negotiate s ch.val w).causes (.main gHmp 13) = true))

/-- spec/08 R201, R202, spec/11 R283: a queue doorbell in range moves the producer index of a SUBMIT queue, or the consumer index
of a COMPLETE or EVENT queue, and tells the Laster; one out of range or of no queue sets DB_RANGE, one of the other channel's
queue its leaf. spec/08 R200, R203: a queue command is taken in EMPTY, REFUSED and SUSPENDED and leaves its result; a queue is
created in the lowest free pages of its channel with nothing in it, and destroyed unless a suspended context names it. -/
def Obligations.QueueDoorbellsAndCommands : Prop :=
  (∀ (ch q i off : Nat) (s : State), ch < 2 → q < 65536 → i < 2 ^ 32 →
     let w : Word := BitVec.ofNat 64 (i * 2 ^ 32 + 2 ^ 31 + q)
     (∀ v : Word, v.getLsbD 31 = false → ringQueue s ch off v = s) ∧
     (s.queue? q = none → leafIsSet (ringQueue s ch off w).causes (.main gHmp 4) = true ∧ (ringQueue s ch off w).queues = s.queues) ∧
     (∀ x, s.queue? q = some x → x.ch ≠ ch → leafIsSet (ringQueue s ch off w).causes (.main gHmp 5) = true ∧
       (ringQueue s ch off w).queues = s.queues) ∧
     (∀ x, s.queue? q = some x → x.ch = ch →
       let n := (i + 2 ^ 32 - x.cons % 2 ^ 32) % 2 ^ 32
       (x.typ = .submit → x.prod - x.cons < n → n ≤ 2 ^ x.k → ∃ u,
         ringQueue s ch off w = sendNotice u (ctxLaster s x.ctx) (hmpSrc ch) (.doorbell q) ∧ u.lasters = s.lasters ∧ u.ctxs = s.ctxs ∧
         u.queue? q = some { x with prod := x.cons + n, rings := x.rings ++ [(x.cons + n, s.now)] } ∧
         (∀ p, p ≠ q → u.queue? p = s.queue? p)) ∧
       (x.typ = .submit → n = x.prod - x.cons → n ≤ 2 ^ x.k → ringQueue s ch off w = s) ∧
       (x.typ ≠ .submit → 0 < n → n ≤ x.prod - x.cons → ∃ u,
         ringQueue s ch off w = sendNotice u (ctxLaster s x.ctx) (hmpSrc ch) (.doorbell q) ∧ u.lasters = s.lasters ∧ u.ctxs = s.ctxs ∧
         u.queue? q = some { x with cons := x.cons + n } ∧ (∀ p, p ≠ q → u.queue? p = s.queue? p)) ∧
       (x.typ ≠ .submit → n = 0 → ringQueue s ch off w = s) ∧
       ((x.typ = .submit ∧ (n < x.prod - x.cons ∨ 2 ^ x.k < n)) ∨ (x.typ ≠ .submit ∧ x.prod - x.cons < n) →
         leafIsSet (ringQueue s ch off w).causes (.main gHmp 4) = true ∧ (ringQueue s ch off w).queues = s.queues))) ∧
  (∀ (c : CtxNo) (b : BitVec 128) (s : State),
     let rows : List (Nat × (CtxNo → BitVec 128 → Instr)) := [(0, .queueDestroy), (1, .createSubmit), (2, .createComplete), (3, .createEvent)]
     let apt := setupState s = true ∧ ((s.ctx c.val).st = .empty ∨ (s.ctx c.val).st = .refused ∨ (s.ctx c.val).st = .suspended)
     let n := cmdField b 0 2
     (∀ p ∈ rows, (cmdField b 2 1 ≠ p.1 → exec (p.2 c b) s = .refused .illFormed) ∧
       (cmdField b 2 1 = p.1 → ¬ apt → exec (p.2 c b) s = .next (answer s wrongState))) ∧
     (∀ p ∈ ([(1, .createSubmit, .submit), (2, .createComplete, .complete), (3, .createEvent, .event)] :
         List (Nat × (CtxNo → BitVec 128 → Instr) × QType)), cmdField b 2 1 = p.1 → apt →
       let k := cmdField b 3 1
       let v := cmdField b 4 1
       let ch := cmdField b 5 1
       let bad := reservedSet b = true ∨ k < 4 ∨ 16 < k ∨ v < 1 ∨ 2 < v ∨ 1 < ch
       let old := v = 2 ∧ (s.hmp.major ≠ 1 ∨ s.hmp.minor < 2)
       let told := fun (r off : Nat) (t : State) => (t.ctx c.val).queueResult = qResult b r off ∧ t.dev = { s.dev with answer := 0 }
       (bad → Completes (p.2.1 c b) s (fun t => told 3 0 t ∧ t.queues = s.queues)) ∧
       (¬ bad → old → Completes (p.2.1 c b) s (fun t => told 5 0 t ∧ t.queues = s.queues)) ∧
       (¬ bad → ¬ old → s.queue? n ≠ none → Completes (p.2.1 c b) s (fun t => told 1 0 t ∧ t.queues = s.queues)) ∧
       (¬ bad → ¬ old → s.queue? n = none → ∀ x : Queue,
         x = { ctx := c.val, typ := p.2.2, k := k, version := v, ch := ch, page := x.page,
               mask := if p.2.2 = .event then BitVec.ofNat 32 (cmdField b 8 4) else 0 } →
         (freePages s ch x.pages = none → Completes (p.2.1 c b) s (fun t => told 2 0 t ∧ t.queues = s.queues)) ∧
         (freePages s ch x.pages = some x.page → Completes (p.2.1 c b) s (fun t => told 0 x.base t ∧ t.queue? n = some x ∧
           (∀ m, m ≠ n → t.queue? m = s.queue? m) ∧
           (∀ i, i < x.pages * 4096 → readByte (t.chan ch).ring (x.base + i) = 0))))) ∧
     (cmdField b 2 1 = 0 → apt → ∀ x, s.queue? n = some x → x.ctx = c.val → reservedSet b = false →
       ((s.ctx c.val).st = .suspended → namesQueue (s.ctx c.val) n = true → Completes (.queueDestroy c b) s (fun t =>
         (t.ctx c.val).queueResult = qResult b 4 0 ∧ t.queues = s.queues)) ∧
       ((s.ctx c.val).st ≠ .suspended ∨ namesQueue (s.ctx c.val) n = false → Completes (.queueDestroy c b) s (fun t =>
         (t.ctx c.val).queueResult = qResult b 0 0 ∧ t.queue? n = none ∧ (∀ m, m ≠ n → t.queue? m = s.queue? m)))))

/-- spec/11 R286 to R288, spec/10 R255: BULK_MAP maps a gigabyte for its owner or records why not, and disarms both slots; ARM
starts a copy; a posted bulk write changes the bytes of the lines its owner may write and no others. -/
def Obligations.BulkWindow : Prop :=
  (∀ (ch : Nat) (v : Word) (s : State), let t := performMap s ch v
    let e := mapError s v
    (t.chan ch).mapErr = e ∧ (e = 0 → (t.chan ch).bulkMap = v &&& 0xFFFF000FC0000001) ∧ (e ≠ 0 → mapped (t.chan ch) = false) ∧
    (∀ k, k < 2 → ((t.chan ch).slotOf k).state = 0 ∧ ((t.chan ch).slotOf k).arms = ((s.chan ch).slotOf k).arms) ∧
    (∀ k, k ≠ ch → t.chan k = s.chan k) ∧ t = { s with hmp := { s.hmp with chan := t.hmp.chan } }) ∧
  (∀ (ch k : Nat) (v : Word) (s : State), k < 2 → let t := performArm s ch k v
    let pages := v.toNat % 2048
    let x := (t.chan ch).slotOf k
    let beyond := 1024 < pages ∨ 2 ^ 30 < v.toNat / 2 ^ 24 % 2 ^ 18 * 4096 + pages * 4096
    (pages = 0 → x.state = 0 ∧ x.err = 0) ∧ (pages ≠ 0 → asleep s = true → x.state = 3 ∧ x.err = 3) ∧
    (pages ≠ 0 → asleep s = false → mapped (s.chan ch) = false → x.state = 3 ∧ x.err = 1) ∧
    (pages ≠ 0 → asleep s = false → mapped (s.chan ch) = true → beyond → x.state = 3 ∧ x.err = 2) ∧
    (pages ≠ 0 → asleep s = false → mapped (s.chan ch) = true → ¬ beyond → x.state = 1 ∧ x.err = 0) ∧
    (∀ j, j ≠ k → (t.chan ch).slotOf j = (s.chan ch).slotOf j) ∧ t = { s with hmp := { s.hmp with chan := t.hmp.chan } }) ∧
  (∀ (ch : ChanNo) (k : Fin 2) (s : State), let x := (s.chan ch.val).slotOf k.val
    (x.state ≠ 1 → exec (.armFillDone ch k) s = .next s) ∧
    let a0 := mapBase (s.chan ch.val) + armStart x
    let right := fun (o : Nat) => (bulkRights s (mapOwner (s.chan ch.val)) (a0 + o)).2
    (x.state = 1 → (∀ b ∈ s.fabric.bad, b.1 = 0 → b.2 < a0 ∨ a0 + armPages x * 4096 ≤ b.2) → ∃ u,
      -- the bulk writes taken while it filled go into the copy
      exec (.armFillDone ch k) s = .next (((s.chan ch.val).buffer.takeWhile (fun p => p.off != 0x1100)).foldl
        (fun s p => if 0x40000000 ≤ p.off then stageWrite s ch.val p else s) u) ∧
      ((u.chan ch.val).slotOf k.val).state = 2 ∧ ((u.chan ch.val).slotOf k.val).arms = x.arms + 1 ∧
      ((u.chan ch.val).slotOf k.val).reg = x.reg ∧ u.fabric = s.fabric ∧ (∀ j, j ≠ ch.val → u.chan j = s.chan j) ∧
      (u.chan ch.val).buffer = (s.chan ch.val).buffer ∧
      (∀ o, o < armPages x * 4096 → right o = 1 → readByte ((u.chan ch.val).slotOf k.val).data o = readByte s.fabric.lpddr (a0 + o)) ∧
      (∀ l, l ∈ ((u.chan ch.val).slotOf k.val).fill ↔ l < armPages x * 128 ∧ (right (32 * l) = 2 ∨ lostAddr s (a0 + 32 * l) = true))) ∧
    (x.state = 1 → (∃ b ∈ s.fabric.bad, b.1 = 0 ∧ a0 ≤ b.2 ∧ b.2 < a0 + armPages x * 4096) → Completes (.armFillDone ch k) s (fun t =>
      ((t.chan ch.val).slotOf k.val).state = 3 ∧ ((t.chan ch.val).slotOf k.val).err = 4 ∧ ((t.chan ch.val).slotOf k.val).arms = x.arms ∧
      leafIsSet t.causes (.main gMem 0) = true ∧ t.fabric.lpddr = s.fabric.lpddr))) ∧
  (∀ (ch : ChanNo) (s : State), (s.chan ch.val).buffer = [] → exec (.bulkWriteLand ch) s = .next s) ∧
  (∀ (ch : ChanNo) (p : Posted) (rest : List Posted) (s : State), (s.chan ch.val).buffer = p :: rest →
    exec (.bulkWriteLand ch) s =
      .next (drainControl (landBulk (s.setChan ch.val { s.chan ch.val with buffer := rest }) ch.val p) ch.val rest.length)) ∧
  (∀ (ch : Nat) (p : Posted) (s : State),
    let c := s.chan ch
    let o := mapOwner c
    let a0 := mapBase c + (p.off - 0x40000000)
    (mapped c = false → leafIsSet (landBulk s ch p).causes (.main gHmp 1) = true ∧ (landBulk s ch p).fabric = s.fabric) ∧
    (mapped c = true → asleep s = true → leafIsSet (landBulk s ch p).causes (.main gHmp 8) = true ∧ (landBulk s ch p).fabric = s.fabric) ∧
    (mapped c = true → asleep s = false → o = 0xFFFE ∨ (o < 4096 ∧ (s.ctx o).gen ≤ 14) → ∀ a,
      readByte (landBulk s ch p).fabric.lpddr a =
        if a0 ≤ a ∧ a < a0 + p.data.length ∧ p.mask.getD (a - a0) false = false ∧ lostAddr s a = false ∧ (bulkRights s o a).1 = true then p.data.getD (a - a0) 0 else readByte s.fabric.lpddr a))

/-- spec/11 R292, R294: writing 1 to a leaf clears it; a leaf that hardware sets in the same window reads 1; a condition leaf
whose condition lasts reads 1; outside the states of the class the write answers WRONG_STATE. spec/09 R237: while BELOW_BOUND is set
the floor takes a low bound of -40 degC, and once it is cleared the figures are published anew under the host's own. -/
def Obligations.LeafClears : Prop :=
  ∀ (r : LeafReg) (v setting : Word) (s : State),
    (alwaysState s = false → exec (.leafClear r v setting) s = .next (answer s wrongState)) ∧
    (alwaysState s = true → exec (.leafClear r v setting) s = .next (answer (clearLeaf s r v setting) 0)) ∧
    (lowInForce s = if leafIsSet s.causes (.main 11 0) = true then -400 else 10 * s.power.lowBound) ∧
    (∃ t, clearLeaf s r v setting =
        (if leafIsSet s.causes (.main 11 0) = true ∧ leafIsSet t.causes (.main 11 0) = false then publish t false else t) ∧
      t = { s with causes := t.causes } ∧
      (∀ b, b < 64 → setting.getLsbD b = true → (leafBits r).getLsbD b = true → leafIsSet t.causes (leafOf r b) = true) ∧
      (∀ b, b < 64 → v.getLsbD b = true → setting.getLsbD b = false → (leafBits r).getLsbD b = true →
        (conditionBits r).getLsbD b = false ∨ conditionLasts s r = none → leafIsSet t.causes (leafOf r b) = false) ∧
      (∀ b, b < 64 → v.getLsbD b = false → leafIsSet s.causes (leafOf r b) = true → leafIsSet t.causes (leafOf r b) = true) ∧
      (∀ b, b < 64 → v.getLsbD b = true → (conditionBits r).getLsbD b = true → conditionLasts s r ≠ none →
        leafIsSet s.causes (leafOf r b) = true → leafIsSet t.causes (leafOf r b) = true))

/-- spec/11 R296, R297: Cobbler performs the oldest mailbox request of its kind, writes the response with the abort code of the
read or the write, sets DONE and MB_DONE, and takes it off the order; with no such request in front nothing happens. -/
def Obligations.MailboxRequests : Prop :=
  ∀ (ch : ChanNo) (s : State),
    let c := s.chan ch.val
    let front := s.hmp.mbOrder.head? = some ch.val ∧ reachable s = true
    (¬ front → exec (.mailboxRead ch) s = .next s ∧ exec (.mailboxWrite ch) s = .next s) ∧
    (mbOp c = 2 → exec (.mailboxRead ch) s = .next s) ∧ (mbOp c ≠ 2 → exec (.mailboxWrite ch) s = .next s) ∧
    (front → mbOp c ≠ 1 → mbOp c ≠ 2 → c.mbPart = none →
      exec (.mailboxRead ch) s = .next (mbFinish s ch.val (mbIndex c) (mbSub c) 0x08000020 [])) ∧
    (front → mbOp c = 1 → c.mbPart = none → mbOffset c = 0 →
      let r := odRead s (mbIndex c) (mbSub c)
      (r.2.1 = 0 → exec (.mailboxRead ch) s = .next (mbFinish r.1 ch.val (mbIndex c) (mbSub c) 0 (r.2.2.take (min (mbLength c) 1024)))) ∧
      (r.2.1 ≠ 0 → exec (.mailboxRead ch) s = .next (mbFinish r.1 ch.val (mbIndex c) (mbSub c) r.2.1 []))) ∧
    (front → mbOp c = 2 → c.mbPart = none → mbOffset c = 0 → 1 ≤ mbLength c → mbLength c ≤ 1024 → mbLast c = true →
      let u := odWrite (s.setChan ch.val { c with mbPart := none }) (mbIndex c) (mbSub c) (readBytes c.mbAsk 64 (mbLength c))
      exec (.mailboxWrite ch) s = .next (mbFinish u ch.val (mbIndex c) (mbSub c) u.dev.answer.toNat [])) ∧
    -- a later part must follow the part that has arrived, in the same entry (R296)
    (∀ i sub part, front → c.mbPart = some (i, sub, part) → mbOp c = 2 → 1 ≤ mbLength c → mbLength c ≤ 1024 →
      let v := s.setChan ch { c with mbPart := none }
      let l := part ++ readBytes c.mbAsk 64 (mbLength c)
      (mbIndex c ≠ i ∨ mbSub c ≠ sub ∨ (mbOffset c = 0 ∧ part ≠ []) ∨ (1 ≤ s.hmp.minor ∧ mbOffset c ≠ part.length) →
        exec (.mailboxWrite ch) s = .next (mbFinish v ch.val (mbIndex c) (mbSub c) 0x08000020 [])) ∧
      (mbIndex c = i → mbSub c = sub → 1 ≤ s.hmp.minor → mbOffset c = part.length →
        (mbLast c = true → exec (.mailboxWrite ch) s = .next (mbFinish (odWrite v i sub l) ch.val i sub (odWrite v i sub l).dev.answer.toNat [])) ∧
        (∀ r, mbLast c = false → l.length ≤ 65536 → odEntry i sub = some r → r.acc ≠ .ro → r.acc ≠ .const →
          exec (.mailboxWrite ch) s = .next (mbFinish (s.setChan ch { c with mbPart := some (i, sub, l) }) ch.val i sub 0 [])))) ∧
    (∀ i sub code data, reachable s = true → let t := mbFinish s ch.val i sub code data
      (t.chan ch.val).mbState = 2 ∧ (t.chan ch.val).mbDone = c.mbAskSeq ∧ ch.val ∉ t.hmp.mbOrder ∧
      leafIsSet t.causes (.main gHmp 11) = true ∧ readLE (t.chan ch.val).mbResp 0 2 = mbStatus code ∧
      (data.length ≤ 1024 → readBytes (t.chan ch.val).mbResp 64 data.length = data) ∧ (∀ k, k ≠ ch.val → t.chan k = s.chan k))

/-- spec/08 R204, R220, R221: the record at the consumer index of a SUBMIT queue of a context that takes work is taken by the row
of its type, but for a context whose Laster is being replaced (spec/10 R265); one rung before the launch goes unread (spec/12 R313); a
bad record posts FAULT with BAD_SUBMIT, a JOB forms a job on its host input or on the oldest closed batch, a CANCEL retires a job that has not
ended. -/
def Obligations.SubmitRecords : Prop :=
  ∀ (q : QueueNo) (s : State),
    ((s.queue? q.val = none ∨ ∃ x, s.queue? q.val = some x ∧ (x.typ ≠ .submit ∨ x.prod ≤ x.cons ∨ activeCtx (s.ctx x.ctx) = false ∨
        (s.laster (ctxLaster s x.ctx)).state ≠ 0)) → exec (.job q) s = .next s ∧ exec (.cancel q) s = .next s) ∧
    (∀ x, s.queue? q.val = some x → x.typ = .submit → x.cons < x.prod → activeCtx (s.ctx x.ctx) = true →
      (s.laster (ctxLaster s x.ctx)).state = 0 →
      let r := submitBytes s x
      let u := consume s q.val x
      let seen := ringTime x x.cons
      let tIn := if field r 22 8 = 0 then seen else field r 22 8
      let launched := (s.ctx x.ctx).launched ≤ seen
      -- a record rung before the launch goes unread (spec/12 R313)
      (¬ launched → field r 0 1 = 0x40 → exec (.cancel q) s = .next (dispatchAll u) ∧ exec (.job q) s = .next s) ∧
      (¬ launched → field r 0 1 ≠ 0x40 → exec (.job q) s = .next (dispatchAll u) ∧ exec (.cancel q) s = .next s) ∧
      (launched → submitBad s x r = true → exec (.job q) s =
        .next (dispatchAll (postRecord u x.ctx ⟨stFault, 0, 9, 0, field r 6 4, tIn, 0, s.free, s.now⟩))) ∧
      (launched → submitBad s x r = false → field r 0 1 = 0x40 → exec (.cancel q) s = .next (dispatchAll (cancelJob u x.ctx (field r 6 4))) ∧
        exec (.job q) s = .next s) ∧
      (launched → submitBad s x r = false → field r 0 1 = 0x30 → exec (.cancel q) s = .next s) ∧
      (launched → submitBad s x r = false → field r 0 1 = 0x30 → field r 1 1 = 1 → exec (.job q) s =
        .next (dispatchAll (formJob u x.ctx
          { tag := field r 6 4, tInput := tIn, src := 1, inAddr := field r 10 8, inLen := field r 18 4, arg := (r.drop 30).take 32
            voidPos := [], buffers := [], buf := none, cold := false, late := false, closedAt := s.now }))) ∧
      (launched → submitBad s x r = false → field r 0 1 = 0x30 → field r 1 1 = 0 → (s.ctx x.ctx).batches = [] →
        exec (.job q) s = .next s) ∧
      (∀ b rest, launched → submitBad s x r = false → field r 0 1 = 0x30 → field r 1 1 = 0 →
        (s.ctx x.ctx).batches = b :: rest → exec (.job q) s = .next (dispatchAll
          (formJob (tookBatch (u.modCtx x.ctx (fun d => { d with batches := rest })) x.ctx) x.ctx
            { batchJob b (s.ctx x.ctx).npos (field r 6 4) ((r.drop 30).take 32) with late := false }))) ∧
      u.queue? q.val = some { x with cons := x.cons + 1, rings := x.rings.filter (fun p => decide (x.cons + 1 < p.1)) })

/-- spec/08 R196, R197, spec/12 R313: the commands of a context, each in its states: LOAD admits or refuses with the first failing
check, UNLOAD empties, ACTIVATE waits for the launch time, SUSPEND takes no new job; at the launch time the context is ACTIVE. -/
def Obligations.ContextCommands : Prop :=
  ∀ (c : CtxNo) (s : State),
    let x := s.ctx c.val
    (setupState s = false → (∀ p a, exec (.load c p a) s = .next (answer s wrongState)) ∧ exec (.unload c) s = .next (answer s wrongState) ∧
      exec (.reseed c) s = .next (answer s wrongState) ∧ (∀ v, exec (.statisticsReset c v) s = .next (answer s wrongState))) ∧
    (runtimeState s = false → exec (.activate c) s = .next (answer s wrongState) ∧ exec (.suspend c) s = .next (answer s wrongState)) ∧
    (∀ p a, setupState s = true → x.st ≠ .empty → x.st ≠ .refused → x.st ≠ .loading ∨ x.pkg ≠ none → exec (.load c p a) s = .next (answer s wrongState)) ∧
    (∀ (p : Package) (a : BitVec 36), setupState s = true → x.st = .empty ∨ x.st = .refused ∨ (x.st = .loading ∧ x.pkg = none) →
      let y := { x with st := .loading, reason := 0, pkg := some p, allocAt := a.toNat }
      let u := measure (s.setCtx c.val y) 6 p.digest
      (s.power.valid = false → exec (.load c p a) s = .next (answer u 0)) ∧
      (∀ why, s.power.valid = true → admission u c.val y = .error why → Completes (.load c p a) s (fun t =>
        (t.ctx c.val).st = .refused ∧ (t.ctx c.val).reason = why ∧ (t.ctx c.val).pkg = none ∧ t.dev = { s.dev with answer := 0 } ∧
        (∀ d, d ≠ c.val → t.ctx d = s.ctx d) ∧ t.cells = s.cells ∧ t.fabric = s.fabric ∧ t.boot.entries = satAdd 32 s.boot.entries 1)) ∧
      (∀ h, s.power.valid = true → admission u c.val y = .ok h → exec (.load c p a) s = .next (answer (recheck (holdResources u c.val p h) true) 0))) ∧
    (setupState s = true → x.loaded = false → exec (.unload c) s = .next (answer s wrongState)) ∧
    (setupState s = true → x.loaded = true → exec (.unload c) s = .next (answer (afterFree (recheck (unloadCtx s c.val 2) true)) 0)) ∧
    (runtimeState s = true → x.st ≠ .admitted → x.st ≠ .suspended → exec (.activate c) s = .next (answer s wrongState)) ∧
    (runtimeState s = true → x.st = .admitted ∨ x.st = .suspended →
      let u := s.setCtx c.val { x with launchAt := some x.launch }
      (s.now < x.launch ∨ s.power.valid = false → exec (.activate c) s = .next (answer u 0)) ∧
      (x.launch ≤ s.now → s.power.valid = true → exec (.activate c) s = .next (answer (launchCtx u c.val) 0))) ∧
    (runtimeState s = true → activeCtx x = false → exec (.suspend c) s = .next (answer s wrongState)) ∧
    (runtimeState s = true → activeCtx x = true → Completes (.suspend c) s (fun t => (t.ctx c.val).st = .suspended ∧
      (t.ctx c.val).launchAt = none ∧ (∀ d, d ≠ c.val → t.ctx d = s.ctx d) ∧ t.jobs = s.jobs ∧ t.cells = s.cells ∧ t.dev.answer = 0)) ∧
    (setupState s = true → x.st ≠ .admitted → x.st ≠ .suspended → exec (.reseed c) s = .next (answer s wrongState)) ∧
    (setupState s = true → x.st = .admitted ∨ x.st = .suspended → exec (.reseed c) s = .next (answer (s.setCtx c.val { x with hist := [] }) 0)) ∧
    (∀ v : Byte, setupState s = true → 1 < v.toNat → exec (.statisticsReset c v) s = .next (answer s outOfRange)) ∧
    (setupState s = true → exec (.statisticsReset c 0) s = .next (answer s 0)) ∧
    (setupState s = true → exec (.statisticsReset c 1) s = .next (answer (s.setCtx c.val
      { x with retired := 0, lates := 0, replays := 0, evictions := 0, overRate := 0, budget := 0, nanOut := 0, accSat := 0, t5b := 0
               quant := [], clip := [], stallTime := [], stallEvents := [] }) 0)) ∧
    (x.launchAt = none ∨ (∃ l, x.launchAt = some l ∧ s.now < l) ∨ s.power.valid = false ∨ runtimeState s = false ∨ (x.st ≠ .admitted ∧ x.st ≠ .suspended) →
      exec (.launch c) s = .next s) ∧
    (∀ l, x.launchAt = some l → l ≤ s.now → s.power.valid = true → runtimeState s = true → x.st = .admitted ∨ x.st = .suspended → ∃ u,
      exec (.launch c) s = .next (dispatchAll (serveCtx u c.val)) ∧ (u.ctx c.val).st = (if x.withdrawn then .unadmitted else .active) ∧
      (u.ctx c.val).launched = l ∧ (u.ctx c.val).launchAt = none ∧
      (∀ b ∈ (u.ctx c.val).batches, ∀ p ∈ b.samples, l ≤ p.2.tInput) ∧ (∀ d, d ≠ c.val → u.ctx d = s.ctx d))

/-! ### Power and faults -/

/-- spec/09 R237, R238, R243: the power settings, each with its range; a write outside the set-up states answers WRONG_STATE. -/
def Obligations.PowerSettings : Prop :=
  ∀ (s : State) (v : BitVec 32) (b : Byte),
    SettingRule (.cap v) (20000 ≤ v.toNat ∧ v.toNat ≤ 95000) (fun p => { p with
      cap := v.toNat, dirty := true, recheckDue := p.recheckDue || v.toNat != p.cap }) s ∧
    SettingRule (.linkReserve v) (v.toNat + s.power.memRes ≤ s.power.cap) (fun p => { p with linkRes := v.toNat, dirty := true }) s ∧
    SettingRule (.memoryReserve v) (s.power.linkRes + v.toNat ≤ s.power.cap) (fun p => { p with memRes := v.toNat, dirty := true }) s ∧
    SettingRule (.activeCellLimit b) (1 ≤ b.toNat ∧ b.toNat ≤ 64 ∧ heldCells s ≤ b.toNat) (fun p => { p with cellLimit := b.toNat, dirty := true }) s ∧
    SettingRule (.tjLimit b) (60 ≤ b.toInt ∧ b.toInt ≤ 105) (fun p => { p with
      tjLimit := b.toInt, dirty := true, recheckDue := p.recheckDue || b.toInt != p.tjLimit }) s ∧
    SettingRule (.lowBound b) (-40 ≤ b.toInt ∧ b.toInt ≤ 25) (fun p => { p with lowBound := b.toInt, dirty := true }) s ∧
    SettingRule (.priorityOrder b) (b.toNat ≤ 5) (fun p => { p with order := b.toNat }) s

/-- spec/09 R241, R243, R245, R248: every 4 us the device estimate is the sum of the quarters', corrected by c_q, and of links,
memory and fixed draw; over the hard limit every cell paces at 15, over the cap a domain gives back in reverse order of priority
or CAP_EXCEEDED is set. spec/09 R233, R239, R246, R247: the Shank chooses a quarter's setpoint between its bounds, always from
0.55 V to 0.90 V in steps of 5 mV; a quarter that paces or will derate falls to its lower bound; a hinted phase raises the rail
within its upper bound. -/
def Obligations.EstimateCapAndSetpoints : Prop :=
  ((∀ s : State, (s.power.dirty = false → applySettings s = s) ∧
     (s.power.dirty = true → applySettings s = forceNext (forceNext (forceNext (forceNext
       (afterFree (reviewThermal { s with power := { s.power with dirty := false } } true)) 0) 1) 2) 3)) ∧
   (∀ (a : Activity) (r s : State), s = applySettings r →
     let temp := fun (i : Nat) => if s.power.valid then lookup 1050 s.power.model i else 1050
     let raw := fun (q : Nat) => if q ∈ s.fabric.lost then 0 else
       Config.quarterPower q (a.quarters.getD q []) (s.qpower q).setpoint [temp (4 * q), temp (4 * q + 1), temp (4 * q + 2), temp (4 * q + 3)]
     let e := raw 0 * (s.qpower 0).c / 1024 + raw 1 * (s.qpower 1).c / 1024 + raw 2 * (s.qpower 2).c / 1024 + raw 3 * (s.qpower 3).c / 1024 +
       a.linkMw + a.memMw + a.fixedMw
     let window := (e :: s.power.window).take 249
     let hard := 25000000 < window.sum + e
     ∃ u, u.power.devEst = e ∧ u.power.window = window ∧ u.cells = s.cells ∧ u.power.cap = s.power.cap ∧
       (hard → u.power.hardPower = true ∧ exec (.estimateInterval a) r = .next (setPace
           (if s.power.cap < e then overCap u else { u with power := { u.power with capOver := false } }) (fun _ _ => 15)) ∧
         (s.power.hardPower = false → leafIsSet u.causes (.main gPower 3) = true)) ∧
       (¬ hard → u.power.hardPower = false ∧ u.causes = s.causes ∧
         (s.power.cap < e → exec (.estimateInterval a) r = .next (trimPace (overCap u))) ∧
         (e ≤ s.power.cap → exec (.estimateInterval a) r = .next (trimPace (underCap u))))) ∧
   (∀ (s : State) (f : Nat → CellState → Nat) (g : Nat), g < 64 →
     (setPace s f).cell g = { s.cell g with pace := f g (s.cell g) } ∧
     (trimPace s).cell g = { s.cell g with pace := min (s.cell g).pace (paceMost s g) } ∧
     (underCap s).cell g = { s.cell g with pace := (s.cell g).pace - (if 100 * s.power.devEst ≤ 98 * s.power.cap then 1 else 0) }) ∧
   (∀ s : State, (∀ d, d < 3 → canGive s d = false) → s.power.capOver = false →
     (overCap s).power.capExceeded = satAdd 32 s.power.capExceeded 1 ∧ leafIsSet (overCap s).causes (.main gPower 2) = true ∧
     (overCap s).cells = s.cells) ∧
   (∀ (s : State) (d : Nat), (domains s.power.order).reverse.find? (canGive s) = some d →
     overCap s = give (if shareOf s.power < 0 then capExceeded s else s) d ∧
     (s.power.capOver = false → leafIsSet (capExceeded s).causes (.main gPower 2) = true ∧
       (capExceeded s).power.capExceeded = satAdd 32 s.power.capExceeded 1)) ∧
   (∀ s : State, (canGive s 0 = true → s.power.linkRes < s.power.linkMw) ∧ (canGive s 1 = true → s.power.memRes < s.power.memMw) ∧
     (canGive s 2 = true → shareOf s.power < computeMw s)) ∧
   (∀ (q : QuarterNo) (s : State), exec (.pmbAlertN q) s =
     .next (setPace s (fun g c => if (nextToPace s).contains g then c.pace + 1 else c.pace)))) ∧
  ((∀ (q : QuarterNo) (s : State),
     (q.val ∈ s.fabric.lost ∨ s.power.pstate ≠ 0 → exec (.setpointChoice q) s = .next s) ∧
     (q.val ∉ s.fabric.lost → s.power.pstate = 0 → Completes (.setpointChoice q) s (fun t =>
       let v := (t.qpower q.val).setpoint
       let u := s.setQpower q.val { s.qpower q.val with hintMv := hintRise s q.val }
       v = min ((lookup 550 (headroomVoltages u) q.val + hintRise s q.val) / 5 * 5) (upperBound u q.val) ∧
       550 ≤ v ∧ v ≤ 900 ∧ v % 5 = 0 ∧ (v ≠ (s.qpower q.val).setpoint → (t.qpower q.val).setAt = s.now) ∧
       (∀ k, k ≠ q.val → t.qpower k = { s.qpower k with paceLevel := (t.qpower k).paceLevel, paceSince := (t.qpower k).paceSince }) ∧
       (∀ g, g < 64 → t.cell g = { s.cell g with pace := (t.cell g).pace }) ∧
       t = { s with cells := t.cells, power := { s.power with quarter := t.power.quarter, pacings := t.power.pacings } }))) ∧
   (∀ (s : State) (q v : Nat), q < 4 → let t := moveSetpoint s q v
     let old := mst (quarterRate s q)
     let new := mst (quarterRate t q)
     (t.qpower q).setpoint = v ∧ (∀ k, k ≠ q → (t.qpower k).setpoint = (s.qpower k).setpoint) ∧
     (∀ g, g < 64 → quarterOf g ≠ q ∨ (s.cell g).pace = 0 → t.cell g = s.cell g) ∧
     (s.power.hardPower = true → t.cells = s.cells) ∧
     (∀ g, g < 64 → quarterOf g = q → 0 < (s.cell g).pace → old ≠ 0 → new ≠ 0 → old ≠ new → s.power.hardPower = false →
       t.cell g = { s.cell g with pace := 16 - min 16 (max 1 (ceilDiv ((16 - (s.cell g).pace) * old) new)) })) ∧
   (∀ (q : QuarterNo) (s : State),
     let x := s.qpower q.val
     let due := x.derateSoon = true ∨ ∃ t, x.paceSince = some t ∧ t + 20000 ≤ s.now
     let lb := min (lowerBound s q.val / 5 * 5) (upperBound s q.val)
     (¬ due ∨ q.val ∈ s.fabric.lost ∨ x.setpoint ≤ lb → exec (.slowThrottle q) s = .next s) ∧
     (due → q.val ∉ s.fabric.lost → lb < x.setpoint → Completes (.slowThrottle q) s (fun t => (t.qpower q.val).setpoint = lb ∧
       t.power.throttles = satAdd 32 s.power.throttles 1 ∧ (∀ g, g < 64 → quarterOf g ≠ q.val → t.cell g = s.cell g) ∧
       (∀ g, g < 64 → (t.cell g).pace ≤ max 15 (s.cell g).pace) ∧ (∀ k, k < 4 → k ≠ q.val → (t.qpower k).setpoint = (s.qpower k).setpoint)))) ∧
   (∀ (g : CellNo) (s : State),
     let q := quarterOf g.val
     let x := s.qpower q
     let live := liveHints (s.cell g.val).since (s.cell g.val).hints
     (live.find? (fun h => !h.acted) = none → exec (.hintPhase g) s = .next (s.modCell g.val (fun c => { c with hints := live }))) ∧
     (∀ h, live.find? (fun h => !h.acted) = some h → s.power.devEst + cellPower x.setpoint * h.level / 255 ≤ s.power.cap →
       q ∉ s.fabric.lost → 550 ≤ x.setpoint → Completes (.hintPhase g) s (fun t =>
         let u := s.modCell g.val (fun c => { c with hints := markHint live })
         let rise := hintRise u q
         15 * h.level / 255 ≤ rise ∧ (t.qpower q).hintMv = max x.hintMv rise ∧
         (t.qpower q).setpoint = max (min (min ((x.setpoint + (rise - x.hintMv)) / 5 * 5) 900) (upperBound u q)) (min x.setpoint (upperBound u q)) ∧
         (t.cell g.val).hints = markHint live ∧ (∀ k, k < 64 → k ≠ g.val → (t.cell k).hints = (s.cell k).hints) ∧
         t = { s with cells := t.cells, power := { s.power with quarter := t.power.quarter, pacings := t.power.pacings } }))))

/-- spec/09 R242, R249, R250: a sensor's report is taken and the derating states, the figures and the setpoints follow; from 115
degC on the device trips: jobs end, THERM_TRIP_N is asserted and the cells are gated; a failing sensor sets its cause; the trip
ends below 100 degC. spec/09 R234, R241, spec/14 R362: a regulator's answer is taken; a quarter rail above 0.93 V or with a fault
loses its quarter, a fixed rail with a fault moves the device to FAULT. -/
def Obligations.SensorsTripAndTelemetry : Prop :=
  ((∀ (i : SensorNo) (v : BitVec 16) (s : State),
     let u := takeReport s i.val v.toInt
     u.sensor i.val = v.toInt ∧ i.val ∈ u.power.reported ∧ i.val ∉ u.power.failing ∧ (∀ j, j ≠ i.val → u.sensor j = s.sensor j) ∧
     (1150 ≤ v.toInt → exec (.sensorReport i v) s = .next (doTrip u i.val)) ∧
     (1150 ≤ v.toInt → supplied s.dev = true → exec (.trip i v) s = .next (doTrip u i.val)) ∧
     (v.toInt < 1150 ∨ supplied s.dev = false → exec (.trip i v) s = .next s) ∧
     (v.toInt < 1150 → s.power.pstate ≠ 0 → exec (.sensorReport i v) s = .next u) ∧
     (v.toInt < 1150 → s.power.pstate = 0 → exec (.sensorReport i v) s = .next
       (clampSetpoint (clampSetpoint (clampSetpoint (clampSetpoint (becomeValid (reviewThermal u false)) 0) 1) 2) 3))) ∧
   (∀ (i : Nat) (s : State), (s.dev.thermTrip = true → doTrip s i = s) ∧
     -- in BOOT the trip holds the reset, or the warm restart begins again after it (spec/14 R367)
     (s.dev.thermTrip = false → s.dev.state = .boot → (doTrip s i).dev = (if s.dev.restartReason = 0 then { s.dev with thermTrip := true, heldInReset := true }
         else { s.dev with thermTrip := true, restartHeld := true, heldReason := s.dev.restartReason }) ∧ (doTrip s i).boot = s.boot ∧
       (doTrip s i).power.trips = satAdd 32 s.power.trips 1 ∧ leafIsSet (doTrip s i).causes (.main gThermal 4) = true) ∧
     (s.dev.thermTrip = false → s.dev.state ≠ .boot → (doTrip s i).dev.thermTrip = true ∧ (doTrip s i).power.pstate = 2 ∧ (doTrip s i).jobs = [] ∧
       (doTrip s i).power.trips = satAdd 32 s.power.trips 1 ∧ leafIsSet (doTrip s i).causes (.main gThermal 4) = true ∧
       (∀ g, g < 64 → ((doTrip s i).cell g).st = .idle ∧ ((doTrip s i).cell g).store = (s.cell g).store) ∧ (doTrip s i).ctxs = s.ctxs)) ∧
   (∀ (i : SensorNo) (s : State), (i.val ∈ s.power.failing → exec (.sensorFail i) s = .next s) ∧
     (i.val ∉ s.power.failing → ∃ u, exec (.sensorFail i) s = .next (reviewThermal u false) ∧ i.val ∈ u.power.failing ∧
       leafIsSet u.causes (.main gThermal 1) = true ∧ u.cells = s.cells)) ∧
   (∀ s : State, ((s.power.overFloor = none ∨ s.power.coolSince = none ∨ overLimit s ≠ []) → exec .floorHoldEnd s = .next s) ∧
     (∀ r t, s.power.overFloor = some r → s.power.coolSince = some t → s.now < t + 1000000000 → exec .floorHoldEnd s = .next s) ∧
     (∀ r t, s.power.overFloor = some r → s.power.coolSince = some t → t + 1000000000 ≤ s.now → overLimit s = [] →
       exec .floorHoldEnd s = .next (publish { s with power := { s.power with overFloor := none } } false))) ∧
   (∀ s : State, Completes .thermalPrediction s (fun t =>
     ((∀ i, i < 16 → i ∈ s.power.reported) → t.power.predictions = satAdd 32 s.power.predictions 1) ∧
     (∀ i, i < 16 → i ∉ s.power.reported → t.power.predictions = s.power.predictions) ∧
     (t.power.cold = true ↔ t.power.predictions < 2) ∧ t.cells = s.cells ∧ t.ctxs = s.ctxs ∧
     (∀ i, i < 16 → lookup 1050 t.power.model i = if i ∈ s.power.reported then
       Config.thermalStep i (lookup 1050 s.power.model i) (lookup 0 s.power.clusterMw i) else lookup 1050 s.power.model i))) ∧
   (∀ s : State, let cool := ∀ i, i < 26 → i ∈ s.power.reported ∧ sensorRead s i < 1000
     let u := { s with dev := { s.dev with thermTrip := false, heldInReset := false, restartHeld := false } }
     (s.dev.thermTrip = false ∨ ¬ cool → exec .tripRelease s = .next s) ∧
     (s.dev.thermTrip = true → cool → s.dev.heldInReset = true ∨ s.dev.resetLow = true → exec .tripRelease s = .next u) ∧
     (s.dev.thermTrip = true → cool → s.dev.heldInReset = false → s.dev.resetLow = false →
       exec .tripRelease s = .next (startRestart u (if s.dev.restartHeld then s.dev.heldReason else 4))))) ∧
  ((∀ s : State, exec (.telemetryCheck [] []) s = .next s) ∧
   (∀ (r0 r1 r2 r3 : RegulatorRead) (s : State), exec (.telemetryCheck [r0, r1, r2, r3] []) s =
     .next (checkQuarter (checkQuarter (checkQuarter (checkQuarter s 0 r0) 1 r1) 2 r2) 3 r3)) ∧
   (∀ (f : RegulatorRead) (s : State), exec (.telemetryCheck [] [f]) s = .next (checkFixed s 0 f)) ∧
   (∀ (q : Nat) (r : RegulatorRead) (s : State),
     (q ∈ s.fabric.lost → checkQuarter s q r = s) ∧
     (q ∉ s.fabric.lost → r.valid = true → r.fault = true ∨ 930 < r.mv → ∃ u, checkQuarter s q r = loseQuarter u q ∧
       (u.qpower q).readMv = r.mv ∧ (u.qpower q).readMa = r.ma ∧ u = { s with power := { s.power with quarter := u.power.quarter } }) ∧
     (q ∉ s.fabric.lost → r.valid = true → r.fault = false → r.mv ≤ 930 → (s.qpower q).sum = 0 →
       ((s.qpower q).setpoint = 0 ∧ 600 ≤ r.mv ∧ r.mv ≤ 750) ∨
         ((s.qpower q).setpoint ≠ 0 ∧ r.mv ≤ (s.qpower q).setpoint + 30 ∧ (s.qpower q).setpoint ≤ r.mv + 30) → ((checkQuarter s q r).qpower q).readMv = r.mv ∧ ((checkQuarter s q r).qpower q).noAnswer = 0 ∧
         ((checkQuarter s q r).qpower q).bad = 0 ∧ ((checkQuarter s q r).qpower q).c = (s.qpower q).c ∧
         (∀ k, k ≠ q → (checkQuarter s q r).qpower k = s.qpower k)) ∧
     (q ∉ s.fabric.lost → r.valid = false → (s.qpower q).noAnswer + 1 < 3 → checkQuarter s q r =
       s.setQpower q { s.qpower q with noAnswer := (s.qpower q).noAnswer + 1, bad := 0, sum := 0 })) ∧
   (∀ (i : Nat) (r : RegulatorRead) (s : State), i < 6 → r.valid = true → r.fault = true → ∃ u,
     checkFixed s i r = (if s.dev.state = .fault then u else enterFault u) ∧ leafIsSet u.causes (.main gPower 0) = true ∧ u.cells = s.cells) ∧
   (∀ (i : Nat) (r : RegulatorRead) (s : State), i < 6 → r.valid = true → r.fault = false →
     let mv := (fixedRails.getD i (0, 0)).2
     97 * mv ≤ 100 * r.mv → 100 * r.mv ≤ 103 * mv → checkFixed s i r = { s with power := { s.power with
       railSilent := put 0 s.power.railSilent i 0, railBad := put 0 s.power.railBad i 0 } }) ∧
   (∀ s : State, (enterFault s).dev.state = .fault ∧ (enterFault s).jobs = [] ∧ (∀ g, g < 64 → ((enterFault s).cell g).fence = true)))

/-- spec/09 R251, spec/11 R299: the power states: STANDBY and DEEP SLEEP are refused while a context takes work or the trip
stands; STANDBY keeps the cell stores; DEEP SLEEP waits for both channels' self-refresh and loses contexts, queues and LPDDR6; RUN
leaves either. -/
def Obligations.PowerStates : Prop :=
  (∀ s : State, let no := runtimeState s = false ∨ anyActive s = true ∨ s.dev.thermTrip = true
    (no → exec .standby s = .next (answer s wrongState) ∧ exec .deepSleep s = .next (answer s wrongState)) ∧
    (¬ no → Completes .standby s (fun t => t.power.pstate = 2 ∧ t.power.valid = false ∧ t.jobs = [] ∧ t.dev.answer = 0 ∧ t.ctxs = s.ctxs ∧
      t.queues = s.queues ∧ t.fabric.lpddr = s.fabric.lpddr ∧ t.fabric.mapStore = s.fabric.mapStore ∧ t.boot = s.boot ∧
      (∀ g, g < 64 → (t.cell g).store = (s.cell g).store ∧ (t.cell g).st = .idle ∧ (t.cell g).fence = (s.cell g).fence ∧
        (t.cell g).imem = [] ∧ (t.cell g).vreg = []))) ∧
    (¬ no → exec .deepSleep s = .next (answer { s with power := { s.power with sleepAsked := some s.now } } 0))) ∧
  (∀ s : State, let ready := s.power.sleepAsked ≠ none ∧ (s.chan 0).power = 1 ∧ (s.chan 1).power = 1
    (¬ ready → exec .deepSleepEntry s = .next s) ∧
    (ready → Completes .deepSleepEntry s (fun t => t.power.pstate = 3 ∧ t.ctxs = [] ∧ t.queues = [] ∧ t.cells = [] ∧ t.fabric = {} ∧
      t.dev = s.dev ∧ t.field = s.field ∧ t.boot.flash = s.boot.flash ∧ t.boot.rollback = s.boot.rollback ∧ t.boot.leaf = s.boot.leaf ∧
      t.boot.latchOpen = s.boot.latchOpen ∧ t.boot.unverified = s.boot.unverified ∧ t.resil.count = s.resil.count))) ∧
  (∀ s : State, ((s.power.sleepAsked = none ∨ bothAsleep s = true) → exec .sleepAbandoned s = .next s) ∧
    (∀ t0, s.power.sleepAsked = some t0 → s.now < t0 + 100000000 → exec .sleepAbandoned s = .next s) ∧
    (∀ t0, s.power.sleepAsked = some t0 → t0 + 100000000 ≤ s.now → bothAsleep s = false → Completes .sleepAbandoned s (fun t =>
      t.power = { s.power with sleepAsked := none } ∧ leafIsSet t.causes (.main gHmp 12) = true ∧ t = { s with power := t.power, causes := t.causes }))) ∧
  (∀ s : State,
    (s.power.pstate = 3 → Completes .runRequest s (fun t => WarmlyRestarted s t 0 ∧ t.boot.fastWake = true)) ∧
    (s.power.pstate ≠ 3 → runtimeState s = false ∨ s.dev.thermTrip = true → exec .runRequest s = .next (answer s wrongState)) ∧
    (s.power.pstate = 2 → runtimeState s = true → s.dev.thermTrip = false → Completes .runRequest s (fun t => t.power.pstate = 0 ∧
      t.power.reported = [] ∧ t.power.valid = false ∧ t.power.cold = true ∧ t.power.predictions = 0 ∧ t.dev.answer = 0 ∧ t.ctxs = s.ctxs ∧
      (∀ q, q < 4 → (t.qpower q).setpoint ≤ upperBound t q) ∧ (∀ g, g < 64 → t.cell g = { s.cell g with pace := (t.cell g).pace }))) ∧
    (s.power.pstate ≠ 2 → s.power.pstate ≠ 3 → runtimeState s = true → s.dev.thermTrip = false →
      exec .runRequest s = .next (answer { s with power := { s.power with sleepAsked := none } } 0)))

/-- spec/01 R21, spec/09 R240, spec/10 R257, R258, R263: a zone of idle, unclaimed and unreserved cells is gated; power-good lets
its held claims go on and, within the active-cell limit, its failed cells be tested; a zone that fails is gated with its cells fenced; the scrubber acts on what it
reads. -/
def Obligations.ZonesAndScrub : Prop :=
  (∀ (z : ZoneNo) (s : State), let x := s.zone z.val
    let idle := ∀ g ∈ zoneCells z.val, isClaimed s g = false ∧ cellRuns s g = false ∧ isReserved s g = false ∧ (s.cell g).idleSince + 200000 ≤ s.now
    (x.on = false ∨ ¬ idle → exec (.zoneGate z) s = .next s) ∧
    (x.on = true → idle → exec (.zoneGate z) s = .next (s.setZone z.val { x with on := false })) ∧
    (x.waking = false → exec (.zonePowerGood z) s = .next s) ∧
    (let due := if x.failed = true then (zoneCells z.val).filter (fun g => decide ((s.cell g).service = 1)) else []
     (x.waking = true → due ≠ [] → s.power.cellLimit < claimedCount s + due.length → exec (.zonePowerGood z) s = .next s) ∧
     (x.waking = true → due = [] ∨ claimedCount s + due.length ≤ s.power.cellLimit → ∃ u,
       exec (.zonePowerGood z) s = .next (x.held.foldl powerGoodClaim u) ∧ u.zone z.val = { x with on := true, waking := false, held := [] } ∧
       (∀ g ∈ due, (u.cell g).service = 3 ∧ (u.cell g).tackerClaim = true ∧ (u.cell g).fence = (s.cell g).fence) ∧
       (∀ g ∈ zoneCells z.val, (s.cell g).forced = true → (s.cell g).claim = none → (u.cell g).service = 3) ∧
       (∀ g, g ∉ due → g ∉ zoneCells z.val ∨ (s.cell g).forced = false ∨ (s.cell g).claim ≠ none → u.cell g = s.cell g) ∧
       u = { s with cells := u.cells, power := u.power })) ∧
    (∀ l g j, powerGoodClaim s ⟨l, g, j, false⟩ = claimAt s l g j) ∧
    (x.on = false → x.waking = false → exec (.zoneFail z) s = .next s) ∧
    (x.on = true ∨ x.waking = true → x.failed = false → x.held = [] → (∀ g ∈ zoneCells z.val, (s.cell g).claim = none) →
      ∃ u, exec (.zoneFail z) s = .next (cellsChanged u) ∧ (u.zone z.val).on = false ∧ (u.zone z.val).failed = true ∧
        (∀ g ∈ zoneCells z.val, (u.cell g).fence = true ∧ ((u.cell g).service = 1 ∨ (u.cell g).service = 4) ∧
          leafIsSet u.causes (.main gCell g) = true) ∧
        (∀ g, g ∉ zoneCells z.val → (u.cell g).fence = (s.cell g).fence))) ∧
  (∀ (p : ScrubPlace) (s : State), exec (.scrubRead p .clean) s = .next s) ∧
  (∀ (g : CellNo) (m : Fin 5) (a : BitVec 22) (s : State), exec (.scrubRead (.cell g m a) .uncorrectable) s = exec (.stitch g (.uncorrectable m a)) s) ∧
  (∀ (a : BitVec 36) (s : State),
    ((0, a.toNat) ∈ s.fabric.bad → exec (.scrubRead (.lpddr a) .uncorrectable) s = .next s) ∧
    ((0, a.toNat) ∉ s.fabric.bad → exec (.scrubRead (.lpddr a) .uncorrectable) s =
      .next (memUncorrectable { s with fabric := { s.fabric with bad := s.fabric.bad ++ [(0, a.toNat)] } } 0 a.toNat)) ∧
    ((0, a.toNat) ∉ s.resil.fixedLast → Completes (.scrubRead (.lpddr a) .corrected) s (fun t =>
      lookup 0 t.resil.count 7 = satAdd 32 (lookup 0 s.resil.count 7) 1 ∧ (0, a.toNat) ∈ t.resil.fixedNow ∧ t.fabric = s.fabric ∧ t.cells = s.cells)) ∧
    ((0, a.toNat) ∈ s.resil.fixedLast → Completes (.scrubRead (.lpddr a) .corrected) s (fun t => leafIsSet t.causes (.main gMem 2) = true))) ∧
  (∀ (s : State) (a : BitVec 24) (b : BitVec 14), powered s = true → s.power.pstate ≠ 3 → s.dev.thermTrip = false → s.boot.noImage = false →
    Completes (.scrubRead (.firmware a) .uncorrectable) s (fun t => t.dev.state = .boot ∧ t.dev.restartReason = 3 ∧ t.cells = [] ∧
      lookup 0 t.resil.count 6 = satAdd 32 (lookup 0 s.resil.count 6) 1) ∧
    Completes (.scrubRead (.retained b) .uncorrectable) s (fun t => t.dev.state = .boot ∧ t.dev.restartReason = 3 ∧ t.boot.retained = none))

/-- spec/14 R364 to R369: POR_N low, a rail out of its limits and a stopped clock reset everything volatile; the device comes up
in BOOT with DC time 0 when POR_N is high, the always-on supply stands, no reset by a rail lasts (log entry 150) and the clock runs; RESET_N keeps the clock and the trip
latch. spec/10 R266, R270, spec/11 R300, spec/09 R250: lockstep mismatch, Cobbler's watchdog and a host command restart a powered
device warmly with their reason; while THERM_TRIP_N is asserted the restart is held. -/
def Obligations.ColdAndWarmResets : Prop :=
  ((∀ s : State, Completes .porNAssert s (fun t => ColdlyReset s t ∧ t.dev.porLow = true ∧ t.dev.railReset = false ∧ t.dev.railsOut = s.dev.railsOut ∧
     t.dev.refclk = s.dev.refclk)) ∧
   (∀ s : State, Completes .refclkStop s (fun t => ColdlyReset s t ∧ t.dev.refclk = false ∧ t.dev.porLow = s.dev.porLow)) ∧
   (∀ (r : Rail) (s : State), Completes (.supplyOutOfLimits r) s (fun t => ColdlyReset s t ∧ r ∈ t.dev.railsOut ∧ t.dev.railReset = !s.dev.porLow ∧
     (∀ q ∈ s.dev.railsOut, q ∈ t.dev.railsOut))) ∧
   (∀ s : State, let up := fun (d : Dev) => { d with state := .boot, dc := 0, thermTrip := false, heldInReset := false }
     -- what a command makes of the pins and supplies: the part leaves the reset, stays in it, or, with TEST_EN, boots nothing
     let leaves := fun (i : Instr) (d : Dev) =>
       (supplied d = false → exec i s = .next { s with dev := d }) ∧
       (supplied d = true → s.dev.testEn = false → exec i s = .next { s with dev := up d }) ∧
       (supplied d = true → s.dev.testEn = true → Completes i s (fun t => t.dev.state = .boot ∧ t.dev.dc = 0 ∧ t.dev.alError = true ∧
         t.dev.alCode = 0x8004 ∧ t.boot = { s.boot with noImage := true } ∧ leafIsSet t.causes (.main gField 2) = true))
     (∀ d : Dev, supplied d = true ↔ Rail.fixed 8 ∉ d.railsOut ∧ d.railReset = false ∧ d.refclk = true ∧ d.porLow = false) ∧
     (s.dev.porLow = false → exec .porNRelease s = .next s) ∧
     (s.dev.porLow = true → leaves .porNRelease { s.dev with porLow := false }) ∧
     (s.dev.refclk = true → exec .refclkStart s = .next s) ∧
     (s.dev.refclk = false → leaves .refclkStart { s.dev with refclk := true }) ∧
     (∀ r, r ∉ s.dev.railsOut → exec (.supplyInLimits r) s = .next s) ∧
     (∀ r, r ∈ s.dev.railsOut →
       let out := s.dev.railsOut.filter (fun x => decide (x ≠ r))
       let d := { s.dev with railsOut := out, railReset := s.dev.railReset && !out.isEmpty }
       (supplied s.dev = true → exec (.supplyInLimits r) s = .next { s with dev := d }) ∧
       (supplied s.dev = false → leaves (.supplyInLimits r) d))) ∧
   (∀ s : State,
     (supplied s.dev = false → exec .resetNAssert s = .next { s with dev := { s.dev with resetLow := true } }) ∧
     (supplied s.dev = true → Completes .resetNAssert s (fun t => t.dev.resetLow = true ∧ t.dev.state = .boot ∧ t.dev.dc = s.dev.dc ∧
       t.dev.thermTrip = s.dev.thermTrip ∧ t.dev.bypassPin = false ∧ t.cells = [] ∧ t.ctxs = [] ∧ t.queues = [] ∧ t.jobs = [] ∧ t.fabric = {} ∧
       t.causes = {} ∧ t.power.valid = false ∧ (∀ i, t.sensor i = 0) ∧ t.boot.flash = s.boot.flash ∧ t.boot.rollback = s.boot.rollback)) ∧
     exec .resetNRelease s = .next { s with dev := { s.dev with resetLow := false, heldInReset := supplied s.dev && s.dev.thermTrip } })) ∧
  ((∀ (s : State) (r : Nat),
     (powered s = false ∨ s.power.pstate = 3 ∨ s.boot.noImage = true → startRestart s r = s) ∧
     (powered s = true → s.power.pstate ≠ 3 → s.boot.noImage = false → s.dev.thermTrip = true → (startRestart s r).dev.restartHeld = true ∧
       startRestart s r = { s with dev := (startRestart s r).dev } ∧ (s.dev.restartHeld = false → (startRestart s r).dev.heldReason = r)) ∧
     (powered s = true → s.power.pstate ≠ 3 → s.boot.noImage = false → s.dev.thermTrip = false → WarmlyRestarted s (startRestart s r) r)) ∧
   (∀ s : State, exec .lockstepMismatch s = .next (startRestart s 1) ∧ exec .cobblerWatchdog s = .next (startRestart s 2)) ∧
   (∀ (v : Byte) (s : State), (alwaysState s = false → exec (.warmRestart v) s = .next (answer s wrongState)) ∧
     (alwaysState s = true → 1 < v.toNat → exec (.warmRestart v) s = .next (answer s outOfRange)) ∧
     (alwaysState s = true → v = 0 → exec (.warmRestart v) s = .next (answer s 0)) ∧
     (alwaysState s = true → v = 1 → exec (.warmRestart v) s = .next (startRestart (answer s 0) 5))))

/-- spec/12 R324, R325, spec/13 R338, R345 to R349, spec/14 R363, R364: stage 0 judges the candidates in order, sets SLOT_REJECTED for
those that fail, and runs the first one that passes, with the key latch open and the waiting harts released; where none passes it runs
one unverified, or reports that no image exists; BOOT_COMPLETE enters CONFIG, sets the regulators' limits, loses quarters whose link has
not trained, enters FAULT for a fixed rail out of its limits, and carries out a held AL request. -/
def Obligations.Booting : Prop :=
  (∀ (g : Bool) (l : List Bool) (s : State), powered s = false ∨ s.dev.thermTrip = true ∨ s.dev.state ≠ .boot ∨ s.boot.released = true ∨
    s.boot.noImage = true → exec (.stage0Entry g l) s = .next s) ∧
  (∀ s : State, candidates s true = [2]) ∧
  (∀ (g : Bool) (l : List Bool) (s : State), powered s = true → s.dev.thermTrip = false → s.dev.state = .boot → s.boot.released = false →
    s.boot.noImage = false →
    let judged := judge s l (fastCandidate s (candidates s g) l)
    let runs := fun (k : Nat) (t : State) => t.boot.released = true ∧ t.boot.slot = k ∧ t.boot.seq = hdrField (slotHeader s k) 8 4 ∧
      t.boot.header = (candidate s k).1 ∧ t.boot.body = (candidate s k).2 ∧ t.boot.flash = s.boot.flash ∧ t.boot.noImage = false ∧
      (∀ h ∈ waitingHarts s, lookup [] t.boot.code h = imageSection (candidate s k).1 (candidate s k).2 (hartSection h) ∧
        lookup none t.boot.release h = some (Config.entryAddress h (imageSection (candidate s k).1 (candidate s k).2 (hartSection h)))) ∧
      (∀ h, h ∉ waitingHarts s → lookup none t.boot.release h = lookup none s.boot.release h) ∧
      (k = 2 → t.boot.goldenUsed = true ∧ leafIsSet t.causes (.main gBoot 1) = true) ∧ t.dev.state = .boot ∧ t.cells = s.cells ∧
      t.boot.entries = satAdd 32 (satAdd 32 (satAdd 32 (satAdd 32 s.boot.entries 1) 1) 1) 1
    -- the first candidate that passes runs; those before it are rejected
    (∀ before k after, candidates s g = before ++ k :: after → (∀ j ∈ before, judged j ≠ 1) → judged k = 1 → Completes (.stage0Entry g l) s (fun t =>
      runs k t ∧ t.boot.latchOpen = true ∧ t.boot.unverified = false ∧ t.boot.rollback = max s.boot.rollback (hdrField (slotHeader s k) 20 4) ∧
      leafIsSet t.causes (.main gBoot 0) = false ∧ (before ≠ [] → leafIsSet t.causes (.main gBoot 3) = true) ∧
      (before = [] → leafIsSet t.causes (.main gBoot 3) = leafIsSet s.causes (.main gBoot 3)) ∧
      (∀ j ∈ before, t.boot.reasons.toNat / 256 ^ j % 256 = judged j) ∧ t.boot.reasons.toNat / 256 ^ k % 256 = 1)) ∧
    -- none passes: the first one that could be read and has its shape runs unverified (R349)
    (∀ before k after, candidates s g = before ++ k :: after → (∀ j ∈ candidates s g, judged j ≠ 1) →
      (∀ j ∈ before, judged j = 8 ∨ judged j = 3) → judged k ≠ 8 → judged k ≠ 3 → Completes (.stage0Entry g l) s (fun t =>
      runs k t ∧ t.boot.unverified = true ∧ t.boot.latchOpen = s.boot.latchOpen ∧ t.boot.rollback = s.boot.rollback ∧ t.boot.retained = none ∧
      leafIsSet t.causes (.main gBoot 0) = true ∧ leafIsSet t.causes (.main gBoot 3) = true ∧
      (∀ j ∈ candidates s g, t.boot.reasons.toNat / 256 ^ j % 256 = judged j))) ∧
    ((∀ j ∈ candidates s g, judged j = 8 ∨ judged j = 3) → Completes (.stage0Entry g l) s (fun t => t.boot.noImage = true ∧ t.boot.released = false ∧
      t.dev.alError = true ∧ t.dev.alCode = 0x8004 ∧ t.boot.flash = s.boot.flash ∧ t.boot.rollback = s.boot.rollback ∧
      leafIsSet t.causes (.main gBoot 3) = true))) ∧
  (∀ s : State, powered s = false ∨ s.dev.thermTrip = true ∨ s.dev.state ≠ .boot ∨ s.boot.released = false → exec .bootComplete s = .next s) ∧
  (∀ s : State, powered s = true → s.dev.thermTrip = false → s.dev.state = .boot → s.boot.released = true →
    -- regulators take their limit, quarters whose link has not trained are lost, one by one
    let settle := fun (v : State) (q : Nat) => if v.fabric.linkUp.contains q then v.setQpower q { v.qpower q with limitMv := 900 } else loseQuarter v q
    ∃ u, exec .bootComplete s = .next (carryHeld (fixedRailOut (settle (settle (settle (settle u 0) 1) 2) 3))) ∧ u.dev.state = .config ∧
      u.dev.stateTime = s.now ∧ u.dev.restartReason = 0 ∧ u.dev.ctlFresh = true ∧ u.dev.alHeld = s.dev.alHeld ∧ u.hmp.negState = 0 ∧
      (s.dev.restartReason ≠ 0 → leafIsSet u.causes (.main gBoot 2) = true) ∧ (s.dev.restartReason = 3 → leafIsSet u.causes (.main gFw 3) = true) ∧
      leafIsSet u.causes (.main gField 2) = false ∧ u.fabric = s.fabric ∧ u.cells = s.cells ∧ u.power = s.power ∧ u.boot.flash = s.boot.flash ∧
      u.boot.entries = satAdd 32 s.boot.entries 1) ∧
  (∀ s : State, ((∀ r ∈ s.dev.railsOut, railNumber r < 4) → fixedRailOut s = s) ∧
    (∀ r, s.dev.railsOut.find? (fun r => decide (4 ≤ railNumber r)) = some r → ∃ u, leafIsSet u.causes (.main gPower 0) = true ∧ u.dev = s.dev ∧
      fixedRailOut s = if s.dev.state = .fault then u else enterFault u)) ∧
  (∀ s : State, let d := { s.dev with alHeld := none }
    (s.dev.alHeld = none → carryHeld s = s) ∧ (s.dev.state ≠ .fault →
      (s.dev.alHeld = some .init → carryHeld s = { s with dev := { d with alError := false } }) ∧
      (s.dev.alHeld = some .preop → carryHeld s = { s with dev := { d with al := .preop, alError := false } }) ∧
      (s.dev.alHeld = some .safeop ∨ s.dev.alHeld = some .op → carryHeld s = alRefuse { s with dev := d } 0x0011)) ∧
    (s.dev.alHeld = some .bootstrap → carryHeld s = alRefuse { s with dev := d } 0x0013) ∧
    (s.dev.state = .fault → s.dev.alHeld = some .safeop ∨ s.dev.alHeld = some .op → carryHeld s = alRefuse { s with dev := d } 0x8001))

/-- spec/13 R344, R346, R350, R351, R354, R356, R357: an update checks the image, sets SLOT_REJECTED for one that fails, erases its
target slot, goes through its steps as the flash operations end, commits the slot, retires the other where the header asks for it, and
fails with the reason (8 for an image of which a word is unreadable: log entry 151); live activation is refused without a new committed
image that fits, and one that is accepted goes from processor to processor; a quote spends a leaf and its nonce. -/
def Obligations.UpdatesAndQuotes : Prop :=
  (∀ (v : Byte) (s : State),
    (setupState s = false → exec (.update v) s = .next (answer s wrongState) ∧ exec (.liveActivation v) s = .next (answer s wrongState)) ∧
    (setupState s = true → v ≠ 1 → exec (.update v) s = .next (answer s outOfRange) ∧ exec (.liveActivation v) s = .next (answer s outOfRange)) ∧
    (setupState s = true → v = 1 → s.boot.upd ≠ none → exec (.update v) s = .next (answer s refusedCode)) ∧
    (setupState s = true → v = 1 → s.boot.upd = none → ∃ l, l.length = min s.boot.updLen 6295552 ∧
      (∀ i, i < l.length → ownerTag s (s.boot.updAddr + i) = 0xFFFE → s.boot.updAddr + i < lpddrSize →
        l.getD i 0 = readByte s.fabric.lpddr (s.boot.updAddr + i)) ∧
      (badIn s s.boot.updAddr l.length = [] → exec (.update v) s = .next (answer (beginUpdate s l (!lostIn s s.boot.updAddr l.length) false) 0)) ∧
      (badIn s s.boot.updAddr l.length ≠ [] → ∃ w, exec (.update v) s = .next (answer (beginUpdate w l false false) 0) ∧ w.boot = s.boot ∧
        leafIsSet w.causes (.main gMem 0) = true)) ∧
    (setupState s = true → v = 1 → s.boot.activation = 1 → exec (.liveActivation v) s = .next (answer s refusedCode)) ∧
    (setupState s = true → v = 1 → s.boot.activation ≠ 1 → committedNew s = none → exec (.liveActivation v) s =
      .next (answer { s with boot := { s.boot with activation := 4 } } refusedCode)) ∧
    (∀ k, setupState s = true → v = 1 → s.boot.activation ≠ 1 → committedNew s = some k →
      let h := slotHeader s k
      let fits := s.boot.latchOpen = true ∧ s.boot.upd = none ∧ sameCore h s.boot.header = true
      let r := imageReason s.boot.rollback false (candidate s k).1 (candidate s k).2
      (k < 2 ∧ k ≠ s.boot.slot ∧ isCommitted s k = true ∧ s.boot.seq < hdrField h 8 4) ∧
      (¬ fits → exec (.liveActivation v) s = .next (answer { s with boot := { s.boot with activation := 4 } } refusedCode)) ∧
      (fits → r ≠ 1 → ∃ u, exec (.liveActivation v) s = .next (answer u refusedCode) ∧ u.boot = { s.boot with activation := 3 } ∧
        leafIsSet u.causes (.main gBoot 3) = true) ∧
      -- accepted: the Lasters, then the Tackers, take the new image one by one
      (fits → r = 1 → ∃ u, exec (.liveActivation v) s = .next (answer (activateNext u) 0) ∧ u.boot.activation = 1 ∧
        u.boot.activating = List.range 20 ∧ u.boot.nextSlot = k ∧ u.boot.nextSeq = hdrField h 8 4 ∧ u.boot.nextHeader = h ∧
        u.boot.nextBody = (candidate s k).2 ∧ u.boot.slot = s.boot.slot ∧ u.boot.entries = satAdd 32 s.boot.entries 1 ∧
        u = { s with boot := u.boot }))) ∧
  (∀ (s : State) (k : Nat) (rest : List Nat),
    (s.boot.activating = [] → activateNext s = { s with
      boot := { s.boot with
        activating := [], activation := 2, slot := s.boot.nextSlot, seq := s.boot.nextSeq, header := s.boot.nextHeader,
        body := s.boot.nextBody } }) ∧
    (s.boot.activating = k :: rest → k < 4 → activateNext s = if (s.laster k).state = 0 then beginReplacement s k else s) ∧
    (s.boot.activating = k :: rest → 4 ≤ k → (s.tacker (k - 4)).state = 0 → activateNext s = restartTacker s (k - 4)) ∧
    (s.boot.activating = k :: rest → 4 ≤ k → (s.tacker (k - 4)).state = 2 → activateNext s =
      activateNext { s with boot := { s.boot with activating := rest } }) ∧
    (s.boot.activation = 1 → s.boot.activating = k :: rest →
      (∃ b, activated s k true = activateNext { s with boot := b } ∧ b.activating = rest ∧
        lookup [] b.code (activationHart k) = imageSection s.boot.nextHeader s.boot.nextBody (hartSection (activationHart k)) ∧
        b = { s.boot with activating := rest, code := b.code, release := b.release }) ∧
      activated s k false = { s with boot := { s.boot with activation := 3, activating := [] } })) ∧
  (∀ (l : List Byte) (whole foe : Bool) (s : State), let h := l.take 4096
    let r := if whole then imageReason s.boot.rollback false h ((l.drop 4096).take (hdrField h 12 4)) else 8
    let t := beginUpdate s l whole foe
    (r ≠ 1 → t.boot.step = 8 ∧ t.boot.failure = r ∧ t.boot.flash = s.boot.flash ∧ leafIsSet t.causes (.main gBoot 3) = true) ∧
    (r = 1 → hdrField h 8 4 ≤ s.boot.seq → t.boot.step = 8 ∧ t.boot.failure = 17 ∧ t.boot.flash = s.boot.flash) ∧
    (r = 1 → s.boot.seq < hdrField h 8 4 → asleep s = true → t.boot.step = 8 ∧ t.boot.flash = s.boot.flash) ∧
    (r = 1 → s.boot.seq < hdrField h 8 4 → asleep s = false → t.boot.step = 2 ∧ t.boot.failure = 0 ∧
      (∃ u, t.boot.upd = some u ∧ u.target = updateTarget s ∧ u.foe = foe ∧ u.image = h ++ (l.drop 4096).take (hdrField h 12 4)) ∧
      (∀ a, flashByte t a = if slotBase (updateTarget s) ≤ a ∧ a < slotBase (updateTarget s) + 0x800000 then 0xFF else flashByte s a))) ∧
  (∀ (ok : Bool) (s : State), s.boot.upd = none → exec (.flashOperationDone ok) s = .next s) ∧
  (∀ (u : Upd) (s : State), s.boot.upd = some u → u.foe = false →
    Completes (.flashOperationDone false) s (fun t => t.boot.step = 8 ∧ t.boot.failure = 16 ∧ t.boot.upd = none ∧ t.boot.flash = s.boot.flash) ∧
    (asleep s = true → Completes (.flashOperationDone true) s (fun t => t.boot.step = 8 ∧ t.boot.upd = none ∧ t.boot.flash = s.boot.flash)) ∧
    (asleep s = false → s.boot.step = 2 → exec (.flashOperationDone true) s = .next { s with boot := { s.boot with step := 3 } }) ∧
    (asleep s = false → s.boot.step = 3 → Completes (.flashOperationDone true) s (fun t => t.boot.step = 4 ∧ t.boot.upd = some u ∧
      (u.target < 2 → u.image.length ≤ 0x800000 → flashBytes t (slotBase u.target) u.image.length = u.image))) ∧
    (asleep s = false → s.boot.step = 4 → flashBytes s (slotBase u.target) u.image.length = u.image →
      exec (.flashOperationDone true) s = .next { s with boot := { s.boot with step := 5 } }) ∧
    (s.boot.step = 4 → flashBytes s (slotBase u.target) u.image.length ≠ u.image → Completes (.flashOperationDone true) s (fun t =>
      t.boot.step = 8 ∧ t.boot.failure = 16 ∧ t.boot.flash = s.boot.flash)) ∧
    -- step 5 appends the commit record, which makes the slot committed; step 6 appends the retire record of the other slot
    (let h := u.image.take 4096
     let retires := (hdrField h 6 2).testBit 0 = true
     asleep s = false → s.boot.step = 5 → Completes (.flashOperationDone true) s (fun t =>
       t.boot.flash = (appendRecord s 1 u.target (hdrField h 8 4) (headerDigest h)).boot.flash ∧ t.boot.retained = none ∧
       (retires → t.boot.step = 6 ∧ t.boot.upd = some u) ∧ (¬ retires → t.boot.step = 7 ∧ t.boot.upd = none) ∧
       (u.target < 2 → 4096 ≤ u.image.length → flashBytes s (slotBase u.target) u.image.length = u.image → recordCount s < 2 ^ 32 →
         (∃ i, i < 1024 ∧ (flashBytes s (65536 * recordSector s + 64 * i) 64).all (· == 0xFF) = true) → isCommitted t u.target = true))) ∧
    (asleep s = false → s.boot.step = 6 → Completes (.flashOperationDone true) s (fun t =>
      let o := 1 - u.target
      t.boot.flash = (appendRecord s 2 o (hdrField (slotHeader s o) 8 4) (headerDigest (slotHeader s o))).boot.flash ∧
      t.boot.step = 7 ∧ t.boot.upd = none)) ∧
    (asleep s = false → s.boot.step < 2 ∨ 6 < s.boot.step → exec (.flashOperationDone true) s = .next s)) ∧
  -- an FoE delivery is answered as its update ends
  (∀ (u : Upd) (s : State), s.boot.upd = some u → u.foe = true →
    Completes (.flashOperationDone false) s (fun t => t.boot.step = 8 ∧ t.boot.upd = none ∧ t.field.foe = none ∧ t.field.ansCode = 0x800B ∧
      t.field.ansBusy = false) ∧
    (asleep s = false → s.boot.step = 6 → Completes (.flashOperationDone true) s (fun t => t.boot.step = 7 ∧ t.field.foe = none ∧ t.field.ansCode = 0)) ∧
    (asleep s = false → s.boot.step = 2 → exec (.flashOperationDone true) s = .next { s with boot := { s.boot with step := 3 } })) ∧
  -- a record stands where the sector in use has room; a full one is compacted into the other sector first (R344)
  (∀ (s : State) (kind slot seq : Nat) (dig : List Byte),
    let t := appendRecord s kind slot seq dig
    let r := recordBytes kind slot seq (recordCount s) dig
    let sec := 65536 * recordSector s
    let room := fun (i : Nat) => (flashBytes s (sec + 64 * i) 64).all (· == 0xFF) = true
    ((∃ i, i < 1024 ∧ room i) → ∃ i, i < 1024 ∧ room i ∧ (∀ j, j < i → ¬ room j) ∧ flashBytes t (sec + 64 * i) 64 = r ∧
      ∀ a, a < sec + 64 * i ∨ sec + 64 * i + 64 ≤ a → flashByte t a = flashByte s a) ∧
    ((∀ i, i < 1024 → ¬ room i) →
      let other := 65536 - sec
      let keep := (([0, 1] : List Nat).filterMap (latestRecord s)).map (·.2)
      (∀ i, i < keep.length → flashBytes t (other + 64 * i) 64 = keep.getD i []) ∧ flashBytes t (other + 64 * keep.length) 64 = r ∧
      (∀ a, sec ≤ a ∧ a < sec + 65536 → flashByte t a = 0xFF) ∧ (∀ a, 131072 ≤ a → flashByte t a = flashByte s a))) ∧
  (∀ (l : List Byte) (s : State), (alwaysState s = false → exec (.nonce l) s = .next (answer s wrongState)) ∧
    (alwaysState s = true → l.length ≠ 32 → exec (.nonce l) s = .next (answer s 0x06070010)) ∧
    (alwaysState s = true → l.length = 32 → exec (.nonce l) s = .next (answer { s with boot := { s.boot with nonce := some l } } 0))) ∧
  (∀ s : State, (alwaysState s = false → exec .quote s = .next (answer s wrongState)) ∧
    (alwaysState s = true → s.boot.nonce = none ∨ s.boot.latchOpen = false ∨ 65536 ≤ s.boot.leaf → Completes .quote s (fun t =>
      t.dev.answer = 0x08000020 ∧ t.field.ansData = [] ∧ t.boot = s.boot)) ∧
    (∀ n, alwaysState s = true → s.boot.nonce = some n → s.boot.latchOpen = true → s.boot.leaf < 65536 → Completes .quote s (fun t =>
      t.dev.answer = 0 ∧ t.boot.leaf = s.boot.leaf + 1 ∧ t.boot.nonce = none ∧ t.field.ansData = t.boot.quote ∧
      t.boot.quote = quoteHead s n ++ padTo 2692 (Config.xmssSign identitySecret s.boot.leaf (quoteHead s n)) ∧ t.cells = s.cells)))

/-! ### The field port -/

/-- spec/12 R325 to R328: what the AL requests do: in BOOT a request is held, a later one in its place; INIT and PREOP move a device
under the master to CONFIG; SAFEOP passes R326's checks in their order or sets the error flag with the code; OP waits for outputs;
the watchdog falls back. -/
def Obligations.AlRequests : Prop :=
  (∀ s : State, s.power.pstate = 3 ∨ powered s = false → exec .initRequest s = .next s ∧ exec .preopRequest s = .next s ∧
    (∀ e, exec (.safeopRequest e) s = .next s) ∧ exec .opRequest s = .next s ∧ exec .bootstrapRequest s = .next s) ∧
  (∀ (e : EscConfig) (s : State), cobblerUp s = true → s.dev.state = .boot →
    exec .initRequest s = .next { s with dev := { s.dev with alHeld := some .init } } ∧
    exec .preopRequest s = .next { s with dev := { s.dev with alHeld := some .preop } } ∧
    exec (.safeopRequest e) s = .next { s with dev := { s.dev with alHeld := some .safeop } } ∧
    exec .opRequest s = .next { s with dev := { s.dev with alHeld := some .op } } ∧
    exec .bootstrapRequest s = .next { s with dev := { s.dev with alHeld := some .bootstrap } }) ∧
  (∀ s : State, cobblerUp s = true → s.dev.state ≠ .boot →
    Completes .initRequest s (fun t => t.dev.al = .init ∧ t.field.sdo = none ∧ (s.dev.hostControl ≠ 1 → runtimeState s = true → t.dev.state = .config) ∧
      (s.dev.hostControl = 1 ∨ runtimeState s = false → t.dev.state = s.dev.state)) ∧
    Completes .preopRequest s (fun t => t.dev.al = .preop ∧ (s.dev.hostControl ≠ 1 → runtimeState s = true → t.dev.state = .config) ∧
      (s.dev.hostControl = 1 ∨ runtimeState s = false → t.dev.state = s.dev.state)) ∧
    exec .bootstrapRequest s = .next (alRefuse s 0x0013)) ∧
  (∀ (e : EscConfig) (s : State), cobblerUp s = true → s.dev.state ≠ .boot →
    (s.dev.state = .fault → exec (.safeopRequest e) s = .next (alRefuse s 0x8001) ∧ exec .opRequest s = .next (alRefuse s 0x8001)) ∧
    (s.dev.state ≠ .fault →
      (s.dev.al = .init → exec (.safeopRequest e) s = .next (alRefuse s 0x0011) ∧ exec .opRequest s = .next (alRefuse s 0x0011)) ∧
      (s.dev.al = .preop → exec .opRequest s = .next (alRefuse s 0x0011)) ∧
      (∀ code, s.dev.al = .preop → safeopCheck s e = some code → exec (.safeopRequest e) s = .next (alRefuse s code)) ∧
      (s.dev.al = .preop → safeopCheck s e = none → ∃ u, exec (.safeopRequest e) s = .next (enterWork u) ∧ u.dev.al = .safeop ∧
        u.dev.alError = false ∧ u.field.esc = e ∧ u.field.sm2Written = false ∧ u.ctxs = s.ctxs ∧ u.fabric = s.fabric) ∧
      (s.dev.al = .safeop → exec (.safeopRequest e) s = .next { s with dev := { s.dev with alError := false } }) ∧
      (s.dev.al = .op → exec (.safeopRequest e) s = .next (enterWork { s with dev := { s.dev with al := .safeop, alError := false } }) ∧
        exec .opRequest s = .next { s with dev := { s.dev with alError := false } }) ∧
      (s.dev.al = .safeop → s.field.sm2Written = false → smLength s.field.esc 2 ≠ 0 → exec .opRequest s = .next s) ∧
      (s.dev.al = .safeop → s.field.sm2Written = true ∨ smLength s.field.esc 2 = 0 → exec .opRequest s =
        .next (enterWork { s with dev := { s.dev with al := .op, alError := false, ctlFresh := true } })))) ∧
  (∀ (s : State) (code : Nat), (alRefuse s code).dev.alError = true ∧ (alRefuse s code).dev.alCode = code ∧ (alRefuse s code).dev.al = s.dev.al ∧
    leafIsSet (alRefuse s code).causes (.main gField 2) = true) ∧
  (∀ s : State, ∃ v, enterWork s = launchHeld v ∧ v = { s with dev := v.dev } ∧ v.dev.state = (if isDegraded s = true then .degraded else workState s) ∧
    (s.dev.hostControl ≠ 1 → workState s = if s.dev.al = .op then .run else .ready) ∧
    (s.dev.hostControl = 1 → workState s = if s.dev.hostState = 2 then .run else .ready)) ∧
  (∀ s : State, (∀ c, launchDue s c = false) → launchHeld s = s) ∧
  (∀ s : State, (s.dev.al ≠ .op ∨ smLength s.field.esc 2 = 0 → exec .sm2Watchdog s = .next s) ∧
    (s.dev.al = .op → smLength s.field.esc 2 ≠ 0 → ∃ u, exec .sm2Watchdog s = .next (enterWork u) ∧ u.dev.al = .safeop ∧ u.dev.alError = true ∧
      u.dev.alCode = 0x001B ∧ leafIsSet u.causes (.main gField 4) = true ∧ u.field = s.field))

/-- spec/12 R310, R314, R316, R331, R334: the inputs are latched and the outputs applied at the moments of their sync types, an apply
comes before a job formation of its DC time (for jobs not started: log entry 153), the first control word after entering OP only sets the
reference, and an edge of an activated sync unit makes the copies due, or counts one that the copy before it skips; a SYNC0 that did
not come is a sync error. -/
def Obligations.ProcessData : Prop :=
  (∀ s : State, let f := s.field
    let due := if f.inType = 0 then s.now % 62500 = 0 else if f.inType = 2 then ∃ t, f.inDue = some t ∧ t ≤ s.now else True
    let on := cobblerUp s = true ∧ (s.dev.al = .safeop ∨ s.dev.al = .op)
    (¬ on ∨ ¬ due → exec .inputLatch s = .next s) ∧
    (on → due → Completes .inputLatch s (fun t => t.field.sm3 = inputImage s ∧ t.field.latchAt = some s.now ∧ t.field.inDue = none ∧
      t.field.ram = writeBytes f.ram 0x2400 (inputImage s) ∧ t.field.result = f.result ∧ t.field.pdo = f.pdo ∧ t = { s with field := t.field }))) ∧
  (∀ (l : List Byte) (s : State), let f := s.field
    let on := cobblerUp s = true ∧ (s.dev.al = .safeop ∨ s.dev.al = .op) ∧ l.length = smLength f.esc 2
    let late := f.outType = 2 ∧ ¬ ∃ t, f.outDue = some t ∧ t ≤ s.now
    (¬ on → exec (.outputApply l) s = .next s) ∧
    let cycle := if f.outType = 1 then (match f.sm2At with | some t => s.now - t | none => f.outCycle) else f.outCycle
    (on → s.dev.al = .safeop ∨ late → exec (.outputApply l) s = .next { s with field := { f with
      sm2Written := true, sm2At := some s.now, outCycle := cycle, ram := writeBytes f.ram 0x1800 l } }) ∧
    (on → s.dev.al = .op → ¬ late → ∃ u, exec (.outputApply l) s = .next (argTie (applyAll u (mappedEntries f.pdo false) l)) ∧
      u.field.sm2Written = true ∧ u.field.sm2At = some s.now ∧ u.field.outCycle = cycle ∧ u.field.ram = writeBytes f.ram 0x1800 l ∧
      u.field.applyAt = some s.now ∧ u.field.outDue = none ∧ u = { s with field := u.field })) ∧
  -- the apply comes before a job formation of the same DC time
  (∀ s : State, argTie s = { s with jobs := (argTie s).jobs } ∧ ∀ (k : Nat) (j : Job), s.jobs[k]? = some j →
    (j.argAt = some s.now → j.tStart = none → (argTie s).jobs[k]? = some { j with arg := boundArg s j.ctx }) ∧
    (j.argAt ≠ some s.now ∨ j.tStart ≠ none → (argTie s).jobs[k]? = some j)) ∧
  (∀ (s : State) (v : Nat) (rest : List Nat) (l : List Byte), applyAll s (v :: rest) l =
    applyAll (applyEntry s v (l.take (v % 256 / 8))) rest (l.drop (v % 256 / 8))) ∧
  (∀ (s : State) (v : BitVec 16), (s.dev.ctlFresh = true → applyControl s v = { s with dev := { s.dev with ctl := v &&& 0xF, ctlFresh := false } }) ∧
    (s.dev.ctlFresh = false → applyControl s v = controlWord s v)) ∧
  (∀ (i : Fin 2) (s : State), let f := s.field
    let work := s.dev.al = .safeop ∨ s.dev.al = .op
    let edge := powered s = true ∧ syncOn f.esc i.val = true ∧ syncTick f.esc i.val s.now = true
    let missed := f.syncEdges.any (fun p => p.1 == 0 && decide (p.2 + f.esc.sync0Cycle + 10 ≤ s.now))
    -- a copy that is due and not begun, or that still runs
    let inBusy := f.inDue ≠ none ∨ ∃ a, f.latchAt = some a ∧ s.now < a + 10000
    let outBusy := f.outDue ≠ none ∨ ∃ a, f.applyAt = some a ∧ s.now < a + 5000
    (¬ edge → exec (.syncEdge i) s = .next s) ∧
    (edge → i = 1 ∨ ¬ work → exec (.syncEdge i) s = .next { s with field := { f with syncEdges := put 0 f.syncEdges i.val s.now } }) ∧
    (edge → i = 0 → work → Completes (.syncEdge i) s (fun t => t = { s with field := t.field } ∧ lookup 0 t.field.syncEdges 0 = s.now ∧
      (f.inType ≠ 2 → t.field.inDue = f.inDue ∧ t.field.inSmall = f.inSmall ∧ t.field.inErr = f.inErr) ∧
      (f.inType = 2 → ¬ inBusy → t.field.inDue = some (s.now + f.inShift) ∧ t.field.inSmall = f.inSmall ∧ t.field.inErr = missed) ∧
      (f.inType = 2 → inBusy → t.field.inDue = f.inDue ∧ t.field.inSmall = satAdd 16 f.inSmall 1 ∧ t.field.inErr = true) ∧
      (f.outType ≠ 2 → t.field.outDue = f.outDue ∧ t.field.outSmall = f.outSmall ∧ t.field.outErr = f.outErr) ∧
      (f.outType = 2 → ¬ outBusy → t.field.outDue = some (s.now + f.outShift) ∧ t.field.outSmall = f.outSmall ∧ t.field.outErr = missed) ∧
      (f.outType = 2 → outBusy → t.field.outDue = f.outDue ∧ t.field.outSmall = satAdd 16 f.outSmall 1 ∧ t.field.outErr = true))))

/-- spec/12 R315 to R317, R328, R331, R334: ACK clears event leaves and keeps condition leaves, RESTART restarts, HOST_STATE moves
a device under host control; bindings and mappings are written in CONFIG alone. -/
def Obligations.ControlAndBindings : Prop :=
  (∀ s : State,
    (alwaysState s = false → exec .ack s = .next (answer s wrongState) ∧ exec .restart s = .next (answer s wrongState) ∧
      ∀ v, exec (.hostState v) s = .next (answer s wrongState)) ∧
    (alwaysState s = true → Completes .ack s (fun t => t.dev.answer = 0 ∧ t.dev.ctl = s.dev.ctl ||| 2 ∧ t.causes.istFailed = 0 ∧
      (∀ b, b < 64 → leafIsSet t.causes (.main gCell b) = false ∧ leafIsSet t.causes (.main gLate b) = false) ∧ t.cells = s.cells ∧
      (leafIsSet s.causes (.main gThermal 0) = true → leafIsSet t.causes (.main gThermal 0) = true))) ∧
    (alwaysState s = true → exec .restart s = .next (startRestart (answer { s with dev := { s.dev with ctl := s.dev.ctl ||| 1 } } 0) 5)) ∧
    (∀ v : Fin 4, alwaysState s = true → s.dev.hostControl ≠ 1 ∨ v = 3 → Completes (.hostState v) s (fun t => t.dev.answer = 0 ∧
      t.dev.state = s.dev.state ∧ t.ctxs = s.ctxs)) ∧
    (∀ v : Fin 4, setupState s = true → s.dev.hostControl = 1 → v = 1 ∨ v = 2 →
      (s.dev.state ≠ .degraded → ∃ u, exec (.hostState v) s = .next (enterWork u) ∧ u = { s with dev := u.dev } ∧ u.dev.hostState = v.val ∧
        u.dev.state = s.dev.state ∧ u.dev.answer = 0 ∧ workState u = (if v = 2 then .run else .ready)) ∧
      (s.dev.state = .degraded → Completes (.hostState v) s (fun t => t.dev.state = .degraded ∧ t.dev.hostState = v.val ∧ t.dev.answer = 0))) ∧
    (setupState s = true → s.dev.hostControl = 1 → Completes (.hostState 0) s (fun t => t.dev.state = .config ∧ t.dev.hostState = 0))) ∧
  (∀ (k : Fin 256) (v : BitVec 32) (s : State),
    (configState s = false → exec (.resultBinding k v) s = .next (answer s wrongState)) ∧
    (configState s = true → exec (.resultBinding k v) s = .next (answer { s with field := { s.field with
      result := put {} s.field.result k.val { binding := v &&& 0x800F0FFF } } } 0))) ∧
  (∀ (k : Fin 64) (v : BitVec 16) (s : State), let taken := v.getLsbD 15 = true ∧ argTaken s k.val (v.toNat % 4096) = true
    (configState s = false → exec (.argumentBinding k v) s = .next (answer s wrongState)) ∧
    (configState s = true → taken → exec (.argumentBinding k v) s = .next (answer s refusedCode)) ∧
    (configState s = true → ¬ taken → Completes (.argumentBinding k v) s (fun t => (t.argObj k.val).binding = v &&& 0x8FFF ∧
      (t.argObj k.val).value = (s.argObj k.val).value ∧ (∀ j, j ≠ k.val → t.argObj j = s.argObj j) ∧ t.dev = { s.dev with answer := 0 }))) ∧
  (∀ (i : BitVec 16) (sub : Byte) (v : BitVec 32) (s : State), let ofPdo := isTxMap i.toNat = true ∨ isRxMap i.toNat = true ∨ isAssign i.toNat = true
    let m := put 0 s.field.pdo (i.toNat * 256 + sub.toNat) v.toNat
    let ok := pdoOk s.field.pdo i.toNat sub.toNat v.toNat = true ∧ mappedBytes m true ≤ 2560 ∧ mappedBytes m false ≤ 1024
    (¬ ofPdo → exec (.pdoMapping i sub v) s = .refused .illFormed) ∧
    (ofPdo → odEntry i.toNat sub.toNat = none → exec (.pdoMapping i sub v) s = .next (answer s 0x06090011)) ∧
    (ofPdo → odEntry i.toNat sub.toNat ≠ none → configState s = false → exec (.pdoMapping i sub v) s = .next (answer s wrongState)) ∧
    (ofPdo → odEntry i.toNat sub.toNat ≠ none → configState s = true → ¬ ok → exec (.pdoMapping i sub v) s = .next (answer s refusedCode)) ∧
    (ofPdo → odEntry i.toNat sub.toNat ≠ none → configState s = true → ok → exec (.pdoMapping i sub v) s =
      .next (answer { s with field := { s.field with pdo := m } } 0)))

/-- spec/11 R297, spec/12 R319, R320, R329, R332: an entry's access meets its checks in one order, existence, access, state,
length, and an SDO transfer answers with the abort code or the data; segments alternate their toggle bit; SDO Information
describes what exists. -/
def Obligations.DictionaryAccess : Prop :=
  (∀ (i sub : Nat) (l : List Byte) (s : State),
    (reachable s = false → odWrite s i sub l = answer s wrongState) ∧
    (reachable s = true → odRows i = [] → odWrite s i sub l = answer s noObject) ∧
    (reachable s = true → odRows i ≠ [] → odEntry i sub = none → odWrite s i sub l = answer s noSubindex) ∧
    (∀ r, reachable s = true → odEntry i sub = some r →
      (r.acc = .ro ∨ r.acc = .const → odWrite s i sub l = answer s writeRo) ∧
      (r.acc ≠ .ro → r.acc ≠ .const → classOk s r.cls = false → odWrite s i sub l = answer s wrongState) ∧
      (r.acc ≠ .ro → r.acc ≠ .const → classOk s r.cls = true → lengthOk r.typ l.length = false → odWrite s i sub l = answer s badLength) ∧
      (r.acc ≠ .ro → r.acc ≠ .const → classOk s r.cls = true → lengthOk r.typ l.length = true → r.typ = .boolean → 1 < leNat l →
        odWrite s i sub l = answer s outOfRange) ∧
      (r.acc ≠ .ro → r.acc ≠ .const → classOk s r.cls = true → lengthOk r.typ l.length = true → r.typ ≠ .boolean ∨ leNat l ≤ 1 →
        odWrite s i sub l = odPut s i sub l) ∧
      (r.acc = .wo → odRead s i sub = (s, readWo, [])) ∧
      (r.acc ≠ .wo → ¬ (i = 0x2710 ∧ sub = 2) → odRead s i sub = (readEffect s i sub, 0, odValue s i sub)))) ∧
  (∀ (i : BitVec 16) (sub : Byte) (l : List Byte) (s : State),
    exec (.registerWrite (.entry i sub l)) s = .next (odWrite s i.toNat sub.toNat l)) ∧
  (∀ (i : BitVec 16) (sub : Byte) (s : State), mailboxOn s = true →
    let u := { s with field := { s.field with sdo := none } }
    let r := odRead u i.toNat sub.toNat
    (r.2.1 ≠ 0 → exec (.sdoUpload i sub) s = .next (reply r.1 r.2.1 [])) ∧
    (r.2.1 = 0 → r.2.2.length ≤ 1008 → exec (.sdoUpload i sub) s = .next (reply r.1 0 r.2.2)) ∧
    (r.2.1 = 0 → 1008 < r.2.2.length → Completes (.sdoUpload i sub) s (fun t => t.field.ansCode = 0 ∧ t.field.ansData = r.2.2.take 1008 ∧
      ∃ x, t.field.sdo = some x ∧ x.upload = true ∧ x.data = r.2.2.drop 1008 ∧ x.toggle = false ∧ x.total = r.2.2.length)) ∧
    (∀ (total : Nat) (l : List Byte), l.length ≤ total → l.length ≤ 1008 →
      (total = l.length → exec (.sdoDownload i sub total l) s = .next (reply (odWrite u i.toNat sub.toNat l) (odWrite u i.toNat sub.toNat l).dev.answer.toNat [])) ∧
      (total ≠ l.length → 65536 < total → exec (.sdoDownload i sub total l) s = .next (reply u 0x05040005 [])) ∧
      (∀ r, total ≠ l.length → total ≤ 65536 → odEntry i.toNat sub.toNat = some r → r.acc ≠ .ro → r.acc ≠ .const →
        Completes (.sdoDownload i sub total l) s (fun t => t.field.ansCode = 0 ∧
          t.field.sdo = some ⟨false, i.toNat, sub.toNat, total, l, false, s.now⟩ ∧ t = { s with field := t.field }))) ∧
    (∀ l, reachable s = true → odRows i.toNat = [] → exec (.completeAccess false i 0 l) s = .next (reply u noObject []) ∧
      exec (.completeAccess true i 0 l) s = .next (reply u noObject [])) ∧
    (∀ l, reachable s = true → odRows i.toNat ≠ [] → caWritable i.toNat = false →
      exec (.completeAccess true i 0 l) s = .next (reply u 0x06010000 [])) ∧
    (∀ l, reachable s = true → odRows i.toNat ≠ [] → caWritable i.toNat = true → ∀ k : Fin 2,
      exec (.completeAccess true i k l) s = .next (reply (caWrite u i.toNat k.val l) (caWrite u i.toNat k.val l).dev.answer.toNat [])) ∧
    (∀ l (k : Fin 2), reachable s = true → odRows i.toNat ≠ [] → let c := caRead u i.toNat k.val
      c.2.1 = 0 → c.2.2.length ≤ 1008 → exec (.completeAccess false i k l) s = .next (reply c.1 0 c.2.2)) ∧
    (odRows i.toNat = [] → exec (.getObjectDescription i) s = .next (reply s noObject [])) ∧
    (odRows i.toNat ≠ [] → Completes (.getObjectDescription i) s (fun t => t.field.info = some (.object i.toNat (odHighest i.toNat)) ∧ t.field.ansCode = 0)) ∧
    (odEntry i.toNat sub.toNat = none → exec (.getEntryDescription i sub) s = .next (reply s (missing i.toNat) [])) ∧
    (∀ r, odEntry i.toNat sub.toNat = some r → Completes (.getEntryDescription i sub) s (fun t => t.field.ansCode = 0 ∧
      t.field.info = some (.entry r.typ (8 * r.typ.size) r.acc r.mapping (odValue defaultState i.toNat sub.toNat) r.range))) ∧
    (∀ k : Fin 6, k ≠ 0 → Completes (.getOdList k) s (fun t => t.field.info = some (.list (odListOf k.val)) ∧ t.field.ansCode = 0)) ∧
    Completes (.getOdList 0) s (fun t => t.field.info = some (.lengths ((List.range 5).map (fun k => (odListOf (k + 1)).length))) ∧ t.field.ansCode = 0)) ∧
  (∀ (i : BitVec 16) (sub : Byte) (k : Fin 6) (s : State), mailboxOn s = false → exec (.sdoUpload i sub) s = .next s ∧
    (∀ (total : Nat) (l : List Byte), l.length ≤ total → l.length ≤ 1008 → exec (.sdoDownload i sub total l) s = .next s) ∧
    (∀ (tg last : Bool) (l : List Byte), l.length ≤ 1015 → exec (.sdoSegment tg last l) s = .next s) ∧
    (∀ (w : Bool) (n : Fin 2) (l : List Byte), exec (.completeAccess w i n l) s = .next s) ∧ exec (.getOdList k) s = .next s ∧
    exec (.getObjectDescription i) s = .next s ∧ exec (.getEntryDescription i sub) s = .next s) ∧
  (∀ (tg last : Bool) (l : List Byte) (s : State), mailboxOn s = true → l.length ≤ 1015 →
    (s.field.sdo = none → exec (.sdoSegment tg last l) s = .next (reply s 0x05040001 [])) ∧
    (∀ x, s.field.sdo = some x →
      let u := { s with field := { s.field with sdo := none } }
      (tg ≠ x.toggle → exec (.sdoSegment tg last l) s = .next (reply u 0x05030000 [])) ∧
      (tg = x.toggle → x.upload = true → Completes (.sdoSegment tg last l) s (fun t => t.field.ansData = x.data.take 1015 ∧ t.field.ansCode = 0 ∧
        (x.data.length ≤ 1015 → t.field.sdo = none) ∧
        (1015 < x.data.length → t.field.sdo = some { x with data := x.data.drop 1015, toggle := !x.toggle, since := s.now }))) ∧
      (tg = x.toggle → x.upload = false → last = true → (x.data ++ l).length = x.total → exec (.sdoSegment tg last l) s =
        .next (reply (odWrite u x.index x.sub (x.data ++ l)) (odWrite u x.index x.sub (x.data ++ l)).dev.answer.toNat [])) ∧
      (tg = x.toggle → x.upload = false → last = true → (x.data ++ l).length ≠ x.total → exec (.sdoSegment tg last l) s = .next (reply u badLength [])) ∧
      (tg = x.toggle → x.upload = false → last = false → (x.data ++ l).length ≤ x.total → Completes (.sdoSegment tg last l) s (fun t =>
        t.field.sdo = some { x with data := x.data ++ l, toggle := !x.toggle, since := s.now } ∧ t.field.ansCode = 0)) ∧
      (s.now < x.since + 1000000000 → exec .sdoSegmentTimeout s = .next s) ∧
      (x.since + 1000000000 ≤ s.now → exec .sdoSegmentTimeout s = .next (reply u 0x05040000 []))) ∧
    (s.field.sdo = none → exec .sdoSegmentTimeout s = .next s))

/-- spec/12 R301, R321 to R323, spec/13 R350: FoE writes FIRMWARE and PLM: files, reads PLM: files and refuses a read of FIRMWARE;
packets out of order end a transfer; while the flash is erased or programmed the answer is BUSY, and a packet of a read that holds an
unreadable word ends the transfer (log entry 148); other mailbox types set MBX_ERROR; the oldest emergency message goes out with the error
register. -/
def Obligations.FoeAndMessages : Prop :=
  (∀ s : State, mailboxOn s = false → (∀ p, exec (.foeWriteFirmware p) s = .next s) ∧ exec .foeReadFirmware s = .next s ∧
    (∀ n p, exec (.foeReadPlm n p) s = .next s ∧ exec (.foeWritePlm n p) s = .next s) ∧ (∀ b, exec (.mbxError b) s = .next s) ∧
    exec .emergency s = .next s) ∧
  (∀ s : State, mailboxOn s = true → exec .foeReadFirmware s = .next (reply s 0x8002 [])) ∧
  (∀ (p : BitVec 32) (n : List Byte) (s : State), mailboxOn s = true → foeOpen s = false ∨ p ≠ 0 →
    exec (.foeWriteFirmware p) s = .next (replyOpen s) ∧ exec (.foeReadPlm n p) s = .next (replyOpen s) ∧ exec (.foeWritePlm n p) s = .next (replyOpen s)) ∧
  (∀ (n : List Byte) (s : State), foeOpen s = true →
    (s.boot.upd ≠ none → exec (.foeWriteFirmware 0) s = .next (reply s 0x8002 [])) ∧
    (s.boot.upd = none → Completes (.foeWriteFirmware 0) s (fun t => t.field.foe = some ⟨0, 0, 1, []⟩ ∧ t.field.ansCode = 0 ∧ t.boot = s.boot)) ∧
    (n ≠ ascii "FIRMWARE" → plmName n = none → exec (.foeReadPlm n 0) s = .next (reply s 0x8001 []) ∧ exec (.foeWritePlm n 0) s = .next (reply s 0x8001 [])) ∧
    (∀ a, n ≠ ascii "FIRMWARE" → plmName n = some a → a % 32 ≠ 0 ∨ lpddrSize ≤ a → exec (.foeReadPlm n 0) s = .next (reply s 0x8004 []) ∧
      exec (.foeWritePlm n 0) s = .next (reply s 0x8004 [])) ∧
    (∀ a, n ≠ ascii "FIRMWARE" → plmName n = some a → a % 32 = 0 → a < lpddrSize → foeBusy s = false →
      let lost := badIn s a (plmChunk s a 1).length ≠ [] ∨ lostIn s a (plmChunk s a 1).length = true
      (¬ lost → Completes (.foeReadPlm n 0) s (fun t => t.field.foe = some ⟨2, a, 1, []⟩ ∧ t.field.ansData = plmChunk s a 1 ∧ t.fabric = s.fabric)) ∧
      (lost → Completes (.foeReadPlm n 0) s (fun t => t.field.foe = none ∧ t.field.ansCode = 0x8002 ∧ t.field.ansData = [])) ∧
      Completes (.foeWritePlm n 0) s (fun t => t.field.foe = some ⟨1, a, 1, []⟩ ∧ t.field.ansCode = 0 ∧ t.fabric = s.fabric)) ∧
    exec (.foeReadPlm (ascii "FIRMWARE") 0) s = .next (reply s 0x8002 []) ∧
    exec (.foeWritePlm (ascii "FIRMWARE") 0) s = exec (.foeWriteFirmware 0) s ∧
    (∀ a, n ≠ ascii "FIRMWARE" → plmName n = some a → foeBusy s = true → a % 32 = 0 → a < lpddrSize →
      exec (.foeReadPlm n 0) s = .next (replyBusy s) ∧ exec (.foeWritePlm n 0) s = .next (replyBusy s))) ∧
  (∀ (p : BitVec 32) (l : List Byte) (s : State), l.length ≤ 1012 → foeOpen s = false → exec (.foeData p l) s = .next s) ∧
  (∀ (p : BitVec 32) (l : List Byte) (s : State), l.length ≤ 1012 → foeOpen s = true →
    (s.field.foe = none → exec (.foeData p l) s = .next s) ∧
    (∀ x, s.field.foe = some x → x.kind = 3 ∨ (foeBusy s = true ∧ x.kind ≠ 0) → exec (.foeData p l) s = .next (replyBusy s)) ∧
    (∀ x, s.field.foe = some x → x.kind ≠ 3 → foeBusy s = false ∨ x.kind = 0 → p.toNat ≠ x.packet → exec (.foeData p l) s =
      .next (reply { s with field := { s.field with foe := none } } 0x8005 [])) ∧
    (∀ x, s.field.foe = some x → x.kind = 0 → p.toNat = x.packet → l.length = 1012 → (x.data ++ l).length ≤ 6295552 →
      Completes (.foeData p l) s (fun t => t.field.foe = some { x with packet := x.packet + 1, data := x.data ++ l } ∧ t.field.ansCode = 0 ∧ t.boot = s.boot)) ∧
    (∀ x, s.field.foe = some x → x.kind = 0 → p.toNat = x.packet → l.length < 1012 → (x.data ++ l).length ≤ 6295552 →
      exec (.foeData p l) s = .next (foeImage s (x.data ++ l))) ∧
    (∀ x, s.field.foe = some x → x.kind = 0 → p.toNat = x.packet → 6295552 < (x.data ++ l).length → exec (.foeData p l) s =
      .next (reply { s with field := { s.field with foe := none } } 0x800B [])) ∧
    (∀ x, s.field.foe = some x → x.kind = 2 → foeBusy s = false → p.toNat = x.packet → (plmChunk s x.addr x.packet).length = 1012 →
      let c := plmChunk s x.addr (x.packet + 1)
      badIn s (x.addr + 1012 * x.packet) c.length = [] → lostIn s (x.addr + 1012 * x.packet) c.length = false →
      Completes (.foeData p l) s (fun t => t.field.foe = some { x with packet := x.packet + 1 } ∧ t.field.ansData = c ∧ t.fabric = s.fabric)) ∧
    (∀ x, s.field.foe = some x → x.kind = 2 → foeBusy s = false → p.toNat = x.packet → (plmChunk s x.addr x.packet).length ≠ 1012 →
      exec (.foeData p l) s = .next (reply { s with field := { s.field with foe := none } } 0 [])) ∧
    (∀ x, s.field.foe = some x → x.kind = 1 → foeBusy s = false → p.toNat = x.packet →
      let r := plmLand s (x.addr + 1012 * (x.packet - 1)) l
      let ends := fun (f : Option FoeSt) => { r.1 with field := { r.1.field with foe := f } }
      (min 268435456 (lpddrSize - x.addr) < 1012 * (x.packet - 1) + l.length → exec (.foeData p l) s =
        .next (reply { s with field := { s.field with foe := none } } 0x8004 [])) ∧
      (1012 * (x.packet - 1) + l.length ≤ min 268435456 (lpddrSize - x.addr) →
        (r.2 = false → exec (.foeData p l) s = .next (reply (ends none) 0x8002 [])) ∧
        (r.2 = true → l.length < 1012 → exec (.foeData p l) s = .next (reply (ends none) 0 [])) ∧
        (r.2 = true → l.length = 1012 → exec (.foeData p l) s = .next (reply (ends (some { x with packet := x.packet + 1 })) 0 []))))) ∧
  (∀ (d : List Byte) (s : State), s.boot.upd = none → let u := beginUpdate s d true true
    (u.boot.upd ≠ none → foeImage s d = replyBusy { u with field := { u.field with foe := some ⟨3, 0, 0, []⟩ } }) ∧
    (u.boot.upd = none → foeImage s d = reply { u with field := { u.field with foe := none } } 0x800B [])) ∧
  (∀ (b : Byte) (s : State), mailboxOn s = true →
    (b = 3 ∨ b = 4 → exec (.mbxError b) s = .next s) ∧
    (b ≠ 3 → b ≠ 4 → Completes (.mbxError b) s (fun t => leafIsSet t.causes (.main gField 5) = true ∧ t.field.ansData = [] ∧ t.cells = s.cells ∧
      t.free = s.free + 1))) ∧
  (∀ s : State, (s.causes.emQueue = [] → exec .emergency s = .next s) ∧
    (∀ m rest, mailboxOn s = true → s.causes.emQueue = m :: rest → exec .emergency s =
      .next { s with causes := { s.causes with emQueue := rest, emSent := some { m with reg := errorRegister s.causes } } })) ∧
  (∀ (s : State) (m : EmMsg), s.dev.al ≠ .init → (queueEmergency s m).causes.emQueue.length ≤ max 16 s.causes.emQueue.length ∧
    (queueEmergency s m).causes.emSeq = (s.causes.emSeq + 1) % 256 ∧
    (16 ≤ s.causes.emQueue.length → (queueEmergency s m).causes.emDiscarded = satAdd 32 s.causes.emDiscarded 1))

/-- spec/12 R303 to R306, R309, R311, R312, R335, spec/14 R369: the distributed clock follows the master and steps in BOOT and
CONFIG only, edges are captured, links are reported, the bypass engages and releases, the SII refuses writes, the TAP holds its
instruction. -/
def Obligations.ClocksLinksAndBypass : Prop :=
  (∀ (d : BitVec 32) (s : State), (supplied s.dev = false → exec (.driftCompensation d) s = .next s) ∧
    (supplied s.dev = true → Completes (.driftCompensation d) s (fun t => t.dev.drift = d ∧ t.dev.driftAt = some s.now ∧
      t.dev.dcSynced = syncHolds t ∧ (d.toInt < -1000 ∨ 1000 < d.toInt → t.dev.driftBadAt = some s.now ∧ t.dev.dcSynced = false) ∧
      (s.dev.dcSynced = true → t.dev.dcSynced = false → leafIsSet t.causes (.main gField 3) = true) ∧ t.cells = s.cells))) ∧
  (∀ s : State, Completes .syncLost s (fun t => t.dev.dcSynced = syncHolds s ∧ (t.dev.dcSynced = s.dev.dcSynced → t = s) ∧
    (s.dev.dcSynced = true → t.dev.dcSynced = false → leafIsSet t.causes (.main gField 3) = true))) ∧
  (∀ (w : TimeWrite) (s : State), (supplied s.dev = false → exec (.systemTimeOffset w) s = .next s) ∧
    (supplied s.dev = true → s.dev.state = .boot ∨ s.dev.state = .config → Completes (.systemTimeOffset w) s (fun t =>
      (∀ o, w = .offset o → t.dev.dc = s.dev.dc - s.dev.dcOffset + o ∧ t.dev.dcOffset = o) ∧
      (∀ v, w = .localTime v → t.dev.dc = v ∧ t.dev.dcOffset = s.dev.dcOffset) ∧
      -- the last drift updates keep their distance from now (R312)
      (∀ a, s.dev.driftAt = some a → a ≤ s.now → s.now - a ≤ t.now → ∃ b, t.dev.driftAt = some b ∧ t.now - b = s.now - a) ∧
      t.dev.dcSynced = syncHolds t ∧ t.ctxs = s.ctxs ∧ t.jobs = s.jobs)) ∧
    (supplied s.dev = true → s.dev.state ≠ .boot → s.dev.state ≠ .config → Completes (.systemTimeOffset w) s (fun t =>
      t.dev = s.dev ∧ leafIsSet t.causes (.main gField 3) = true))) ∧
  (∀ (pin : Fin 2) (rising : Bool) (s : State), let k := 2 * pin.val + (if rising then 0 else 1)
    let last := lookup 0 s.field.latchLast k
    (powered s = false → exec (.latchEdge pin rising) s = .next s) ∧
    (powered s = true → Completes (.latchEdge pin rising) s (fun t => lookup 0 t.field.latchLast k = s.now + 1 ∧
      lookup 0 t.field.latch k = (if 0 < last ∧ s.now + 1 < last + 20 then lookup 0 s.field.latch k else s.now) ∧
      (∀ j, j ≠ k → lookup 0 t.field.latch j = lookup 0 s.field.latch j) ∧ t = { s with field := t.field }))) ∧
  (∀ (p : Fin 2) (s : State),
    (s.field.links.getLsbD p.val = false → exec (.linkLost p) s = .next s) ∧
    (s.field.links.getLsbD p.val = true → Completes (.linkLost p) s (fun t => t.field.links.getLsbD p.val = false ∧
      t.field.links.getLsbD (p.val + 2) = true ∧ (s.dev.al = .safeop ∨ s.dev.al = .op → leafIsSet t.causes (.main gField p.val) = true) ∧
      (s.dev.al ≠ .safeop → s.dev.al ≠ .op → t.causes = s.causes) ∧ t.dev = s.dev)) ∧
    (powered s = false → exec (.linkUp p) s = .next s) ∧
    (powered s = true → Completes (.linkUp p) s (fun t => t.field.links.getLsbD p.val = true ∧ t.field.links.getLsbD (p.val + 2) = false ∧
      t = { s with field := { s.field with links := t.field.links } }))) ∧
  (∀ s : State,
    (powered s = true → s.dev.bypassPin = false → s.dev.bypass ≠ 3 → exec .bypassEngage s =
      .next { s with dev := { s.dev with bypass := 1, bypassPin := true } }) ∧
    (powered s = false ∨ s.dev.bypassPin = true ∨ s.dev.bypass = 3 → exec .bypassEngage s = .next s) ∧
    (s.dev.bypassPin = false → exec .bypassOverCurrent s = .next s ∧ exec .bypassOpenLoad s = .next s) ∧
    (s.dev.bypassPin = true → Completes .bypassOverCurrent s (fun t => t.dev = { s.dev with bypass := 3, bypassPin := false } ∧
        leafIsSet t.causes (.main gField 6) = true ∧ t = { s with dev := t.dev, causes := t.causes }) ∧
      Completes .bypassOpenLoad s (fun t => t.dev = { s.dev with bypass := 2, bypassPin := true } ∧
        leafIsSet t.causes (.main gField 6) = true ∧ t = { s with dev := t.dev, causes := t.causes })) ∧
    (∀ v : Byte, (alwaysState s = false → exec (.bypassReengage v) s = .next (answer s wrongState)) ∧
      (alwaysState s = true → 1 < v.toNat → exec (.bypassReengage v) s = .next (answer s outOfRange)) ∧
      (alwaysState s = true → v = 1 → s.dev.bypass = 3 → exec (.bypassReengage v) s =
        .next (answer { s with dev := { s.dev with bypass := 1, bypassPin := true } } 0)) ∧
      (alwaysState s = true → v = 0 ∨ (v = 1 ∧ s.dev.bypass ≠ 3) → exec (.bypassReengage v) s = .next (answer s 0)))) ∧
  (∀ (a d : BitVec 16) (s : State), (powered s = true → exec (.siiWrite a d) s = .next { s with field := { s.field with eepromError := true } }) ∧
    (powered s = false → exec (.siiWrite a d) s = .next s)) ∧
  (∀ (b : Bool) (l : List Bool) (s : State),
    exec (.tapInstruction (.bypass b)) s = .next { s with dev := { s.dev with tapInst := 0, tapBypass := b } } ∧
    exec (.tapInstruction (.samplePreload l)) s = .next { s with dev := { s.dev with tapInst := 1, tapBoundary := l } } ∧
    exec (.tapInstruction .extest) s = .next { s with dev := { s.dev with tapInst := 2 } } ∧
    exec (.tapInstruction .other) s = .next { s with dev := { s.dev with tapInst := 0, tapBypass := false } } ∧
    exec (.tapInstruction .trst) s = .next { s with dev := { s.dev with tapInst := 0, tapBypass := false } })

/-! ### Numbered rules -/

/-- R345: stage 0 takes GOLDEN_N as it stands at its entry; with GOLDEN_N high the candidates are the committed slots in
descending SEQ, A before B when the two are equal, and then the golden slot; with GOLDEN_N low the golden slot is the only one. -/
def Obligations.CandidateOrder : Prop :=
  (∀ (low : Bool) (ok : List Bool) (s : State), powered s = true → s.dev.thermTrip = false → s.dev.state = .boot → s.boot.released = false → s.boot.noImage = false →
    Completes (.stage0Entry low ok) s (fun t => t.dev.goldenLow = low)) ∧
  (∀ s : State, let seq := fun k : Nat => hdrField (slotHeader s k) 8 4
    candidates s true = [2] ∧
    ∃ l, candidates s false = l ++ [2] ∧ (∀ k, k ∈ l ↔ k < 2 ∧ isCommitted s k = true) ∧
      l.Pairwise (fun i j => seq j < seq i ∨ (seq i = seq j ∧ i < j)))

/-- R297: the STATUS of a mailbox response for each answer, with the answer in ABORT. -/
def Obligations.MailboxStatuses : Prop :=
  ∀ (ch : ChanNo) (i sub code status : Nat) (data : List Byte) (s : State), reachable s = true →
    (code, status) ∈ [(0, 0), (0x08000022, 1), (0x06090030, 2), (0x08000020, 2), (0x06020000, 3), (0x06090011, 4), (0x06010001, 5),
      (0x06010002, 5), (0x06070010, 6)] →
    readLE ((mbFinish s ch.val i sub code data).chan ch.val).mbResp 0 2 = status ∧
    readLE ((mbFinish s ch.val i sub code data).chan ch.val).mbResp 8 4 = code

/-- R36: every element of a block whose scale byte is 0xFF reads as NaN, whatever its format and its bits. -/
def Obligations.NanBlocks : Prop :=
  ∀ f code : Nat, mxVal f 0xFF code = .nan
end

