-- ==== Sys2Proof/Laws/Tab.lean ====
section
/-! SUPPORT. What the table and memory operations do: a read after a write, and the canonical form that every write keeps. -/

namespace Sys2Proof.Machine

@[simp] theorem lookup_erase_same {α : Type} (d : α) (t : Tab α) (k : Nat) : lookup d (erase t k) k = d := by
  induction t with
  | nil => rfl
  | cons p t ih =>
    by_cases h : p.1 = k
    · simpa [erase, h] using ih
    · have h' : (p.1 == k) = false := by simp [h]
      have : erase (p :: t) k = p :: erase t k := by simp [erase, h']
      rw [this]
      obtain ⟨a, v⟩ := p
      simp only [lookup]
      rw [if_neg (fun e => h e.symm)]
      exact ih

theorem lookup_erase_other {α : Type} (d : α) (t : Tab α) {k j : Nat} (h : j ≠ k) : lookup d (erase t k) j = lookup d t j := by
  induction t with
  | nil => rfl
  | cons p t ih =>
    obtain ⟨a, v⟩ := p
    by_cases e : a = k
    · have : erase ((a, v) :: t) k = erase t k := by simp [erase, e]
      rw [this, ih]
      simp only [lookup]
      rw [if_neg (by rw [e]; exact h)]
    · have e' : (a == k) = false := by simp [e]
      have : erase ((a, v) :: t) k = (a, v) :: erase t k := by simp [erase, e']
      rw [this]
      simp only [lookup, ih]

theorem lookup_insertKey_other {α : Type} (d : α) (t : Tab α) {k j : Nat} (v : α) (h : j ≠ k) :
    lookup d (insertKey t k v) j = lookup d t j := by
  induction t with
  | nil => simp [insertKey, lookup, h]
  | cons p t ih =>
    obtain ⟨a, w⟩ := p
    simp only [insertKey]
    split
    · simp [lookup, h]
    · simp only [lookup, ih]

theorem lookup_insertKey_same {α : Type} (d : α) (t : Tab α) (k : Nat) (v : α) (h : ∀ p ∈ t, p.1 ≠ k) :
    lookup d (insertKey t k v) k = v := by
  induction t with
  | nil => simp [insertKey, lookup]
  | cons p t ih =>
    obtain ⟨a, w⟩ := p
    simp only [insertKey]
    split
    · simp [lookup]
    · have ha : a ≠ k := h (a, w) (by simp)
      simp only [lookup]
      rw [if_neg (fun e => ha e.symm)]
      exact ih (fun q hq => h q (by simp [hq]))

theorem erase_keys {α : Type} (t : Tab α) (k : Nat) : ∀ p ∈ erase t k, p.1 ≠ k := by
  intro p hp
  have := List.of_mem_filter hp
  simpa using this

@[simp] theorem lookup_put_same {α : Type} [DecidableEq α] (d : α) (t : Tab α) (k : Nat) (v : α) : lookup d (put d t k v) k = v := by
  unfold put
  split
  · next h => rw [h]; exact lookup_erase_same d t k
  · exact lookup_insertKey_same d _ k v (erase_keys t k)

theorem lookup_put_other {α : Type} [DecidableEq α] (d : α) (t : Tab α) {k j : Nat} (v : α) (h : j ≠ k) :
    lookup d (put d t k v) j = lookup d t j := by
  unfold put
  split
  · exact lookup_erase_other d t h
  · rw [lookup_insertKey_other d _ v h, lookup_erase_other d t h]

theorem lookup_put {α : Type} [DecidableEq α] (d : α) (t : Tab α) (k j : Nat) (v : α) :
    lookup d (put d t k v) j = if j = k then v else lookup d t j := by
  by_cases h : j = k
  · subst h; simp
  · rw [if_neg h, lookup_put_other d t v h]

/-! ### The canonical form -/

/-- Keys rise strictly and no entry is the default. -/
def Tab.Sound {α : Type} (d : α) (t : Tab α) : Prop := t.Pairwise (fun p q => p.1 < q.1) ∧ ∀ p ∈ t, p.2 ≠ d

theorem wf_tail {α : Type} [DecidableEq α] {d : α} {p : Nat × α} {t : Tab α} (h : Tab.wf d (p :: t) = true) : Tab.wf d t = true := by
  obtain ⟨k, v⟩ := p
  cases t with
  | nil => rfl
  | cons q t =>
    obtain ⟨k', v'⟩ := q
    simp only [Tab.wf, Bool.and_eq_true] at h
    exact h.2

theorem wf_iff {α : Type} [DecidableEq α] (d : α) (t : Tab α) : Tab.wf d t = true ↔ Tab.Sound d t := by
  induction t with
  | nil => simp [Tab.wf, Tab.Sound]
  | cons p t ih =>
    obtain ⟨k, v⟩ := p
    cases t with
    | nil => simp [Tab.wf, Tab.Sound]
    | cons q t =>
      obtain ⟨k', v'⟩ := q
      simp only [Tab.wf, Bool.and_eq_true, decide_eq_true_eq, Bool.not_eq_true', beq_eq_false_iff_ne, ih]
      constructor
      · rintro ⟨⟨hk, hv⟩, hp, hd⟩
        refine ⟨List.pairwise_cons.2 ⟨fun q hq => ?_, hp⟩, fun q hq => ?_⟩
        · rcases List.mem_cons.1 hq with rfl | hq
          · exact hk
          · exact lt_trans hk ((List.pairwise_cons.1 hp).1 q hq)
        · rcases List.mem_cons.1 hq with rfl | hq
          · exact hv
          · exact hd q hq
      · rintro ⟨hp, hd⟩
        have := List.pairwise_cons.1 hp
        exact ⟨⟨this.1 (k', v') (by simp), hd (k, v) (by simp)⟩, this.2, fun q hq => hd q (by simp [hq])⟩

theorem sound_erase {α : Type} {d : α} {t : Tab α} (h : Tab.Sound d t) (k : Nat) : Tab.Sound d (erase t k) :=
  ⟨h.1.filter _, fun p hp => h.2 p (List.mem_of_mem_filter hp)⟩

theorem mem_insertKey {α : Type} (t : Tab α) (k : Nat) (v : α) (p : Nat × α) :
    p ∈ insertKey t k v ↔ p = (k, v) ∨ p ∈ t := by
  induction t with
  | nil => simp [insertKey]
  | cons q t ih =>
    obtain ⟨a, w⟩ := q
    simp only [insertKey]
    split
    · simp
    · simp only [List.mem_cons, ih]; tauto

theorem sound_insertKey {α : Type} {d : α} {t : Tab α} (h : Tab.Sound d t) {k : Nat} {v : α} (hv : v ≠ d)
    (hk : ∀ p ∈ t, p.1 ≠ k) : Tab.Sound d (insertKey t k v) := by
  refine ⟨?_, fun p hp => ?_⟩
  · have h1 := h.1
    clear h hv
    induction t with
    | nil => simp [insertKey]
    | cons q t ih =>
      obtain ⟨a, w⟩ := q
      have hp := List.pairwise_cons.1 h1
      simp only [insertKey]
      split
      · next hlt =>
        refine List.pairwise_cons.2 ⟨fun q hq => ?_, h1⟩
        rcases List.mem_cons.1 hq with rfl | hq
        · exact hlt
        · exact lt_trans hlt (hp.1 q hq)
      · next hge =>
        refine List.pairwise_cons.2 ⟨fun q hq => ?_, ih (fun p hp => hk p (by simp [hp])) hp.2⟩
        rcases (mem_insertKey t k v q).1 hq with rfl | hq
        · have := hk (a, w) (by simp)
          simp only at this ⊢; omega
        · exact hp.1 q hq
  · rcases (mem_insertKey t k v p).1 hp with rfl | hp
    · exact hv
    · exact h.2 p hp

theorem put_wf {α : Type} [DecidableEq α] {d : α} {t : Tab α} (h : Tab.wf d t = true) (k : Nat) (v : α) : Tab.wf d (put d t k v) = true := by
  rw [wf_iff] at h ⊢
  unfold put
  split
  · exact sound_erase h k
  · next hv => exact sound_insertKey (sound_erase h k) hv (erase_keys t k)

theorem writeByte_wf {m : Mem} (h : Memory.wf m = true) (a : Nat) (b : Byte) : Memory.wf (writeByte m a b) = true := put_wf h a b

theorem writeBytes_wf {m : Mem} (h : Memory.wf m = true) (a : Nat) (l : List Byte) : Memory.wf (writeBytes m a l) = true := by
  induction l generalizing m a with
  | nil => exact h
  | cons b l ih => exact ih (writeByte_wf h a b) (a + 1)

theorem zeroRange_wf {m : Mem} (h : Memory.wf m = true) (a n : Nat) : Memory.wf (zeroRange m a n) = true := by
  have h' := (wf_iff _ _).1 h
  exact (wf_iff _ _).2 ⟨h'.1.filter _, fun p hp => h'.2 p (List.mem_of_mem_filter hp)⟩

theorem fillRange_wf {α : Type} [DecidableEq α] {d : α} {t : Tab α} (h : Tab.wf d t = true) (a n : Nat) (v : α) :
    Tab.wf d (fillRange d t a n v) = true := by
  unfold fillRange
  induction List.range n generalizing t with
  | nil => exact h
  | cons i l ih => exact ih (put_wf h _ _)

/-! ### Bytes -/

@[simp] theorem readByte_writeByte_same (m : Mem) (a : Nat) (b : Byte) : readByte (writeByte m a b) a = b := lookup_put_same 0 m a b

theorem readByte_writeByte_other (m : Mem) {a c : Nat} (b : Byte) (h : c ≠ a) : readByte (writeByte m a b) c = readByte m c :=
  lookup_put_other 0 m b h

theorem readByte_writeBytes (m : Mem) (a : Nat) (l : List Byte) (c : Nat) :
    readByte (writeBytes m a l) c = if a ≤ c ∧ c < a + l.length then l.getD (c - a) 0 else readByte m c := by
  induction l generalizing m a with
  | nil => rw [if_neg (by simp)]; rfl
  | cons b l ih =>
    simp only [writeBytes, ih, List.length_cons]
    by_cases h : c = a
    · subst h
      rw [if_neg (by omega), if_pos (by omega)]; simp
    · rw [readByte_writeByte_other m b h]
      by_cases g : a + 1 ≤ c ∧ c < a + 1 + l.length
      · rw [if_pos g, if_pos (by omega)]
        have : c - a = (c - (a + 1)) + 1 := by omega
        rw [this]; rfl
      · rw [if_neg g, if_neg (by omega)]

theorem satAdd_le (n a b : Nat) : satAdd n a b ≤ 2 ^ n - 1 := Nat.min_le_right _ _

theorem erase_insertKey {α : Type} (t : Tab α) (k : Nat) (v : α) : erase (insertKey t k v) k = erase t k := by
  induction t with
  | nil => simp [insertKey, erase]
  | cons p t ih =>
    unfold insertKey
    split
    · simp [erase]
    · simp only [erase, List.filter_cons] at ih ⊢
      rw [ih]

/-- The last of two writes at one key is the one that counts. -/
theorem put_put {α : Type} [DecidableEq α] (d : α) (t : Tab α) (k : Nat) (v w : α) : put d (put d t k v) k w = put d t k w := by
  have h : erase (put d t k v) k = erase t k := by
    unfold put
    split
    · simp [erase]
    · rw [erase_insertKey]
      simp [erase]
  unfold put at h ⊢
  rw [h]

end Sys2Proof.Machine
end

