-- ==== Sys2Proof/Laws/State.lean ====
section
/-! SUPPORT. What each named update of State changes: one lemma per field and update, and the read after a write. -/

namespace Sys2Proof.Machine

@[simp] theorem setCell_pending (s : State) (g : Nat) (x : CellState) : (s.setCell g x).pending = s.pending := rfl
@[simp] theorem setCell_free (s : State) (g : Nat) (x : CellState) : (s.setCell g x).free = s.free := rfl
@[simp] theorem setCell_dev (s : State) (g : Nat) (x : CellState) : (s.setCell g x).dev = s.dev := rfl
@[simp] theorem setCell_causes (s : State) (g : Nat) (x : CellState) : (s.setCell g x).causes = s.causes := rfl
@[simp] theorem setCell_fabric (s : State) (g : Nat) (x : CellState) : (s.setCell g x).fabric = s.fabric := rfl
@[simp] theorem setCell_tackers (s : State) (g : Nat) (x : CellState) : (s.setCell g x).tackers = s.tackers := rfl
@[simp] theorem setCell_lasters (s : State) (g : Nat) (x : CellState) : (s.setCell g x).lasters = s.lasters := rfl
@[simp] theorem setCell_jobs (s : State) (g : Nat) (x : CellState) : (s.setCell g x).jobs = s.jobs := rfl
@[simp] theorem setCell_jobIds (s : State) (g : Nat) (x : CellState) : (s.setCell g x).jobIds = s.jobIds := rfl
@[simp] theorem setCell_ctxs (s : State) (g : Nat) (x : CellState) : (s.setCell g x).ctxs = s.ctxs := rfl
@[simp] theorem setCell_loads (s : State) (g : Nat) (x : CellState) : (s.setCell g x).loads = s.loads := rfl
@[simp] theorem setCell_queues (s : State) (g : Nat) (x : CellState) : (s.setCell g x).queues = s.queues := rfl
@[simp] theorem setCell_streams (s : State) (g : Nat) (x : CellState) : (s.setCell g x).streams = s.streams := rfl
@[simp] theorem setCell_hmp (s : State) (g : Nat) (x : CellState) : (s.setCell g x).hmp = s.hmp := rfl
@[simp] theorem setCell_power (s : State) (g : Nat) (x : CellState) : (s.setCell g x).power = s.power := rfl
@[simp] theorem setCell_resil (s : State) (g : Nat) (x : CellState) : (s.setCell g x).resil = s.resil := rfl
@[simp] theorem setCell_field (s : State) (g : Nat) (x : CellState) : (s.setCell g x).field = s.field := rfl
@[simp] theorem setCell_boot (s : State) (g : Nat) (x : CellState) : (s.setCell g x).boot = s.boot := rfl
@[simp] theorem setCell_cell (s : State) (g : Nat) (x : CellState) : (s.setCell g x).cell g = x := lookup_put_same _ _ _ _
theorem setCell_cell_other (s : State) (g : Nat) (x : CellState) {h : Nat} (e : h ≠ g) : (s.setCell g x).cell h = s.cell h := lookup_put_other _ _ _ e

@[simp] theorem setTacker_pending (s : State) (g : Nat) (x : Tacker) : (s.setTacker g x).pending = s.pending := rfl
@[simp] theorem setTacker_free (s : State) (g : Nat) (x : Tacker) : (s.setTacker g x).free = s.free := rfl
@[simp] theorem setTacker_dev (s : State) (g : Nat) (x : Tacker) : (s.setTacker g x).dev = s.dev := rfl
@[simp] theorem setTacker_causes (s : State) (g : Nat) (x : Tacker) : (s.setTacker g x).causes = s.causes := rfl
@[simp] theorem setTacker_cells (s : State) (g : Nat) (x : Tacker) : (s.setTacker g x).cells = s.cells := rfl
@[simp] theorem setTacker_fabric (s : State) (g : Nat) (x : Tacker) : (s.setTacker g x).fabric = s.fabric := rfl
@[simp] theorem setTacker_lasters (s : State) (g : Nat) (x : Tacker) : (s.setTacker g x).lasters = s.lasters := rfl
@[simp] theorem setTacker_jobs (s : State) (g : Nat) (x : Tacker) : (s.setTacker g x).jobs = s.jobs := rfl
@[simp] theorem setTacker_jobIds (s : State) (g : Nat) (x : Tacker) : (s.setTacker g x).jobIds = s.jobIds := rfl
@[simp] theorem setTacker_ctxs (s : State) (g : Nat) (x : Tacker) : (s.setTacker g x).ctxs = s.ctxs := rfl
@[simp] theorem setTacker_loads (s : State) (g : Nat) (x : Tacker) : (s.setTacker g x).loads = s.loads := rfl
@[simp] theorem setTacker_queues (s : State) (g : Nat) (x : Tacker) : (s.setTacker g x).queues = s.queues := rfl
@[simp] theorem setTacker_streams (s : State) (g : Nat) (x : Tacker) : (s.setTacker g x).streams = s.streams := rfl
@[simp] theorem setTacker_hmp (s : State) (g : Nat) (x : Tacker) : (s.setTacker g x).hmp = s.hmp := rfl
@[simp] theorem setTacker_power (s : State) (g : Nat) (x : Tacker) : (s.setTacker g x).power = s.power := rfl
@[simp] theorem setTacker_resil (s : State) (g : Nat) (x : Tacker) : (s.setTacker g x).resil = s.resil := rfl
@[simp] theorem setTacker_field (s : State) (g : Nat) (x : Tacker) : (s.setTacker g x).field = s.field := rfl
@[simp] theorem setTacker_boot (s : State) (g : Nat) (x : Tacker) : (s.setTacker g x).boot = s.boot := rfl
@[simp] theorem setTacker_tacker (s : State) (g : Nat) (x : Tacker) : (s.setTacker g x).tacker g = x := lookup_put_same _ _ _ _
theorem setTacker_tacker_other (s : State) (g : Nat) (x : Tacker) {h : Nat} (e : h ≠ g) : (s.setTacker g x).tacker h = s.tacker h := lookup_put_other _ _ _ e

@[simp] theorem setLaster_pending (s : State) (g : Nat) (x : Laster) : (s.setLaster g x).pending = s.pending := rfl
@[simp] theorem setLaster_free (s : State) (g : Nat) (x : Laster) : (s.setLaster g x).free = s.free := rfl
@[simp] theorem setLaster_dev (s : State) (g : Nat) (x : Laster) : (s.setLaster g x).dev = s.dev := rfl
@[simp] theorem setLaster_causes (s : State) (g : Nat) (x : Laster) : (s.setLaster g x).causes = s.causes := rfl
@[simp] theorem setLaster_cells (s : State) (g : Nat) (x : Laster) : (s.setLaster g x).cells = s.cells := rfl
@[simp] theorem setLaster_fabric (s : State) (g : Nat) (x : Laster) : (s.setLaster g x).fabric = s.fabric := rfl
@[simp] theorem setLaster_tackers (s : State) (g : Nat) (x : Laster) : (s.setLaster g x).tackers = s.tackers := rfl
@[simp] theorem setLaster_jobs (s : State) (g : Nat) (x : Laster) : (s.setLaster g x).jobs = s.jobs := rfl
@[simp] theorem setLaster_jobIds (s : State) (g : Nat) (x : Laster) : (s.setLaster g x).jobIds = s.jobIds := rfl
@[simp] theorem setLaster_ctxs (s : State) (g : Nat) (x : Laster) : (s.setLaster g x).ctxs = s.ctxs := rfl
@[simp] theorem setLaster_loads (s : State) (g : Nat) (x : Laster) : (s.setLaster g x).loads = s.loads := rfl
@[simp] theorem setLaster_queues (s : State) (g : Nat) (x : Laster) : (s.setLaster g x).queues = s.queues := rfl
@[simp] theorem setLaster_streams (s : State) (g : Nat) (x : Laster) : (s.setLaster g x).streams = s.streams := rfl
@[simp] theorem setLaster_hmp (s : State) (g : Nat) (x : Laster) : (s.setLaster g x).hmp = s.hmp := rfl
@[simp] theorem setLaster_power (s : State) (g : Nat) (x : Laster) : (s.setLaster g x).power = s.power := rfl
@[simp] theorem setLaster_resil (s : State) (g : Nat) (x : Laster) : (s.setLaster g x).resil = s.resil := rfl
@[simp] theorem setLaster_field (s : State) (g : Nat) (x : Laster) : (s.setLaster g x).field = s.field := rfl
@[simp] theorem setLaster_boot (s : State) (g : Nat) (x : Laster) : (s.setLaster g x).boot = s.boot := rfl
@[simp] theorem setLaster_laster (s : State) (g : Nat) (x : Laster) : (s.setLaster g x).laster g = x := lookup_put_same _ _ _ _
theorem setLaster_laster_other (s : State) (g : Nat) (x : Laster) {h : Nat} (e : h ≠ g) : (s.setLaster g x).laster h = s.laster h := lookup_put_other _ _ _ e

@[simp] theorem setCtx_pending (s : State) (g : Nat) (x : Ctx) : (s.setCtx g x).pending = s.pending := rfl
@[simp] theorem setCtx_free (s : State) (g : Nat) (x : Ctx) : (s.setCtx g x).free = s.free := rfl
@[simp] theorem setCtx_dev (s : State) (g : Nat) (x : Ctx) : (s.setCtx g x).dev = s.dev := rfl
@[simp] theorem setCtx_causes (s : State) (g : Nat) (x : Ctx) : (s.setCtx g x).causes = s.causes := rfl
@[simp] theorem setCtx_cells (s : State) (g : Nat) (x : Ctx) : (s.setCtx g x).cells = s.cells := rfl
@[simp] theorem setCtx_fabric (s : State) (g : Nat) (x : Ctx) : (s.setCtx g x).fabric = s.fabric := rfl
@[simp] theorem setCtx_tackers (s : State) (g : Nat) (x : Ctx) : (s.setCtx g x).tackers = s.tackers := rfl
@[simp] theorem setCtx_lasters (s : State) (g : Nat) (x : Ctx) : (s.setCtx g x).lasters = s.lasters := rfl
@[simp] theorem setCtx_jobs (s : State) (g : Nat) (x : Ctx) : (s.setCtx g x).jobs = s.jobs := rfl
@[simp] theorem setCtx_jobIds (s : State) (g : Nat) (x : Ctx) : (s.setCtx g x).jobIds = s.jobIds := rfl
@[simp] theorem setCtx_loads (s : State) (g : Nat) (x : Ctx) : (s.setCtx g x).loads = s.loads := rfl
@[simp] theorem setCtx_queues (s : State) (g : Nat) (x : Ctx) : (s.setCtx g x).queues = s.queues := rfl
@[simp] theorem setCtx_streams (s : State) (g : Nat) (x : Ctx) : (s.setCtx g x).streams = s.streams := rfl
@[simp] theorem setCtx_hmp (s : State) (g : Nat) (x : Ctx) : (s.setCtx g x).hmp = s.hmp := rfl
@[simp] theorem setCtx_power (s : State) (g : Nat) (x : Ctx) : (s.setCtx g x).power = s.power := rfl
@[simp] theorem setCtx_resil (s : State) (g : Nat) (x : Ctx) : (s.setCtx g x).resil = s.resil := rfl
@[simp] theorem setCtx_field (s : State) (g : Nat) (x : Ctx) : (s.setCtx g x).field = s.field := rfl
@[simp] theorem setCtx_boot (s : State) (g : Nat) (x : Ctx) : (s.setCtx g x).boot = s.boot := rfl
@[simp] theorem setCtx_ctx (s : State) (g : Nat) (x : Ctx) : (s.setCtx g x).ctx g = x := lookup_put_same _ _ _ _
theorem setCtx_ctx_other (s : State) (g : Nat) (x : Ctx) {h : Nat} (e : h ≠ g) : (s.setCtx g x).ctx h = s.ctx h := lookup_put_other _ _ _ e

@[simp] theorem setSlot_pending (s : State) (g : Nat) (x : Slot) : (s.setSlot g x).pending = s.pending := rfl
@[simp] theorem setSlot_free (s : State) (g : Nat) (x : Slot) : (s.setSlot g x).free = s.free := rfl
@[simp] theorem setSlot_dev (s : State) (g : Nat) (x : Slot) : (s.setSlot g x).dev = s.dev := rfl
@[simp] theorem setSlot_causes (s : State) (g : Nat) (x : Slot) : (s.setSlot g x).causes = s.causes := rfl
@[simp] theorem setSlot_cells (s : State) (g : Nat) (x : Slot) : (s.setSlot g x).cells = s.cells := rfl
@[simp] theorem setSlot_fabric (s : State) (g : Nat) (x : Slot) : (s.setSlot g x).fabric = s.fabric := rfl
@[simp] theorem setSlot_tackers (s : State) (g : Nat) (x : Slot) : (s.setSlot g x).tackers = s.tackers := rfl
@[simp] theorem setSlot_lasters (s : State) (g : Nat) (x : Slot) : (s.setSlot g x).lasters = s.lasters := rfl
@[simp] theorem setSlot_jobs (s : State) (g : Nat) (x : Slot) : (s.setSlot g x).jobs = s.jobs := rfl
@[simp] theorem setSlot_jobIds (s : State) (g : Nat) (x : Slot) : (s.setSlot g x).jobIds = s.jobIds := rfl
@[simp] theorem setSlot_ctxs (s : State) (g : Nat) (x : Slot) : (s.setSlot g x).ctxs = s.ctxs := rfl
@[simp] theorem setSlot_loads (s : State) (g : Nat) (x : Slot) : (s.setSlot g x).loads = s.loads := rfl
@[simp] theorem setSlot_queues (s : State) (g : Nat) (x : Slot) : (s.setSlot g x).queues = s.queues := rfl
@[simp] theorem setSlot_hmp (s : State) (g : Nat) (x : Slot) : (s.setSlot g x).hmp = s.hmp := rfl
@[simp] theorem setSlot_power (s : State) (g : Nat) (x : Slot) : (s.setSlot g x).power = s.power := rfl
@[simp] theorem setSlot_resil (s : State) (g : Nat) (x : Slot) : (s.setSlot g x).resil = s.resil := rfl
@[simp] theorem setSlot_field (s : State) (g : Nat) (x : Slot) : (s.setSlot g x).field = s.field := rfl
@[simp] theorem setSlot_boot (s : State) (g : Nat) (x : Slot) : (s.setSlot g x).boot = s.boot := rfl
@[simp] theorem setSlot_slot (s : State) (g : Nat) (x : Slot) : (s.setSlot g x).slot g = x := lookup_put_same _ _ _ _
theorem setSlot_slot_other (s : State) (g : Nat) (x : Slot) {h : Nat} (e : h ≠ g) : (s.setSlot g x).slot h = s.slot h := lookup_put_other _ _ _ e

@[simp] theorem setPort_pending (s : State) (g : Nat) (x : Port) : (s.setPort g x).pending = s.pending := rfl
@[simp] theorem setPort_free (s : State) (g : Nat) (x : Port) : (s.setPort g x).free = s.free := rfl
@[simp] theorem setPort_dev (s : State) (g : Nat) (x : Port) : (s.setPort g x).dev = s.dev := rfl
@[simp] theorem setPort_causes (s : State) (g : Nat) (x : Port) : (s.setPort g x).causes = s.causes := rfl
@[simp] theorem setPort_cells (s : State) (g : Nat) (x : Port) : (s.setPort g x).cells = s.cells := rfl
@[simp] theorem setPort_fabric (s : State) (g : Nat) (x : Port) : (s.setPort g x).fabric = s.fabric := rfl
@[simp] theorem setPort_tackers (s : State) (g : Nat) (x : Port) : (s.setPort g x).tackers = s.tackers := rfl
@[simp] theorem setPort_lasters (s : State) (g : Nat) (x : Port) : (s.setPort g x).lasters = s.lasters := rfl
@[simp] theorem setPort_jobs (s : State) (g : Nat) (x : Port) : (s.setPort g x).jobs = s.jobs := rfl
@[simp] theorem setPort_jobIds (s : State) (g : Nat) (x : Port) : (s.setPort g x).jobIds = s.jobIds := rfl
@[simp] theorem setPort_ctxs (s : State) (g : Nat) (x : Port) : (s.setPort g x).ctxs = s.ctxs := rfl
@[simp] theorem setPort_loads (s : State) (g : Nat) (x : Port) : (s.setPort g x).loads = s.loads := rfl
@[simp] theorem setPort_queues (s : State) (g : Nat) (x : Port) : (s.setPort g x).queues = s.queues := rfl
@[simp] theorem setPort_hmp (s : State) (g : Nat) (x : Port) : (s.setPort g x).hmp = s.hmp := rfl
@[simp] theorem setPort_power (s : State) (g : Nat) (x : Port) : (s.setPort g x).power = s.power := rfl
@[simp] theorem setPort_resil (s : State) (g : Nat) (x : Port) : (s.setPort g x).resil = s.resil := rfl
@[simp] theorem setPort_field (s : State) (g : Nat) (x : Port) : (s.setPort g x).field = s.field := rfl
@[simp] theorem setPort_boot (s : State) (g : Nat) (x : Port) : (s.setPort g x).boot = s.boot := rfl
@[simp] theorem setPort_port (s : State) (g : Nat) (x : Port) : (s.setPort g x).port g = x := lookup_put_same _ _ _ _
theorem setPort_port_other (s : State) (g : Nat) (x : Port) {h : Nat} (e : h ≠ g) : (s.setPort g x).port h = s.port h := lookup_put_other _ _ _ e

@[simp] theorem setBus_pending (s : State) (g : Nat) (x : Bus) : (s.setBus g x).pending = s.pending := rfl
@[simp] theorem setBus_free (s : State) (g : Nat) (x : Bus) : (s.setBus g x).free = s.free := rfl
@[simp] theorem setBus_dev (s : State) (g : Nat) (x : Bus) : (s.setBus g x).dev = s.dev := rfl
@[simp] theorem setBus_causes (s : State) (g : Nat) (x : Bus) : (s.setBus g x).causes = s.causes := rfl
@[simp] theorem setBus_cells (s : State) (g : Nat) (x : Bus) : (s.setBus g x).cells = s.cells := rfl
@[simp] theorem setBus_fabric (s : State) (g : Nat) (x : Bus) : (s.setBus g x).fabric = s.fabric := rfl
@[simp] theorem setBus_tackers (s : State) (g : Nat) (x : Bus) : (s.setBus g x).tackers = s.tackers := rfl
@[simp] theorem setBus_lasters (s : State) (g : Nat) (x : Bus) : (s.setBus g x).lasters = s.lasters := rfl
@[simp] theorem setBus_jobs (s : State) (g : Nat) (x : Bus) : (s.setBus g x).jobs = s.jobs := rfl
@[simp] theorem setBus_jobIds (s : State) (g : Nat) (x : Bus) : (s.setBus g x).jobIds = s.jobIds := rfl
@[simp] theorem setBus_ctxs (s : State) (g : Nat) (x : Bus) : (s.setBus g x).ctxs = s.ctxs := rfl
@[simp] theorem setBus_loads (s : State) (g : Nat) (x : Bus) : (s.setBus g x).loads = s.loads := rfl
@[simp] theorem setBus_queues (s : State) (g : Nat) (x : Bus) : (s.setBus g x).queues = s.queues := rfl
@[simp] theorem setBus_hmp (s : State) (g : Nat) (x : Bus) : (s.setBus g x).hmp = s.hmp := rfl
@[simp] theorem setBus_power (s : State) (g : Nat) (x : Bus) : (s.setBus g x).power = s.power := rfl
@[simp] theorem setBus_resil (s : State) (g : Nat) (x : Bus) : (s.setBus g x).resil = s.resil := rfl
@[simp] theorem setBus_field (s : State) (g : Nat) (x : Bus) : (s.setBus g x).field = s.field := rfl
@[simp] theorem setBus_boot (s : State) (g : Nat) (x : Bus) : (s.setBus g x).boot = s.boot := rfl
@[simp] theorem setBus_bus (s : State) (g : Nat) (x : Bus) : (s.setBus g x).bus g = x := lookup_put_same _ _ _ _
theorem setBus_bus_other (s : State) (g : Nat) (x : Bus) {h : Nat} (e : h ≠ g) : (s.setBus g x).bus h = s.bus h := lookup_put_other _ _ _ e

@[simp] theorem setTrig_pending (s : State) (g : Nat) (x : Trig) : (s.setTrig g x).pending = s.pending := rfl
@[simp] theorem setTrig_free (s : State) (g : Nat) (x : Trig) : (s.setTrig g x).free = s.free := rfl
@[simp] theorem setTrig_dev (s : State) (g : Nat) (x : Trig) : (s.setTrig g x).dev = s.dev := rfl
@[simp] theorem setTrig_causes (s : State) (g : Nat) (x : Trig) : (s.setTrig g x).causes = s.causes := rfl
@[simp] theorem setTrig_cells (s : State) (g : Nat) (x : Trig) : (s.setTrig g x).cells = s.cells := rfl
@[simp] theorem setTrig_fabric (s : State) (g : Nat) (x : Trig) : (s.setTrig g x).fabric = s.fabric := rfl
@[simp] theorem setTrig_tackers (s : State) (g : Nat) (x : Trig) : (s.setTrig g x).tackers = s.tackers := rfl
@[simp] theorem setTrig_lasters (s : State) (g : Nat) (x : Trig) : (s.setTrig g x).lasters = s.lasters := rfl
@[simp] theorem setTrig_jobs (s : State) (g : Nat) (x : Trig) : (s.setTrig g x).jobs = s.jobs := rfl
@[simp] theorem setTrig_jobIds (s : State) (g : Nat) (x : Trig) : (s.setTrig g x).jobIds = s.jobIds := rfl
@[simp] theorem setTrig_ctxs (s : State) (g : Nat) (x : Trig) : (s.setTrig g x).ctxs = s.ctxs := rfl
@[simp] theorem setTrig_loads (s : State) (g : Nat) (x : Trig) : (s.setTrig g x).loads = s.loads := rfl
@[simp] theorem setTrig_queues (s : State) (g : Nat) (x : Trig) : (s.setTrig g x).queues = s.queues := rfl
@[simp] theorem setTrig_hmp (s : State) (g : Nat) (x : Trig) : (s.setTrig g x).hmp = s.hmp := rfl
@[simp] theorem setTrig_power (s : State) (g : Nat) (x : Trig) : (s.setTrig g x).power = s.power := rfl
@[simp] theorem setTrig_resil (s : State) (g : Nat) (x : Trig) : (s.setTrig g x).resil = s.resil := rfl
@[simp] theorem setTrig_field (s : State) (g : Nat) (x : Trig) : (s.setTrig g x).field = s.field := rfl
@[simp] theorem setTrig_boot (s : State) (g : Nat) (x : Trig) : (s.setTrig g x).boot = s.boot := rfl
@[simp] theorem setTrig_trig (s : State) (g : Nat) (x : Trig) : (s.setTrig g x).trig g = x := lookup_put_same _ _ _ _
theorem setTrig_trig_other (s : State) (g : Nat) (x : Trig) {h : Nat} (e : h ≠ g) : (s.setTrig g x).trig h = s.trig h := lookup_put_other _ _ _ e

@[simp] theorem setRec_pending (s : State) (g : Nat) (x : Rec) : (s.setRec g x).pending = s.pending := rfl
@[simp] theorem setRec_free (s : State) (g : Nat) (x : Rec) : (s.setRec g x).free = s.free := rfl
@[simp] theorem setRec_dev (s : State) (g : Nat) (x : Rec) : (s.setRec g x).dev = s.dev := rfl
@[simp] theorem setRec_causes (s : State) (g : Nat) (x : Rec) : (s.setRec g x).causes = s.causes := rfl
@[simp] theorem setRec_cells (s : State) (g : Nat) (x : Rec) : (s.setRec g x).cells = s.cells := rfl
@[simp] theorem setRec_fabric (s : State) (g : Nat) (x : Rec) : (s.setRec g x).fabric = s.fabric := rfl
@[simp] theorem setRec_tackers (s : State) (g : Nat) (x : Rec) : (s.setRec g x).tackers = s.tackers := rfl
@[simp] theorem setRec_lasters (s : State) (g : Nat) (x : Rec) : (s.setRec g x).lasters = s.lasters := rfl
@[simp] theorem setRec_jobs (s : State) (g : Nat) (x : Rec) : (s.setRec g x).jobs = s.jobs := rfl
@[simp] theorem setRec_jobIds (s : State) (g : Nat) (x : Rec) : (s.setRec g x).jobIds = s.jobIds := rfl
@[simp] theorem setRec_ctxs (s : State) (g : Nat) (x : Rec) : (s.setRec g x).ctxs = s.ctxs := rfl
@[simp] theorem setRec_loads (s : State) (g : Nat) (x : Rec) : (s.setRec g x).loads = s.loads := rfl
@[simp] theorem setRec_queues (s : State) (g : Nat) (x : Rec) : (s.setRec g x).queues = s.queues := rfl
@[simp] theorem setRec_hmp (s : State) (g : Nat) (x : Rec) : (s.setRec g x).hmp = s.hmp := rfl
@[simp] theorem setRec_power (s : State) (g : Nat) (x : Rec) : (s.setRec g x).power = s.power := rfl
@[simp] theorem setRec_resil (s : State) (g : Nat) (x : Rec) : (s.setRec g x).resil = s.resil := rfl
@[simp] theorem setRec_field (s : State) (g : Nat) (x : Rec) : (s.setRec g x).field = s.field := rfl
@[simp] theorem setRec_boot (s : State) (g : Nat) (x : Rec) : (s.setRec g x).boot = s.boot := rfl
@[simp] theorem setRec_record (s : State) (g : Nat) (x : Rec) : (s.setRec g x).record g = x := lookup_put_same _ _ _ _
theorem setRec_record_other (s : State) (g : Nat) (x : Rec) {h : Nat} (e : h ≠ g) : (s.setRec g x).record h = s.record h := lookup_put_other _ _ _ e

@[simp] theorem setChan_pending (s : State) (g : Nat) (x : Chan) : (s.setChan g x).pending = s.pending := rfl
@[simp] theorem setChan_free (s : State) (g : Nat) (x : Chan) : (s.setChan g x).free = s.free := rfl
@[simp] theorem setChan_dev (s : State) (g : Nat) (x : Chan) : (s.setChan g x).dev = s.dev := rfl
@[simp] theorem setChan_causes (s : State) (g : Nat) (x : Chan) : (s.setChan g x).causes = s.causes := rfl
@[simp] theorem setChan_cells (s : State) (g : Nat) (x : Chan) : (s.setChan g x).cells = s.cells := rfl
@[simp] theorem setChan_fabric (s : State) (g : Nat) (x : Chan) : (s.setChan g x).fabric = s.fabric := rfl
@[simp] theorem setChan_tackers (s : State) (g : Nat) (x : Chan) : (s.setChan g x).tackers = s.tackers := rfl
@[simp] theorem setChan_lasters (s : State) (g : Nat) (x : Chan) : (s.setChan g x).lasters = s.lasters := rfl
@[simp] theorem setChan_jobs (s : State) (g : Nat) (x : Chan) : (s.setChan g x).jobs = s.jobs := rfl
@[simp] theorem setChan_jobIds (s : State) (g : Nat) (x : Chan) : (s.setChan g x).jobIds = s.jobIds := rfl
@[simp] theorem setChan_ctxs (s : State) (g : Nat) (x : Chan) : (s.setChan g x).ctxs = s.ctxs := rfl
@[simp] theorem setChan_loads (s : State) (g : Nat) (x : Chan) : (s.setChan g x).loads = s.loads := rfl
@[simp] theorem setChan_queues (s : State) (g : Nat) (x : Chan) : (s.setChan g x).queues = s.queues := rfl
@[simp] theorem setChan_streams (s : State) (g : Nat) (x : Chan) : (s.setChan g x).streams = s.streams := rfl
@[simp] theorem setChan_power (s : State) (g : Nat) (x : Chan) : (s.setChan g x).power = s.power := rfl
@[simp] theorem setChan_resil (s : State) (g : Nat) (x : Chan) : (s.setChan g x).resil = s.resil := rfl
@[simp] theorem setChan_field (s : State) (g : Nat) (x : Chan) : (s.setChan g x).field = s.field := rfl
@[simp] theorem setChan_boot (s : State) (g : Nat) (x : Chan) : (s.setChan g x).boot = s.boot := rfl
@[simp] theorem setChan_chan (s : State) (g : Nat) (x : Chan) : (s.setChan g x).chan g = x := lookup_put_same _ _ _ _
theorem setChan_chan_other (s : State) (g : Nat) (x : Chan) {h : Nat} (e : h ≠ g) : (s.setChan g x).chan h = s.chan h := lookup_put_other _ _ _ e

@[simp] theorem setQpower_pending (s : State) (g : Nat) (x : QPower) : (s.setQpower g x).pending = s.pending := rfl
@[simp] theorem setQpower_free (s : State) (g : Nat) (x : QPower) : (s.setQpower g x).free = s.free := rfl
@[simp] theorem setQpower_dev (s : State) (g : Nat) (x : QPower) : (s.setQpower g x).dev = s.dev := rfl
@[simp] theorem setQpower_causes (s : State) (g : Nat) (x : QPower) : (s.setQpower g x).causes = s.causes := rfl
@[simp] theorem setQpower_cells (s : State) (g : Nat) (x : QPower) : (s.setQpower g x).cells = s.cells := rfl
@[simp] theorem setQpower_fabric (s : State) (g : Nat) (x : QPower) : (s.setQpower g x).fabric = s.fabric := rfl
@[simp] theorem setQpower_tackers (s : State) (g : Nat) (x : QPower) : (s.setQpower g x).tackers = s.tackers := rfl
@[simp] theorem setQpower_lasters (s : State) (g : Nat) (x : QPower) : (s.setQpower g x).lasters = s.lasters := rfl
@[simp] theorem setQpower_jobs (s : State) (g : Nat) (x : QPower) : (s.setQpower g x).jobs = s.jobs := rfl
@[simp] theorem setQpower_jobIds (s : State) (g : Nat) (x : QPower) : (s.setQpower g x).jobIds = s.jobIds := rfl
@[simp] theorem setQpower_ctxs (s : State) (g : Nat) (x : QPower) : (s.setQpower g x).ctxs = s.ctxs := rfl
@[simp] theorem setQpower_loads (s : State) (g : Nat) (x : QPower) : (s.setQpower g x).loads = s.loads := rfl
@[simp] theorem setQpower_queues (s : State) (g : Nat) (x : QPower) : (s.setQpower g x).queues = s.queues := rfl
@[simp] theorem setQpower_streams (s : State) (g : Nat) (x : QPower) : (s.setQpower g x).streams = s.streams := rfl
@[simp] theorem setQpower_hmp (s : State) (g : Nat) (x : QPower) : (s.setQpower g x).hmp = s.hmp := rfl
@[simp] theorem setQpower_resil (s : State) (g : Nat) (x : QPower) : (s.setQpower g x).resil = s.resil := rfl
@[simp] theorem setQpower_field (s : State) (g : Nat) (x : QPower) : (s.setQpower g x).field = s.field := rfl
@[simp] theorem setQpower_boot (s : State) (g : Nat) (x : QPower) : (s.setQpower g x).boot = s.boot := rfl
@[simp] theorem setQpower_qpower (s : State) (g : Nat) (x : QPower) : (s.setQpower g x).qpower g = x := lookup_put_same _ _ _ _
theorem setQpower_qpower_other (s : State) (g : Nat) (x : QPower) {h : Nat} (e : h ≠ g) : (s.setQpower g x).qpower h = s.qpower h := lookup_put_other _ _ _ e

@[simp] theorem setZone_pending (s : State) (g : Nat) (x : Zone) : (s.setZone g x).pending = s.pending := rfl
@[simp] theorem setZone_free (s : State) (g : Nat) (x : Zone) : (s.setZone g x).free = s.free := rfl
@[simp] theorem setZone_dev (s : State) (g : Nat) (x : Zone) : (s.setZone g x).dev = s.dev := rfl
@[simp] theorem setZone_causes (s : State) (g : Nat) (x : Zone) : (s.setZone g x).causes = s.causes := rfl
@[simp] theorem setZone_cells (s : State) (g : Nat) (x : Zone) : (s.setZone g x).cells = s.cells := rfl
@[simp] theorem setZone_fabric (s : State) (g : Nat) (x : Zone) : (s.setZone g x).fabric = s.fabric := rfl
@[simp] theorem setZone_tackers (s : State) (g : Nat) (x : Zone) : (s.setZone g x).tackers = s.tackers := rfl
@[simp] theorem setZone_lasters (s : State) (g : Nat) (x : Zone) : (s.setZone g x).lasters = s.lasters := rfl
@[simp] theorem setZone_jobs (s : State) (g : Nat) (x : Zone) : (s.setZone g x).jobs = s.jobs := rfl
@[simp] theorem setZone_jobIds (s : State) (g : Nat) (x : Zone) : (s.setZone g x).jobIds = s.jobIds := rfl
@[simp] theorem setZone_ctxs (s : State) (g : Nat) (x : Zone) : (s.setZone g x).ctxs = s.ctxs := rfl
@[simp] theorem setZone_loads (s : State) (g : Nat) (x : Zone) : (s.setZone g x).loads = s.loads := rfl
@[simp] theorem setZone_queues (s : State) (g : Nat) (x : Zone) : (s.setZone g x).queues = s.queues := rfl
@[simp] theorem setZone_streams (s : State) (g : Nat) (x : Zone) : (s.setZone g x).streams = s.streams := rfl
@[simp] theorem setZone_hmp (s : State) (g : Nat) (x : Zone) : (s.setZone g x).hmp = s.hmp := rfl
@[simp] theorem setZone_resil (s : State) (g : Nat) (x : Zone) : (s.setZone g x).resil = s.resil := rfl
@[simp] theorem setZone_field (s : State) (g : Nat) (x : Zone) : (s.setZone g x).field = s.field := rfl
@[simp] theorem setZone_boot (s : State) (g : Nat) (x : Zone) : (s.setZone g x).boot = s.boot := rfl
@[simp] theorem setZone_zone (s : State) (g : Nat) (x : Zone) : (s.setZone g x).zone g = x := lookup_put_same _ _ _ _
theorem setZone_zone_other (s : State) (g : Nat) (x : Zone) {h : Nat} (e : h ≠ g) : (s.setZone g x).zone h = s.zone h := lookup_put_other _ _ _ e

@[simp] theorem setCounter_pending (s : State) (g : Nat) (x : BitVec 32) : (s.setCounter g x).pending = s.pending := rfl
@[simp] theorem setCounter_free (s : State) (g : Nat) (x : BitVec 32) : (s.setCounter g x).free = s.free := rfl
@[simp] theorem setCounter_dev (s : State) (g : Nat) (x : BitVec 32) : (s.setCounter g x).dev = s.dev := rfl
@[simp] theorem setCounter_causes (s : State) (g : Nat) (x : BitVec 32) : (s.setCounter g x).causes = s.causes := rfl
@[simp] theorem setCounter_cells (s : State) (g : Nat) (x : BitVec 32) : (s.setCounter g x).cells = s.cells := rfl
@[simp] theorem setCounter_tackers (s : State) (g : Nat) (x : BitVec 32) : (s.setCounter g x).tackers = s.tackers := rfl
@[simp] theorem setCounter_lasters (s : State) (g : Nat) (x : BitVec 32) : (s.setCounter g x).lasters = s.lasters := rfl
@[simp] theorem setCounter_jobs (s : State) (g : Nat) (x : BitVec 32) : (s.setCounter g x).jobs = s.jobs := rfl
@[simp] theorem setCounter_jobIds (s : State) (g : Nat) (x : BitVec 32) : (s.setCounter g x).jobIds = s.jobIds := rfl
@[simp] theorem setCounter_ctxs (s : State) (g : Nat) (x : BitVec 32) : (s.setCounter g x).ctxs = s.ctxs := rfl
@[simp] theorem setCounter_loads (s : State) (g : Nat) (x : BitVec 32) : (s.setCounter g x).loads = s.loads := rfl
@[simp] theorem setCounter_queues (s : State) (g : Nat) (x : BitVec 32) : (s.setCounter g x).queues = s.queues := rfl
@[simp] theorem setCounter_streams (s : State) (g : Nat) (x : BitVec 32) : (s.setCounter g x).streams = s.streams := rfl
@[simp] theorem setCounter_hmp (s : State) (g : Nat) (x : BitVec 32) : (s.setCounter g x).hmp = s.hmp := rfl
@[simp] theorem setCounter_power (s : State) (g : Nat) (x : BitVec 32) : (s.setCounter g x).power = s.power := rfl
@[simp] theorem setCounter_resil (s : State) (g : Nat) (x : BitVec 32) : (s.setCounter g x).resil = s.resil := rfl
@[simp] theorem setCounter_field (s : State) (g : Nat) (x : BitVec 32) : (s.setCounter g x).field = s.field := rfl
@[simp] theorem setCounter_boot (s : State) (g : Nat) (x : BitVec 32) : (s.setCounter g x).boot = s.boot := rfl
@[simp] theorem setCounter_counter (s : State) (g : Nat) (x : BitVec 32) : (s.setCounter g x).counter g = x := lookup_put_same _ _ _ _
theorem setCounter_counter_other (s : State) (g : Nat) (x : BitVec 32) {h : Nat} (e : h ≠ g) : (s.setCounter g x).counter h = s.counter h := lookup_put_other _ _ _ e

@[simp] theorem setQueue_pending (s : State) (g : Nat) (x : Queue) : (s.setQueue g x).pending = s.pending := rfl
@[simp] theorem setQueue_free (s : State) (g : Nat) (x : Queue) : (s.setQueue g x).free = s.free := rfl
@[simp] theorem setQueue_dev (s : State) (g : Nat) (x : Queue) : (s.setQueue g x).dev = s.dev := rfl
@[simp] theorem setQueue_causes (s : State) (g : Nat) (x : Queue) : (s.setQueue g x).causes = s.causes := rfl
@[simp] theorem setQueue_cells (s : State) (g : Nat) (x : Queue) : (s.setQueue g x).cells = s.cells := rfl
@[simp] theorem setQueue_fabric (s : State) (g : Nat) (x : Queue) : (s.setQueue g x).fabric = s.fabric := rfl
@[simp] theorem setQueue_tackers (s : State) (g : Nat) (x : Queue) : (s.setQueue g x).tackers = s.tackers := rfl
@[simp] theorem setQueue_lasters (s : State) (g : Nat) (x : Queue) : (s.setQueue g x).lasters = s.lasters := rfl
@[simp] theorem setQueue_jobs (s : State) (g : Nat) (x : Queue) : (s.setQueue g x).jobs = s.jobs := rfl
@[simp] theorem setQueue_jobIds (s : State) (g : Nat) (x : Queue) : (s.setQueue g x).jobIds = s.jobIds := rfl
@[simp] theorem setQueue_ctxs (s : State) (g : Nat) (x : Queue) : (s.setQueue g x).ctxs = s.ctxs := rfl
@[simp] theorem setQueue_loads (s : State) (g : Nat) (x : Queue) : (s.setQueue g x).loads = s.loads := rfl
@[simp] theorem setQueue_streams (s : State) (g : Nat) (x : Queue) : (s.setQueue g x).streams = s.streams := rfl
@[simp] theorem setQueue_hmp (s : State) (g : Nat) (x : Queue) : (s.setQueue g x).hmp = s.hmp := rfl
@[simp] theorem setQueue_power (s : State) (g : Nat) (x : Queue) : (s.setQueue g x).power = s.power := rfl
@[simp] theorem setQueue_resil (s : State) (g : Nat) (x : Queue) : (s.setQueue g x).resil = s.resil := rfl
@[simp] theorem setQueue_field (s : State) (g : Nat) (x : Queue) : (s.setQueue g x).field = s.field := rfl
@[simp] theorem setQueue_boot (s : State) (g : Nat) (x : Queue) : (s.setQueue g x).boot = s.boot := rfl

@[simp] theorem dropQueue_pending (s : State) (g : Nat) : (s.dropQueue g).pending = s.pending := rfl
@[simp] theorem dropQueue_free (s : State) (g : Nat) : (s.dropQueue g).free = s.free := rfl
@[simp] theorem dropQueue_dev (s : State) (g : Nat) : (s.dropQueue g).dev = s.dev := rfl
@[simp] theorem dropQueue_causes (s : State) (g : Nat) : (s.dropQueue g).causes = s.causes := rfl
@[simp] theorem dropQueue_cells (s : State) (g : Nat) : (s.dropQueue g).cells = s.cells := rfl
@[simp] theorem dropQueue_fabric (s : State) (g : Nat) : (s.dropQueue g).fabric = s.fabric := rfl
@[simp] theorem dropQueue_tackers (s : State) (g : Nat) : (s.dropQueue g).tackers = s.tackers := rfl
@[simp] theorem dropQueue_lasters (s : State) (g : Nat) : (s.dropQueue g).lasters = s.lasters := rfl
@[simp] theorem dropQueue_jobs (s : State) (g : Nat) : (s.dropQueue g).jobs = s.jobs := rfl
@[simp] theorem dropQueue_jobIds (s : State) (g : Nat) : (s.dropQueue g).jobIds = s.jobIds := rfl
@[simp] theorem dropQueue_ctxs (s : State) (g : Nat) : (s.dropQueue g).ctxs = s.ctxs := rfl
@[simp] theorem dropQueue_loads (s : State) (g : Nat) : (s.dropQueue g).loads = s.loads := rfl
@[simp] theorem dropQueue_streams (s : State) (g : Nat) : (s.dropQueue g).streams = s.streams := rfl
@[simp] theorem dropQueue_hmp (s : State) (g : Nat) : (s.dropQueue g).hmp = s.hmp := rfl
@[simp] theorem dropQueue_power (s : State) (g : Nat) : (s.dropQueue g).power = s.power := rfl
@[simp] theorem dropQueue_resil (s : State) (g : Nat) : (s.dropQueue g).resil = s.resil := rfl
@[simp] theorem dropQueue_field (s : State) (g : Nat) : (s.dropQueue g).field = s.field := rfl
@[simp] theorem dropQueue_boot (s : State) (g : Nat) : (s.dropQueue g).boot = s.boot := rfl

@[simp] theorem modJob_pending (s : State) (g : Nat) (x : Job → Job) : (s.modJob g x).pending = s.pending := rfl
@[simp] theorem modJob_free (s : State) (g : Nat) (x : Job → Job) : (s.modJob g x).free = s.free := rfl
@[simp] theorem modJob_dev (s : State) (g : Nat) (x : Job → Job) : (s.modJob g x).dev = s.dev := rfl
@[simp] theorem modJob_causes (s : State) (g : Nat) (x : Job → Job) : (s.modJob g x).causes = s.causes := rfl
@[simp] theorem modJob_cells (s : State) (g : Nat) (x : Job → Job) : (s.modJob g x).cells = s.cells := rfl
@[simp] theorem modJob_fabric (s : State) (g : Nat) (x : Job → Job) : (s.modJob g x).fabric = s.fabric := rfl
@[simp] theorem modJob_tackers (s : State) (g : Nat) (x : Job → Job) : (s.modJob g x).tackers = s.tackers := rfl
@[simp] theorem modJob_lasters (s : State) (g : Nat) (x : Job → Job) : (s.modJob g x).lasters = s.lasters := rfl
@[simp] theorem modJob_jobIds (s : State) (g : Nat) (x : Job → Job) : (s.modJob g x).jobIds = s.jobIds := rfl
@[simp] theorem modJob_ctxs (s : State) (g : Nat) (x : Job → Job) : (s.modJob g x).ctxs = s.ctxs := rfl
@[simp] theorem modJob_loads (s : State) (g : Nat) (x : Job → Job) : (s.modJob g x).loads = s.loads := rfl
@[simp] theorem modJob_queues (s : State) (g : Nat) (x : Job → Job) : (s.modJob g x).queues = s.queues := rfl
@[simp] theorem modJob_streams (s : State) (g : Nat) (x : Job → Job) : (s.modJob g x).streams = s.streams := rfl
@[simp] theorem modJob_hmp (s : State) (g : Nat) (x : Job → Job) : (s.modJob g x).hmp = s.hmp := rfl
@[simp] theorem modJob_power (s : State) (g : Nat) (x : Job → Job) : (s.modJob g x).power = s.power := rfl
@[simp] theorem modJob_resil (s : State) (g : Nat) (x : Job → Job) : (s.modJob g x).resil = s.resil := rfl
@[simp] theorem modJob_field (s : State) (g : Nat) (x : Job → Job) : (s.modJob g x).field = s.field := rfl
@[simp] theorem modJob_boot (s : State) (g : Nat) (x : Job → Job) : (s.modJob g x).boot = s.boot := rfl

@[simp] theorem draw_pending (s : State) : (s.draw).pending = s.pending := rfl
@[simp] theorem draw_dev (s : State) : (s.draw).dev = s.dev := rfl
@[simp] theorem draw_causes (s : State) : (s.draw).causes = s.causes := rfl
@[simp] theorem draw_cells (s : State) : (s.draw).cells = s.cells := rfl
@[simp] theorem draw_fabric (s : State) : (s.draw).fabric = s.fabric := rfl
@[simp] theorem draw_tackers (s : State) : (s.draw).tackers = s.tackers := rfl
@[simp] theorem draw_lasters (s : State) : (s.draw).lasters = s.lasters := rfl
@[simp] theorem draw_jobs (s : State) : (s.draw).jobs = s.jobs := rfl
@[simp] theorem draw_jobIds (s : State) : (s.draw).jobIds = s.jobIds := rfl
@[simp] theorem draw_ctxs (s : State) : (s.draw).ctxs = s.ctxs := rfl
@[simp] theorem draw_loads (s : State) : (s.draw).loads = s.loads := rfl
@[simp] theorem draw_queues (s : State) : (s.draw).queues = s.queues := rfl
@[simp] theorem draw_streams (s : State) : (s.draw).streams = s.streams := rfl
@[simp] theorem draw_hmp (s : State) : (s.draw).hmp = s.hmp := rfl
@[simp] theorem draw_power (s : State) : (s.draw).power = s.power := rfl
@[simp] theorem draw_resil (s : State) : (s.draw).resil = s.resil := rfl
@[simp] theorem draw_field (s : State) : (s.draw).field = s.field := rfl
@[simp] theorem draw_boot (s : State) : (s.draw).boot = s.boot := rfl

@[simp] theorem draw_free (s : State) : s.draw.free = s.free + 1 := rfl
@[simp] theorem draw_cell (s : State) (g : Nat) : s.draw.cell g = s.cell g := rfl
@[simp] theorem draw_chan (s : State) (g : Nat) : s.draw.chan g = s.chan g := rfl
@[simp] theorem modCell_same (s : State) (g : Nat) (f : CellState → CellState) : (s.modCell g f).cell g = f (s.cell g) := lookup_put_same _ _ _ _
theorem modCell_other (s : State) (g : Nat) (f : CellState → CellState) {h : Nat} (e : h ≠ g) : (s.modCell g f).cell h = s.cell h :=
  lookup_put_other _ _ _ e
@[simp] theorem modCtx_same (s : State) (c : Nat) (f : Ctx → Ctx) : (s.modCtx c f).ctx c = f (s.ctx c) := lookup_put_same _ _ _ _
@[simp] theorem modChan_same (s : State) (c : Nat) (f : Chan → Chan) : (s.modChan c f).chan c = f (s.chan c) := lookup_put_same _ _ _ _

@[simp] theorem modCell_pending (s : State) (g : Nat) (x : CellState → CellState) : (s.modCell g x).pending = s.pending := rfl
@[simp] theorem modCell_free (s : State) (g : Nat) (x : CellState → CellState) : (s.modCell g x).free = s.free := rfl
@[simp] theorem modCell_dev (s : State) (g : Nat) (x : CellState → CellState) : (s.modCell g x).dev = s.dev := rfl
@[simp] theorem modCell_causes (s : State) (g : Nat) (x : CellState → CellState) : (s.modCell g x).causes = s.causes := rfl
@[simp] theorem modCell_fabric (s : State) (g : Nat) (x : CellState → CellState) : (s.modCell g x).fabric = s.fabric := rfl
@[simp] theorem modCell_tackers (s : State) (g : Nat) (x : CellState → CellState) : (s.modCell g x).tackers = s.tackers := rfl
@[simp] theorem modCell_lasters (s : State) (g : Nat) (x : CellState → CellState) : (s.modCell g x).lasters = s.lasters := rfl
@[simp] theorem modCell_jobs (s : State) (g : Nat) (x : CellState → CellState) : (s.modCell g x).jobs = s.jobs := rfl
@[simp] theorem modCell_jobIds (s : State) (g : Nat) (x : CellState → CellState) : (s.modCell g x).jobIds = s.jobIds := rfl
@[simp] theorem modCell_ctxs (s : State) (g : Nat) (x : CellState → CellState) : (s.modCell g x).ctxs = s.ctxs := rfl
@[simp] theorem modCell_loads (s : State) (g : Nat) (x : CellState → CellState) : (s.modCell g x).loads = s.loads := rfl
@[simp] theorem modCell_queues (s : State) (g : Nat) (x : CellState → CellState) : (s.modCell g x).queues = s.queues := rfl
@[simp] theorem modCell_streams (s : State) (g : Nat) (x : CellState → CellState) : (s.modCell g x).streams = s.streams := rfl
@[simp] theorem modCell_hmp (s : State) (g : Nat) (x : CellState → CellState) : (s.modCell g x).hmp = s.hmp := rfl
@[simp] theorem modCell_power (s : State) (g : Nat) (x : CellState → CellState) : (s.modCell g x).power = s.power := rfl
@[simp] theorem modCell_resil (s : State) (g : Nat) (x : CellState → CellState) : (s.modCell g x).resil = s.resil := rfl
@[simp] theorem modCell_field (s : State) (g : Nat) (x : CellState → CellState) : (s.modCell g x).field = s.field := rfl
@[simp] theorem modCell_boot (s : State) (g : Nat) (x : CellState → CellState) : (s.modCell g x).boot = s.boot := rfl

@[simp] theorem modCtx_pending (s : State) (g : Nat) (x : Ctx → Ctx) : (s.modCtx g x).pending = s.pending := rfl
@[simp] theorem modCtx_free (s : State) (g : Nat) (x : Ctx → Ctx) : (s.modCtx g x).free = s.free := rfl
@[simp] theorem modCtx_dev (s : State) (g : Nat) (x : Ctx → Ctx) : (s.modCtx g x).dev = s.dev := rfl
@[simp] theorem modCtx_causes (s : State) (g : Nat) (x : Ctx → Ctx) : (s.modCtx g x).causes = s.causes := rfl
@[simp] theorem modCtx_cells (s : State) (g : Nat) (x : Ctx → Ctx) : (s.modCtx g x).cells = s.cells := rfl
@[simp] theorem modCtx_fabric (s : State) (g : Nat) (x : Ctx → Ctx) : (s.modCtx g x).fabric = s.fabric := rfl
@[simp] theorem modCtx_tackers (s : State) (g : Nat) (x : Ctx → Ctx) : (s.modCtx g x).tackers = s.tackers := rfl
@[simp] theorem modCtx_lasters (s : State) (g : Nat) (x : Ctx → Ctx) : (s.modCtx g x).lasters = s.lasters := rfl
@[simp] theorem modCtx_jobs (s : State) (g : Nat) (x : Ctx → Ctx) : (s.modCtx g x).jobs = s.jobs := rfl
@[simp] theorem modCtx_jobIds (s : State) (g : Nat) (x : Ctx → Ctx) : (s.modCtx g x).jobIds = s.jobIds := rfl
@[simp] theorem modCtx_loads (s : State) (g : Nat) (x : Ctx → Ctx) : (s.modCtx g x).loads = s.loads := rfl
@[simp] theorem modCtx_queues (s : State) (g : Nat) (x : Ctx → Ctx) : (s.modCtx g x).queues = s.queues := rfl
@[simp] theorem modCtx_streams (s : State) (g : Nat) (x : Ctx → Ctx) : (s.modCtx g x).streams = s.streams := rfl
@[simp] theorem modCtx_hmp (s : State) (g : Nat) (x : Ctx → Ctx) : (s.modCtx g x).hmp = s.hmp := rfl
@[simp] theorem modCtx_power (s : State) (g : Nat) (x : Ctx → Ctx) : (s.modCtx g x).power = s.power := rfl
@[simp] theorem modCtx_resil (s : State) (g : Nat) (x : Ctx → Ctx) : (s.modCtx g x).resil = s.resil := rfl
@[simp] theorem modCtx_field (s : State) (g : Nat) (x : Ctx → Ctx) : (s.modCtx g x).field = s.field := rfl
@[simp] theorem modCtx_boot (s : State) (g : Nat) (x : Ctx → Ctx) : (s.modCtx g x).boot = s.boot := rfl

@[simp] theorem modChan_pending (s : State) (g : Nat) (x : Chan → Chan) : (s.modChan g x).pending = s.pending := rfl
@[simp] theorem modChan_free (s : State) (g : Nat) (x : Chan → Chan) : (s.modChan g x).free = s.free := rfl
@[simp] theorem modChan_dev (s : State) (g : Nat) (x : Chan → Chan) : (s.modChan g x).dev = s.dev := rfl
@[simp] theorem modChan_causes (s : State) (g : Nat) (x : Chan → Chan) : (s.modChan g x).causes = s.causes := rfl
@[simp] theorem modChan_cells (s : State) (g : Nat) (x : Chan → Chan) : (s.modChan g x).cells = s.cells := rfl
@[simp] theorem modChan_fabric (s : State) (g : Nat) (x : Chan → Chan) : (s.modChan g x).fabric = s.fabric := rfl
@[simp] theorem modChan_tackers (s : State) (g : Nat) (x : Chan → Chan) : (s.modChan g x).tackers = s.tackers := rfl
@[simp] theorem modChan_lasters (s : State) (g : Nat) (x : Chan → Chan) : (s.modChan g x).lasters = s.lasters := rfl
@[simp] theorem modChan_jobs (s : State) (g : Nat) (x : Chan → Chan) : (s.modChan g x).jobs = s.jobs := rfl
@[simp] theorem modChan_jobIds (s : State) (g : Nat) (x : Chan → Chan) : (s.modChan g x).jobIds = s.jobIds := rfl
@[simp] theorem modChan_ctxs (s : State) (g : Nat) (x : Chan → Chan) : (s.modChan g x).ctxs = s.ctxs := rfl
@[simp] theorem modChan_loads (s : State) (g : Nat) (x : Chan → Chan) : (s.modChan g x).loads = s.loads := rfl
@[simp] theorem modChan_queues (s : State) (g : Nat) (x : Chan → Chan) : (s.modChan g x).queues = s.queues := rfl
@[simp] theorem modChan_streams (s : State) (g : Nat) (x : Chan → Chan) : (s.modChan g x).streams = s.streams := rfl
@[simp] theorem modChan_power (s : State) (g : Nat) (x : Chan → Chan) : (s.modChan g x).power = s.power := rfl
@[simp] theorem modChan_resil (s : State) (g : Nat) (x : Chan → Chan) : (s.modChan g x).resil = s.resil := rfl
@[simp] theorem modChan_field (s : State) (g : Nat) (x : Chan → Chan) : (s.modChan g x).field = s.field := rfl
@[simp] theorem modChan_boot (s : State) (g : Nat) (x : Chan → Chan) : (s.modChan g x).boot = s.boot := rfl

@[simp] theorem answer_pending (s : State) (c : Nat) : (answer s c).pending = s.pending := rfl
@[simp] theorem answer_free (s : State) (c : Nat) : (answer s c).free = s.free := rfl
@[simp] theorem answer_causes (s : State) (c : Nat) : (answer s c).causes = s.causes := rfl
@[simp] theorem answer_cells (s : State) (c : Nat) : (answer s c).cells = s.cells := rfl
@[simp] theorem answer_fabric (s : State) (c : Nat) : (answer s c).fabric = s.fabric := rfl
@[simp] theorem answer_tackers (s : State) (c : Nat) : (answer s c).tackers = s.tackers := rfl
@[simp] theorem answer_lasters (s : State) (c : Nat) : (answer s c).lasters = s.lasters := rfl
@[simp] theorem answer_jobs (s : State) (c : Nat) : (answer s c).jobs = s.jobs := rfl
@[simp] theorem answer_jobIds (s : State) (c : Nat) : (answer s c).jobIds = s.jobIds := rfl
@[simp] theorem answer_ctxs (s : State) (c : Nat) : (answer s c).ctxs = s.ctxs := rfl
@[simp] theorem answer_loads (s : State) (c : Nat) : (answer s c).loads = s.loads := rfl
@[simp] theorem answer_queues (s : State) (c : Nat) : (answer s c).queues = s.queues := rfl
@[simp] theorem answer_streams (s : State) (c : Nat) : (answer s c).streams = s.streams := rfl
@[simp] theorem answer_hmp (s : State) (c : Nat) : (answer s c).hmp = s.hmp := rfl
@[simp] theorem answer_power (s : State) (c : Nat) : (answer s c).power = s.power := rfl
@[simp] theorem answer_resil (s : State) (c : Nat) : (answer s c).resil = s.resil := rfl
@[simp] theorem answer_field (s : State) (c : Nat) : (answer s c).field = s.field := rfl
@[simp] theorem answer_boot (s : State) (c : Nat) : (answer s c).boot = s.boot := rfl
@[simp] theorem answer_answer (s : State) (c : Nat) : (answer s c).dev.answer = BitVec.ofNat 32 c := rfl

end Sys2Proof.Machine
end

