-- ==== Sys2Proof/Laws/Cell.lean ====
section
/-! SUPPORT. What the shared operations of a cell do: the sentinel, the stitch, the issue of a macro-operation. -/

namespace Sys2Proof.Machine

/-- The sentinel writes nothing but its own counters and log. -/
theorem logViolation_only (c : CellState) (e : SentEntry) :
    ∃ v l g, logViolation c e = { c with violations := v, sentLost := l, sentLog := g } := by
  unfold logViolation
  simp only
  split
  · exact ⟨_, c.sentLost, _, rfl⟩
  · exact ⟨_, _, _, rfl⟩

theorem foldl_only {α : Type} (f : CellState → α → CellState)
    (h : ∀ c x, ∃ v l g, f c x = { c with violations := v, sentLost := l, sentLog := g }) (xs : List α) (c : CellState) :
    ∃ v l g, xs.foldl f c = { c with violations := v, sentLost := l, sentLog := g } := by
  induction xs generalizing c with
  | nil => exact ⟨c.violations, c.sentLost, c.sentLog, rfl⟩
  | cons x xs ih =>
    obtain ⟨v, l, g, e⟩ := h c x
    obtain ⟨v', l', g', e'⟩ := ih (f c x)
    refine ⟨v', l', g', ?_⟩
    rw [List.foldl_cons, e', e]

theorem touch_only (c : CellState) (order idx : Nat) (lace : Bool) (space : Nat) (write : Bool) (lines : List Nat) :
    ∃ v l g, touch c order idx lace space write lines = { c with violations := v, sentLost := l, sentLog := g } := by
  unfold touch
  split
  · exact ⟨c.violations, c.sentLost, c.sentLog, rfl⟩
  · refine foldl_only _ (fun c x => foldl_only _ (fun c l => ?_) _ _) _ _
    simp only
    split
    · exact logViolation_only _ _
    · exact ⟨c.violations, c.sentLost, c.sentLog, rfl⟩

/-- With no operation in flight the array reduces nothing, no eyelet pops and no instruction is due. -/
theorem reducing_idle (c : CellState) (h : c.mats = []) : reducing c = none := by simp [reducing, h]

theorem takesNow_idle (c : CellState) (h : c.mats = []) (e : Nat) : takesNow c e = false := by simp [takesNow, reducing_idle c h]

theorem feedStalls_idle (c : CellState) (h : c.mats = []) : feedStalls c = 0 := by
  simp [feedStalls, eyeEmpty, takesNow_idle c h, rowsShort, reducing_idle c h]

theorem popBad_idle (c : CellState) (h : c.mats = []) : popBad c = none := by simp [popBad, popsNow, takesNow_idle c h]

theorem popEyes_idle (c : CellState) (h : c.mats = []) : popEyes c = { c with eyes := c.eyes.filter (fun p => !p.2.isEmpty) } := by
  simp [popEyes, takesNow_idle c h, reducing_idle c h]

theorem vectorPhase_idle (v : VEnv) (t : Nat) (c : CellState) (h : c.mats = []) (l : List MatOp) :
    vectorPhase v t c l = runAll v c (l.map (fun m => (m, dues m t))) := by
  simp [vectorPhase, overdue, h]

/-- A stitch of a cell with no operation in flight completes and does nothing else (spec/03 R57, spec/04 R85). -/
theorem completeStitch_idle (s : State) (g : Nat) (h : (s.cell g).mats = []) :
    completeStitch s g = (s.setCell g { dropMarks { s.cell g with
      since := (s.cell g).since + 1, stitchCount := satAdd 64 (s.cell g).stitchCount 1, pacing := false } with
      eyes := (s.cell g).eyes.filter (fun p => !p.2.isEmpty), stalls := 0, progressAt := s.now }).draw := by
  simp only [completeStitch, advance, envOf, feedStalls_idle _ h, popBad_idle _ h, ne_eq, not_true_eq_false, if_false, h,
    vectorPhase_idle _ _ _ h, List.map_nil, runAll, List.any_nil, Bool.false_eq_true, popEyes_idle _ h, List.foldl_nil]
  simp only [dropMarks, nextTag, reducing, List.find?_nil, List.filter_nil]

/-- A cell with no operation in flight issues a macro-operation at once (spec/04 R83, R85). -/
theorem issueWith_ready (op : State → Nat → BitVec 128 → State) (s : State) (g : Nat) (w : BitVec 128)
    (hh : (s.cell g).haltReq = false) (hp : (s.cell g).nextPc ≤ 1023) (hm : (s.cell g).mats = []) (hw : wordOk w = true) :
    issueWith op s g w = op (s.setCell g { s.cell g with pc := (s.cell g).nextPc }) g w := by
  simp [issueWith, hh, hm, vectorPhase, overdue, runAll, hw, Nat.not_lt.mpr hp]

/-- A macro-operation command of the row's opcode at a boundary (notes/assumptions/2). -/
theorem macroOp_ready (code : Nat) (op : State → Nat → BitVec 128 → State) (g : CellNo) (w : BitVec 128) (s : State)
    (hb : atBoundary (s.cell g.val) = true) (hh : (s.cell g.val).haltReq = false) (hp : (s.cell g.val).nextPc ≤ 1023) (hm : (s.cell g.val).mats = [])
    (hc : opcode w = code) (hw : wordOk w = true) :
    macroOp code op g w s = .next (op (s.setCell g.val { s.cell g.val with pc := (s.cell g.val).nextPc }) g.val w) := by
  simp [macroOp, hc, hb, issueWith_ready op s g.val w hh hp hm hw]

/-- What a macro-operation command can answer. -/
theorem macroOp_cases (code : Nat) (op : State → Nat → BitVec 128 → State) (g : CellNo) (w : BitVec 128) (s : State) :
    (opcode w ≠ code ∧ macroOp code op g w s = .refused .illFormed) ∨
    (opcode w = code ∧ atBoundary (s.cell g.val) = true ∧ macroOp code op g w s = .next (issueWith op s g.val w)) ∨
    (opcode w = code ∧ atBoundary (s.cell g.val) = false ∧ macroOp code op g w s = .next s) := by
  unfold macroOp
  by_cases h : opcode w = code
  · cases hb : atBoundary (s.cell g.val) <;> simp [h]
  · simp [h]

/-- What a Plamor-V command can answer. -/
theorem vectorOp_cases (code : Nat) (g : CellNo) (m : VWhere) (w : Word) (s : State) :
    (vOp w ≠ code ∧ vectorOp code g m w s = .refused .illFormed) ∨
    (vOp w = code ∧ ∃ t, vectorOp code g m w s = .next t ∧
      (t = s ∨ t = tileExec s g.val w ∨ ∃ k : ThreadNo, m = .thread k ∧ t = threadExec s g.val k.val w)) := by
  unfold vectorOp
  by_cases h : vOp w = code
  · cases m with
    | tile => simp [h]
    | thread k =>
      right
      simp only [h, ne_eq, not_true_eq_false, if_false, true_and]
      split
      · exact ⟨_, rfl, .inr (.inr ⟨k, rfl, rfl⟩)⟩
      · exact ⟨_, rfl, .inl rfl⟩
  · simp [h]

/-- A cell's write leaves every other cell and field as it was. -/
theorem setCell_only (s : State) (g : Nat) (c : CellState) : s.setCell g c = { s with cells := (s.setCell g c).cells } := rfl

/-! ### What the sentinel and the stall causes leave as it was -/

@[simp] theorem touch_store (c : CellState) (o i : Nat) (l : Bool) (sp : Nat) (w : Bool) (ls : List Nat) : (touch c o i l sp w ls).store = c.store := by
  obtain ⟨v, a, b, e⟩ := touch_only c o i l sp w ls; rw [e]
@[simp] theorem touch_bbuf (c : CellState) (o i : Nat) (l : Bool) (sp : Nat) (w : Bool) (ls : List Nat) : (touch c o i l sp w ls).bbuf = c.bbuf := by
  obtain ⟨v, a, b, e⟩ := touch_only c o i l sp w ls; rw [e]
@[simp] theorem touch_imem (c : CellState) (o i : Nat) (l : Bool) (sp : Nat) (w : Bool) (ls : List Nat) : (touch c o i l sp w ls).imem = c.imem := by
  obtain ⟨v, a, b, e⟩ := touch_only c o i l sp w ls; rw [e]
@[simp] theorem touch_tmem (c : CellState) (o i : Nat) (l : Bool) (sp : Nat) (w : Bool) (ls : List Nat) : (touch c o i l sp w ls).tmem = c.tmem := by
  obtain ⟨v, a, b, e⟩ := touch_only c o i l sp w ls; rw [e]
@[simp] theorem touch_vreg (c : CellState) (o i : Nat) (l : Bool) (sp : Nat) (w : Bool) (ls : List Nat) : (touch c o i l sp w ls).vreg = c.vreg := by
  obtain ⟨v, a, b, e⟩ := touch_only c o i l sp w ls; rw [e]
@[simp] theorem touch_pred (c : CellState) (o i : Nat) (l : Bool) (sp : Nat) (w : Bool) (ls : List Nat) : (touch c o i l sp w ls).pred = c.pred := by
  obtain ⟨v, a, b, e⟩ := touch_only c o i l sp w ls; rw [e]
@[simp] theorem touch_drainBuf (c : CellState) (o i : Nat) (l : Bool) (sp : Nat) (w : Bool) (ls : List Nat) : (touch c o i l sp w ls).drainBuf = c.drainBuf := by
  obtain ⟨v, a, b, e⟩ := touch_only c o i l sp w ls; rw [e]
@[simp] theorem touch_hist (c : CellState) (o i : Nat) (l : Bool) (sp : Nat) (w : Bool) (ls : List Nat) : (touch c o i l sp w ls).hist = c.hist := by
  obtain ⟨v, a, b, e⟩ := touch_only c o i l sp w ls; rw [e]
@[simp] theorem touch_mats (c : CellState) (o i : Nat) (l : Bool) (sp : Nat) (w : Bool) (ls : List Nat) : (touch c o i l sp w ls).mats = c.mats := by
  obtain ⟨v, a, b, e⟩ := touch_only c o i l sp w ls; rw [e]
@[simp] theorem touch_loops (c : CellState) (o i : Nat) (l : Bool) (sp : Nat) (w : Bool) (ls : List Nat) : (touch c o i l sp w ls).loops = c.loops := by
  obtain ⟨v, a, b, e⟩ := touch_only c o i l sp w ls; rw [e]
@[simp] theorem touch_next (c : CellState) (o i : Nat) (l : Bool) (sp : Nat) (w : Bool) (ls : List Nat) : (touch c o i l sp w ls).next = c.next := by
  obtain ⟨v, a, b, e⟩ := touch_only c o i l sp w ls; rw [e]
@[simp] theorem touch_nextPc (c : CellState) (o i : Nat) (l : Bool) (sp : Nat) (w : Bool) (ls : List Nat) : (touch c o i l sp w ls).nextPc = c.nextPc := by
  obtain ⟨v, a, b, e⟩ := touch_only c o i l sp w ls; rw [e]
@[simp] theorem touch_pc (c : CellState) (o i : Nat) (l : Bool) (sp : Nat) (w : Bool) (ls : List Nat) : (touch c o i l sp w ls).pc = c.pc := by
  obtain ⟨v, a, b, e⟩ := touch_only c o i l sp w ls; rw [e]
@[simp] theorem touch_since (c : CellState) (o i : Nat) (l : Bool) (sp : Nat) (w : Bool) (ls : List Nat) : (touch c o i l sp w ls).since = c.since := by
  obtain ⟨v, a, b, e⟩ := touch_only c o i l sp w ls; rw [e]
@[simp] theorem touch_stitchCount (c : CellState) (o i : Nat) (l : Bool) (sp : Nat) (w : Bool) (ls : List Nat) : (touch c o i l sp w ls).stitchCount = c.stitchCount := by
  obtain ⟨v, a, b, e⟩ := touch_only c o i l sp w ls; rw [e]
@[simp] theorem touch_st (c : CellState) (o i : Nat) (l : Bool) (sp : Nat) (w : Bool) (ls : List Nat) : (touch c o i l sp w ls).st = c.st := by
  obtain ⟨v, a, b, e⟩ := touch_only c o i l sp w ls; rw [e]
@[simp] theorem touch_wait (c : CellState) (o i : Nat) (l : Bool) (sp : Nat) (w : Bool) (ls : List Nat) : (touch c o i l sp w ls).wait = c.wait := by
  obtain ⟨v, a, b, e⟩ := touch_only c o i l sp w ls; rw [e]
@[simp] theorem touch_stalls (c : CellState) (o i : Nat) (l : Bool) (sp : Nat) (w : Bool) (ls : List Nat) : (touch c o i l sp w ls).stalls = c.stalls := by
  obtain ⟨v, a, b, e⟩ := touch_only c o i l sp w ls; rw [e]
@[simp] theorem touch_orders (c : CellState) (o i : Nat) (l : Bool) (sp : Nat) (w : Bool) (ls : List Nat) : (touch c o i l sp w ls).orders = c.orders := by
  obtain ⟨v, a, b, e⟩ := touch_only c o i l sp w ls; rw [e]
@[simp] theorem touch_sentOn (c : CellState) (o i : Nat) (l : Bool) (sp : Nat) (w : Bool) (ls : List Nat) : (touch c o i l sp w ls).sentOn = c.sentOn := by
  obtain ⟨v, a, b, e⟩ := touch_only c o i l sp w ls; rw [e]
@[simp] theorem touch_marks (c : CellState) (o i : Nat) (l : Bool) (sp : Nat) (w : Bool) (ls : List Nat) : (touch c o i l sp w ls).marks = c.marks := by
  obtain ⟨v, a, b, e⟩ := touch_only c o i l sp w ls; rw [e]
@[simp] theorem touch_held (c : CellState) (o i : Nat) (l : Bool) (sp : Nat) (w : Bool) (ls : List Nat) : (touch c o i l sp w ls).held = c.held := by
  obtain ⟨v, a, b, e⟩ := touch_only c o i l sp w ls; rw [e]
@[simp] theorem touch_posts (c : CellState) (o i : Nat) (l : Bool) (sp : Nat) (w : Bool) (ls : List Nat) : (touch c o i l sp w ls).posts = c.posts := by
  obtain ⟨v, a, b, e⟩ := touch_only c o i l sp w ls; rw [e]
@[simp] theorem touch_postsSent (c : CellState) (o i : Nat) (l : Bool) (sp : Nat) (w : Bool) (ls : List Nat) : (touch c o i l sp w ls).postsSent = c.postsSent := by
  obtain ⟨v, a, b, e⟩ := touch_only c o i l sp w ls; rw [e]
@[simp] theorem touch_bind (c : CellState) (o i : Nat) (l : Bool) (sp : Nat) (w : Bool) (ls : List Nat) : (touch c o i l sp w ls).bind = c.bind := by
  obtain ⟨v, a, b, e⟩ := touch_only c o i l sp w ls; rw [e]
@[simp] theorem touch_threads (c : CellState) (o i : Nat) (l : Bool) (sp : Nat) (w : Bool) (ls : List Nat) : (touch c o i l sp w ls).threads = c.threads := by
  obtain ⟨v, a, b, e⟩ := touch_only c o i l sp w ls; rw [e]
@[simp] theorem touch_sb (c : CellState) (o i : Nat) (l : Bool) (sp : Nat) (w : Bool) (ls : List Nat) : (touch c o i l sp w ls).sb = c.sb := by
  obtain ⟨v, a, b, e⟩ := touch_only c o i l sp w ls; rw [e]
@[simp] theorem touch_chainOpen (c : CellState) (o i : Nat) (l : Bool) (sp : Nat) (w : Bool) (ls : List Nat) : (touch c o i l sp w ls).chainOpen = c.chainOpen := by
  obtain ⟨v, a, b, e⟩ := touch_only c o i l sp w ls; rw [e]
@[simp] theorem touch_fence (c : CellState) (o i : Nat) (l : Bool) (sp : Nat) (w : Bool) (ls : List Nat) : (touch c o i l sp w ls).fence = c.fence := by
  obtain ⟨v, a, b, e⟩ := touch_only c o i l sp w ls; rw [e]
@[simp] theorem touch_haltReq (c : CellState) (o i : Nat) (l : Bool) (sp : Nat) (w : Bool) (ls : List Nat) : (touch c o i l sp w ls).haltReq = c.haltReq := by
  obtain ⟨v, a, b, e⟩ := touch_only c o i l sp w ls; rw [e]
@[simp] theorem touch_lastLayer (c : CellState) (o i : Nat) (l : Bool) (sp : Nat) (w : Bool) (ls : List Nat) : (touch c o i l sp w ls).lastLayer = c.lastLayer := by
  obtain ⟨v, a, b, e⟩ := touch_only c o i l sp w ls; rw [e]
@[simp] theorem touch_layersDone (c : CellState) (o i : Nat) (l : Bool) (sp : Nat) (w : Bool) (ls : List Nat) : (touch c o i l sp w ls).layersDone = c.layersDone := by
  obtain ⟨v, a, b, e⟩ := touch_only c o i l sp w ls; rw [e]
@[simp] theorem touch_report (c : CellState) (o i : Nat) (l : Bool) (sp : Nat) (w : Bool) (ls : List Nat) : (touch c o i l sp w ls).report = c.report := by
  obtain ⟨v, a, b, e⟩ := touch_only c o i l sp w ls; rw [e]
@[simp] theorem touch_prog (c : CellState) (o i : Nat) (l : Bool) (sp : Nat) (w : Bool) (ls : List Nat) : (touch c o i l sp w ls).prog = c.prog := by
  obtain ⟨v, a, b, e⟩ := touch_only c o i l sp w ls; rw [e]
@[simp] theorem touch_progressAt (c : CellState) (o i : Nat) (l : Bool) (sp : Nat) (w : Bool) (ls : List Nat) : (touch c o i l sp w ls).progressAt = c.progressAt := by
  obtain ⟨v, a, b, e⟩ := touch_only c o i l sp w ls; rw [e]
@[simp] theorem touch_actT (c : CellState) (o i : Nat) (l : Bool) (sp : Nat) (w : Bool) (ls : List Nat) : (touch c o i l sp w ls).actT = c.actT := by
  obtain ⟨v, a, b, e⟩ := touch_only c o i l sp w ls; rw [e]
@[simp] theorem touch_actI (c : CellState) (o i : Nat) (l : Bool) (sp : Nat) (w : Bool) (ls : List Nat) : (touch c o i l sp w ls).actI = c.actI := by
  obtain ⟨v, a, b, e⟩ := touch_only c o i l sp w ls; rw [e]
@[simp] theorem touch_rmax (c : CellState) (o i : Nat) (l : Bool) (sp : Nat) (w : Bool) (ls : List Nat) : (touch c o i l sp w ls).rmax = c.rmax := by
  obtain ⟨v, a, b, e⟩ := touch_only c o i l sp w ls; rw [e]
@[simp] theorem touch_rsum (c : CellState) (o i : Nat) (l : Bool) (sp : Nat) (w : Bool) (ls : List Nat) : (touch c o i l sp w ls).rsum = c.rsum := by
  obtain ⟨v, a, b, e⟩ := touch_only c o i l sp w ls; rw [e]
@[simp] theorem touch_rscl (c : CellState) (o i : Nat) (l : Bool) (sp : Nat) (w : Bool) (ls : List Nat) : (touch c o i l sp w ls).rscl = c.rscl := by
  obtain ⟨v, a, b, e⟩ := touch_only c o i l sp w ls; rw [e]
@[simp] theorem touch_vctx (c : CellState) (o i : Nat) (l : Bool) (sp : Nat) (w : Bool) (ls : List Nat) : (touch c o i l sp w ls).vctx = c.vctx := by
  obtain ⟨v, a, b, e⟩ := touch_only c o i l sp w ls; rw [e]
@[simp] theorem touch_hints (c : CellState) (o i : Nat) (l : Bool) (sp : Nat) (w : Bool) (ls : List Nat) : (touch c o i l sp w ls).hints = c.hints := by
  obtain ⟨v, a, b, e⟩ := touch_only c o i l sp w ls; rw [e]
@[simp] theorem touch_tileStatus (c : CellState) (o i : Nat) (l : Bool) (sp : Nat) (w : Bool) (ls : List Nat) : (touch c o i l sp w ls).tileStatus = c.tileStatus := by
  obtain ⟨v, a, b, e⟩ := touch_only c o i l sp w ls; rw [e]
@[simp] theorem touch_counts (c : CellState) (o i : Nat) (l : Bool) (sp : Nat) (w : Bool) (ls : List Nat) : (touch c o i l sp w ls).counts = c.counts := by
  obtain ⟨v, a, b, e⟩ := touch_only c o i l sp w ls; rw [e]
@[simp] theorem mark_store (c : CellState) (o i : Nat) (l : Bool) (sp : Nat) (r w : Bool) (u : Nat) (ls : List Nat) : (mark c o i l sp r w u ls).store = c.store := by
  unfold mark; split <;> rfl
@[simp] theorem mark_bbuf (c : CellState) (o i : Nat) (l : Bool) (sp : Nat) (r w : Bool) (u : Nat) (ls : List Nat) : (mark c o i l sp r w u ls).bbuf = c.bbuf := by
  unfold mark; split <;> rfl
@[simp] theorem mark_imem (c : CellState) (o i : Nat) (l : Bool) (sp : Nat) (r w : Bool) (u : Nat) (ls : List Nat) : (mark c o i l sp r w u ls).imem = c.imem := by
  unfold mark; split <;> rfl
@[simp] theorem mark_tmem (c : CellState) (o i : Nat) (l : Bool) (sp : Nat) (r w : Bool) (u : Nat) (ls : List Nat) : (mark c o i l sp r w u ls).tmem = c.tmem := by
  unfold mark; split <;> rfl
@[simp] theorem mark_vreg (c : CellState) (o i : Nat) (l : Bool) (sp : Nat) (r w : Bool) (u : Nat) (ls : List Nat) : (mark c o i l sp r w u ls).vreg = c.vreg := by
  unfold mark; split <;> rfl
@[simp] theorem mark_pred (c : CellState) (o i : Nat) (l : Bool) (sp : Nat) (r w : Bool) (u : Nat) (ls : List Nat) : (mark c o i l sp r w u ls).pred = c.pred := by
  unfold mark; split <;> rfl
@[simp] theorem mark_drainBuf (c : CellState) (o i : Nat) (l : Bool) (sp : Nat) (r w : Bool) (u : Nat) (ls : List Nat) : (mark c o i l sp r w u ls).drainBuf = c.drainBuf := by
  unfold mark; split <;> rfl
@[simp] theorem mark_hist (c : CellState) (o i : Nat) (l : Bool) (sp : Nat) (r w : Bool) (u : Nat) (ls : List Nat) : (mark c o i l sp r w u ls).hist = c.hist := by
  unfold mark; split <;> rfl
@[simp] theorem mark_mats (c : CellState) (o i : Nat) (l : Bool) (sp : Nat) (r w : Bool) (u : Nat) (ls : List Nat) : (mark c o i l sp r w u ls).mats = c.mats := by
  unfold mark; split <;> rfl
@[simp] theorem mark_loops (c : CellState) (o i : Nat) (l : Bool) (sp : Nat) (r w : Bool) (u : Nat) (ls : List Nat) : (mark c o i l sp r w u ls).loops = c.loops := by
  unfold mark; split <;> rfl
@[simp] theorem mark_next (c : CellState) (o i : Nat) (l : Bool) (sp : Nat) (r w : Bool) (u : Nat) (ls : List Nat) : (mark c o i l sp r w u ls).next = c.next := by
  unfold mark; split <;> rfl
@[simp] theorem mark_nextPc (c : CellState) (o i : Nat) (l : Bool) (sp : Nat) (r w : Bool) (u : Nat) (ls : List Nat) : (mark c o i l sp r w u ls).nextPc = c.nextPc := by
  unfold mark; split <;> rfl
@[simp] theorem mark_pc (c : CellState) (o i : Nat) (l : Bool) (sp : Nat) (r w : Bool) (u : Nat) (ls : List Nat) : (mark c o i l sp r w u ls).pc = c.pc := by
  unfold mark; split <;> rfl
@[simp] theorem mark_since (c : CellState) (o i : Nat) (l : Bool) (sp : Nat) (r w : Bool) (u : Nat) (ls : List Nat) : (mark c o i l sp r w u ls).since = c.since := by
  unfold mark; split <;> rfl
@[simp] theorem mark_stitchCount (c : CellState) (o i : Nat) (l : Bool) (sp : Nat) (r w : Bool) (u : Nat) (ls : List Nat) : (mark c o i l sp r w u ls).stitchCount = c.stitchCount := by
  unfold mark; split <;> rfl
@[simp] theorem mark_st (c : CellState) (o i : Nat) (l : Bool) (sp : Nat) (r w : Bool) (u : Nat) (ls : List Nat) : (mark c o i l sp r w u ls).st = c.st := by
  unfold mark; split <;> rfl
@[simp] theorem mark_wait (c : CellState) (o i : Nat) (l : Bool) (sp : Nat) (r w : Bool) (u : Nat) (ls : List Nat) : (mark c o i l sp r w u ls).wait = c.wait := by
  unfold mark; split <;> rfl
@[simp] theorem mark_stalls (c : CellState) (o i : Nat) (l : Bool) (sp : Nat) (r w : Bool) (u : Nat) (ls : List Nat) : (mark c o i l sp r w u ls).stalls = c.stalls := by
  unfold mark; split <;> rfl
@[simp] theorem mark_orders (c : CellState) (o i : Nat) (l : Bool) (sp : Nat) (r w : Bool) (u : Nat) (ls : List Nat) : (mark c o i l sp r w u ls).orders = c.orders := by
  unfold mark; split <;> rfl
@[simp] theorem mark_sentOn (c : CellState) (o i : Nat) (l : Bool) (sp : Nat) (r w : Bool) (u : Nat) (ls : List Nat) : (mark c o i l sp r w u ls).sentOn = c.sentOn := by
  unfold mark; split <;> rfl
@[simp] theorem mark_held (c : CellState) (o i : Nat) (l : Bool) (sp : Nat) (r w : Bool) (u : Nat) (ls : List Nat) : (mark c o i l sp r w u ls).held = c.held := by
  unfold mark; split <;> rfl
@[simp] theorem mark_posts (c : CellState) (o i : Nat) (l : Bool) (sp : Nat) (r w : Bool) (u : Nat) (ls : List Nat) : (mark c o i l sp r w u ls).posts = c.posts := by
  unfold mark; split <;> rfl
@[simp] theorem mark_postsSent (c : CellState) (o i : Nat) (l : Bool) (sp : Nat) (r w : Bool) (u : Nat) (ls : List Nat) : (mark c o i l sp r w u ls).postsSent = c.postsSent := by
  unfold mark; split <;> rfl
@[simp] theorem mark_bind (c : CellState) (o i : Nat) (l : Bool) (sp : Nat) (r w : Bool) (u : Nat) (ls : List Nat) : (mark c o i l sp r w u ls).bind = c.bind := by
  unfold mark; split <;> rfl
@[simp] theorem mark_threads (c : CellState) (o i : Nat) (l : Bool) (sp : Nat) (r w : Bool) (u : Nat) (ls : List Nat) : (mark c o i l sp r w u ls).threads = c.threads := by
  unfold mark; split <;> rfl
@[simp] theorem mark_sb (c : CellState) (o i : Nat) (l : Bool) (sp : Nat) (r w : Bool) (u : Nat) (ls : List Nat) : (mark c o i l sp r w u ls).sb = c.sb := by
  unfold mark; split <;> rfl
@[simp] theorem mark_chainOpen (c : CellState) (o i : Nat) (l : Bool) (sp : Nat) (r w : Bool) (u : Nat) (ls : List Nat) : (mark c o i l sp r w u ls).chainOpen = c.chainOpen := by
  unfold mark; split <;> rfl
@[simp] theorem mark_fence (c : CellState) (o i : Nat) (l : Bool) (sp : Nat) (r w : Bool) (u : Nat) (ls : List Nat) : (mark c o i l sp r w u ls).fence = c.fence := by
  unfold mark; split <;> rfl
@[simp] theorem mark_haltReq (c : CellState) (o i : Nat) (l : Bool) (sp : Nat) (r w : Bool) (u : Nat) (ls : List Nat) : (mark c o i l sp r w u ls).haltReq = c.haltReq := by
  unfold mark; split <;> rfl
@[simp] theorem mark_lastLayer (c : CellState) (o i : Nat) (l : Bool) (sp : Nat) (r w : Bool) (u : Nat) (ls : List Nat) : (mark c o i l sp r w u ls).lastLayer = c.lastLayer := by
  unfold mark; split <;> rfl
@[simp] theorem mark_layersDone (c : CellState) (o i : Nat) (l : Bool) (sp : Nat) (r w : Bool) (u : Nat) (ls : List Nat) : (mark c o i l sp r w u ls).layersDone = c.layersDone := by
  unfold mark; split <;> rfl
@[simp] theorem mark_report (c : CellState) (o i : Nat) (l : Bool) (sp : Nat) (r w : Bool) (u : Nat) (ls : List Nat) : (mark c o i l sp r w u ls).report = c.report := by
  unfold mark; split <;> rfl
@[simp] theorem mark_prog (c : CellState) (o i : Nat) (l : Bool) (sp : Nat) (r w : Bool) (u : Nat) (ls : List Nat) : (mark c o i l sp r w u ls).prog = c.prog := by
  unfold mark; split <;> rfl
@[simp] theorem mark_progressAt (c : CellState) (o i : Nat) (l : Bool) (sp : Nat) (r w : Bool) (u : Nat) (ls : List Nat) : (mark c o i l sp r w u ls).progressAt = c.progressAt := by
  unfold mark; split <;> rfl
@[simp] theorem mark_actT (c : CellState) (o i : Nat) (l : Bool) (sp : Nat) (r w : Bool) (u : Nat) (ls : List Nat) : (mark c o i l sp r w u ls).actT = c.actT := by
  unfold mark; split <;> rfl
@[simp] theorem mark_actI (c : CellState) (o i : Nat) (l : Bool) (sp : Nat) (r w : Bool) (u : Nat) (ls : List Nat) : (mark c o i l sp r w u ls).actI = c.actI := by
  unfold mark; split <;> rfl
@[simp] theorem mark_rmax (c : CellState) (o i : Nat) (l : Bool) (sp : Nat) (r w : Bool) (u : Nat) (ls : List Nat) : (mark c o i l sp r w u ls).rmax = c.rmax := by
  unfold mark; split <;> rfl
@[simp] theorem mark_rsum (c : CellState) (o i : Nat) (l : Bool) (sp : Nat) (r w : Bool) (u : Nat) (ls : List Nat) : (mark c o i l sp r w u ls).rsum = c.rsum := by
  unfold mark; split <;> rfl
@[simp] theorem mark_rscl (c : CellState) (o i : Nat) (l : Bool) (sp : Nat) (r w : Bool) (u : Nat) (ls : List Nat) : (mark c o i l sp r w u ls).rscl = c.rscl := by
  unfold mark; split <;> rfl
@[simp] theorem mark_vctx (c : CellState) (o i : Nat) (l : Bool) (sp : Nat) (r w : Bool) (u : Nat) (ls : List Nat) : (mark c o i l sp r w u ls).vctx = c.vctx := by
  unfold mark; split <;> rfl
@[simp] theorem mark_hints (c : CellState) (o i : Nat) (l : Bool) (sp : Nat) (r w : Bool) (u : Nat) (ls : List Nat) : (mark c o i l sp r w u ls).hints = c.hints := by
  unfold mark; split <;> rfl
@[simp] theorem mark_tileStatus (c : CellState) (o i : Nat) (l : Bool) (sp : Nat) (r w : Bool) (u : Nat) (ls : List Nat) : (mark c o i l sp r w u ls).tileStatus = c.tileStatus := by
  unfold mark; split <;> rfl
@[simp] theorem mark_counts (c : CellState) (o i : Nat) (l : Bool) (sp : Nat) (r w : Bool) (u : Nat) (ls : List Nat) : (mark c o i l sp r w u ls).counts = c.counts := by
  unfold mark; split <;> rfl
@[simp] theorem dropMarks_store (c : CellState) : (dropMarks c).store = c.store := rfl
@[simp] theorem dropMarks_bbuf (c : CellState) : (dropMarks c).bbuf = c.bbuf := rfl
@[simp] theorem dropMarks_imem (c : CellState) : (dropMarks c).imem = c.imem := rfl
@[simp] theorem dropMarks_tmem (c : CellState) : (dropMarks c).tmem = c.tmem := rfl
@[simp] theorem dropMarks_vreg (c : CellState) : (dropMarks c).vreg = c.vreg := rfl
@[simp] theorem dropMarks_pred (c : CellState) : (dropMarks c).pred = c.pred := rfl
@[simp] theorem dropMarks_drainBuf (c : CellState) : (dropMarks c).drainBuf = c.drainBuf := rfl
@[simp] theorem dropMarks_hist (c : CellState) : (dropMarks c).hist = c.hist := rfl
@[simp] theorem dropMarks_mats (c : CellState) : (dropMarks c).mats = c.mats := rfl
@[simp] theorem dropMarks_loops (c : CellState) : (dropMarks c).loops = c.loops := rfl
@[simp] theorem dropMarks_next (c : CellState) : (dropMarks c).next = c.next := rfl
@[simp] theorem dropMarks_nextPc (c : CellState) : (dropMarks c).nextPc = c.nextPc := rfl
@[simp] theorem dropMarks_pc (c : CellState) : (dropMarks c).pc = c.pc := rfl
@[simp] theorem dropMarks_since (c : CellState) : (dropMarks c).since = c.since := rfl
@[simp] theorem dropMarks_stitchCount (c : CellState) : (dropMarks c).stitchCount = c.stitchCount := rfl
@[simp] theorem dropMarks_st (c : CellState) : (dropMarks c).st = c.st := rfl
@[simp] theorem dropMarks_wait (c : CellState) : (dropMarks c).wait = c.wait := rfl
@[simp] theorem dropMarks_stalls (c : CellState) : (dropMarks c).stalls = c.stalls := rfl
@[simp] theorem dropMarks_orders (c : CellState) : (dropMarks c).orders = c.orders := rfl
@[simp] theorem dropMarks_sentOn (c : CellState) : (dropMarks c).sentOn = c.sentOn := rfl
@[simp] theorem dropMarks_held (c : CellState) : (dropMarks c).held = c.held := rfl
@[simp] theorem dropMarks_posts (c : CellState) : (dropMarks c).posts = c.posts := rfl
@[simp] theorem dropMarks_postsSent (c : CellState) : (dropMarks c).postsSent = c.postsSent := rfl
@[simp] theorem dropMarks_bind (c : CellState) : (dropMarks c).bind = c.bind := rfl
@[simp] theorem dropMarks_threads (c : CellState) : (dropMarks c).threads = c.threads := rfl
@[simp] theorem dropMarks_sb (c : CellState) : (dropMarks c).sb = c.sb := rfl
@[simp] theorem dropMarks_chainOpen (c : CellState) : (dropMarks c).chainOpen = c.chainOpen := rfl
@[simp] theorem dropMarks_fence (c : CellState) : (dropMarks c).fence = c.fence := rfl
@[simp] theorem dropMarks_haltReq (c : CellState) : (dropMarks c).haltReq = c.haltReq := rfl
@[simp] theorem dropMarks_lastLayer (c : CellState) : (dropMarks c).lastLayer = c.lastLayer := rfl
@[simp] theorem dropMarks_layersDone (c : CellState) : (dropMarks c).layersDone = c.layersDone := rfl
@[simp] theorem dropMarks_report (c : CellState) : (dropMarks c).report = c.report := rfl
@[simp] theorem dropMarks_prog (c : CellState) : (dropMarks c).prog = c.prog := rfl
@[simp] theorem dropMarks_progressAt (c : CellState) : (dropMarks c).progressAt = c.progressAt := rfl
@[simp] theorem dropMarks_actT (c : CellState) : (dropMarks c).actT = c.actT := rfl
@[simp] theorem dropMarks_actI (c : CellState) : (dropMarks c).actI = c.actI := rfl
@[simp] theorem dropMarks_rmax (c : CellState) : (dropMarks c).rmax = c.rmax := rfl
@[simp] theorem dropMarks_rsum (c : CellState) : (dropMarks c).rsum = c.rsum := rfl
@[simp] theorem dropMarks_rscl (c : CellState) : (dropMarks c).rscl = c.rscl := rfl
@[simp] theorem dropMarks_vctx (c : CellState) : (dropMarks c).vctx = c.vctx := rfl
@[simp] theorem dropMarks_hints (c : CellState) : (dropMarks c).hints = c.hints := rfl
@[simp] theorem dropMarks_tileStatus (c : CellState) : (dropMarks c).tileStatus = c.tileStatus := rfl
@[simp] theorem dropMarks_counts (c : CellState) : (dropMarks c).counts = c.counts := rfl
@[simp] theorem setStalls_store (c : CellState) (m : BitVec 8) : (setStalls c m).store = c.store := rfl
@[simp] theorem setStalls_bbuf (c : CellState) (m : BitVec 8) : (setStalls c m).bbuf = c.bbuf := rfl
@[simp] theorem setStalls_imem (c : CellState) (m : BitVec 8) : (setStalls c m).imem = c.imem := rfl
@[simp] theorem setStalls_tmem (c : CellState) (m : BitVec 8) : (setStalls c m).tmem = c.tmem := rfl
@[simp] theorem setStalls_vreg (c : CellState) (m : BitVec 8) : (setStalls c m).vreg = c.vreg := rfl
@[simp] theorem setStalls_pred (c : CellState) (m : BitVec 8) : (setStalls c m).pred = c.pred := rfl
@[simp] theorem setStalls_drainBuf (c : CellState) (m : BitVec 8) : (setStalls c m).drainBuf = c.drainBuf := rfl
@[simp] theorem setStalls_hist (c : CellState) (m : BitVec 8) : (setStalls c m).hist = c.hist := rfl
@[simp] theorem setStalls_mats (c : CellState) (m : BitVec 8) : (setStalls c m).mats = c.mats := rfl
@[simp] theorem setStalls_loops (c : CellState) (m : BitVec 8) : (setStalls c m).loops = c.loops := rfl
@[simp] theorem setStalls_next (c : CellState) (m : BitVec 8) : (setStalls c m).next = c.next := rfl
@[simp] theorem setStalls_nextPc (c : CellState) (m : BitVec 8) : (setStalls c m).nextPc = c.nextPc := rfl
@[simp] theorem setStalls_pc (c : CellState) (m : BitVec 8) : (setStalls c m).pc = c.pc := rfl
@[simp] theorem setStalls_since (c : CellState) (m : BitVec 8) : (setStalls c m).since = c.since := rfl
@[simp] theorem setStalls_stitchCount (c : CellState) (m : BitVec 8) : (setStalls c m).stitchCount = c.stitchCount := rfl
@[simp] theorem setStalls_st (c : CellState) (m : BitVec 8) : (setStalls c m).st = c.st := rfl
@[simp] theorem setStalls_wait (c : CellState) (m : BitVec 8) : (setStalls c m).wait = c.wait := rfl
@[simp] theorem setStalls_orders (c : CellState) (m : BitVec 8) : (setStalls c m).orders = c.orders := rfl
@[simp] theorem setStalls_sentOn (c : CellState) (m : BitVec 8) : (setStalls c m).sentOn = c.sentOn := rfl
@[simp] theorem setStalls_marks (c : CellState) (m : BitVec 8) : (setStalls c m).marks = c.marks := rfl
@[simp] theorem setStalls_held (c : CellState) (m : BitVec 8) : (setStalls c m).held = c.held := rfl
@[simp] theorem setStalls_posts (c : CellState) (m : BitVec 8) : (setStalls c m).posts = c.posts := rfl
@[simp] theorem setStalls_postsSent (c : CellState) (m : BitVec 8) : (setStalls c m).postsSent = c.postsSent := rfl
@[simp] theorem setStalls_bind (c : CellState) (m : BitVec 8) : (setStalls c m).bind = c.bind := rfl
@[simp] theorem setStalls_threads (c : CellState) (m : BitVec 8) : (setStalls c m).threads = c.threads := rfl
@[simp] theorem setStalls_sb (c : CellState) (m : BitVec 8) : (setStalls c m).sb = c.sb := rfl
@[simp] theorem setStalls_chainOpen (c : CellState) (m : BitVec 8) : (setStalls c m).chainOpen = c.chainOpen := rfl
@[simp] theorem setStalls_fence (c : CellState) (m : BitVec 8) : (setStalls c m).fence = c.fence := rfl
@[simp] theorem setStalls_haltReq (c : CellState) (m : BitVec 8) : (setStalls c m).haltReq = c.haltReq := rfl
@[simp] theorem setStalls_lastLayer (c : CellState) (m : BitVec 8) : (setStalls c m).lastLayer = c.lastLayer := rfl
@[simp] theorem setStalls_layersDone (c : CellState) (m : BitVec 8) : (setStalls c m).layersDone = c.layersDone := rfl
@[simp] theorem setStalls_report (c : CellState) (m : BitVec 8) : (setStalls c m).report = c.report := rfl
@[simp] theorem setStalls_prog (c : CellState) (m : BitVec 8) : (setStalls c m).prog = c.prog := rfl
@[simp] theorem setStalls_progressAt (c : CellState) (m : BitVec 8) : (setStalls c m).progressAt = c.progressAt := rfl
@[simp] theorem setStalls_actT (c : CellState) (m : BitVec 8) : (setStalls c m).actT = c.actT := rfl
@[simp] theorem setStalls_actI (c : CellState) (m : BitVec 8) : (setStalls c m).actI = c.actI := rfl
@[simp] theorem setStalls_rmax (c : CellState) (m : BitVec 8) : (setStalls c m).rmax = c.rmax := rfl
@[simp] theorem setStalls_rsum (c : CellState) (m : BitVec 8) : (setStalls c m).rsum = c.rsum := rfl
@[simp] theorem setStalls_rscl (c : CellState) (m : BitVec 8) : (setStalls c m).rscl = c.rscl := rfl
@[simp] theorem setStalls_vctx (c : CellState) (m : BitVec 8) : (setStalls c m).vctx = c.vctx := rfl
@[simp] theorem setStalls_hints (c : CellState) (m : BitVec 8) : (setStalls c m).hints = c.hints := rfl
@[simp] theorem setStalls_tileStatus (c : CellState) (m : BitVec 8) : (setStalls c m).tileStatus = c.tileStatus := rfl
@[simp] theorem setStalls_counts (c : CellState) (m : BitVec 8) : (setStalls c m).counts = c.counts := rfl
@[simp] theorem setStalls_stalls (c : CellState) (m : BitVec 8) : (setStalls c m).stalls = m := rfl

/-! ### One cell only -/

theorem setCell_setCell (s : State) (g : Nat) (c d : CellState) : (s.setCell g c).setCell g d = s.setCell g d := by
  simp only [State.setCell, put_put]

open Sys2Proof.Safety

theorem onlyCell_refl (g : Nat) (s : State) : OnlyCell g s s := ⟨rfl, fun _ _ => rfl⟩

theorem onlyCell_setCell (s : State) (g : Nat) (c : CellState) : OnlyCell g s (s.setCell g c) := ⟨rfl, fun _ e => setCell_cell_other _ _ _ e⟩

theorem onlyCell_modCell (s : State) (g : Nat) (f : CellState → CellState) : OnlyCell g s (s.modCell g f) := onlyCell_setCell _ _ _

theorem onlyCell_draw (g : Nat) (s : State) : OnlyCell g s s.draw := ⟨rfl, fun _ _ => rfl⟩

theorem onlyCell_trans {g : Nat} {s t u : State} (a : OnlyCell g s t) (b : OnlyCell g t u) : OnlyCell g s u := by
  refine ⟨?_, fun h e => (b.2 h e).trans (a.2 h e)⟩
  rw [b.1, a.1]

/-- A macro-operation issued at a cell with nothing in flight takes i stitches, the first of which completes (R85). -/
theorem issued_idle (s : State) (g i : Nat) (h : (s.cell g).mats = []) :
    issued s g i = (s.setCell g { dropMarks { s.cell g with
      next := (s.cell g).since + i, nextPc := (s.cell g).pc + 1, wait := none, since := (s.cell g).since + 1,
      stitchCount := satAdd 64 (s.cell g).stitchCount 1, pacing := false } with
      eyes := (s.cell g).eyes.filter (fun p => !p.2.isEmpty), stalls := 0, progressAt := s.now }).draw := by
  unfold issued
  rw [completeStitch_idle _ _ (by simp [h])]
  simp only [State.modCell, setCell_cell, setCell_setCell]
  rfl

end Sys2Proof.Machine
end

