-- ==== Sys2Proof/Tests/Slice0.lean ====
section
/-! SUPPORT. Tests: commands that are none of their row are refused, small steps whose results the spec states, and for every statement that
has hypotheses a state and operands that meet them. -/

namespace Sys2Proof.Tests

open Sys2Proof.Machine Sys2Proof.Safety

/-! ### Ill-formed commands -/

/-- A macro-operation word with the opcode and the rest. -/
def mac (op rest : Nat) : BitVec 128 := BitVec.ofNat 128 (op * 2 ^ 120 + rest)
/-- A Plamor-V word with OP and the rest. -/
def vec (op rest : Nat) : Word := BitVec.ofNat 64 (op * 2 ^ 56 + rest)

/-- Every macro-operation row refuses the word of opcode 0x05, and UNASSIGNED_OPCODE a word of the table. -/
theorem test_macro_words_refused : ∀ i ∈ ([.nop 0 (mac 5 0), .halt 0 (mac 5 0), .waits 0 (mac 5 0), .drain 0 (mac 5 0), .hint 0 (mac 5 0),
    .loop 0 (mac 5 0), .endloop 0 (mac 5 0), .mma 0 (mac 5 0), .mmat 0 (mac 5 0), .conv 0 (mac 5 0), .dwc 0 (mac 5 0), .gap 0 (mac 5 0),
    .awl 0 (mac 5 0), .vrun 0 (mac 5 0), .vthr 0 (mac 5 0), .lace 0 (mac 5 0), .tpost 0 (mac 5 0), .sigset 0 (mac 5 0), .sigadd 0 (mac 5 0),
    .sigwait 0 (mac 5 0), .barrier 0 (mac 5 0), .unassignedOpcode 0 (mac 0x33 0)] : List Instr), wellFormed i = false := by decide

/-- Every Plamor-V row refuses the word of OP 0x05. -/
theorem test_vector_words_refused : ∀ p ∈ ([.vnop, .vend, .vzero, .vmov, .vsplat, .vadd, .vsub, .vmul, .vfma, .vmax, .vmin, .vdiv, .vsqrt, .vabs,
    .vexp, .vlog, .vrsqrt, .vsigm, .vtanh, .vcmp, .vsel, .vcvt, .vqnt, .vdeq, .vamax, .vscale, .vldd, .vlds, .vstd, .vld, .vst, .vldc, .vsts,
    .vgath, .vscat, .vscadd, .vhget, .vhput, .vrsrst, .vrnorm] : List (CellNo → VWhere → Word → Instr)),
    wellFormed (p 0 .tile (vec 5 0)) = false := by decide

theorem test_other_operands_refused : ∀ i ∈ ([.multiQueueDoorbell 0 (List.replicate 9 0), .disarm 0 0 1, .queueDestroy 0 0x10000, .createSubmit 0 0,
    .createComplete 0 0x10000, .createEvent 0 0x20000, .sdoDownload 0x2000 0 1 [0, 0], .pdoMapping 0x1608 0 0] : List Instr),
    wellFormed i = false := by decide

theorem test_long_messages_refused (l : List Byte) (h : l.length = 1016) : wellFormed (.sdoDownload 0x2000 0 2000 l) = false ∧
    wellFormed (.sdoSegment false true l) = false ∧ wellFormed (.foeData 1 l) = false := by simp [wellFormed, h]

/-- exec refuses what WellFormed refuses. -/
theorem test_refusals : exec (.nop 0 (mac 5 0)) State.reset = .refused .illFormed ∧ exec (.vadd 0 .tile (vec 5 0)) State.reset = .refused .illFormed ∧
    exec (.disarm 0 0 1) State.reset = .refused .illFormed ∧ exec (.pdoMapping 0x1608 0 0) State.reset = .refused .illFormed :=
  ⟨rfl, rfl, rfl, rfl⟩

/-! ### States -/

/-- Cell 0 alone, the rest as after reset. -/
def at0 (c : CellState) : State := { State.reset with cells := [(0, c)] }
/-- Cell 0 running at its first boundary. -/
def run0 : State := at0 { st := .running }
/-- Cell 0 running a job that has counter 0, barrier 0 as network 5 and slot 0 as cell 1. -/
def jobCell : CellState := { st := .running, sb := { count := 1, place := [(0, 1)], bars := [(0, 5)] } }
def job0 : State := at0 jobCell
/-- A Lacer descriptor: spaces, selectors and addresses of source and destination, count 0, increment, more bits. -/
def lacerDesc (ss ssel sa ds dsel da n inc more : Nat) : BitVec 512 :=
  BitVec.ofNat 512 (ss * 2 ^ 136 + ssel * 2 ^ 140 + sa * 2 ^ 96 + ds * 2 ^ 188 + dsel * 2 ^ 192 + da * 2 ^ 148 + n * 2 ^ 200 + inc * 2 ^ 474 + more)
/-- The bytes of a block of 64 bytes at address 64 of a cell store. -/
def blockAt64 (d : BitVec 512) : Mem := writeBytes [] 64 (leBytes 64 d.toNat)

/-! ### States that meet the hypotheses: the block -/

theorem witness_idle_tick : State.reset.pending = [] ∧ supplied State.reset.dev = true ∧ State.reset.dev.heldInReset = false ∧
    Tab.wf {} State.reset.cells = true ∧ crosses 10 4000 = false ∧ supplied { State.reset.dev with railsOut := [.fixed 8] } = false ∧
    ({ State.reset.dev with heldInReset := true } : Dev).heldInReset = true := by decide

theorem witness_outcomes : channelCommand (.sre 0) = some (0, 0) ∧ wellFormed (.sre 0) = true ∧
    portPowered { State.reset with hmp := { chan := [(0, { undefined := true })] } } = true ∧
    (({ State.reset with hmp := { chan := [(0, { undefined := true })] } } : State).chan 0).undefined = true ∧
    (({ State.reset with hmp := { chan := [(0, { undefined := true })] } } : State).chan 0).resetLow = false := by decide

/-- A state from which a step answers a next state with the settings in range: PowerSettingsStayInRange, GoldenSlotIsNeverWritten,
CommandsLeaveTheQueue. -/
theorem witness_steps : InRange State.reset ∧ (∃ t, step State.reset = .next t) ∧
    ∃ t, step { State.reset with pending := [.initRequest, .opRequest] } = .next t ∧ t.pending = [.opRequest] :=
  ⟨by unfold InRange; decide, ⟨_, rfl⟩, ⟨_, rfl, by decide⟩⟩

theorem witness_memory : Memory.wf [(0, 1), (7, 2)] = true ∧ Memory.wf [] = true := by decide

/-! ### States that meet the hypotheses: the sequencer -/

theorem witness_simple_macro_operations : Ready run0 0 ∧ Passes 0x00 (mac 0x00 0) ∧ Passes 0x02 (mac 0x02 (2 ^ 88)) ∧
    Passes 0x04 (mac 0x04 (2 ^ 80)) := by unfold Ready Passes; decide

/-- A LOOP with three loops open and its ENDLOOP at index 1, with count 0 and count 1; an ENDLOOP in its last pass and before it. -/
theorem witness_loops : let s := at0 { st := .running, loops := List.replicate 3 ⟨0, 9, 1, 0⟩, imem := writeBytes [] 31 [0x09] }
    Ready s 0 ∧ Passes 0x08 (mac 0x08 (2 ^ 64)) ∧ Passes 0x08 (mac 0x08 (2 ^ 96 + 2 ^ 64)) ∧ (s.cell 0).loops.length < 4 ∧
    matchingEnd (s.cell 0) 1024 ((s.cell 0).nextPc + 1) 0 = some (fld (mac 0x08 (2 ^ 64)) 73 64) ∧
    Passes 0x08 (mac 0x08 (2 ^ 65)) ∧ matchingEnd (s.cell 0) 1024 ((s.cell 0).nextPc + 1) 0 ≠ some (fld (mac 0x08 (2 ^ 65)) 73 64) ∧
    Ready (at0 { st := .running, loops := [⟨0, 1, 1, 0⟩], nextPc := 1 }) 0 ∧ Ready (at0 { st := .running, loops := [⟨0, 1, 2, 0⟩], nextPc := 1 }) 0 ∧
    Passes 0x09 (mac 0x09 0) := by unfold Ready Passes; decide

theorem witness_issue : atBoundary (run0.cell 0) = true ∧ (run0.cell 0).haltReq = false ∧ (run0.cell 0).nextPc ≤ 1023 ∧
    (let s := at0 { st := .running, nextPc := 1024 }
     atBoundary (s.cell 0) = true ∧ (s.cell 0).haltReq = false ∧ 1023 < (s.cell 0).nextPc) ∧
    atBoundary ((at0 { st := .running, next := 1 }).cell 0) = false ∧ atBoundary ((at0 { st := .running, haltReq := true }).cell 0) = true ∧
    vectorPhase (vEnv run0) (run0.cell 0).since (run0.cell 0) (run0.cell 0).mats = .ok (run0.cell 0) ∧
    opcode (mac 0x10 3) = 0x10 ∧ wordOk (mac 0x10 3) = false ∧ opTable.contains (opcode (mac 0x05 0)) = false :=
  ⟨by decide, by decide, by decide, by decide, by decide, by decide, rfl, by decide, by decide, by decide⟩

/-- A DRAIN with everything complete, and one and a HALT with a post under way. -/
theorem witness_drain : let s := at0 { st := .running, posts := [⟨1, 0, 0, 0, [], []⟩] }
    Ready run0 0 ∧ Passes 0x03 (mac 0x03 (15 * 2 ^ 116)) ∧ Passes 0x03 (mac 0x03 0) ∧ Passes 0x01 (mac 0x01 0) ∧ NothingLeft run0 0 15 ∧
    Ready s 0 ∧ ¬ NothingLeft s 0 15 ∧ NothingLeft s 0 0 := by unfold Ready Passes NothingLeft; decide

/-- Every matrix row with its word: issuing, with POST and no binding, and with a chain stage whose epilogue is not allowed. -/
theorem witness_matrix : ∀ p ∈ matrixRows, Ready run0 0 ∧ Passes p.2.1 (mac p.2.1 0) ∧ chainOk (run0.cell 0) (matIn (run0.cell 0) p.1 (mac p.2.1 0)) false = true ∧
    fld (mac p.2.1 0) 115 115 = 0 ∧ fld (mac p.2.1 0) 116 116 = 0 ∧ Passes p.2.1 (mac p.2.1 (2 ^ 115)) ∧ fld (mac p.2.1 (2 ^ 115)) 115 115 = 1 ∧
    Passes p.2.1 (mac p.2.1 (2 ^ 113)) ∧ chainOk (run0.cell 0) (matIn (run0.cell 0) p.1 (mac p.2.1 (2 ^ 113))) true = false := by
  unfold Ready Passes; decide

/-- A VTHR whose thread 63 is off, and one whose thread 0 runs; a VRUN of one tile. -/
theorem witness_gap_vrun_threads : Ready run0 0 ∧ Passes 0x14 (mac 0x14 0) ∧ Passes 0x20 (mac 0x20 (2 ^ 25 + 1023 * 2 ^ 51)) ∧
    0 < fld (mac 0x20 (2 ^ 25 + 1023 * 2 ^ 51)) 40 25 * progLen (run0.cell 0) (fld (mac 0x20 (2 ^ 25 + 1023 * 2 ^ 51)) 60 51) ∧
    Passes 0x21 (mac 0x21 (2 ^ 44 + 63 * 2 ^ 38)) ∧ Names (run0.cell 0) (fld (mac 0x21 (2 ^ 44 + 63 * 2 ^ 38)) 94 81) (fld (mac 0x21 (2 ^ 44 + 63 * 2 ^ 38)) 80 73) 0 ∧
    (lookup {} (run0.cell 0).threads 63).status = 0 ∧ Ready (at0 { st := .running, threads := [(0, { status := 1 })] }) 0 ∧
    Passes 0x21 (mac 0x21 (2 ^ 44)) ∧ (lookup {} ((at0 { st := .running, threads := [(0, { status := 1 })] }).cell 0).threads 0).status ≠ 0 := by
  unfold Ready Passes Names; decide

/-- SIGSET and SIGADD of counter 0, released at once and with REL, and of a counter beyond the job's one. -/
theorem witness_signals : Ready job0 0 ∧ (∀ op ∈ [0x30, 0x31], Passes op (mac op 0) ∧ fld (mac op 0) 111 98 < (job0.cell 0).sb.count ∧
    fld (mac op 0) 119 119 = 0 ∧ (∀ h ∈ (job0.cell 0).held, h.counter ≠ 0) ∧ Passes op (mac op (2 ^ 119)) ∧ fld (mac op (2 ^ 119)) 119 119 = 1 ∧
    Passes op (mac op (2 ^ 98)) ∧ (job0.cell 0).sb.count ≤ fld (mac op (2 ^ 98)) 111 98) ∧
    Passes 0x32 (mac 0x32 0) ∧ 0 ≤ (job0.counter 0 - BitVec.ofNat 32 (fld (mac 0x32 0) 95 64)).toInt ∧
    Passes 0x32 (mac 0x32 (2 ^ 64)) ∧ ¬ 0 ≤ (job0.counter 0 - BitVec.ofNat 32 (fld (mac 0x32 (2 ^ 64)) 95 64)).toInt ∧
    Passes 0x32 (mac 0x32 (2 ^ 118 + 2 ^ 64)) ∧ Passes 0x32 (mac 0x32 (2 ^ 98)) ∧ Passes 0x32 (mac 0x32 (2 ^ 119)) ∧
    ownPending job0 0 0 = false ∧ ownPending { job0 with fabric := { updates := [(0, [⟨0, 0, true, 1⟩])] } } 0 0 = true := by
  unfold Ready Passes; decide

/-- A BARRIER of network 5 whose last member arrives, one that waits for cell 1, and one of no member. -/
theorem witness_barriers : let b := fun (l : List Nat) => { job0 with fabric := { barrier := [(5, { members := l })] } }
    Ready (b [0]) 0 ∧ ((b [0]).cell 0).posts = [] ∧ ({ jobCell with posts := [⟨1, 0, 0, 0, [], []⟩] }).posts ≠ [] ∧
    Ready { b [0] with cells := [(0, { jobCell with posts := [⟨1, 0, 0, 0, [], []⟩] })] } 0 ∧ Passes 0x33 (mac 0x33 0) ∧ lookup 64 ((b [0]).cell 0).sb.bars 0 = 5 ∧ 0 ∈ (lookup {} (b [0]).fabric.barrier 5).members ∧
    (∀ m ∈ (lookup {} (b [0]).fabric.barrier 5).members, m = 0 ∨ m ∈ (lookup {} (b [0]).fabric.barrier 5).arrived) ∧
    ¬ (∀ m ∈ (lookup {} (b [0, 1]).fabric.barrier 5).members, m = 0 ∨ m ∈ (lookup {} (b [0, 1]).fabric.barrier 5).arrived) ∧
    0 ∉ (lookup {} (b [1]).fabric.barrier 5).members ∧ Passes 0x33 (mac 0x33 (7 * 2 ^ 109)) ∧
    64 ≤ lookup 64 ((b [0]).cell 0).sb.bars (fld (mac 0x33 (7 * 2 ^ 109)) 111 109) := by unfold Ready Passes; decide

/-- An update without a waiter, one that releases cell 1 and one that does not; held updates ready and not. -/
theorem witness_counter_updates : let w := fun (t : BitVec 32) => { State.reset with
      cells := [(1, { st := .running, wait := some (.signal 0 t false true) })], fabric := { updates := [(0, [⟨0, 0, true, 1⟩])] } }
    let own := { w 1 with fabric := { updates := [(0, [⟨0, 0, true, 1⟩, ⟨1, 0, true, 1⟩])] } }
    lookup [] State.reset.fabric.updates 0 = [] ∧ lookup [] (w 1).fabric.updates 0 = [⟨0, 0, true, 1⟩] ∧ waitersOf (w 1) 0 = [1] ∧
    waitersOf { State.reset with fabric := { updates := [(0, [⟨0, 0, true, 1⟩])] } } 0 = [] ∧
    lookup [] own.fabric.updates 0 = ⟨0, 0, true, 1⟩ :: [⟨1, 0, true, 1⟩] ∧ waitersOf own 0 = [1] ∧
    ownPending { own with fabric := { own.fabric with updates := put [] own.fabric.updates 0 [⟨1, 0, true, 1⟩] } } 1 0 = true ∧
    ownPending { w 1 with fabric := { (w 1).fabric with updates := put [] (w 1).fabric.updates 0 [] } } 1 0 = false ∧
    ((w 1).cell 1).wait = some (.signal 0 1 false true) ∧ sigHolds ((w 1).counter 0 + 1) 1 false = true ∧
    sigHolds ((w 2).counter 0 + 1) 2 false = false ∧ ((at0 { held := [⟨0, true, 1, 0, 0⟩], since := 1 }).cell 0).held = [⟨0, true, 1, 0, 0⟩] ∧
    ¬ ((1 : Nat) ≤ ((at0 { held := [⟨0, true, 1, 0, 1⟩] }).cell 0).postsLanded) ∧
    (∃ h ∈ ((at0 { held := [⟨0, true, 1, 0, 1⟩] }).cell 0).held, h.counter = 0) ∧ (1 : Nat) ≠ 0 := by decide

set_option exponentiation.threshold 600 in
set_option maxRecDepth 4000 in
/-- Words that name counter 1, or slot 0, of a job that has none. -/
theorem witness_sync_range : let c : CellState := { st := .running, store := blockAt64 (lacerDesc 1 0 0 2 0 0 32 1 0) }
    Ready run0 0 ∧ Passes 0x18 (mac 0x18 (2 ^ 73)) ∧ fld (mac 0x18 (2 ^ 73)) 80 73 ≠ 0 ∧ (run0.cell 0).sb.count ≤ fld (mac 0x18 (2 ^ 73)) 94 81 ∧
    Passes 0x21 (mac 0x21 (2 ^ 73 + 2 ^ 44)) ∧ fld (mac 0x21 (2 ^ 73 + 2 ^ 44)) 80 73 ≠ 0 ∧
    Passes 0x29 (mac 0x29 (2 ^ 119 + 2 ^ 84)) ∧ fld (mac 0x29 (2 ^ 119 + 2 ^ 84)) 91 84 ≠ 0 ∧ (run0.cell 0).sb.cellOf 0 = none ∧
    Ready (at0 c) 0 ∧ Passes 0x28 (mac 0x28 (2 * 2 ^ 95)) ∧ BitVec.ofNat 512 (rdLE (storeByte c) 64 64) = lacerDesc 1 0 0 2 0 0 32 1 0 ∧
    (lookup [] (at0 c).fabric.lacer 0).length < 256 ∧ tfield (lacerDesc 1 0 0 2 0 0 32 1 0) 481 474 ≠ 0 ∧ slotsOk c.sb (lacerDesc 1 0 0 2 0 0 32 1 0) = false := by
  unfold Ready Passes; decide

set_option exponentiation.threshold 600 in
set_option maxRecDepth 8000 in
/-- LACE and AWL with room and with a full queue; TPOST bound, sent, and with four on the path. -/
theorem witness_queues_and_posts : let full := { job0 with fabric := { lacer := [(0, List.replicate 256 ⟨0, .tacker 0, 0, 0, {}, false, 0, [], none⟩)],
                                                                       awl := [(0, List.replicate 16 ⟨1, 0, 0, 0, 0, {}, false, false⟩)] } }
    Ready job0 0 ∧ Passes 0x28 (mac 0x28 0) ∧ Names (job0.cell 0) 0 0 0 ∧ slotsOk (job0.cell 0).sb 0 = true ∧
    (lookup [] job0.fabric.lacer 0).length < 256 ∧ Passes 0x28 (mac 0x28 (2 ^ 89)) ∧ job0.fabric.lost.contains 0 = false ∧
    ({ job0.fabric with lost := [0] } : Fabric).lost.contains 0 = true ∧ Ready full 0 ∧ 256 ≤ (lookup [] full.fabric.lacer 0).length ∧
    Passes 0x18 (mac 0x18 (2 ^ 73)) ∧ Names (job0.cell 0) 0 1 0 ∧ (lookup [] job0.fabric.awl 0).length < 16 ∧ 16 ≤ (lookup [] full.fabric.awl 0).length ∧
    Passes 0x29 (mac 0x29 (2 ^ 119)) ∧ Passes 0x29 (mac 0x29 (2 ^ 24)) ∧ (job0.cell 0).sb.cellOf 0 = some 1 ∧ places (job0.cell 0) < 4 ∧
    (let s := at0 { jobCell with posts := List.replicate 4 ⟨1, 0, 0, 0, [], []⟩ }; Ready s 0 ∧ 4 ≤ places (s.cell 0)) := by unfold Ready Passes Names; decide

/-- A post that lands from 0x3FFFFF downwards, one whose peer is fenced. -/
theorem witness_tposts : let s := fun (f : Bool) => { State.reset with
      cells := [(0, { posts := [⟨1, 0, 1, 0x3FFFFF, [(0, 7)], [(0, true)]⟩] }), (1, { fence := f })] }
    ((s true).cell 0).posts = [⟨1, 0, 1, 0x3FFFFF, [(0, 7)], [(0, true)]⟩] ∧ ((s true).cell 1).fence = true ∧ ((s false).cell 1).fence = false ∧
    (State.reset.cell 0).posts = [] ∧ ∀ k ∈ ([(0, true)] : Tab Bool), 0x3FFFFF + k.1 < 0x400000 := by decide

/-- A transfer of cell 0 in Lacer 0. -/
def transfer (d : BitVec 512) : Transfer := ⟨0, .cell 0, d, 64, jobCell.sb, false, 0, [], none⟩
def withTransfer (d : BitVec 512) (c1 : CellState) : State :=
  { State.reset with cells := [(0, jobCell), (1, c1)], fabric := { lacer := [(0, [transfer d])] } }

set_option exponentiation.threshold 600 in
set_option maxRecDepth 4000 in
/-- Transfers refused with 3, 2, 6 and 1, and the one run of 32 bytes that ends at the last byte of both sides. -/
theorem witness_transfers : let d := lacerDesc 1 0 0x1FFFFE0 2 0 0x3FFFE0 32 0 0
    let far := lacerDesc 1 0 0x2000000 2 0 0 32 0 0
    let bank := lacerDesc 1 0 0 3 0 0 32 0 0
    descValid 0 = false ∧ placeOf' (.cell 0) jobCell.sb 0 0 = some 0 ∧
    descValid far = true ∧ (rangeOk 1 (sideRows far false) && rangeOk 2 (sideRows far true)) = false ∧
    placeOf' (.cell 0) jobCell.sb 1 0 = some 0 ∧ placeOf' (.cell 0) jobCell.sb 2 0 = some 1 ∧ placeOf' (.cell 0) jobCell.sb 3 0 = some 1 ∧
    descValid d = true ∧ (rangeOk 1 (sideRows d false) && rangeOk 2 (sideRows d true)) = true ∧ fencedPlace (withTransfer d { fence := true }) 2 1 (sideRows d true) = true ∧
    descValid bank = true ∧ ((withTransfer bank { st := .running }).cell 1).st = .running ∧
    tfield bank 199 192 / 128 = ((withTransfer bank { st := .running }).cell 1).actI ∧ tfield bank 191 188 = 3 ∧
    codecOf d = 0 ∧ count0 d = 32 ∧ tfield d 135 96 + count0 d = spaceSize 1 ∧ tfield d 187 148 + count0 d = 0x400000 ∧
    tfield d 139 136 = 1 ∧ tfield d 191 188 = 2 ∧ tfield d 239 224 ≤ 1 ∧ tfield d 255 240 ≤ 1 ∧ tfield d 271 256 ≤ 1 ∧
    fencedPlace (withTransfer d {}) 1 0 [] = false ∧ sameRun jobCell jobCell.sb = true ∧ jobCell.prog = none ∧ TransferErr.clean ≠ .fabric ∧ ((withTransfer d {}).cell 1).fence = false ∧ (withTransfer d {}).fabric.bad = [] ∧
    (transfer d).load = none ∧ (withTransfer d {}).fabric.lost.contains 0 = false ∧
    (lookup [] (withTransfer d {}).fabric.lacer 0).find? (fun y => y.by_ = .cell 0) = some (transfer d) ∧
    ((withTransfer d {}).cell 0).fence = false ∧ (∀ h ∈ List.range 64, ((withTransfer d {}).cell h).startHeld = false) := by decide

set_option exponentiation.threshold 600 in
set_option maxRecDepth 4000 in
/-- A command block that the Awl takes: one pixel, one channel, INT8 to FP32, from the map store to the store of cell 1. -/
theorem witness_awl : let b := BitVec.ofNat 512 (0x0D * 2 ^ 486 + 1 * 2 ^ 414 + 1 * 2 ^ 398 + 1 * 2 ^ 368 + 4 * 2 ^ 360 + 2 * 2 ^ 331 + 4 * 2 ^ 222)
    let s : State := { State.reset with cells := [(0, jobCell)], fabric := { awl := [(0, [⟨0, 64, b, 0, 0, jobCell.sb, true, false⟩])] } }
    lookup [] s.fabric.awl 0 = [⟨0, 64, b, 0, 0, jobCell.sb, true, false⟩] ∧ (s.cell 0).fence = false ∧ awlOk 0 jobCell.sb b = true ∧
    awlPlace 0 jobCell.sb (awlArgs b).inSpace (awlArgs b).inSel = some 0 ∧ awlPlace 0 jobCell.sb (awlArgs b).outSpace (awlArgs b).outSel = some 1 ∧
    (awlArgs b).pixels = 1 ∧ (awlArgs b).cout = 1 ∧ (awlArgs b).cout * elemBytes (awlArgs b).outFmt ≤ (awlArgs b).outStride ∧
    fencedPlace s (awlArgs b).inSpace 0 [] = false ∧ fencedPlace s (awlArgs b).outSpace 1 [] = false ∧ awlOk 0 {} b = false := by decide

/-- A boundary at index 1,023 and one beyond; a stitch inside an interval; a cell that does not run. -/
theorem witness_stitches : Ready (at0 { st := .running, nextPc := 1023, imem := writeBytes [] 16383 [0x33] }) 0 ∧
    opcode (imemWord { st := .running, nextPc := 1023, imem := writeBytes [] 16383 [0x33] } 1023) = 0x33 ∧
    (let s := at0 { st := .running, nextPc := 1024 }
     atBoundary (s.cell 0) = true ∧ (s.cell 0).haltReq = false ∧ 1023 < (s.cell 0).nextPc) ∧ ((at0 { st := .running, next := 1 }).cell 0).live = true ∧
    ((at0 { st := .running, next := 1 }).cell 0).since < ((at0 { st := .running, next := 1 }).cell 0).next ∧ (State.reset.cell 0).live = false := by
  unfold Ready; decide

/-- An MMA in stitch r of its reduction, its eyelets as given, its feeders with two entries for eyelet 0. -/
def reducing0 (k : MatKind) (scaled : Bool) : MatOp :=
  { kind := k, idx := 0, order := 0, issue := 0, b := 64, nt := 1, final := 130, entry := 0, len := 0, proEntry := 0, proLen := 0, chain := 0,
    first := false, post := none, src := decodeDesc 0 0, dst := decodeDesc 0 0, colTiles := 1, rowsTotal := 1, colsTotal := 1, tiles := [],
    scaled := scaled, feed := [(0, [eyeEntry [1] 0, eyeEntry [2] 0])] }
def reducingCell (r : Nat) (scaled : Bool) (eyes : Tab (List EyeEntry)) : CellState :=
  { st := .running, since := r, next := 64, mats := [reducing0 .mma scaled], eyes := eyes }
/-- Every eyelet with so many good entries. -/
def primed (n : Nat) : Tab (List EyeEntry) := (List.range 129).map (fun e => (e, List.replicate n (eyeEntry [0] 0)))

/-- Causes that can freeze the stitch, that cannot, and that end; an eyelet that is fed, and full; an entry that pops with a wrong tag
and with a parity error. -/
theorem witness_freezes : let s := at0 (reducingCell 0 false (primed 1))
    let e := at0 (reducingCell 31 true [])
    (s.cell 0).live = true ∧ popsNow (s.cell 0) 0 = true ∧ popsNow (s.cell 0) 127 = true ∧ popsNow (s.cell 0) 128 = false ∧
    popsNow (reducingCell 31 true (primed 1)) 128 = true ∧ (∀ i ∈ [0, 1, 2, 3], freezeOk (e.cell 0) i = true) ∧
    (∀ i ∈ [0, 1, 2, 4, 5, 6, 7], freezeOk (s.cell 0) i = false) ∧ freezeOk (run0.cell 0) 6 = true ∧
    feedStalls (s.cell 0) = 0 ∧ feedStalls (e.cell 0) ≠ 0 ∧ (s.cell 0).wait = none ∧ (s.cell 0).since < (s.cell 0).next ∧
    popBad { s.cell 0 with tag := 1 } = some (6, 0) ∧
    popBad (reducingCell 0 false [(0, [⟨[1], 0, [false], false⟩])]) = some (5, 0) ∧ feedStalls { s.cell 0 with tag := 1 } = 0 := by decide +kernel

theorem witness_feeds : let s := at0 (reducingCell 0 false (primed 15))
    reducing (s.cell 0) = some (reducing0 .mma false) ∧ MatKind.mma ≠ .dwc ∧
    lookup [] (reducing0 .mma false).feed 0 = [eyeEntry [1] 0, eyeEntry [2] 0] ∧ (lookup [] (s.cell 0).eyes 0).length < 16 ∧
    16 ≤ (lookup [] (reducingCell 0 false (primed 16)).eyes 0).length ∧ reducing (reducingCell 0 false (primed 16)) = some (reducing0 .mma false) ∧
    (let c := { st := CellSt.running, mats := [reducing0 .dwc false] }; reducing c = some (reducing0 .dwc false) ∧ (64 : Nat) ≤ 64) ∧
    (s.cell 0).stalls = 0 ∧ ({ stalls := 0x40 } : CellState).stalls ≠ 0 ∧
    (let t := at0 { st := .running, stalls := 0x40 }; (t.cell 0).stalls.getLsbD 6 = true ∧ (heldCauses t 0).getLsbD 6 = false) ∧
    (let t := at0 (reducingCell 0 false []); (heldCauses t 0).getLsbD 0 = true) := by decide +kernel

/-- The sum of two INT32 partials of one word. -/
theorem witness_split : (⟨true, [0, 4], 8, 1⟩ : SplitSum).int = true ∧ (⟨true, [0, 4], 8, 1⟩ : SplitSum).parts = [0, 4] := by decide

/-- A hang at 20 us, and none 10 ns before. -/
theorem witness_hang : let s := fun (t : BitVec 64) => { run0 with dev := { State.reset.dev with dc := t } }
    ((s 20000).cell 0).live = true ∧ ((s 20000).cell 0).stalls = 0 ∧
    ((s 20000).cell 0).hangHeld.getD ((s 20000).cell 0).hangLimit * 1000 ≤ (s 20000).now - ((s 20000).cell 0).progressAt ∧
    (s 19990).now - ((s 19990).cell 0).progressAt < ((s 19990).cell 0).hangHeld.getD ((s 19990).cell 0).hangLimit * 1000 := by decide

set_option exponentiation.threshold 600 in
set_option maxRecDepth 4000 in
/-- An idle cell, one whose bank a transfer writes, cells that run, have failed or are fenced; frozen, running, halt asked for. -/
theorem witness_control : let busy := { withTransfer (lacerDesc 1 0 0 3 0 0 32 0 0) {} with cells := [(0, jobCell)] }
    bankWrites State.reset 0 = [] ∧ (State.reset.cell 0).st = .idle ∧ (State.reset.cell 0).fence = false ∧ bankWrites busy 1 ≠ [] ∧ unfenced State.reset 0 = true ∧
    (run0.cell 0).st = .running ∧ ((at0 { fence := true }).cell 0).fence = true ∧ ((at0 { st := .faulted }).cell 0).st = .faulted ∧
    ((at0 { st := .running, stalls := 0x20 }).cell 0).stalls.getLsbD 5 = true ∧ (run0.cell 0).stalls.getLsbD 5 = false ∧ (run0.cell 0).stalls.getLsbD 7 = false ∧
    ((at0 { st := .running, haltReq := true }).cell 0).haltReq = true ∧ atBoundary ((at0 { st := .running, haltReq := true }).cell 0) = true ∧
    ((at0 { st := .running, haltReq := true }).cell 0).claim = none ∧ (3 : Word).toNat < 4 := by decide

/-! ### States that meet the hypotheses: Plamor-V -/

/-- Place of the epilogue's program (kind 0), a prologue's (1) or a VRUN's (2), of a tensor of 64 rows and columns. -/
def tileCtx (kind : Nat) : VCtx := ⟨0, 0, kind, 0, 0, 0, decodeDesc 0 0, decodeDesc 0 0, none, 64, 64, 2, 0, [], [], false⟩
def inTile (x : VCtx) : State := at0 { st := .running, vctx := [x] }
def inThread (th : Thread) : State := at0 { st := .running, threads := [(63, { th with status := 1 })] }

theorem witness_float_lanes : ∀ p ∈ fpRows 0, vOp (vec p.1 0) = p.1 ∧ vLane (vec p.1 0) = 0 ∧ InTile (inTile (tileCtx 0)) 0 (tileCtx 0) [] (vec p.1 0) ∧
    InThread (inThread {}) 0 63 (vec p.1 0) := by unfold InTile InThread; decide

theorem witness_integer_lanes : ∀ p ∈ intRows, ∀ l ∈ [1, 2], vOp (vec p.1 (l * 2 ^ 26)) = p.1 ∧ vLane (vec p.1 (l * 2 ^ 26)) = l ∧
    InTile (inTile (tileCtx 0)) 0 (tileCtx 0) [] (vec p.1 (l * 2 ^ 26)) := by unfold InTile; decide

/-- VCVT to each format the statement names, VCMP into predicate 0 and 7, VSEL. -/
theorem witness_conversions : (∀ f ∈ [0x00, 0x01, 0x02, 0x03, 0x04, 0x09, 0x0B, 0x0C, 0x0D, 0x0E], InTile (inTile (tileCtx 0)) 0 (tileCtx 0) [] (vec 0x38 f) ∧
      vOp (vec 0x38 f) = 0x38 ∧ vImm (vec 0x38 f) = f) ∧
    (∀ i ∈ [0, 7, 2 ^ 26 + 7], InTile (inTile (tileCtx 0)) 0 (tileCtx 0) [] (vec 0x30 i) ∧ vOp (vec 0x30 i) = 0x30) ∧
    vImm (vec 0x30 7) % 8 = 7 ∧ InTile (inTile (tileCtx 0)) 0 (tileCtx 0) [] (vec 0x31 7) ∧ vOp (vec 0x31 7) = 0x31 := by unfold InTile; decide

theorem witness_ends : (∀ i ∈ [0x00, 0x01], InTile (inTile (tileCtx 0)) 0 (tileCtx 0) [] (vec i 0) ∧ InThread (inThread {}) 0 63 (vec i 0) ∧ vOp (vec i 0) = i) ∧
    (tileCtx 0).post = none ∧ (tileCtx 1).kind ≠ 0 ∧
    (let x := { tileCtx 0 with post := some ⟨1, 0, 0, 0, 1, false⟩ }
     let full : CellState := { st := .running, vctx := [x], posts := List.replicate 4 ⟨1, 0, 0, 0, [], []⟩ }
     InTile (inTile x) 0 x [] (vec 1 0) ∧ x.kind = 0 ∧ x.place = false ∧ places { (inTile x).cell 0 with vctx := [] } < 4 ∧
     InTile (at0 full) 0 x [] (vec 1 0) ∧ 4 ≤ places { full with vctx := [] }) := by
  unfold InTile InThread; decide

/-- A LANE code 3, no row's, makes every instruction invalid in a tile program and in a thread. -/
theorem witness_invalid : (∀ op ∈ (fpRows 0).map (·.1) ++ [0x00, 0x01, 0x30, 0x31, 0x38, 0x40, 0x41, 0x50, 0x51, 0x52, 0x53, 0x54, 0x55, 0x56, 0x58, 0x59, 0x5A,
      0x60, 0x61, 0x68, 0x69], vOp (vec op (3 * 2 ^ 26)) = op ∧ vOk 1 (vec op (3 * 2 ^ 26)) = false ∧ vOk 8 (vec op (3 * 2 ^ 26)) = false) ∧
    ((inTile (tileCtx 0)).cell 0).live = true ∧ ((inTile (tileCtx 0)).cell 0).vctx = [tileCtx 0] ∧
    (lookup {} ((inThread {}).cell 0).threads 63).status = 1 := by decide

/-- The loads, stores and statistics in their places; VLDD with its slice delivered, too early, and after the 32nd. -/
theorem witness_tile_memory : (∀ op ∈ [0x50, 0x52, 0x53, 0x54, 0x55, 0x56, 0x40, 0x41, 0x60, 0x61, 0x68, 0x69], vOp (vec op 0) = op ∧
      InTile (inTile (tileCtx 0)) 0 (tileCtx 0) [] (vec op 0)) ∧
    InTile (inTile (tileCtx 2)) 0 (tileCtx 2) [] (vec 0x51 0) ∧ vOp (vec 0x51 0) = 0x51 ∧ (tileCtx 0).vldd < 32 ∧ 2 * (tileCtx 0).vldd + 2 ≤ (tileCtx 0).pos ∧
    InTile (inTile { tileCtx 0 with pos := 1 }) 0 { tileCtx 0 with pos := 1 } [] (vec 0x50 0) ∧ (1 : Nat) < 2 * (tileCtx 0).vldd + 2 ∧
    InTile (inTile { tileCtx 0 with vldd := 32 }) 0 { tileCtx 0 with vldd := 32 } [] (vec 0x50 0) ∧ (tileCtx 0).post = none := by unfold InTile; decide

/-- A VSTD of a posted tile with room, and with four tiles on the path. -/
theorem witness_posted_slice : let x := { tileCtx 0 with post := some ⟨1, 0, 0, 0, 16, true⟩ }
    let full := at0 { st := .running, vctx := [x], posts := List.replicate 4 ⟨1, 0, 0, 0, [], []⟩ }
    InTile (inTile x) 0 x [] (vec 0x52 0) ∧ places ((inTile x).cell 0) < 4 ∧ InTile full 0 x [] (vec 0x52 0) ∧ x.place = false ∧
    4 ≤ places (full.cell 0) := by unfold InTile; decide

/-- Thread 63 with good addresses and with a bad one; one ready thread at its last index and beyond; none. -/
theorem witness_threads : (∀ op ∈ [0x58, 0x59, 0x5A], InThread (inThread {}) 0 63 (vec op 0) ∧ vOp (vec op 0) = op) ∧
    GoodAddresses { status := 1 } (vec 0x58 0) ∧ (∀ op ∈ [0x58, 0x5A], threadBad (inThread {}) 0 63 (vec op 0) = none) ∧
    (let th : Thread := { status := 1, regs := [(0, List.replicate 32 0x40000000)] }
     let s := { inThread th with fabric := { bad := [(1, 0)] } }
     GoodAddresses th (vec 0x58 0) ∧ ∀ op ∈ [0x58, 0x5A], InThread s 0 63 (vec op 0) ∧ threadBad s 0 63 (vec op 0) ≠ none ∧ (s.cell 0).prog = none) ∧
    ((List.range 64).map (fun i => (((inThread {}).cell 0).threadRR + i) % 64)).filter
      (fun k => (lookup {} ((inThread {}).cell 0).threads k).status == 1) = [63] ∧ InThread (inThread { regs := [(0, [0xFFFFFFFF])] }) 0 63 (vec 0x58 0) ∧
    ¬ GoodAddresses { status := 1, regs := [(0, [0xFFFFFFFF])] } (vec 0x58 0) ∧
    ((inThread {}).cell 0).live = true ∧ (∀ j ∈ List.range 64, (lookup {} ((inThread {}).cell 0).threads j).status = 1 ↔ j = 63) ∧
    (lookup {} ((inThread { pc := 1023 }).cell 0).threads 63).pc ≤ 1023 ∧ 1023 < (lookup {} ((inThread { pc := 1024 }).cell 0).threads 63).pc ∧
    (∀ k ∈ List.range 64, (lookup {} (run0.cell 0).threads k).status ≠ 1) ∧ (State.reset.cell 0).live = false := by
  unfold InThread GoodAddresses; decide

/-- A block of an optimiser step in the store and one beyond its end, of a ready thread; the next ready threads in round robin. -/
def momentStep (a : BitVec 22) : MomentStep := ⟨63, 0, 0, 0, 0, 0, a, 0, 0, 0, 0, 0, 0, 0⟩
theorem witness_moment_steps : momentInStore (momentStep 0) = true ∧ momentInStore (momentStep 0x3FFFFF) = false ∧
    (lookup {} ((inThread {}).cell 0).threads (momentStep 0).t.val).status = 1 ∧ (lookup {} (run0.cell 0).threads 63).status ≠ 1 ∧
    ((((List.range 64).map (fun i => (((inThread {}).cell 0).threadRR + i) % 64)).filter
      (fun k => (lookup {} ((inThread {}).cell 0).threads k).status == 1)).take 4).getLast? = some 63 := by decide

/-- The word that a ready thread finds at its index 0 of an empty bank is VNOP. -/
theorem witness_thread_word : vOp (BitVec.ofNat 64 (readLE ((inThread {}).cell 0).tmem 0 8)) = 0x00 := by decide

/-- A thread whose bank holds the word of each instruction of a thread, and it is the only ready one. -/
theorem witness_thread_words : ∀ op ∈ (fpRows 0).map (·.1) ++ [0x00, 0x01, 0x30, 0x31, 0x38, 0x58, 0x59, 0x5A],
    let c : CellState := { st := .running, threads := [(63, { status := 1 })], tmem := writeBytes [] 0 (leBytes 8 (vec op 0).toNat) }
    c.live = true ∧ vOp (BitVec.ofNat 64 (readLE c.tmem ((lookup {} c.threads 63).tbank * 8192 + 8 * (lookup {} c.threads 63).pc) 8)) = op := by decide +kernel

/-! ### States that meet the hypotheses: jobs and firmware -/

def later (t : BitVec 64) (s : State) : State := { s with dev := { s.dev with dc := t } }
/-- After boot: CONFIG, READY and RUN. -/
def inState (d : DevState) (s : State) : State := { s with dev := { s.dev with state := d } }
/-- A job of context 0 on the cells. -/
def jobOn (cells : List Nat) : Job :=
  { id := 7, ctx := 0, tag := 1, tInput := 0, src := 1, inAddr := 0, inLen := 0, arg := [], voidPos := [], buffers := [], cold := false, cells := cells }

theorem witness_tests : ((at0 { service := 2 }).cell 0).service = 2 ∧ claimedCount (at0 { service := 2 }) < (at0 { service := 2 }).power.cellLimit ∧
    (let s := { at0 { service := 2 } with power := { cellLimit := 0 } }; (s.cell 0).tackerClaim = false ∧ s.power.cellLimit ≤ claimedCount s) ∧ (State.reset.cell 0).service ≠ 2 ∧ (State.reset.cell 0).service ≠ 3 ∧
    ((at0 { service := 3 }).cell 0).service = 3 ∧ ((at0 { service := 3 }).zone 0).failed = false ∧
    (let s := { at0 { service := 3 } with power := { zone := [(0, { failed := true })] } }
     (s.zone 0).failed = true ∧ 4 ∈ zoneCells 0 ∧ (s.cell 4).service ≠ 1) := by decide

/-- An idle cell that is due after 100 us, and not 10 ns before; a test cycle that ends at 60 s. -/
theorem witness_test_times : (let s := later 100000 State.reset
      testDue s 0 = true ∧ isReserved s 0 = false ∧ isHome s 0 = false ∧ isClaimed s 0 = false ∧ cellRuns s 0 = false ∧ (s.zone 0).on = true ∧
      (s.cell 0).idleSince + s.resil.idleTime * 1000 ≤ s.now ∧ (s.tacker 0).state = 0 ∧ claimedCount s < s.power.cellLimit) ∧
    ¬ ((later 99990 State.reset).cell 0).idleSince + (later 99990 State.reset).resil.idleTime * 1000 ≤ (later 99990 State.reset).now ∧
    (State.reset.now < State.reset.resil.cycleFrom + State.reset.resil.testCycle * 1000000000) ∧
    (let s := { later 60000000000 State.reset with resil := { forcedOn := false } }
     s.resil.cycleFrom + s.resil.testCycle * 1000000000 ≤ s.now ∧ s.resil.forcedOn = false) := by decide

/-- A failure seen for the first time, again within an hour, of a retired cell, under test; none seen. -/
theorem witness_failures : let s := fun (sv : Nat) (f : Option Nat) => later 3600000000000 (at0 { st := .faulted, fault := 1, report := true, service := sv, firstFail := f, reportAt := 3600000000000 })
    failuresOf ((s 0 none).cell 0) ≠ 0 ∧ ((s 0 none).cell 0).report = true ∧ ((s 0 none).tacker 0).state = 0 ∧ ((s 0 none).cell 0).firstFail = none ∧
    ((s 0 (some 0)).cell 0).firstFail = some 0 ∧ ((s 0 (some 0)).cell 0).reportAt ≤ 0 + 3600000000000 ∧ ((s 4 none).cell 0).service = 4 ∧
    ((s 3 none).cell 0).service = 3 ∧ failuresOf (State.reset.cell 0) = 0 := by decide

/-- Claims: by a Tacker that restarts with room and with 16 waiting, of a busy cell, of a gated zone, within and at the limit. -/
theorem witness_claims : let r := fun (n : Nat) => { State.reset with tackers := [(0, { state := 1, queues := [(0, List.replicate n (.claim 0 1))] })] }
    ((r 15).tacker 0).state = 1 ∧ (lookup [] ((r 15).tacker 0).queues 0).length < 16 ∧ 16 ≤ (lookup [] ((r 16).tacker 0).queues 0).length ∧
    (State.reset.tacker 0).state ≠ 1 ∧ ((at0 { claim := some (0, 1) }).cell 0).claim ≠ none ∧
    (let s := State.reset
     (s.cell 0).claim = none ∧ (s.cell 0).tackerClaim = false ∧ unfenced s 0 = true ∧ (s.cell 0).service = 0 ∧ reservedBy s 0 = none ∧
     (s.zone 0).on = true ∧ claimedCount s < s.power.cellLimit) ∧
    (({ State.reset with power := { zone := [(0, { on := false })] } } : State).zone 0).on = false ∧
    (let s := { at0 { claim := some (0, 1) } with power := { cellLimit := 1 } }
     s.power.cellLimit ≤ claimedCount s ∧ (s.cell 1).claim = none ∧ s.job? 2 = none) := by decide

/-- A claimed job of cell 0 whose cells start; one that is not claimed; a Tacker that does not run. -/
theorem witness_job_command (p : Package) : let s : State := { at0 { claim := some (0, 7) } with
      jobs := [{ jobOn [0] with phase := .claimed }], ctxs := [(0, { pkg := some p })] }
    let j := { jobOn [0] with phase := JobPhase.claimed }
    s.job? 7 = some j ∧ j.phase = .claimed ∧ j.tStart = none ∧ j.done = [] ∧ j.cells.Nodup ∧ (∀ g ∈ j.cells, g < 64) ∧
    (∀ g ∈ j.cells, hasClaim s 7 g = true ∧ (s.cell g).fence = false ∧ (s.cell g).startHeld = false ∧ (s.cell g).st = .idle) ∧ (∃ g ∈ j.cells, tackerOf g = 0) ∧
    (s.tacker 0).state = 0 ∧ (s.ctx j.ctx).pkg = some p ∧ s.fabric.lacer = [] ∧ State.reset.job? 7 = none ∧ (jobOn [0]).phase ≠ .claimed ∧
    (jobOn [0]).phase ≠ .running := by
  refine ⟨rfl, rfl, rfl, rfl, by decide, by decide, ?_, ⟨0, by decide, by decide⟩, rfl, rfl, rfl, rfl, by decide, by decide⟩
  intro g hg
  obtain rfl : g = 0 := by simpa [jobOn] using hg
  exact ⟨rfl, rfl, rfl, rfl⟩

/-- A report of the last cell of a job, in order and with a program error; one without a claim; none. -/
theorem witness_reports : let s := fun (c : Option (Nat × Nat)) (f : Option JobFault) => { at0 { report := true, claim := c, prog := f, sb := { job := 7 } } with jobs := [jobOn [0]] }
    ((s none none).cell 0).report = true ∧ ((s none none).cell 0).claim = none ∧ failuresOf ((s none none).cell 0) = 0 ∧ ((s none none).tacker 0).state = 0 ∧
    ((s (some (0, 7)) none).cell 0).claim = some (0, 7) ∧ (s (some (0, 7)) none).job? 7 = some (jobOn [0]) ∧
    inRun (s (some (0, 7)) none) (jobOn [0]) 0 = true ∧ (jobOn [0]).cancelled = false ∧ (jobOn [0]).evicted = false ∧ (jobOn [0]).retire = none ∧
    (jobOn [0]).needReplay = false ∧ ((s (some (0, 7)) none).cell 0).prog = none ∧ (∀ h ∈ (jobOn [0]).cells, h = 0 ∨ h ∈ (jobOn [0]).done) ∧
    ((s (some (0, 7)) (some .pcOverrun)).cell 0).prog = some .pcOverrun ∧ (State.reset.cell 0).report = false := by decide

/-- Notices of every kind in front and in sequence, one out of sequence, a FIFO with room for one and a full one, a timer due. -/
theorem witness_notices : let at_ := fun (k : NoticeKind) (q : Nat) => { State.reset with lasters := [(0, { fifo := [⟨q, .deadline, k, 0⟩] })] }
    (∀ k ∈ [.claimResult 0 7 true, .jobDone 7, .cellFault 0 7 0, .batchClosed 0, .slotStopped 0, .doorbell 0, .timer 7, NoticeKind.control 0],
      FrontInSequence (at_ k 0) 0 ⟨0, .deadline, k, 0⟩ []) ∧
    (∀ k ∈ [.jobDone 7, .timer 7, NoticeKind.control 0], ((at_ k 1).laster 0).fifo = [⟨1, .deadline, k, 0⟩] ∧ ((at_ k 1).laster 0).state = 0 ∧
      1 ≠ lookup 0 ((at_ k 1).laster 0).seen (srcKey .deadline)) ∧
    (({ State.reset with lasters := [(0, { fifo := List.replicate 1023 ⟨0, .deadline, .timer 0, 0⟩ })] } : State).laster 0).fifo.length < 1024 := by
  unfold FrontInSequence; decide +kernel

/-- Notices that are out of range, of a source with a lost entry; jobs that claim, whose claims have failed, that retired. -/
theorem witness_answers : let at_ := fun (k : NoticeKind) (j : Job) => { State.reset with lasters := [(0, { fifo := [⟨0, .deadline, k, 0⟩] })], jobs := [j] }
    let l : State := { State.reset with lasters := [(0, { fifo := [⟨0, .deadline, .slotStopped 32, 0⟩] })] }
    (isBad (.slotStopped 32) = true ∧ (l.laster 0).state = 0 ∧
      ((reconcile (l.setLaster 0 { l.laster 0 with fifo := (l.laster 0).fifo.dropWhile (fun y => isBad y.kind || isBus y.kind) }) 0).laster 0).fifo = []) ∧
    (({ State.reset with lasters := [(0, { lostSeen := true, fifo := [⟨0, .deadline, .timer 7, 0⟩] })] } : State).laster 0).lostSeen = true ∧
    (let j := { jobOn [0] with phase := JobPhase.claiming }
     (∀ ok, FrontInSequence (at_ (.claimResult 0 7 ok) j) 0 ⟨0, .deadline, .claimResult 0 7 ok, 0⟩ []) ∧ isBad (.claimResult 0 7 true) = false ∧
     (at_ (.claimResult 0 7 true) j).job? 7 = some j ∧ j.cancelled = false) ∧
    (let j := { jobOn [0] with retire := some ⟨none, 0⟩ }
     FrontInSequence (at_ (.jobDone 7) j) 0 ⟨0, .deadline, .jobDone 7, 0⟩ [] ∧ isBad (.jobDone 7) = false ∧ (at_ (.jobDone 7) j).job? 7 = some j ∧ j.retire ≠ none) ∧
    (let j := { jobOn [0] with phase := JobPhase.claiming, needReplay := true }
     FrontInSequence (at_ (.cellFault 0 7 0) j) 0 ⟨0, .deadline, .cellFault 0 7 0, 0⟩ [] ∧ isBad (.cellFault 0 7 0) = false ∧
     (at_ (.cellFault 0 7 0) j).job? 7 = some j ∧ (at_ (.cellFault 0 8 0) j).job? 8 = none) ∧
    State.reset.job? 7 = none ∧ hasClaim State.reset 7 0 = false := by
  unfold FrontInSequence; decide +kernel

/-- A job of a D0 context that has reached its deadline, and no job. -/
theorem witness_moments : let j := { jobOn [0] with armed := [0, 1, 2] }
    let s := later 1000000000 { State.reset with jobs := [j], ctxs := [(0, { st := .active, desc := [(8, 1)] })] }
    (s.laster 0).state = 0 ∧ s.jobs = [j] ∧ (groupJobs s 0).filter (fun j => !(momentsPassed s j).isEmpty) = [j] ∧
    (s.jobs.map (·.id)).Nodup ∧ (s.laster 0).fifo.length + 1 ≤ 1024 ∧ ({ state := 1 } : Laster).state ≠ 0 ∧
    (groupJobs State.reset 0).filter (fun j => !(momentsPassed State.reset j).isEmpty) = [] := by decide +kernel

theorem witness_full_fifo : 1024 ≤ (List.replicate 1024 (⟨0, .deadline, .timer 0, 0⟩ : Notice)).length := by rw [List.length_replicate]

theorem witness_firmware : (∀ x ∈ [1, 2], (({ State.reset with tackers := [(0, { state := x })], lasters := [(0, { state := x })] } : State).tacker 0).state ≠ 0) ∧
    (State.reset.tacker 0).state = 0 ∧ (State.reset.laster 0).state = 0 ∧ runtimeState State.reset = false ∧ runtimeState (inState .run State.reset) = true ∧
    3 < (4 : Byte).toNat ∧ 15 < (16 : Byte).toNat ∧ (3 : Byte).toNat ≤ 3 ∧ (15 : Byte).toNat ≤ 15 ∧
    (({ State.reset with tackers := [(0, { state := 1, failed := 1 })] } : State).tacker 0).failed < 2 ∧
    2 ≤ (({ State.reset with tackers := [(0, { state := 1, failed := 2 })] } : State).tacker 0).failed ∧ State.reset.boot.activation ≠ 1 ∧
    (5 : LinkNo).val < 6 ∧ (6 : LinkNo).val = (0 : QuarterNo).val + 6 ∧ 0 ∈ ({ lost := [0] } : Fabric).lost ∧ 3 ∉ State.reset.fabric.lost ∧
    State.reset.fabric.lost.length < 3 ∧ ({ lost := [0, 1, 2] } : Fabric).lost.length = 3 ∧ 3 ∉ ({ lost := [0, 1, 2] } : Fabric).lost ∧
    quarterRailOut State.reset 3 = false ∧ quarterRailOut { State.reset with dev := { railsOut := [.vddQ 3] } } 3 = true ∧
    State.reset.boot.released = false ∧ ({ released := true } : Boot).released = true ∧ State.reset.ctxs.filter (fun p => p.2.loaded) = [] ∧ (∀ g ∈ List.range 64, (State.reset.cell g).claim = none) ∧
    State.reset.dev.state = .boot ∧ 3 ∉ State.reset.fabric.linkUp ∧ (inState .config State.reset).dev.state ≠ .boot := by decide

/-- A package of one slot without a word. -/
def pkg1 : Package :=
  { length := 0, groups := [[0]], stripe := ⟨⟨0, 0, 0, []⟩, 0, [⟨[], [], [], [], [], []⟩], 0, [0]⟩, halo := none, spill := none, streamed := none
    lpddrMaps := false, counters := 1, barriers := [], powerMw := 0, outs := [⟨0, 4⟩], argAt := [], batchAt := [], allocBytes := 0, digest := [] }
/-! ### States that meet the hypotheses: streams -/

/-- Slot 0 alone. -/
def slot0 (x : Slot) : State := inState .run { State.reset with streams := { slot := [(0, x)] } }
/-- A camera of 2 x 1 RAW8 pixels on port 0, one frame in 16 s; an HEVC stream of up to 16 x 16; the first with a view of kind 3. -/
def camDesc : Mem := [(0, 1), (3, 0x2A), (4, 2), (6, 1), (12, 1), (60, 0xFF), (61, 0xFF), (62, 0xFF), (63, 0xFF)]
def hostDesc : Mem := [(0, 2), (8, 16), (10, 16), (12, 1), (16, 1)]
def calDesc : Mem := camDesc ++ [(64, 3), (68, 16), (70, 16)]
def packet (n : Nat) : LongPacket := ⟨0, false, 0x2A, List.replicate n 0, true⟩

/-- Frame Start on a stopped slot, inside a frame, outside one with the buffer free and full, after a timeout, and with a shadow. -/
theorem witness_frame_starts : slotOf State.reset 0 0 = none ∧ slotOf (slot0 { desc := camDesc, st := 2 }) 0 0 = some 0 ∧
    slotOf (slot0 { desc := camDesc, st := 1, inFrame := true }) 0 0 = some 0 ∧ slotOf (slot0 { desc := camDesc, st := 1 }) 0 0 = some 0 ∧
    (let x : Slot := { desc := camDesc, st := 1 }
     x.inFrame = false ∧ x.waiting = false ∧ x.timedOut = false ∧ x.shadow = none ∧ x.buffered = none ∧
     ({ x with buffered := some ⟨[], 0, [], {}⟩ } : Slot).buffered ≠ none ∧ ({ x with timedOut := true } : Slot).timedOut = true ∧
     ({ x with shadow := some (hostDesc, true) } : Slot).shadow = some (hostDesc, true)) := by decide

/-- A restarting Tacker whose queue for Laster 0 has room for a START, and is full. -/
theorem witness_starts_wait : let r := fun (n : Nat) => { State.reset with tackers := [(0, { state := 1, queues := [(0, List.replicate n (.start 0 1))] })] }
    ((r 15).tacker 0).state = 1 ∧ (lookup [] ((r 15).tacker 0).queues 0).length < 16 ∧ 16 ≤ (lookup [] ((r 16).tacker 0).queues 0).length ∧
    (r 15).job? 7 = none := by decide

/-- Long packets good and bad in each way, and Frame End outside a frame, in a short, a dropped and a whole frame. -/
theorem witness_packets : let x : Slot := { desc := camDesc, st := 1, inFrame := true, lines := [[0, 0]] }
    ((packet 2).vcx = false ∧ x.st = 1 ∧ x.waiting = false ∧ x.dropFrame = false) ∧ (packet 2).ecc ≠ 2 ∧ (packet 2).dataType.toNat = dType x.desc ∧
    (packet 2).crcOk = true ∧ (packet 2).pixels.length = dWidth x.desc ∧ (packet 1).pixels.length ≠ dWidth x.desc ∧ (0x2B : Byte).toNat ≠ dType x.desc ∧
    x.lines.length = dHeight x.desc ∧ ([] : List (List Nat)).length ≠ dHeight x.desc ∧
    (slot0 { desc := camDesc, buffered := some ⟨[[0, 0]], 0, camDesc, {}⟩ }).slot 0 = { desc := camDesc, buffered := some ⟨[[0, 0]], 0, camDesc, {}⟩ } := by decide

/-- A frame interval of 16 s: four intervals without a Frame Start, and 10 ns less. -/
theorem witness_frame_timeout : let x : Slot := { desc := camDesc, st := 1 }
    x.st = 1 ∧ dSource x.desc = 1 ∧ x.timedOut = false ∧ x.seenAt + ceilDiv 64000000000 (dRate x.desc) ≤ (later 64000000000 (slot0 x)).now ∧
    ¬ x.seenAt + ceilDiv 64000000000 (dRate x.desc) ≤ (later 63999999990 (slot0 x)).now ∧ boundCtxs (slot0 x) 0 = [] := by decide

/-- START with a bad descriptor, a busy port, no capacity, of a camera and of a host slot; STOP, RESUME, REREAD_CAL in and out of their states. -/
theorem witness_slot_commands : runtimeState (inState .config State.reset) = false ∧ runtimeState (slot0 {}) = true ∧
    (let s := slot0 {}; (s.slot 0).st = 0 ∧ (s.slot 0).starting = false ∧ streamDescOk s 0 (s.slot 0).desc = false) ∧
    (let s := inState .run { State.reset with streams := { slot := [(0, { desc := camDesc }), (1, { desc := camDesc, st := 1 })] } }
     streamDescOk s 0 (s.slot 0).desc = true ∧ portBusy s 0 (s.slot 0).desc = true) ∧
    (let s := slot0 { desc := camDesc }; streamDescOk s 0 camDesc = true ∧ portBusy s 0 camDesc = false ∧ capacity s 0 camDesc = some (0, none, [])) ∧
    (let s := slot0 { desc := hostDesc }; streamDescOk s 0 hostDesc = true ∧ portBusy s 0 hostDesc = false ∧ capacity s 0 hostDesc = some (0, some 0, [1]) ∧
      dSource hostDesc ≠ 1 ∧ needsCal hostDesc = false ∧ meshRange hostDesc = false ∧ builtViews hostDesc = []) ∧
    (let big : Mem := [(0, 2), (9, 32), (11, 32), (12, 255), (13, 255), (16, 1)]
     let s := slot0 { desc := big }; streamDescOk s 0 big = true ∧ portBusy s 0 big = false ∧ capacity s 0 big = none) := by decide

/-- A decoder slot with a view whose mesh lies outside LPDDR6. -/
def farDesc : Mem := hostDesc ++ [(64, 2), (68, 16), (70, 16), (80, 0xFF), (81, 0xFF), (82, 0xFF), (83, 0xFF)]
theorem witness_mesh_range : (let s := slot0 { desc := farDesc }
      streamDescOk s 0 farDesc = true ∧ portBusy s 0 farDesc = false ∧ capacity s 0 farDesc = some (0, some 0, [1]) ∧ dSource farDesc ≠ 1 ∧
      needsCal farDesc = false) ∧ meshRange farDesc = true := by
  refine ⟨by decide, ?_⟩
  have h : tableIn (vTable farDesc 0) (meshBytes farDesc 0) = false := by unfold tableIn lpddrSize; cases Config.grade64 <;> decide
  have hk : vKind farDesc 0 = 2 := by decide
  have h0 : (0 : Nat) ∈ List.range 4 := by decide
  simp only [meshRange, List.any_eq_true]
  exact ⟨0, h0, by simp [hk, h]⟩

/-- START of a decoder slot with a view to calibrate and its host calibration, where port staging holds the view's mesh. -/
def meshDesc : Mem := hostDesc ++ [(64, 3), (68, 16), (70, 16)]
theorem mesh_views : ∀ v ∈ List.range 4, meshBytes meshDesc v ≤ 72 ∧ vKind meshDesc v ≠ 2 ∧ vKind meshDesc v ≠ 4 := by decide
theorem witness_slot_meshing (h : 72 ≤ Config.meshStaging) : let s := slot0 { desc := meshDesc, hostCal := [0] }
    streamDescOk s 0 meshDesc = true ∧ portBusy s 0 meshDesc = false ∧ (capacity s 0 meshDesc).isSome = true ∧ dSource meshDesc ≠ 1 ∧
    needsCal meshDesc = true ∧ (s.slot 0).hostCal ≠ [] ∧ meshRange meshDesc = false := by
  refine ⟨by decide, by decide, by decide, by decide, by decide, by decide, ?_⟩
  simp only [meshRange, List.any_eq_false]
  intro v hv
  obtain ⟨h1, h2, h3⟩ := mesh_views v hv
  have hn : ¬ Config.meshStaging < meshBytes meshDesc v := by omega
  simp [h2, h3, hn]

/-- START of a decoder slot with a view to calibrate and no calibration. -/
theorem witness_slot_start : let d := hostDesc ++ [(64, 3), (68, 16), (70, 16)]
    let s := slot0 { desc := d }
    streamDescOk s 0 d = true ∧ portBusy s 0 d = false ∧ (capacity s 0 d).isSome = true ∧ dSource d ≠ 1 ∧ needsCal d = true ∧ (s.slot 0).hostCal = [] := by decide

/-- RESUME with meshes missing, with a shadow and without, and with its mesh in place. -/
theorem witness_slot_meshes : let x : Slot := { desc := calDesc, st := 2, instance_ := some 0, hostCal := [0] }
    x.starting = false ∧ calibOf x ≠ 0 ∧ instanceFits (slot0 x) 0 x.desc 0 = true ∧ meshMissing x = true ∧
    builtViews x.desc ≠ [] ∧ ({ x with shadow := some (calDesc, true) } : Slot).shadow = some (calDesc, true) ∧ x.shadow = none ∧
    meshMissing { x with shadow := some (calDesc, true) } = true ∧ ({ x with shadow := some (calDesc, false) } : Slot).shadow = some (calDesc, false) ∧
    x.meshWait = [] ∧ ({ x with shadow := some (calDesc, false), meshWait := [0] } : Slot).meshWait ≠ [] ∧
    meshMissing { x with tabs := { mesh := [(0, [])] } } = false ∧ dSource camDesc = 1 ∧ dSource hostDesc ≠ 1 := by decide

theorem witness_slot_resume : let x : Slot := { desc := calDesc, st := 2, instance_ := some 0 }
    x.st = 2 ∧ needsCal x.desc = true ∧ calibOf x = 0 ∧ needsCal camDesc = false ∧ instanceFits (slot0 x) 0 x.desc 0 = true ∧
    calibOf { x with hostCal := [0] } ≠ 0 ∧ ({ x with instance_ := none } : Slot).instance_ = none ∧ dSource x.desc ≠ 3 ∧ ({} : Slot).st ≠ 1 := by decide

set_option maxRecDepth 8000 in
/-- Descriptor writes: of an idle slot, while it starts, of a running one refused and held; host calibrations; groups. -/
theorem witness_slot_writes : setupState State.reset = false ∧ setupState (slot0 {}) = true ∧ (List.replicate 192 (0 : Byte)).length = 192 ∧
    ([] : List Byte).length ≠ 192 ∧ ({ starting := true } : Slot).starting = true ∧
    (let x : Slot := { desc := camDesc, st := 1, instance_ := some 0 }
     let s := slot0 x
     dSource (writeBytes [] 0 (readBytes camDesc 0 192)) = dSource x.desc ∧ dPort (writeBytes [] 0 (readBytes camDesc 0 192)) = dPort x.desc ∧
     dVc (writeBytes [] 0 (readBytes camDesc 0 192)) = dVc x.desc ∧ streamDescOk s 0 (writeBytes [] 0 (readBytes camDesc 0 192)) = true ∧
     needsCal (writeBytes [] 0 (readBytes camDesc 0 192)) = false ∧ instanceFits s 0 (writeBytes [] 0 (readBytes camDesc 0 192)) 0 = true ∧
     encoderFits s 0 (writeBytes [] 0 (readBytes camDesc 0 192)) = true ∧ meshRange (writeBytes [] 0 (readBytes camDesc 0 192)) = false ∧
     dSource (writeBytes [] 0 (List.replicate 192 0)) ≠ dSource x.desc ∧ x.decoder = none) ∧
    gcmdStatus camDesc [0] = 5 ∧ 3 < (4 : Byte).toNat ∧ (3 : Byte).toNat ≤ 3 ∧ boundCtxs (slot0 {}) 0 = [] := by decide

theorem witness_slot_bound : boundCtxs { slot0 {} with ctxs := [(5, { st := .admitted, desc := [(2, 1)] })] } 0 = [5] := by decide

/-- GCMD reads that end for a starting slot, one that timed out, one whose calibration is read again; meshes that wait. -/
theorem witness_calibration : let x : Slot := { desc := camDesc, st := 1, reading := true, reads := [1] }
    ((slot0 x).slot 0).reads = [1] ∧ ({ x with reads := [0, 1] } : Slot).reads = 0 :: [1] ∧ ({ x with reads := [2] } : Slot).reads = [2] ∧
    x.reads.contains 1 = true ∧ x.reads.contains 0 = false ∧
    ({ meshWait := [0], starting := true, shadow := some (calDesc, false) } : Slot).shadow = some (calDesc, false) ∧
    ({ meshWait := [0], shadow := some (calDesc, false) } : Slot).starting = false ∧ ({ x with starting := true } : Slot).starting = true ∧ x.starting = false ∧ x.timedOut = false ∧ x.shadow = none ∧
    needsCal x.desc = false ∧ ({ x with timedOut := true } : Slot).timedOut = true ∧ moduleChanged { x with timedOut := true } x = false ∧
    moduleChanged { x with moduleId := [1] } { x with gcmdStatus := 1 } = true ∧ needsCal calDesc = true ∧ calibOf { x with desc := calDesc } = 0 ∧
    (State.reset.slot 0).reads = [] ∧ (0 : ViewNo).val ∉ ({} : Slot).meshWait ∧ (0 : ViewNo).val ∈ ({ meshWait := [0, 3] } : Slot).meshWait ∧
    (∃ k ∈ ({ meshWait := [0, 3] } : Slot).meshWait, k ≠ (0 : ViewNo).val) ∧ (∀ k ∈ ({ meshWait := [3] } : Slot).meshWait, k = (3 : ViewNo).val) := by decide

/-- The bus of slot 0 with its GCMD read in front, behind a host transfer, and none; reads with and without an answer. -/
theorem witness_gcmd_bus : let s := fun (l : List BusReq) => { slot0 { desc := camDesc, st := 1, reading := true, reads := [1] } with streams := { slot := [(0, { desc := camDesc, st := 1, reading := true, reads := [1] })], bus := [(0, { waiting := l })] } }
    gcmdBus (s [.gcmd 0 0x50 1]) 0 = some 0 ∧ ((s [.gcmd 0 0x50 1]).slot 0).reads = [1] ∧
    (∀ b, b < 8 → ((s [.host [], .gcmd 0 0x50 1]).bus b).waiting.head?.any (isGcmdOf 0) = false) ∧
    gcmdBus { s [.gcmd 0 0x50 1] with streams := { bus := [(0, { waiting := [.gcmd 0 0x50 1] })] } } 0 = some 0 ∧
    ((s [.host [], .gcmd 0 0x50 1]).bus 0).waiting = [.host [], .gcmd 0 0x50 1] ∧ ((s [.gcmd 0 0x50 1]).bus 0).waiting = [.gcmd 0 0x50 1] ∧
    3 ≤ (⟨3, []⟩ : GcmdRead).nacks ∧ (⟨2, [0]⟩ : GcmdRead).nacks < 3 ∧ gcmdStatus camDesc ([0].take (max 8 (min 192 (gWord [0] 6 2)))) = 5 := by decide

/-- Lane settings, triggers armed, waiting and past, buses in each mode. -/
theorem witness_ports : setupState (inState .config State.reset) = true ∧ ((3 : Byte) ≠ 2 ∧ (3 : Byte) ≠ 4) ∧ (1 : PortNo).val % 2 = 1 ∧ (0 : PortNo).val % 2 = 0 ∧
    namesPort (slot0 { desc := camDesc }) [0, 1] = true ∧ namesPort State.reset [0, 1] = false ∧
    (let x : Trig := { enable := true, nextEdge := some 10 }; x.nextEdge = some 10 ∧ (10 : Nat) ≤ (later 10 State.reset).now ∧ (later 0 State.reset).now < 10 ∧ x.pend = none) ∧
    firstEdge 100 50 0 = none ∧ firstEdge 100 50 7 = some 110 ∧ trigOk 20 10 1 = true ∧ trigOk 19 10 1 = false ∧ trigOk 0 9 0 = false ∧ trigOk 0 10 2 = false ∧
    (let s := { slot0 { desc := camDesc } with streams := { slot := [(0, { desc := camDesc })], bus := [(0, { mode := 0 })] } }
     (s.bus 0).mode ≠ 2 ∧ busSlot s 0 = some 0) ∧ (State.reset.bus 0).mode = 2 ∧ (State.reset.bus 0).waiting = [] := by decide

theorem witness_bus_length : 260 < (List.replicate 261 (0 : Byte)).length ∧ (List.replicate 260 (0 : Byte)).length ≤ 260 := by
  refine ⟨?_, ?_⟩ <;> simp only [List.length_replicate] <;> decide

/-- Stream doorbells at 128 entries and at 129; entries good and bad; a decoder's answers. -/
theorem witness_host_frames : let x : Slot := { desc := hostDesc, st := 1, pages := 1 }
    hostSlot x = true ∧ x.st ≠ 0 ∧ ¬ 128 < ((128 : BitVec 32) - x.cons).toNat ∧ 128 < ((129 : BitVec 32) - x.cons).toNat ∧
    (let y := { x with prod := 1 }
     let s := { slot0 y with hmp := { chan := [(0, { stream := writeBytes [] (entryBase 0 + 4) [1] })] } }
     y.decoding = false ∧ y.prod ≠ y.cons ∧ slotBlocked s 0 = false ∧ declaredFits y .same = true ∧ (s.chan 0).bad = [] ∧ y.shadow = none ∧
     frameEntry s 0 = (0, 1) ∧ ¬ ((frameEntry s 0).2 = 0 ∨ y.pages * 65536 ≤ (frameEntry s 0).1 ∨ y.pages * 65536 < (frameEntry s 0).2) ∧
     (frameEntry (slot0 y) 0).2 = 0 ∧ declaredCheck y .same = none ∧ declaredCheck y (.hevc 17 16 false 65536) = some 0x0010) ∧
    ({ x with decoding := true } : Slot).decoding = true ∧ ({ x with waiting := true } : Slot).waiting = true := by decide

/-- An entry with an uncorrectable word; the matrices of a JPEG and of an HEVC slot. -/
theorem witness_decoded : let x : Slot := { desc := hostDesc, st := 1, pages := 1, prod := 1 }
    let s := { slot0 x with hmp := { chan := [(0, { bad := [0x500000 + entryBase 0] })] } }
    streamBad (s.chan 0) (entryBase 0 + 32 * (x.cons.toNat % 128)) 32 = true ∧ x.shadow = none ∧ dSource x.desc = 2 ∧ dSource [(0, 3)] = 3 ∧
    decodedMatrix x (some (2, false)) = none ∧ decodedMatrix x none = some (1, false) ∧ x.waiting = false ∧
    Decoded.frame none false 1 1 [(0, 0, 0)] false ≠ .bitstreamError := by decide

/-- A context with one batch buffer of two samples, free and taken. -/
theorem witness_batch_buffers : let p := { pkg1 with batchAt := [[0, 4]], allocBytes := 8 }
    let c : Ctx := { st := .active, desc := [(2, 1), (5, 1), (16, 10)], pkg := some p }
    let s := fun (o : Option Batch) => { slot0 {} with ctxs := [(0, { c with openBatch := o })] }
    freeBuffer (s none) 0 = some 0 ∧ ((s none).ctx 0).pkg = some p ∧ (p.batchAt.getD 0 [])[1]? = some 4 ∧ 4 + [(0 : Byte)].length ≤ p.allocBytes ∧
    freeBuffer (s (some ⟨[], 0, 0, [], 0, some 0, false⟩)) 0 = none ∧ ((s none).ctx 0).openBatch = none ∧
    (([] : Tab Sample).any (fun q => q.1 == 0)) = false := by decide

/-- A sample of a context that forms batches, before and at its launch; windows open and over. -/
theorem witness_samples : let c : Ctx := { st := .active, desc := [(2, 1), (5, 1), (16, 10)], launched := 5, openBatch := some ⟨[], 0, 0, [], 0, none, false⟩ }
    let s := fun (t : Nat) => { slot0 { viewOut := [(0, [⟨1, t, false, []⟩])] } with ctxs := [(0, c)] }
    ((s 5).ctx 0).loaded = true ∧ 0 < ((s 5).ctx 0).npos ∧ nextSample (s 5) ((s 5).ctx 0) 0 = some ⟨1, 5, false, []⟩ ∧ forms ((s 5).ctx 0) = true ∧
    ((s 5).ctx 0).launched ≤ 5 ∧ (4 : Nat) < ((s 4).ctx 0).launched ∧ nextSample State.reset {} 0 = none ∧
    ((s 5).ctx 0).openBatch = some ⟨[], 0, 0, [], 0, none, false⟩ ∧ (later 9 (s 5)).now < 0 + ((s 5).ctx 0).window ∧ 0 + ((s 5).ctx 0).window ≤ (later 10 (s 5)).now ∧
    activeCtx { c with st := .suspended } = false ∧ ({ c with st := .suspended } : Ctx).batches.length < ({ c with st := .suspended } : Ctx).depth := by decide

theorem witness_ring_address : lostAddr (slot0 {}) 0 = false ∧ 0 < lpddrSize := by
  refine ⟨rfl, ?_⟩
  unfold lpddrSize; cases Config.grade64 <;> decide

/-- A recording that is off and one that has room for exactly the picture; pictures that begin and continue a GOP; sources busy, without a ring, in order. -/
theorem witness_recording : let x : Rec := { source := 0x8000, size := 1 }
    ({} : Rec).source.getLsbD 15 = false ∧ x.source.getLsbD 15 = true ∧ x.gops = [] ∧ recUsed x + [(0 : Byte)].length ≤ x.size ∧ [(0 : Byte)].length ≤ x.size ∧
    gopDue x = true ∧ gopDue { x with inGop := 1, inForce := (2, 0, 0, 0) } = false ∧ gopDue { x with inGop := 2, inForce := (2, 0, 0, 0) } = true ∧ ((slot0 { st := 1 }).slot 0).held = true ∧
    hostMayWrite (slot0 {}) 0 = true ∧ hostMayWrite { slot0 {} with fabric := { tags := [(0, 0xF001)] } } 0 = false ∧
    (let y : Rec := { x with size := 4, prod := 4, gops := [0, 2], inGop := 1, inForce := (2, 0, 0, 0) }
     gopDue y = false ∧ y.gops = 0 :: 2 :: [] ∧ y.size < recUsed y + [(0 : Byte)].length ∧ recUsed { y with oldest := 2 } + [(0 : Byte)].length ≤ y.size ∧
     y.prod + BitVec.ofNat 32 [(0 : Byte)].length = 5 ∧ ((5 : BitVec 32) - 2).toNat ≤ y.size) ∧
    (0x8000 : BitVec 16).getLsbD 15 = true ∧ ((slot0 {}).slot 0).held = false ∧ ({} : Rec).size = 0 ∧ x.size ≠ 0 ∧ setupState (slot0 {}) = true := by decide +kernel

/-! ### States that meet the hypotheses: the host port -/

/-- Channel 0 alone, in READY; no version selected, or 1.minor. -/
def chan0 (c : Chan) : State := inState .ready { State.reset with hmp := { chan := [(0, c)], negState := 0 } }
def host0 (minor : Nat) (c : Chan) : State := inState .ready { State.reset with hmp := { chan := [(0, c)], negState := 1, major := 1, minor := minor } }

/-- Commands that a channel receives, in reset, after an unsupported one, in self-refresh and in power-down. -/
theorem witness_channels : Received (chan0 {}) 0 0 ∧ Received (chan0 { power := 1 }) 0 1 ∧ Received (chan0 { power := 2 }) 0 2 ∧
    ((chan0 { resetLow := true }).chan 0).resetLow = true ∧ portPowered (chan0 {}) = true ∧ (1 : Nat) ≠ 0 ∧
    ((chan0 { undefined := true }).chan 0).undefined = true ∧ ((chan0 { undefined := true }).chan 0).resetLow = false ∧
    portPowered { State.reset with power := { pstate := 3 } } = false ∧
    channelCommand (.act 0 0 0) = some (0, 0) ∧ wellFormed (.act 0 0 0) = true ∧ channelCommand (.srx 0) = some (0, 1) ∧
    channelCommand (.pdx 0) = some (0, 2) ∧ (7 : Byte) ≠ 4 ∧ (7 : Byte) ≠ 5 ∧ (7 : Byte) ≠ 6 ∧ (7 : Byte) ≠ 8 := by
  unfold Received; decide

/-- Reads and writes before and after a version is selected; posted writes wait; negotiation. -/
theorem witness_port : selected (chan0 {}) = false ∧ (chan0 {}).hmp.negState ≠ 3 ∧ State.reset.hmp.negState = 3 ∧ selected State.reset = false ∧
    Received State.reset 0 0 ∧ (0x40000000 + 8 ≤ 2 ^ 31) ∧ ([0] : List Byte) ≠ [] ∧
    Writes (host0 3 {}) 0 ∧ Writes (host0 2 {}) 0 ∧ 3 ≤ (host0 3 {}).hmp.minor ∧ (host0 2 {}).hmp.minor < 3 ∧
    ((((host0 3 {}).chan 0).slotOf 0).state = 0 ∧ (((host0 3 {}).chan 0).slotOf 1).state = 0) ∧
    (let s := host0 3 { buffer := [⟨0x40000000, [1], []⟩] }; Received s 0 0 ∧ selected s = true ∧ (s.chan 0).buffer ≠ []) ∧
    ((0x1000 : BitVec 16).toNat % 8 = 0 ∧ 0x1000 ≤ (0x1000 : BitVec 16).toNat ∧ (0x1000 : BitVec 16).toNat < 0x9000) ∧ (0x800 : Word).toNat % 2048 = 0 ∧
    (0x103 : Word).toNat / 256 % 256 = 1 ∧ (0x103 : Word).toNat % 256 ≤ 3 ∧ 3 < (0x104 : Word).toNat % 256 := by
  unfold Writes Received; decide

/-- Armed lines in a good slot and in one that met an error; the ring and stream windows; registers whole, untouched and in part; a selected
version chosen again, and another one. -/
theorem witness_windows : let own : Word := BitVec.ofNat 64 (0xFFFE * 2 ^ 48 + 1)
    let c : Chan := { bulkMap := own, arm := [(0, { reg := 1, state := 2, data := [(0, 7)] }), (1, { reg := 1, state := 3, readable := 32 })] }
    let x : Queue := { ctx := 0, typ := .submit, k := 4, version := 1, ch := 0, mask := 0, page := 0 }
    let y : Queue := { x with typ := .complete, page := 1 }
    let s := { host0 3 c with queues := [(5, x), (6, y)], streams := { slot := [(0, { desc := hostDesc, pages := 1, page := [1] })] } }
    (armServes (c.slotOf 0) 0 = true ∧ armServes (c.slotOf 1) 0 = true ∧ armServes (c.slotOf 1) 32 = false ∧ armServes (c.slotOf 0) 4096 = false ∧
      bulkByte c 0 = some 7 ∧ mapped c = true ∧ (bulkRights s (mapOwner c) 0).1 = true ∧ lostAddr s 0 = false ∧ selected s = true ∧ asleep s = false ∧
      (c.slotOf 0).state = 2) ∧
    ((s.chan 0).buffer = [] ∧ queueAt s 0 64 = some (5, x) ∧ (x.base + 64 ≤ 64 ∧ (64 : Nat) < x.base + 64 + 64 * x.entries) ∧ queueAt s 0 63 = some (5, x) ∧
      queueAt s 0 4160 = some (6, y) ∧ y.typ ≠ .submit ∧ queueAt s 0 8192 = none ∧ stagingBad (s.chan 0) 0x10040 = false) ∧
    (streamAt s 0 0 = some 0 ∧ streamAt s 0 0x1000 ≠ none ∧ streamAt s 0 0x11000 = none ∧ streamAt s 0 0x201000 = none) ∧
    ((List.replicate 8 (0 : Byte)).length = 8 * 1 ∧ (0x1000 : Nat) % 8 = 0) ∧
    (s.hmp.major = (0x103 : Word).toNat / 256 % 256 ∧ s.hmp.minor = (0x103 : Word).toNat % 256 ∧ s.hmp.minor ≠ (0x102 : Word).toNat % 256) := by
  decide +kernel

/-- Queues of every type with 16 entries: a doorbell by 16 and by 17, of an empty queue, on the other channel. -/
theorem witness_doorbells : let x : Queue := { ctx := 0, typ := .submit, k := 4, version := 1, ch := 0, mask := 0, page := 0 }
    let y : Queue := { x with typ := .complete, prod := 3 }
    let s := { host0 3 {} with queues := [(5, x), (6, y)] }
    (0 : Word).getLsbD 31 = false ∧ s.queue? 7 = none ∧ s.queue? 5 = some x ∧ x.ch ≠ 1 ∧ x.ch = 0 ∧ x.typ = .submit ∧
    (let n := (16 + 2 ^ 32 - x.cons % 2 ^ 32) % 2 ^ 32; x.prod - x.cons < n ∧ n ≤ 2 ^ x.k) ∧
    (let n := (0 + 2 ^ 32 - x.cons % 2 ^ 32) % 2 ^ 32; n = x.prod - x.cons ∧ n ≤ 2 ^ x.k) ∧ 2 ^ x.k < (17 + 2 ^ 32 - x.cons % 2 ^ 32) % 2 ^ 32 ∧
    s.queue? 6 = some y ∧ y.typ ≠ .submit ∧
    (let n := (3 + 2 ^ 32 - y.cons % 2 ^ 32) % 2 ^ 32; 0 < n ∧ n ≤ y.prod - y.cons) ∧ (0 + 2 ^ 32 - y.cons % 2 ^ 32) % 2 ^ 32 = 0 ∧
    y.prod - y.cons < (4 + 2 ^ 32 - y.cons % 2 ^ 32) % 2 ^ 32 := by decide

/-- Queue commands: of another type, outside their states, good, of a version not negotiated, of a number in use, without room, and destroys. -/
theorem witness_queue_commands : let b : BitVec 128 := BitVec.ofNat 128 (2 ^ 32 + 16 * 2 ^ 24 + 2 ^ 16 + 5)
    let v2 : BitVec 128 := BitVec.ofNat 128 (2 * 2 ^ 32 + 16 * 2 ^ 24 + 2 ^ 16 + 5)
    let s := host0 1 {}
    let x : Queue := { ctx := 0, typ := .submit, k := 16, version := 1, ch := 0, mask := 0, page := 0 }
    let full := { s with queues := [(6, x), (7, { x with page := 1025 })] }
    (cmdField b 2 1 = 1 ∧ cmdField b 2 1 ≠ 0) ∧ (setupState s = true ∧ (s.ctx 0).st = .empty) ∧
    (({ s with ctxs := [(0, { st := .active })] } : State).ctx 0).st = .active ∧ setupState State.reset = false ∧
    (reservedSet b = false ∧ ¬ cmdField b 3 1 < 4 ∧ ¬ 16 < cmdField b 3 1 ∧ ¬ cmdField b 4 1 < 1 ∧ ¬ 2 < cmdField b 4 1 ∧ ¬ 1 < cmdField b 5 1) ∧
    (cmdField v2 4 1 = 2 ∧ s.hmp.minor < 2) ∧ s.queue? 5 = none ∧ full.queue? 6 ≠ none ∧ 1 < cmdField (b ||| (2 <<< 40)) 5 1 := by decide

theorem witness_queue_pages : freePages (host0 1 {}) 0 1025 = some 0 ∧
    freePages { host0 1 {} with queues := [(6, { ctx := 0, typ := .submit, k := 16, version := 1, ch := 0, mask := 0, page := 0 })] } 0 1025 = none := by
  decide +kernel

theorem witness_queue_destroy : let b : BitVec 128 := 5
    let x : Queue := { ctx := 0, typ := .submit, k := 4, version := 1, ch := 0, mask := 0, page := 0 }
    let s := { host0 1 {} with queues := [(5, x)], ctxs := [(0, { st := .suspended, desc := [(36, 5)] })] }
    cmdField b 2 1 = 0 ∧ s.queue? (cmdField b 0 2) = some x ∧ reservedSet b = false ∧ setupState s = true ∧ (s.ctx 0).st = .suspended ∧
    namesQueue (s.ctx 0) 5 = true ∧ namesQueue { st := .suspended, desc := [(36, 6)] } 5 = false := by decide

/-- The bulk map of the host owner, of no context, in STANDBY; slots armed with none, 1,024 and 1,025 pages, and past the window. -/
theorem witness_bulk : let own : Word := BitVec.ofNat 64 (0xFFFE * 2 ^ 48 + 1)
    let s := host0 3 { bulkMap := own }
    let nap := { s with power := { pstate := 2 } }
    mapError s 1 ≠ 0 ∧ asleep nap = true ∧ asleep s = false ∧ mapped (s.chan 0) = true ∧ mapped ((host0 3 {}).chan 0) = false ∧
    (1024 : Word).toNat % 2048 = 1024 ∧ 1024 < (1025 : Word).toNat % 2048 ∧
    (let v : Word := BitVec.ofNat 64 ((2 ^ 18 - 1) * 2 ^ 24 + 1)
     v.toNat % 2048 ≠ 0 ∧ ¬ (1024 < v.toNat % 2048 ∨ 2 ^ 30 < v.toNat / 2 ^ 24 % 2 ^ 18 * 4096 + v.toNat % 2048 * 4096)) ∧
    (let v : Word := BitVec.ofNat 64 ((2 ^ 18 - 1) * 2 ^ 24 + 2); 2 ^ 30 < v.toNat / 2 ^ 24 % 2 ^ 18 * 4096 + v.toNat % 2048 * 4096) ∧
    (let t := host0 3 { bulkMap := own, arm := [(0, { reg := 1, state := 1 })] }; ((t.chan 0).slotOf 0).state = 1 ∧ t.fabric.bad = []) ∧
    (s.chan 0).buffer = [] ∧ ((host0 3 { buffer := [⟨0x40000000, [1], []⟩] }).chan 0).buffer = [⟨0x40000000, [1], []⟩] ∧
    mapOwner (s.chan 0) = 0xFFFE ∧ (∀ k, k < 2 → ((s.chan 0).slotOf k).state ≠ 1) ∧
    (let t := { host0 3 { bulkMap := own, arm := [(0, { reg := 1, state := 1 })] } with fabric := { bad := [(0, 8)] } }
     let x := (t.chan 0).slotOf 0
     x.state = 1 ∧ (0, 8) ∈ t.fabric.bad ∧ mapBase (t.chan 0) + armStart x ≤ 8 ∧ 8 < mapBase (t.chan 0) + armStart x + armPages x * 4096) := by decide +kernel

theorem witness_bulk_map : mapError (host0 3 {}) (BitVec.ofNat 64 (0xFFFE * 2 ^ 48 + 1)) = 0 := by
  unfold mapError lpddrSize; cases Config.grade64 <;> decide

/-- Leaves written in and out of the states of the class; a condition that lasts and one that has gone. -/
theorem witness_leaves : alwaysState State.reset = false ∧ alwaysState (host0 3 {}) = true ∧
    (let r : LeafReg := .group ⟨12, by decide⟩
     let s := { host0 3 {} with boot := { unverified := true }, causes := { leaf := [(12, 3)] } }
     conditionLasts s r ≠ none ∧ (conditionBits r).getLsbD 0 = true ∧ (leafBits r).getLsbD 1 = true ∧
     (conditionBits r).getLsbD 1 = false ∧ leafIsSet s.causes (leafOf r 0) = true ∧ leafIsSet s.causes (leafOf r 1) = true ∧
     conditionLasts (host0 3 {}) r = none ∧ leafIsSet ({ leaf := [(11, 1)] } : Causes) (.main 11 0) = true ∧
     leafIsSet s.causes (.main 11 0) = false ∧ conditionLasts (host0 3 {}) (.group ⟨11, by decide⟩) = none ∧ (2 : Word).getLsbD 1 = true ∧ (1 : Word).getLsbD 1 = false) := by decide

/-- Mailbox requests in front: a read of an entry that exists and of one that does not, a write, an unknown operation. -/
theorem witness_mailbox : let s := fun (m : Mem) => { host0 3 { mbAsk := m } with hmp := { chan := [(0, { mbAsk := m })], major := 1, minor := 3, negState := 1, mbOrder := [0] } }
    let rd : Mem := [(0, 1), (1, 1), (3, 0x10), (12, 4)]
    let wr : Mem := [(0, 2), (1, 1), (2, 0x20), (3, 0x22), (4, 1), (12, 4)]
    (s rd).hmp.mbOrder.head? = some 0 ∧ reachable (s rd) = true ∧ State.reset.hmp.mbOrder.head? ≠ some 0 ∧
    (let c := (s rd).chan 0; mbOp c = 1 ∧ c.mbPart = none ∧ mbOffset c = 0 ∧ (odRead (s rd) (mbIndex c) (mbSub c)).2.1 = 0) ∧
    (let t := s [(0, 1), (2, 0xFF), (3, 0x5F)]; (odRead t (mbIndex (t.chan 0)) (mbSub (t.chan 0))).2.1 ≠ 0) ∧
    (let c := (s wr).chan 0; mbOp c = 2 ∧ c.mbPart = none ∧ mbOffset c = 0 ∧ 1 ≤ mbLength c ∧ mbLength c ≤ 1024 ∧ mbLast c = true) ∧
    (let c := (s []).chan 0; mbOp c ≠ 1 ∧ mbOp c ≠ 2 ∧ c.mbPart = none) ∧
    -- a second part, in place and out of place
    (let c : Nat → Nat → Chan := fun last o => { (s []).chan 0 with mbPart := some (0x2220, 1, [0]), mbAsk := wr.filter (fun p => decide (p.1 ≠ 1)) ++ [(1, BitVec.ofNat 8 last), (8, BitVec.ofNat 8 o)] }
     mbOp (c 1 1) = 2 ∧ mbIndex (c 1 1) = 0x2220 ∧ mbSub (c 1 1) = 1 ∧ mbOffset (c 1 1) = [(0 : Byte)].length ∧ mbLast (c 1 1) = true ∧ mbLast (c 0 1) = false ∧
     mbOffset (c 1 0) = 0 ∧ 1 ≤ mbLength (c 1 1) ∧ mbLength (c 1 1) ≤ 1024 ∧ 1 ≤ (s []).hmp.minor) ∧
    (∃ r, odEntry 0x2440 4 = some r ∧ r.acc ≠ .ro ∧ r.acc ≠ .const) := by
  refine ⟨by decide, by decide, by decide, by decide, by decide, by decide, by decide, by decide, ⟨_, rfl, by decide⟩⟩

/-- SUBMIT records: none, bad, a JOB with host input before and after the launch, a JOB without a batch, a CANCEL. -/
theorem witness_submits : let x : Queue := { ctx := 0, typ := .submit, k := 4, version := 1, ch := 0, mask := 0, page := 0, prod := 1, rings := [(1, 7)] }
    let s := fun (m d : Mem) (l : Nat) => { host0 3 { ring := m } with queues := [(5, x)], ctxs := [(0, { st := .active, desc := d, launched := l })] }
    let host : Mem := [(64, 0x30), (65, 1)]
    (((s [] [] 0).laster (ctxLaster (s [] [] 0) x.ctx)).state = 0 ∧
      ringTime x x.cons < ((s [(64, 0x40)] [] 8).ctx x.ctx).launched ∧ field (submitBytes (s [(64, 0x40)] [] 8) x) 0 1 = 0x40) ∧
    ((s [] [] 0).queue? 5 = some x ∧ x.typ = .submit ∧ x.cons < x.prod ∧ activeCtx ((s [] [] 0).ctx x.ctx) = true) ∧ (s [] [] 0).queue? 4 = none ∧
    submitBad (s [] [] 0) x (submitBytes (s [] [] 0) x) = true ∧
    (let r := submitBytes (s host [] 7) x; submitBad (s host [] 7) x r = false ∧ field r 0 1 = 0x30 ∧ field r 1 1 = 1 ∧
      ((s host [] 7).ctx x.ctx).launched ≤ ringTime x x.cons ∧ ringTime x x.cons < ((s host [] 8).ctx x.ctx).launched) ∧
    (let t := s [(64, 0x30)] [(2, 1), (3, 1)] 7; let r := submitBytes t x
     submitBad t x r = false ∧ field r 0 1 = 0x30 ∧ field r 1 1 = 0 ∧ (t.ctx x.ctx).batches = []) ∧
    (let t := { s [(64, 0x30)] [(2, 1), (3, 1)] 7 with ctxs := [(0, { st := .active, desc := [(2, 1), (3, 1)], launched := 7, batches := [⟨[], 0, 0, [], 0, none, false⟩] })] }
     submitBad t x (submitBytes t x) = false ∧ (t.ctx x.ctx).batches = ⟨[], 0, 0, [], 0, none, false⟩ :: []) ∧
    (let t := s [(64, 0x40)] [] 0; submitBad t x (submitBytes t x) = false ∧ field (submitBytes t x) 0 1 = 0x40) := by decide

/-- A class B context for it on cell 0 with its two queues: admission accepts it, and refuses a package without a slot. -/
def ctxB : Ctx := { desc := [(0, 2), (5, 2), (7, 1), (20, 1), (32, 1), (34, 2), (36, 0xFF), (37, 0xFF), (38, 1)] }
def loading (x : Ctx) : State :=
  let q : Queue := { ctx := 0, typ := .complete, k := 4, version := 1, ch := 0, mask := 0, page := 0 }
  { host0 3 {} with ctxs := [(0, x)], queues := [(1, q), (2, { q with typ := .event, page := 1 })], power := { valid := true, floorRate := 1000 } }

theorem witness_admission : let ask := fun (x : Ctx) (p : Package) => { x with st := .loading, reason := 0, pkg := some p, allocAt := 0 }
    let s := loading ctxB
    (setupState s = true ∧ (s.ctx 0).st = .empty ∧ s.power.valid = true) ∧
    (loading { ctxB with st := .loading }).power.valid = true ∧ ({ ctxB with st := .loading } : Ctx).pkg = none ∧
    (admission (measure (s.setCtx 0 (ask ctxB pkg1)) 6 []) 0 (ask ctxB pkg1)).toOption.isSome = true ∧
    (let p := { pkg1 with stripe := { pkg1.stripe with slots := [] } }
     admission (measure (s.setCtx 0 (ask ctxB p)) 6 []) 0 (ask ctxB p) = .error 0x0202) := by decide +kernel

/-- Context commands in and out of their states; a launch that is due and one that is not. -/
theorem witness_contexts : let s := fun (st : CtxSt) (t : BitVec 64) => later t { loading { ctxB with st := st, launch := 10, launchAt := some 10 } with dev := {} }
    let r := fun (st : CtxSt) (t : BitVec 64) => inState .run (s st t)
    setupState State.reset = false ∧ runtimeState State.reset = false ∧ runtimeState (r .admitted 10) = true ∧ State.reset.power.valid = false ∧
    ((r .admitted 10).ctx 0).st = .admitted ∧ ((r .admitted 10).ctx 0).loaded = true ∧ (State.reset.ctx 0).loaded = false ∧
    ((r .admitted 10).ctx 0).launch ≤ (r .admitted 10).now ∧ (r .admitted 9).now < ((r .admitted 9).ctx 0).launch ∧ (r .admitted 10).power.valid = true ∧
    activeCtx ((r .active 10).ctx 0) = true ∧ activeCtx ((r .admitted 10).ctx 0) = false ∧ ((r .admitted 10).ctx 0).launchAt = some 10 ∧
    (State.reset.ctx 0).launchAt = none ∧ 1 < (2 : Byte).toNat := by decide

/-! ### States that meet the hypotheses: power, resets, boot -/

theorem witness_settings : setupState State.reset = false ∧ (let s := inState .config State.reset
    setupState s = true ∧ (20000 ≤ (95000 : BitVec 32).toNat ∧ (95000 : BitVec 32).toNat ≤ 95000) ∧ ¬ (95001 : BitVec 32).toNat ≤ 95000 ∧
    (48000 : BitVec 32).toNat + s.power.memRes ≤ s.power.cap ∧ ¬ (48001 : BitVec 32).toNat + s.power.memRes ≤ s.power.cap ∧
    s.power.linkRes + (53000 : BitVec 32).toNat ≤ s.power.cap ∧ ¬ s.power.linkRes + (53001 : BitVec 32).toNat ≤ s.power.cap ∧
    (1 ≤ (64 : Byte).toNat ∧ (64 : Byte).toNat ≤ 64 ∧ heldCells s ≤ (64 : Byte).toNat) ∧ ¬ (65 : Byte).toNat ≤ 64 ∧
    (60 ≤ (105 : Byte).toInt ∧ (105 : Byte).toInt ≤ 105) ∧ ¬ (106 : Byte).toInt ≤ 105 ∧ (-40 ≤ (0xD8 : Byte).toInt ∧ (0xD8 : Byte).toInt ≤ 25) ∧
    ¬ -40 ≤ (0xD7 : Byte).toInt ∧ (5 : Byte).toNat ≤ 5 ∧ ¬ (6 : Byte).toNat ≤ 5) := by decide

/-- Every quarter lost and the links at 30 W, at the cap, and at 1 mW more; nothing left to give back. -/
theorem witness_estimates : let s := { State.reset with fabric := { lost := [0, 1, 2, 3] } }
    s.power.dirty = false ∧ applySettings s = s ∧ ({ State.reset with power := { dirty := true } } : State).power.dirty = true ∧ s.power.hardPower = false ∧
    (let e := 0 * (s.qpower 0).c / 1024 + 0 * (s.qpower 1).c / 1024 + 0 * (s.qpower 2).c / 1024 + 0 * (s.qpower 3).c / 1024
     25000000 < ((e + 30000000) :: s.power.window).sum + (e + 30000000) ∧ s.power.cap < e + 60001 ∧ e + 60000 ≤ s.power.cap ∧
     ¬ 25000000 < ((e + 60001) :: s.power.window).sum + (e + 60001)) ∧
    (∀ d, d < 3 → canGive s d = false) ∧ s.power.capOver = false ∧
    (let t := fun (l m : Nat) => { State.reset with power := { linkMw := l, memMw := m } }
     (domains (t 7001 12001).power.order).reverse.find? (canGive (t 7001 12001)) = some 1 ∧
     (domains (t 7001 12000).power.order).reverse.find? (canGive (t 7001 12000)) = some 0 ∧ canGive (t 7000 12000) 0 = false) ∧
    (let t := { at0 { st := .running, claim := some (0, 7) } with
         jobs := [{ jobOn [0] with phase := .running }], ctxs := [(0, { ctxB with st := .active })], power := { quarter := [(0, { estimate := 41001, setpoint := 900 })] } }
     canGive t 2 = true) ∧
    (let t := { State.reset with power := { cap := 18999 } }; shareOf t.power < 0) := by decide +kernel

/-- Quarters lost, asleep, awake; due for a throttle and not; a hinted phase. -/
theorem witness_setpoints : let s := fun (v : Nat) (p : Option Nat) => later 20000 { State.reset with power := { quarter := [(0, { setpoint := v, paceSince := p })] } }
    0 ∈ ({ State.reset with fabric := { lost := [0] } } : State).fabric.lost ∧ 0 ∉ State.reset.fabric.lost ∧ State.reset.power.pstate = 0 ∧
    ((s 900 (some 0)).qpower 0).paceSince = some 0 ∧ 0 + 20000 ≤ (s 900 (some 0)).now ∧ ((s 900 none).qpower 0).derateSoon = false ∧
    min (lowerBound (s 900 (some 0)) 0 / 5 * 5) (upperBound (s 900 (some 0)) 0) < ((s 900 (some 0)).qpower 0).setpoint ∧
    ((s 550 none).qpower 0).setpoint ≤ min (lowerBound (s 550 none) 0 / 5 * 5) (upperBound (s 550 none) 0) ∧
    (let t := { s 750 none with cells := [(0, { hints := [⟨5, 100, 5, false⟩] })] }
     (liveHints (t.cell 0).since (t.cell 0).hints).find? (fun h => !h.acted) = some ⟨5, 100, 5, false⟩ ∧ t.power.devEst + cellPower (t.qpower 0).setpoint * 100 / 255 ≤ t.power.cap ∧ 550 ≤ (t.qpower 0).setpoint ∧ 0 ∉ t.fabric.lost) ∧
    (liveHints 0 []).find? (fun h => !h.acted) = none ∧ (liveHints 5 [⟨3, 100, 2, false⟩]).find? (fun h => !h.acted) = none ∧
    (let t := { s 900 none with cells := [(0, { pace := 3 })], power := { valid := true, quarter := [(0, { setpoint := 900 })] } }
     mst (quarterRate t 0) ≠ 0 ∧ mst (quarterRate (moveSetpoint t 0 800) 0) ≠ 0 ∧ mst (quarterRate t 0) ≠ mst (quarterRate (moveSetpoint t 0 800) 0) ∧
     0 < (t.cell 0).pace) := by decide +kernel

/-- Reports of 115 degC and 0.1 degC less, in and out of STANDBY; sensors that fail; the hold's end; a trip that may end. -/
theorem witness_sensors : (1150 ≤ (1150 : BitVec 16).toInt ∧ (1149 : BitVec 16).toInt < 1150) ∧ ({ State.reset with power := { pstate := 2 } } : State).power.pstate ≠ 0 ∧
    State.reset.dev.thermTrip = false ∧ State.reset.dev.state = .boot ∧ State.reset.dev.restartReason = 0 ∧ supplied State.reset.dev = true ∧
    ({ State.reset.dev with restartReason := 3 } : Dev).restartReason ≠ 0 ∧ (inState .run State.reset).dev.state ≠ .boot ∧
    ({ failing := [3] } : Power).failing = [3] ∧ 3 ∉ State.reset.power.failing ∧
    (let s := later 1000000000 { State.reset with power := { overFloor := some 500, coolSince := some 0 } }
     s.power.overFloor = some 500 ∧ s.power.coolSince = some 0 ∧ 0 + 1000000000 ≤ s.now ∧ overLimit s = [] ∧ (later 999999990 s).now < 0 + 1000000000) ∧
    (let s := { State.reset with dev := { thermTrip := true, state := .run }, power := { reported := List.range 26 } }
     s.dev.thermTrip = true ∧ (∀ i, i < 26 → i ∈ s.power.reported ∧ sensorRead s i < 1000) ∧ s.dev.heldInReset = false ∧ s.dev.resetLow = false ∧
     ({ s.dev with heldInReset := true } : Dev).heldInReset = true ∧
     ¬ (∀ i, i < 26 → sensorRead { s with power := { sensor := [(0, 1000)], reported := List.range 26 } } i < 1000) ∧
     ¬ (∀ i, i < 26 → i ∈ ({} : Power).reported) ∧ ∀ i, i < 16 → i ∈ s.power.reported) := by decide

/-- Regulators' answers: a fault, 931 mV, one within 30 mV of its setpoint, a fixed rail's fault outside FAULT. -/
theorem witness_telemetry : let s := { State.reset with power := { quarter := [(0, { setpoint := 750 })] } }
    0 ∉ s.fabric.lost ∧ (⟨true, true, 750, 0⟩ : RegulatorRead).fault = true ∧ 930 < (⟨true, false, 931, 0⟩ : RegulatorRead).mv ∧
    (let r : RegulatorRead := ⟨true, false, 780, 1000⟩
     r.valid = true ∧ r.fault = false ∧ r.mv ≤ (s.qpower 0).setpoint + 30 ∧ (s.qpower 0).setpoint ≤ r.mv + 30 ∧ r.mv ≤ 930 ∧ (s.qpower 0).sum = 0) ∧
    ((State.reset.qpower 0).setpoint = 0 ∧ 600 ≤ (⟨true, false, 700, 0⟩ : RegulatorRead).mv ∧ (⟨true, false, 700, 0⟩ : RegulatorRead).mv ≤ 750) ∧
    (97 * (fixedRails.getD 0 (0, 0)).2 ≤ 100 * (⟨true, false, 820, 0⟩ : RegulatorRead).mv ∧ 100 * (⟨true, false, 820, 0⟩ : RegulatorRead).mv ≤ 103 * (fixedRails.getD 0 (0, 0)).2) ∧
    s.dev.state ≠ .fault ∧ ((⟨false, false, 0, 0⟩ : RegulatorRead).valid = false ∧ (s.qpower 0).noAnswer + 1 < 3) ∧ (inState .fault s).dev.state = .fault ∧
    0 ∈ ({ lost := [0] } : Fabric).lost := by decide

/-- Power states asked for with and without a context that takes work; DEEP SLEEP ready and abandoned; the ways to RUN. -/
theorem witness_power_states : let s := fun (p : Power) => inState .run { State.reset with power := p }
    ¬ (runtimeState (s {}) = false ∨ anyActive (s {}) = true ∨ (s {}).dev.thermTrip = true) ∧ anyActive { s {} with ctxs := [(0, { st := .active })] } = true ∧
    (let t := { s { sleepAsked := some 0 } with hmp := { chan := [(0, { power := 1 }), (1, { power := 1 })] } }
     t.power.sleepAsked ≠ none ∧ (t.chan 0).power = 1 ∧ (t.chan 1).power = 1 ∧ bothAsleep t = true) ∧
    (let t := later 100000000 (s { sleepAsked := some 0 }); t.power.sleepAsked = some 0 ∧ 0 + 100000000 ≤ t.now ∧ bothAsleep t = false) ∧
    (later 99999990 (s { sleepAsked := some 0 })).now < 0 + 100000000 ∧ (s { pstate := 3 }).power.pstate = 3 ∧
    ((s { pstate := 2 }).power.pstate = 2 ∧ runtimeState (s { pstate := 2 }) = true ∧ (s { pstate := 2 }).dev.thermTrip = false) ∧
    ((s {}).power.pstate ≠ 2 ∧ (s {}).power.pstate ≠ 3 ∧ runtimeState (s {}) = true) := by decide

/-- Zones idle and not yet idle, waking well and failed, failing; words that fail first and again. -/
theorem witness_zones : let s := later 200000 State.reset
    (s.zone 0).on = true ∧ (∀ g ∈ zoneCells 0, isClaimed s g = false ∧ cellRuns s g = false ∧ isReserved s g = false ∧ (s.cell g).idleSince + 200000 ≤ s.now) ∧
    ¬ (∀ g ∈ zoneCells 0, ((later 199990 s).cell g).idleSince + 200000 ≤ (later 199990 s).now) ∧ (s.zone 0).waking = false ∧
    (let t := { s with power := { zone := [(0, { on := false, waking := true }), (1, { on := false, waking := true, failed := true })] } }
     (t.zone 0).waking = true ∧ (t.zone 0).failed = false ∧ (t.zone 1).waking = true ∧ (t.zone 1).failed = true ∧ (t.zone 0).on = false) ∧
    (let t : Nat → State := fun n => { s with cells := [(1, { service := 1 }), (0, { forced := true })], power := { cellLimit := n, zone := [(1, { waking := true, failed := true }), (0, { waking := true })] } }
     1 ∈ zoneCells (zoneOf 1) ∧ zoneOf 1 = 1 ∧ (zoneCells 1).filter (fun (g : Nat) => decide ((State.cell (t 1) g).service = 1)) = [1] ∧
     claimedCount (t 1) + 1 ≤ (t 1).power.cellLimit ∧ (t 0).power.cellLimit < claimedCount (t 0) + 1 ∧ ((t 1).cell 0).forced = true ∧ ((t 1).cell 0).claim = none) ∧
    ((s.zone 0).failed = false ∧ (s.zone 0).held = [] ∧ ∀ g ∈ zoneCells 0, (s.cell g).claim = none) ∧
    ({ State.reset with power := { zone := [(0, { on := false })] } } : State).zone 0 = { on := false } ∧
    (0, (64 : BitVec 36).toNat) ∈ ({ bad := [(0, 64)] } : Fabric).bad ∧ (0, (64 : BitVec 36).toNat) ∉ s.fabric.bad ∧
    (0, (64 : BitVec 36).toNat) ∈ ({ fixedLast := [(0, 64)] } : Resil).fixedLast ∧ (0, (64 : BitVec 36).toNat) ∉ s.resil.fixedLast ∧
    powered s = true ∧ s.power.pstate ≠ 3 ∧ s.dev.thermTrip = false := by decide

/-- Pins and supplies in each combination, a held and an open restart, the warm-restart command's values. -/
theorem witness_resets : let s := fun (d : Dev) => { State.reset with dev := d }
    State.reset.dev.porLow = false ∧ (s { porLow := true }).dev.porLow = true ∧ supplied { (s { porLow := true }).dev with porLow := false } = true ∧
    (s { porLow := true }).dev.testEn = false ∧ (s { porLow := true, testEn := true }).dev.testEn = true ∧
    supplied { (s { porLow := true, railsOut := [.fixed 8] }).dev with porLow := false } = false ∧
    ((s { refclk := false }).dev.refclk = false ∧ supplied { (s { refclk := false }).dev with refclk := true } = true) ∧
    Rail.fixed 0 ∉ State.reset.dev.railsOut ∧ Rail.fixed 0 ∈ (s { railsOut := [.fixed 0] }).dev.railsOut ∧ supplied (s { railsOut := [.fixed 0] }).dev = true ∧
    (let d : Dev := { railsOut := [.fixed 0], railReset := true }; supplied d = false ∧ supplied { d with railsOut := [], railReset := false } = true) ∧
    State.reset.boot.noImage = false ∧ ({ noImage := true } : Boot).noImage = true ∧ supplied (s { porLow := true }).dev = false ∧
    supplied State.reset.dev = true ∧ powered (s { porLow := true }) = false ∧ powered State.reset = true ∧ State.reset.power.pstate ≠ 3 ∧
    (s { thermTrip := true }).dev.thermTrip = true ∧ (s { thermTrip := true }).dev.restartHeld = false ∧ alwaysState State.reset = false ∧
    alwaysState (inState .config State.reset) = true ∧ 1 < (2 : Byte).toNat := by decide

/-- Bytes of 0 from a byte address on. -/
def zerosFrom (a : Nat) : Nat → Mem
  | 0 => []
  | n + 1 => (a, 0) :: zerosFrom (a + 1) n

theorem lookup_zeros (n a k : Nat) (r : Mem) :
    lookup 0xFF (zerosFrom a n ++ r) k = if a ≤ k ∧ k < a + n then 0 else lookup 0xFF r k := by
  induction n generalizing a with
  | zero => simp [zerosFrom]
  | succ n ih =>
    simp only [zerosFrom, List.cons_append, lookup, ih]
    by_cases h : k = a
    · subst h; simp
    · by_cases h2 : a ≤ k ∧ k < a + (n + 1)
      · rw [if_neg h, if_pos h2, if_pos (by omega)]
      · rw [if_neg h, if_neg h2, if_neg (by omega)]

theorem lookup_skip (l r : Mem) (k : Nat) (h : ∀ p ∈ l, p.1 < k) : lookup 0xFF (l ++ r) k = lookup 0xFF r k := by
  induction l with
  | nil => rfl
  | cons p l ih =>
    have hp : k ≠ p.1 := by have := h p (by simp); omega
    simp only [List.cons_append, lookup, if_neg hp]
    exact ih (fun q hq => h q (by simp [hq]))

/-- A golden image of 4,096 bytes of 0xFF after its header, retained from before a DEEP SLEEP. -/
def goldenHead : Mem :=
  [(0x1100000, 0x51), (0x1100001, 0x4B), (0x1100002, 0x46), (0x1100003, 0x57), (0x1100004, 1), (0x1100005, 0), (0x1100006, 0), (0x1100007, 0),
   (0x1100008, 0), (0x1100009, 0), (0x110000A, 0), (0x110000B, 0), (0x110000C, 0), (0x110000D, 0x10), (0x110000E, 0), (0x110000F, 0),
   (0x1100010, 0x40), (0x1100011, 0x64), (0x1100012, 0xB1)]
def goldenHeader : Mem := goldenHead ++ (zerosFrom 0x1100013 45 ++ (zerosFrom 0x11000C4 828 ++ (zerosFrom 0x1100F04 252 ++ [])))
def woken : State :=
  let s : State := { State.reset with boot := { flash := goldenHeader, fastWake := true } }
  let c := candidate s 2
  { s with boot := { s.boot with retained := some (2, headerDigest c.1, digest (c.1 ++ c.2)) } }

theorem woken_fast : fastCandidate woken (candidates woken true) [] = some 2 := by
  simp [fastCandidate, candidates, woken, candidate, slotHeader, flashBytes, flashByte]

/-- A field of the header is zeros where the image has them. -/
theorem woken_zeros (a n : Nat) (h : 19 ≤ a ∧ a + n ≤ 64 ∨ 196 ≤ a ∧ a + n ≤ 1024 ∨ 3844 ≤ a ∧ a + n ≤ 4096) :
    (hdrBytes (slotHeader woken 2) a n).all (· == 0) = true := by
  have hf : woken.boot.flash = goldenHeader := rfl
  simp only [hdrBytes, slotHeader, flashBytes, List.all_eq_true, ← List.map_drop, ← List.map_take, List.mem_map]
  rintro x ⟨i, hi, rfl⟩
  have hi2 : a ≤ i ∧ i < a + n := by
    rw [List.mem_take_iff_getElem] at hi
    obtain ⟨j, hj, rfl⟩ := hi
    simp at hj ⊢
    omega
  have hp : ∀ p ∈ goldenHead, p.1 < slotBase 2 + i := by
    intro p hp
    have : ∀ p ∈ goldenHead, p.1 ≤ 0x1100012 := by decide
    have := this p hp
    simp only [slotBase]
    omega
  have hk : slotBase 2 + i = 0x1100000 + i := rfl
  have hz : lookup 0xFF goldenHeader (slotBase 2 + i) = 0 := by
    unfold goldenHeader
    rw [lookup_skip _ _ _ hp, hk, lookup_zeros, lookup_zeros, lookup_zeros]
    rcases h with h | h | h
    · exact if_pos (by omega)
    · exact (if_neg (by omega)).trans (if_pos (by omega))
    · exact (if_neg (by omega)).trans ((if_neg (by omega)).trans (if_pos (by omega)))
  rw [beq_iff_eq]
  exact hz

theorem woken_shape : shapeOk (slotHeader woken 2) 4096 = true := by
  unfold shapeOk
  rw [woken_zeros 196 828 (by decide), woken_zeros 3844 252 (by decide)]
  decide +kernel
theorem woken_part : hdrField (slotHeader woken 2) 16 2 = 0x6440 ∧ hdrField (slotHeader woken 2) 18 1 = 0xB1 ∧
    hdrField (slotHeader woken 2) 8 4 = 0 ∧ hdrField (slotHeader woken 2) 12 4 = 4096 := by decide +kernel

/-- Stage 0 in every state that it passes over; a candidate that it takes; images that read with errors; the end of boot. -/
theorem witness_stage0 : powered woken = true ∧ woken.dev.state = .boot ∧ woken.boot.released = false ∧ woken.boot.noImage = false ∧
    candidates woken true = [2] ∧ judge woken [] (fastCandidate { woken with dev := { woken.dev with goldenLow := true } } (candidates woken true) []) 2 = 1 := by
  refine ⟨rfl, rfl, rfl, rfl, rfl, ?_⟩
  have hf : fastCandidate { woken with dev := { woken.dev with goldenLow := true } } (candidates woken true) [] = some 2 := woken_fast
  have hn : (flashBytes woken (slotBase 2 + 4096) 4096).length = 4096 := by simp [flashBytes]
  obtain ⟨h1, h2, h3, h4⟩ := woken_part
  rw [hf]
  simp [judge, candidate, imageReason, h1, h2, h3, h4, hn, woken_shape, show woken.boot.rollback = 0 from rfl]

/-- The same image below the rollback value, and one that cannot be read: nothing passes. -/
def stale : State := { woken with boot := { woken.boot with rollLog := ({} : CounterLog).push 1 } }
theorem stale_fast : fastCandidate stale (candidates stale true) [] = some 2 := by
  simp [fastCandidate, candidates, stale, woken, candidate, slotHeader, flashBytes, flashByte]
theorem witness_stage0_none : judge stale [] (fastCandidate { stale with dev := { stale.dev with goldenLow := true } } (candidates stale true) []) 2 = 6 ∧
    (∀ f, judge State.reset [true, true, false] f 2 = 8) := by
  refine ⟨?_, fun f => rfl⟩
  have hf : fastCandidate { stale with dev := { stale.dev with goldenLow := true } } (candidates stale true) [] = some 2 := stale_fast
  have hc : candidate stale 2 = candidate woken 2 := rfl
  have hn : (flashBytes woken (slotBase 2 + 4096) 4096).length = 4096 := by simp [flashBytes]
  have hr : stale.boot.rollback = 1 := by decide +kernel
  obtain ⟨h1, h2, h3, h4⟩ := woken_part
  rw [hf, judge, hc]
  simp [candidate, imageReason, h1, h2, h3, h4, hn, woken_shape, hr]

/-- An image that the part's keys verify and that is newer than the running one. -/
theorem witness_update (l : List Byte) (h : imageReason 0 false (l.take 4096) ((l.drop 4096).take (hdrField (l.take 4096) 12 4)) = 1)
    (hn : 0 < hdrField (l.take 4096) 8 4) : imageReason State.reset.boot.rollback false (l.take 4096) ((l.drop 4096).take (hdrField (l.take 4096) 12 4)) = 1 ∧
    State.reset.boot.seq < hdrField (l.take 4096) 8 4 ∧ asleep State.reset = false :=
  ⟨h, hn, rfl⟩

theorem flash_erased (a n : Nat) : flashBytes State.reset a n = List.replicate n 0xFF := by
  refine List.eq_replicate_iff.mpr ⟨by simp [flashBytes], fun b hb => ?_⟩
  obtain ⟨i, _, rfl⟩ := List.mem_map.mp hb
  rfl

/-- The erased flash holds no record and has room for one; an image of 0xFF stands in slot A. -/
theorem witness_commit : recordCount State.reset = 1 ∧ recordSector State.reset = 0 ∧ (flashBytes State.reset 0 64).all (· == 0xFF) = true ∧
    (1 : Nat) < 2 ^ 32 ∧ flashBytes State.reset (slotBase 0) (List.replicate 4096 (0xFF : Byte)).length = List.replicate 4096 0xFF := by
  refine ⟨by decide +kernel, by decide +kernel, by decide, by decide, ?_⟩
  rw [List.length_replicate]
  exact flash_erased _ _

theorem witness_boot : ({ State.reset with boot := { released := true } } : State).boot.released = true ∧ State.reset.boot.released = false ∧
    (let s := { State.reset with boot := { released := true }, fabric := { linkUp := [0, 1, 2, 3] } }
     powered s = true ∧ s.dev.state = .boot ∧ s.boot.released = true ∧ (∀ q, q < 4 → q ∈ s.fabric.linkUp) ∧ s.dev.alHeld = none ∧ s.dev.restartReason = 0 ∧ s.dev.thermTrip = false ∧
     (∀ r ∈ s.dev.railsOut, railNumber r < 4) ∧ s.dev.state ≠ .fault) ∧
    ([Rail.vddQ 0, .fixed 0] : List Rail).find? (fun r => decide (4 ≤ railNumber r)) = some (.fixed 0) ∧
    (∀ a ∈ [AlAsk.init, .preop, .safeop, .op, .bootstrap], ({ alHeld := some a } : Dev).alHeld = some a) ∧ (inState .fault State.reset).dev.state = .fault ∧
    (inState .config State.reset).dev.state ≠ .boot := by decide

/-- Updates in and out of their states, busy and free, at each step; nonces of 31 and 32 bytes; quotes with and without a nonce. -/
theorem witness_updates : let s := inState .config State.reset
    let u : Upd := ⟨[1], 0, false⟩
    let at_ := fun (n : Nat) (f : Mem) => { s with boot := { upd := some u, step := n, flash := f } }
    setupState State.reset = false ∧ setupState s = true ∧ (2 : Byte) ≠ 1 ∧ (at_ 2 []).boot.upd ≠ none ∧ s.boot.upd = none ∧
    (at_ 2 []).boot.upd = some u ∧ u.foe = false ∧ asleep (at_ 2 []) = false ∧ asleep { at_ 2 [] with power := { pstate := 2 } } = true ∧ (u.target < 2 ∧ u.image.length ≤ 0x800000) ∧
    flashBytes (at_ 4 [(0x100000, 1)]) (slotBase u.target) u.image.length = u.image ∧ flashBytes (at_ 4 []) (slotBase u.target) u.image.length ≠ u.image ∧
    alwaysState s = true ∧ ([] : List Byte).length ≠ 32 ∧ (List.replicate 32 (0 : Byte)).length = 32 ∧
    (let t := { s with boot := { nonce := some [], latchOpen := true } }
     t.boot.nonce = some [] ∧ t.boot.latchOpen = true ∧ t.boot.leaf < 65536) ∧ ({ nonce := none } : Boot).nonce = none ∧
    ({ leafLog := ⟨false, [(65536, crc32 [0, 0, 1, 0])]⟩ } : Boot).leaf = 65536 ∧
    (∀ n ∈ [2, 3, 4, 5, 6], (at_ n []).boot.step = n) ∧ ({ u with foe := true } : Upd).foe = true ∧ badIn s 0 1 = [] ∧
    badIn { s with fabric := { bad := [(0, 0)] } } 0 1 ≠ [] ∧ ({ activation := 1 } : Boot).activation = 1 ∧ s.boot.activation ≠ 1 ∧
    (let t := { s with boot := { activation := 1, activating := [0, 4] }, tackers := [(0, { state := 2 })] }
     t.boot.activating = 0 :: [4] ∧ (t.tacker (4 - 4)).state = 2 ∧ s.boot.activating = [] ∧ (s.tacker (4 - 4)).state = 0) ∧
    imageReason 0 false [] [] ≠ 1 := by decide +kernel

/-- No image of an erased flash is newer than the largest SEQ. -/
def oldest : State := inState .config { State.reset with boot := { seq := 0xFFFFFFFF } }
theorem oldest_seq : ∀ k, k < 2 → hdrField (slotHeader oldest k) 8 4 = 0xFFFFFFFF := by decide +kernel
theorem witness_nothing_new : setupState oldest = true ∧ committedNew oldest = none := by
  refine ⟨rfl, ?_⟩
  simp [committedNew, oldest_seq 0 (by decide), oldest_seq 1 (by decide), show oldest.boot.seq = 0xFFFFFFFF from rfl]

/-! ### States that meet the hypotheses: the field port -/

/-- The device in a state, its AL state, its field port. -/
def fieldIn (d : DevState) (a : AlState) (f : FieldPort) : State := { State.reset with dev := { state := d, al := a }, field := f }
/-- SyncManagers as R302 lays them out, with lengths of SM2 and SM3; FP_SYNC0 off. -/
def sms (two three : Nat) : EscConfig :=
  ⟨[(true, 0x1000, 1024, false), (true, 0x1400, 1024, false), (true, 0x1800, two, true), (true, 0x2400, three, true)], false, 0, {}⟩

/-- AL requests in each state; SyncManagers that pass the checks for SAFEOP and that fail one. -/
theorem witness_al : ({ State.reset with power := { pstate := 3 } } : State).power.pstate = 3 ∧ cobblerUp State.reset = true ∧ State.reset.dev.state = .boot ∧
    (let s := fieldIn .run .op {}; cobblerUp s = true ∧ s.dev.state ≠ .boot ∧ s.dev.hostControl ≠ 1 ∧ runtimeState s = true ∧ s.dev.al = .op) ∧
    runtimeState (fieldIn .config .preop {}) = false ∧ (fieldIn .fault .preop {}).dev.state = .fault ∧ cobblerUp (fieldIn .fault .preop {}) = true ∧
    (fieldIn .config .init {}).dev.al = .init ∧
    (safeopCheck (fieldIn .config .preop {}) (sms 2 67) = none ∧ safeopCheck (fieldIn .config .preop {}) (sms 2 66) = some 0x001E ∧
      (fieldIn .config .preop {}).dev.al = .preop ∧ (fieldIn .config .preop {}).dev.state ≠ .fault) ∧
    (let s := fieldIn .ready .safeop { esc := sms 2 67 }; s.dev.al = .safeop ∧ s.field.sm2Written = false ∧ smLength s.field.esc 2 ≠ 0) ∧
    (fieldIn .ready .safeop { esc := sms 2 67, sm2Written := true }).field.sm2Written = true ∧ isDegraded State.reset = false ∧
    isDegraded { State.reset with fabric := { lost := [3] } } = true ∧
    (let s := fieldIn .run .op { esc := sms 2 67 }; s.dev.al = .op ∧ smLength s.field.esc 2 ≠ 0) ∧ State.reset.dev.al ≠ .op := by decide

/-- Copies due and not due in free run and with SYNC0; the first control word; SYNC0 edges on time and too early. -/
theorem witness_process_data : (let s := fieldIn .run .op {}; cobblerUp s = true ∧ s.dev.al = .op ∧ s.now % 62500 = 0 ∧ ¬ (later 10 s).now % 62500 = 0) ∧
    (let s := fieldIn .run .op { inType := 2, inDue := some 10 }; s.field.inType = 2 ∧ s.field.inDue = some 10 ∧ (10 : Nat) ≤ (later 10 s).now ∧ s.now < 10) ∧
    ¬ (State.reset.dev.al = .safeop ∨ State.reset.dev.al = .op) ∧
    (let s := fieldIn .run .op { esc := sms 2 67 }; ([0, 0] : List Byte).length = smLength s.field.esc 2 ∧ s.field.outType ≠ 2) ∧
    (let s := fieldIn .ready .safeop { esc := sms 2 67, outType := 2 }; s.dev.al = .safeop ∧ s.field.outType = 2 ∧ s.field.outDue = none) ∧
    State.reset.dev.ctlFresh = true ∧ ({ ctlFresh := false } : Dev).ctlFresh = false ∧ powered State.reset = true ∧
    (let s := fieldIn .run .op { inType := 2, latchAt := some 0 }; s.field.inType = 2 ∧ s.field.latchAt = some 0 ∧ (later 9999 s).now < 0 + 10000) ∧
    (fieldIn .run .op { inType := 2 }).field.latchAt = none ∧
    (let e : EscConfig := { (sms 2 67) with sync0Active := true, sync0Cycle := 100 }
     let s := later 200 (fieldIn .run .op { esc := e, inType := 2, outType := 2 })
     powered s = true ∧ syncOn e 0 = true ∧ syncTick e 0 s.now = true ∧ syncTick e 0 150 = false ∧ s.field.inDue = none ∧ s.field.outDue = none ∧
     ({ inDue := some 300, outDue := some 300 } : FieldPort).inDue ≠ none ∧ (fieldIn .config .preop {}).dev.al ≠ .safeop) ∧
    (let j := { jobOn [0] with argAt := some 0 }; j.argAt = some State.reset.now ∧ j.tStart = none ∧ (jobOn [0]).argAt ≠ some State.reset.now) ∧ powered { State.reset with dev := { porLow := true } } = false := by decide

/-- Host control taken and not; bindings free and taken; mapping objects: bad index, missing entry, in and out of CONFIG, good and bad. -/
theorem witness_field_control : alwaysState State.reset = false ∧ (let s := { fieldIn .ready .init {} with dev := { state := .ready, hostControl := 1 } }
      alwaysState s = true ∧ setupState s = true ∧ s.dev.hostControl = 1 ∧ s.dev.state ≠ .degraded ∧ isDegraded s = false) ∧
    (fieldIn .ready .safeop {}).dev.hostControl ≠ 1 ∧ configState (fieldIn .ready .safeop {}) = false ∧ configState (fieldIn .config .preop {}) = true ∧
    leafIsSet ({ leaf := [(11, 1)] } : Causes) (.main gThermal 0) = true ∧
    (let s := fieldIn .config .preop { arg := [(1, { binding := 0x8005 })] }
     (0x8005 : BitVec 16).getLsbD 15 = true ∧ argTaken s 0 ((0x8005 : BitVec 16).toNat % 4096) = true ∧ argTaken s 1 ((0x8005 : BitVec 16).toNat % 4096) = false) ∧
    (isTxMap 0x2000 = false ∧ isRxMap 0x2000 = false ∧ isAssign 0x2000 = false) ∧ (isTxMap 0x1A00 = true ∧ odEntry 0x1A00 65 = none ∧ odEntry 0x1A02 1 ≠ none) ∧
    (let s := fieldIn .config .preop {}
     let m := put 0 s.field.pdo (0x1A02 * 256 + 1) 0x20010010
     pdoOk s.field.pdo 0x1A02 1 0x20010010 = true ∧ mappedBytes m true ≤ 2560 ∧ mappedBytes m false ≤ 1024 ∧ pdoOk s.field.pdo 0x1A00 1 0x20010010 = false) := by decide

/-- Entries that are missing, read-only, write-only and writable; lengths and booleans in and out of range. -/
theorem witness_entries : reachable State.reset = false ∧ reachable (fieldIn .config .preop {}) = true ∧ odRows 0x5FFF = [] ∧
    (odRows 0x1000 ≠ [] ∧ odEntry 0x1000 1 = none) ∧ (∃ r, odEntry 0x1000 0 = some r ∧ r.acc = .const) ∧
    (∃ r, odEntry 0x2020 5 = some r ∧ r.acc = .wo ∧ r.acc ≠ .ro ∧ r.acc ≠ .const ∧ r.typ = .boolean ∧ classOk (fieldIn .config .preop {}) r.cls = true ∧
      lengthOk r.typ 1 = true ∧ lengthOk r.typ 2 = false ∧ 1 < leNat [2] ∧ leNat [1] ≤ 1) ∧
    (∃ r, odEntry 0x1600 0 = some r ∧ r.acc = .rw ∧ classOk (fieldIn .run .op {}) r.cls = false) ∧ ¬ (0x1600 = 0x2710 ∧ 0 = 2) := by
  refine ⟨by decide, by decide, by decide, by decide, ⟨_, rfl, by decide⟩, ⟨_, rfl, by decide⟩, ⟨_, rfl, by decide⟩, by decide⟩

/-- SDO: an entry that answers with an abort, one that answers whole and one in segments; downloads whole, too long and segmented. -/
theorem witness_sdo : let s := fieldIn .config .preop {}
    mailboxOn s = true ∧ mailboxOn State.reset = false ∧ (odRead s 0x1000 1).2.1 ≠ 0 ∧
    ((odRead s 0x1000 0).2.1 = 0 ∧ (odRead s 0x1000 0).2.2.length ≤ 1008) ∧ ([1] : List Byte).length = 1 ∧ (1 : Nat) ≠ 2 ∧ 65536 < 65537 ∧
    (∃ r, odEntry 0x1600 0 = some r ∧ r.acc ≠ .ro ∧ r.acc ≠ .const) ∧ odRows 0x5FFF = [] ∧ (odRows 0x1000 ≠ [] ∧ caWritable 0x1000 = false) ∧
    (odRows 0x1600 ≠ [] ∧ caWritable 0x1600 = true) := by
  refine ⟨by decide, by decide, by decide, by decide, by decide, by decide, by decide, ⟨_, rfl, by decide⟩, by decide, by decide, by decide⟩

theorem witness_sdo_complete : let s := fieldIn .config .preop {}
    (caRead s 0x1C00 1).2.1 = 0 ∧ (caRead s 0x1C00 1).2.2.length ≤ 1008 ∧ odRows 0x1C00 ≠ [] := by decide

/-- Segments with each toggle bit, of an upload and of a download that is whole, too short and not at its end; a timeout after 1 s. -/
theorem witness_segments : let x : SdoSeg := ⟨false, 0x1600, 0, 2, [0], false, 0⟩
    let s := fieldIn .config .preop { sdo := some x }
    mailboxOn s = true ∧ s.field.sdo = some x ∧ (fieldIn .config .preop {}).field.sdo = none ∧ true ≠ x.toggle ∧ false = x.toggle ∧ x.upload = false ∧
    ({ x with upload := true } : SdoSeg).upload = true ∧ (x.data ++ [1]).length = x.total ∧ (x.data ++ []).length ≠ x.total ∧ (x.data ++ []).length ≤ x.total ∧
    s.now < x.since + 1000000000 ∧ x.since + 1000000000 ≤ (later 1000000000 s).now ∧ x.data.length ≤ 1015 ∧ ([1] : List Byte).length ≤ 1015 := by decide

/-- FoE: names of both kinds and of none, places good and bad, transfers of each kind in and out of order. -/
theorem witness_foe : let s := fun (x : Option FoeSt) => fieldIn .config .preop { foe := x }
    mailboxOn State.reset = false ∧ mailboxOn (s none) = true ∧ foeOpen (s none) = true ∧ foeOpen (fieldIn .fault .preop {}) = false ∧ (s none).boot.upd = none ∧
    ({ upd := some ⟨[], 0, true⟩ } : Boot).upd ≠ none ∧ (ascii "PLM:000000020" ≠ ascii "FIRMWARE" ∧ plmName (ascii "PLM:000000020") = some 32 ∧ 32 % 32 = 0) ∧
    plmName (ascii "OTHER") = none ∧ (plmName (ascii "PLM:000000021") = some 33 ∧ 33 % 32 ≠ 0) ∧ foeBusy (s none) = false ∧
    foeBusy { s (some ⟨2, 0, 1, []⟩) with boot := { upd := some ⟨[], 0, false⟩ } } = true ∧ (s (some ⟨3, 0, 0, []⟩)).field.foe = some ⟨3, 0, 0, []⟩ ∧
    badIn (s none) 32 1012 = [] ∧ badIn { s none with fabric := { bad := [(0, 32)] } } 32 1012 ≠ [] ∧
    (lostIn (s none) 32 1012 = false) ∧
    (s (some ⟨0, 0, 1, []⟩)).field.foe = some ⟨0, 0, 1, []⟩ ∧ (2 : BitVec 32).toNat ≠ 1 ∧ (1 : BitVec 32).toNat = 1 ∧ ([0] : List Byte).length < 1012 ∧
    ([] ++ [0] : List Byte).length ≤ 6295552 ∧ (plmLand { s none with fabric := { tags := [(1, 0x1001)] }, ctxs := [(1, { st := .active, gen := 1 })] } 32 [1]).2 = false := by
  decide

theorem witness_foe_sizes : (List.replicate 1012 (0 : Byte)).length = 1012 ∧ 32 < lpddrSize ∧ 1012 * (1 - 1) + 1 ≤ min 268435456 (lpddrSize - 32) ∧
    (plmChunk State.reset 32 1).length = 1012 := by
  refine ⟨List.length_replicate .., ?_, ?_, ?_⟩
  · unfold lpddrSize; cases Config.grade64 <;> decide
  · unfold lpddrSize; cases Config.grade64 <;> decide
  · simp only [plmChunk, foePacket, readBytes, List.length_map, List.length_range]
    unfold lpddrSize; cases Config.grade64 <;> decide

/-- Mailbox types, messages that wait, a queue of 16. -/
theorem witness_messages : mailboxOn (fieldIn .config .preop {}) = true ∧ ((3 : Byte) = 3 ∧ (5 : Byte) ≠ 3 ∧ (5 : Byte) ≠ 4) ∧
    (let m : EmMsg := ⟨0xFF00, 0, 0, 0, 0, 0⟩
     let s := { fieldIn .config .preop {} with causes := { emQueue := List.replicate 16 m } }
     s.causes.emQueue = m :: List.replicate 15 m ∧ s.dev.al ≠ .init ∧ 16 ≤ s.causes.emQueue.length) ∧ State.reset.causes.emQueue = [] := by decide

/-- Clock updates within and beyond 1 us, steps in and out of CONFIG, links held and not, the bypass in each state, the TAP. -/
theorem witness_clocks : supplied State.reset.dev = true ∧ supplied ({ porLow := true } : Dev) = false ∧ 1000 < (1001 : BitVec 32).toInt ∧
    (let s := { State.reset with dev := { dcSynced := true } }; s.dev.dcSynced = true ∧ syncHolds s = false) ∧ State.reset.dev.state = .boot ∧
    ((fieldIn .run .op {}).dev.state ≠ .boot ∧ (fieldIn .run .op {}).dev.state ≠ .config) ∧ powered State.reset = true ∧
    ((TimeWrite.offset 5 = .offset 5 ∧ TimeWrite.localTime 7 = .localTime 7) ∧
     (let s := { later 50 (fieldIn .config .preop {}) with dev := { (later 50 (fieldIn .config .preop {})).dev with driftAt := some 40 } }
      s.dev.driftAt = some 40 ∧ (40 : Nat) ≤ s.now ∧ s.now - 40 ≤ 1000 ∧ s.dev.state = .config ∧ supplied s.dev = true)) ∧
    (let s := fieldIn .run .op { latchLast := [(0, 1)] }; 0 < lookup 0 s.field.latchLast 0 ∧ (later 19 s).now + 1 < lookup 0 s.field.latchLast 0 + 20 ∧
      ¬ (later 20 s).now + 1 < lookup 0 s.field.latchLast 0 + 20) ∧
    (fieldIn .run .op { links := 1 }).field.links.getLsbD 0 = true ∧ State.reset.field.links.getLsbD 0 = false ∧ State.reset.dev.bypassPin = false ∧
    State.reset.dev.bypass ≠ 3 ∧ ({ bypassPin := true } : Dev).bypassPin = true ∧ ({ bypass := 3 } : Dev).bypass = 3 ∧
    alwaysState (fieldIn .run .op {}) = true ∧ 1 < (2 : Byte).toNat := by decide

/-- Stage 0 may run from reset; mailbox answers where the dictionary can be reached; every pair of answers. -/
theorem witness_rules : powered State.reset = true ∧ State.reset.dev.state = .boot ∧ State.reset.boot.released = false ∧ State.reset.boot.noImage = false ∧
    reachable (fieldIn .config .preop {}) = true ∧ ((0, 0) : Nat × Nat) ∈ [((0, 0) : Nat × Nat), (0x08000022, 1)] := by decide

/-- An entry that an SDO upload sends in segments. -/
theorem witness_long_upload : let s := fieldIn .config .preop {}
    (odRead s 0x3000 0x11).2.1 = 0 ∧ 1008 < (odRead s 0x3000 0x11).2.2.length := by decide +kernel

/-! ### The manual's worked examples

Each expected value stands in a worked example of the section named. -/

/-- spec/00: cell 2.1.3 is cell 39; its zone also holds cells 35, 43 and 47. -/
theorem test_cell_39 : 2 * 16 + 1 * 4 + 3 = 39 ∧ quarterOf 39 = 2 ∧ positionOf 39 = 3 ∧ zoneCells (zoneOf 39) = [35, 39, 43, 47] := by decide

/-- spec/02, FP32 to E4M3: 3.3, 0.004, 464, 470 and -0. -/
theorem test_narrow_e4m3 : narrowElem 2 (f32 0x40533333) = ⟨0x45, false, false⟩ ∧ narrowElem 2 (.fin false 4 1000) = ⟨0x02, false, false⟩ ∧
    narrowElem 2 (.fin false 464 1) = ⟨0x7E, false, false⟩ ∧ narrowElem 2 (.fin false 470 1) = ⟨0x7E, true, false⟩ ∧
    (narrowElem 2 (.fin true 0 1)).code = 0x80 := by decide

/-- spec/02, one MX block pair: three products of a block with scales 0x7C and 0x81 on an accumulator of 2 ^ 24. -/
theorem test_mx_block : mxDot 3 ⟨[elemVal 4 0x45, elemVal 4 0xC0, elemVal 4 0x30], [], [0x7C], 0⟩ ⟨[elemVal 8 0x3, elemVal 8 0x5, elemVal 8 0xF], [], [0x81], 0⟩
    { val := 0x4B800000 } = { val := 0x4B7FFFFE } := by decide

/-- spec/02, asymmetric INT8 narrowing with scale 0.0625 and zero point 10. -/
theorem test_quantise : quantInt 8 (.fin false 97 32) (f32 0x3D800000) 10 = (58, false, false) ∧ quantInt 8 (.fin false 99 32) (f32 0x3D800000) 10 = (60, false, false) ∧
    quantInt 8 (.fin false 255 32) (f32 0x3D800000) 10 = (127, true, false) ∧ quantInt 8 (.fin true 9 1) (f32 0x3D800000) 10 = (-128, true, false) := by decide

/-- spec/02, a T5B byte; spec/02 R42 to R44: zeros, ones, minus ones, an invalid byte. -/
theorem test_trits : t5bDecode 0xA7 = ([1, 0, -1, -1, 1], false) ∧ t5bDecode 243 = ([0, 0, 0, 0, 0], true) := by decide
theorem test_trit_ends : (t5bDecode 0x79).1 = [0, 0, 0, 0, 0] ∧ (t5bDecode 0xF2).1 = [1, 1, 1, 1, 1] ∧ (t5bDecode 0).1 = [-1, -1, -1, -1, -1] ∧
    t5bEncode [1, 0, -1, -1, 1] = 0xA7 := by decide

/-- spec/02, INT32 overflow: 33,026 products of 65,025 saturate; one fewer does not. -/
theorem test_overflow : (({ val := BitVec.ofInt 32 (33025 * 65025) } : Acc).addI 65025).sat = true ∧
    (({ val := BitVec.ofInt 32 (33024 * 65025) } : Acc).addI 65025).sat = false := by decide

/-- spec/02, CLIP_SHARE: 2,700 clipped of 262,144 at a threshold of 655 posts, 2,600 does not. -/
theorem test_clip_share : clipShare 2700 262144 655 = true ∧ clipShare 2600 262144 655 = false := by decide

/-- spec/02, requantised moments from -0.03 to 0.05: scale 0x0D24, zero point -32, 0.05 at 127. -/
theorem test_moments : (requant [.fin true 3 100, .fin false 5 100]).1 = 0x0D24 ∧ (requant [.fin true 3 100, .fin false 5 100]).2.1 = -32 ∧
    (requant [.fin true 3 100, .fin false 5 100]).2.2.1 = [-128, 127] := by decide

/-- spec/06: output sizes, and the FMC2 block of R160's example. -/
theorem test_map_sizes : outSize 11 0 0 1 2 4 = 3 ∧ outSize 768 1 1 1 3 2 = 384 ∧ outSize 1024 1 1 1 3 2 = 512 ∧ outSize 65 1 0 1 3 1 = 64 := by decide
def fmcBlock : List Int := [-20, -18, -5, 0, 3, 10, 15, 22, -20, -19, 7, 8, 9, -1, 2, 12]
theorem test_fmc2 : let l := fmc2Encode (fmcBlock ++ List.replicate 48 0)
    l.take 2 = [0xEC, 6] ∧ (l.drop 8).take 6 = [0x80, 0xC6, 0xFA, 0x00, 0xDB, 0xB1] ∧
    (fmc2Decode l).take 16 = [-20, -20, -8, -2, 4, 10, 16, 22, -20, -20, 4, 10, 10, -2, 4, 10] := by decide

/-- spec/04, counting a looped program: the hand-off and the final stitch of the first MMA. -/
theorem test_mma_stitches : handOff 1 512 3 = 2048 ∧ handOff 1 512 3 + 64 = 2112 ∧ handOff 1 256 0 = 256 := by decide

/-- spec/07, a rotated crop: output pixel (10, 20) samples (102,784, 265,600); a JPEG frame of 40,337 bytes claims too much. -/
theorem test_rotated_crop : let d := writeBytes [] 64 ([1, 8, 0, 0] ++ leBytes 2 270 ++ leBytes 2 320 ++ leBytes 2 320 ++ leBytes 2 0 ++ leBytes 2 1280 ++ leBytes 2 1080)
    coordBuiltIn d 0 10 20 = (102784, 265600) := by decide
theorem test_overclaim : let x : Slot := { desc := [(9, 32), (11, 32)] }
    (declaredCheck x (.jpeg 8192 8192 2 2 40337)).isSome = true ∧ declaredCheck x (.jpeg 8192 8192 2 2 65536) = none := by decide

/-- spec/09, floor rates at caps of 60 W and 52 W. -/
theorem test_floor : let s := fun (c : Nat) (b : Int) => { State.reset with power := { cap := c, lowBound := b } }
    floorFig (s 60000 (-40)) = ⟨650, 1150, 41000, 64⟩ ∧ floorFig (s 52000 (-40)) = ⟨600, 900, 33000, 64⟩ ∧ floorFig (s 52000 25) = ⟨600, 930, 33000, 64⟩ := by
  decide +kernel

/-- spec/08, admission of context 0x120: t_job on both plans at 1,150 Mst/s and at 900 Mst/s. -/
theorem test_job_times : let x : Ctx := { pkg := some { pkg1 with stripe := ⟨⟨990000, 52000, 0, []⟩, 0, [], 0, []⟩, halo := some ⟨⟨920000, 40000, 0, []⟩, 0, [], 0, []⟩ } }
    tJobAt 1150 x false = 860000 ∧ tJobAt 1150 x true = 932870 ∧ tJobAt 900 x false = 1082223 := by decide

/-- spec/05, one output element in both modes: RNE32(111 / 112) and 111 x RNE32(1 / 112). -/
theorem test_chain_ends : divF32 0x42DE0000 0x42E00000 = 0x3F7DB6DB ∧ divF32 0x3F800000 0x42E00000 = 0x3C124925 ∧
    mulF32 0x42DE0000 0x3C124925 = 0x3F7DB6DC := by decide

end Sys2Proof.Tests
end

/-! SUPPORT. After reset: a cell's page as it reads, and what the object dictionary holds (spec/00 R11, spec/03 R81). -/

namespace Sys2Proof.Machine

open Sys2Proof.Safety

/-- No cell is listed after reset, so each stands at the defaults of its fields. -/
theorem reset_cell (g : Nat) : State.reset.cell g = {} := rfl

theorem cellReg_reset_id (g : Nat) :
    cellReg State.reset g 0 = BitVec.ofNat 64 (0xB1 * 65536 + g * 256 + g / 16 * 16 + g / 4 % 4 * 4 + g % 4) := rfl

/-! A cell whose eyelets hold nothing shows its expected tag alone in EYELET_STATUS (R81). -/

theorem eyeFill_empty {c : CellState} (h : c.eyes = []) (e : Nat) : eyeFill c e = 0 := by simp [eyeFill, h, lookup]

theorem eyeMin_empty {c : CellState} (h : c.eyes = []) (e n : Nat) : eyeMin c e n = 0 :=
  List.foldlRecOn (motive := fun m => m = 0) _ _ (eyeFill_empty h e) fun _ hm _ _ => by rw [hm, eyeFill_empty h, Nat.min_self]

theorem eyeMax_empty {c : CellState} (h : c.eyes = []) (e n : Nat) : eyeMax c e n = 0 :=
  List.foldlRecOn (motive := fun m => m = 0) _ _ (eyeFill_empty h e) fun _ hm _ _ => by rw [hm, eyeFill_empty h, Nat.max_self]

theorem eyeStatus_empty {c : CellState} (h : c.eyes = []) : eyeStatus c = at_ c.tag 25 := by
  simp [eyeStatus, eyeMin_empty h, eyeMax_empty h, eyeFill_empty h, at_]

theorem cellReg_reset_zero (g : Nat) {off : Nat}
    (h : off ∈ [0x008, 0x010, 0x018, 0x020, 0x030, 0x040, 0x048, 0x050, 0x058, 0x060, 0x068, 0x100, 0x108]) :
    cellReg State.reset g off = 0 := by
  fin_cases h <;> simp [cellReg, reset_cell, stateCode, eyeStatus_empty, at_]

theorem cellReg_reset_stallTime (g : Nat) (i : Fin 8) : cellReg State.reset g (0x080 + 8 * i.val) = 0 := by
  fin_cases i <;> rfl

theorem cellReg_reset_stallEvents (g : Nat) (i : Fin 8) : cellReg State.reset g (0x0C0 + 8 * i.val) = 0 := by
  fin_cases i <;> rfl

/-- The settings of spec/09 stand at their defaults: 60 W, 64 cells, 105 degC, -40 degC, order 0. -/
theorem inRange_reset : InRange State.reset := by unfold InRange; decide

/-- Settles O5: the pages of all cells agree but for CELL_ID, and the objects' entries are closed values. -/
theorem atReset : Obligations.AtReset := by
  unfold Obligations.AtReset
  refine ⟨rfl, rfl, rfl, rfl, rfl, fun g => ?_, by decide, by decide, by decide, inRange_reset⟩
  exact ⟨cellReg_reset_id g, rfl, fun o ho => cellReg_reset_zero g ho,
    fun i => ⟨cellReg_reset_stallTime g i, cellReg_reset_stallEvents g i⟩, fun _ => rfl⟩

end Sys2Proof.Machine

/-! SUPPORT. The control of a cell: what halts, starts and fences it, and the writes of its page (spec/03 R81, spec/04 R98). -/

namespace Sys2Proof.Machine

open Sys2Proof.Safety

/-! ### Halting -/

@[simp] theorem haltReqObeyed_st (c : CellState) : (haltReqObeyed c).st = .halted := rfl
@[simp] theorem haltReqObeyed_wait (c : CellState) : (haltReqObeyed c).wait = none := rfl
@[simp] theorem haltReqObeyed_loops (c : CellState) : (haltReqObeyed c).loops = [] := rfl
@[simp] theorem haltReqObeyed_haltReq (c : CellState) : (haltReqObeyed c).haltReq = false := rfl
@[simp] theorem haltReqObeyed_prog (c : CellState) : (haltReqObeyed c).prog = c.prog := rfl

theorem sameMemories_refl (c : CellState) : SameMemories c c := ⟨rfl, rfl, rfl, rfl, rfl, rfl, rfl, rfl⟩

theorem sameMemories_haltReqObeyed (c : CellState) : SameMemories c (haltReqObeyed c) := sameMemories_refl c

/-- Causes 5 and 7, SIGNAL_WAIT and LACE_WAIT, are the bits of 0xA0. -/
theorem signalOrLaceWait_iff : ∀ m : BitVec 8, m &&& 0xA0 ≠ 0 ↔ m.getLsbD 5 = true ∨ m.getLsbD 7 = true := by decide

/-- No claim is settled at a cell that has none. -/
theorem settleCell_unclaimed {s : State} {g : Nat} (h : (s.cell g).claim = none) : settleCell s g = s := by
  simp [settleCell, h]

theorem exec_haltObeyed {g : CellNo} {s : State} (hr : (s.cell g.val).haltReq = true) (hb : atBoundary (s.cell g.val) = true)
    (hc : (s.cell g.val).claim = none) : exec (.haltObeyed g) s = .next (s.setCell g.val (haltReqObeyed (s.cell g.val))) := by
  show Host.Outcome.next (settleCell (if (s.cell g.val).haltReq && atBoundary (s.cell g.val) then _ else _) g.val) = _
  rw [hr, hb, Bool.and_self, if_pos rfl, settleCell_unclaimed (by rw [setCell_cell]; exact hc)]

/-! ### START -/

theorem startCell_runs {s : State} {g : Nat} (hf : (s.cell g).fence = false) (hst : (s.cell g).st = .idle ∨ (s.cell g).st = .halted)
    (hb : bankWrites s g = []) : startCell s g = s.setCell g (startRun s.now (s.cell g)) := by
  rcases hst with h | h <;> simp [startCell, hf, h, hb]

theorem startCell_waits {s : State} {g : Nat} (hf : (s.cell g).fence = false) (hst : (s.cell g).st = .idle ∨ (s.cell g).st = .halted)
    (hb : bankWrites s g ≠ []) : startCell s g = s.setCell g { s.cell g with startHeld := true, startFor := bankWrites s g } := by
  rcases hst with h | h <;> simp [startCell, hf, h, hb]

theorem startCell_bad {s : State} {g : Nat} (h : (s.cell g).fence = true ∨ (s.cell g).st = .running ∨ (s.cell g).st = .faulted) :
    startCell s g = s.setCell g (badCmd (s.cell g)) := by
  rcases h with h | h | h <;> simp [startCell, h]

/-! ### HALT_REQ -/

theorem haltRequest_stopped {s : State} {g : Nat} (h : (s.cell g).fence = true ∨ (s.cell g).st ≠ .running) : haltRequest s g = s := by
  simp [haltRequest, h]

theorem haltRequest_atOnce {s : State} {g : Nat} (hf : (s.cell g).fence = false) (hst : (s.cell g).st = .running)
    (hm : (s.cell g).stalls.getLsbD 5 = true ∨ (s.cell g).stalls.getLsbD 7 = true) :
    haltRequest s g = s.setCell g (haltReqObeyed (s.cell g)) := by
  simp only [haltRequest]
  rw [if_neg (by simp [hf, hst]), if_pos ((signalOrLaceWait_iff _).2 hm)]

theorem haltRequest_later {s : State} {g : Nat} (hf : (s.cell g).fence = false) (hst : (s.cell g).st = .running)
    (h5 : (s.cell g).stalls.getLsbD 5 = false) (h7 : (s.cell g).stalls.getLsbD 7 = false) :
    haltRequest s g = s.setCell g { s.cell g with haltReq := true } := by
  have hm : ¬ (s.cell g).stalls &&& 0xA0 ≠ 0 := by simp only [signalOrLaceWait_iff, h5, h7, Bool.false_eq_true, or_self, not_false_iff]
  simp only [haltRequest]
  rw [if_neg (by simp [hf, hst]), if_neg hm]

/-! ### A cell counts as unfenced -/

theorem unfenced_fenced {s : State} {g : Nat} (h : (s.cell g).fence = true) : unfenced s g = false := by simp [unfenced, h]

/-- A change of cell g that keeps its fence and its service keeps it counted as before. -/
theorem unfenced_setCell (s : State) (g : Nat) (c : CellState) (hf : c.fence = (s.cell g).fence)
    (hs : c.service = (s.cell g).service) : unfenced (s.setCell g c) g = unfenced s g := by
  unfold unfenced
  rw [setCell_cell, hf, hs]
  rfl

/-- Figures and admission stay while the cell counts as before. -/
theorem withFence_same {s : State} {g : Nat} {f : State → State} (h : unfenced (f s) g = unfenced s g) : withFence s g f = f s :=
  if_pos h

theorem withFence_id {s : State} {g : Nat} {f : State → State} (h : f s = s) : withFence s g f = s :=
  (withFence_same (by rw [h])).trans h

theorem withFence_setCell {s : State} {g : Nat} {f : State → State} {c : CellState} (hfs : f s = s.setCell g c)
    (hf : c.fence = (s.cell g).fence) (hs : c.service = (s.cell g).service) : withFence s g f = s.setCell g c := by
  rw [withFence_same (by rw [hfs, unfenced_setCell s g c hf hs]), hfs]

/-! ### Fencing -/

/-- A read of a table gives what a key lists, or the default. -/
theorem lookup_mem_or_default {α : Type} (d : α) (t : Tab α) (k : Nat) : lookup d t k = d ∨ (k, lookup d t k) ∈ t := by
  induction t with
  | nil => exact .inl rfl
  | cons p t ih =>
    obtain ⟨a, v⟩ := p
    simp only [lookup]
    split
    · next h => subst h; exact .inr List.mem_cons_self
    · exact ih.imp_right (List.mem_cons_of_mem _)

/-- The cell g of a FENCE by itself: it is fenced and what leaves it is dropped (R81). -/
def cutCell (c : CellState) : CellState :=
  { c with fence := true, posts := [], postsSent := c.postsLanded, held := [], startHeld := false, startFor := [] }

/-- The updates on the way without those of cell g. -/
def updatesWithout (g : Nat) (t : Tab (List Update)) : Tab (List Update) :=
  (t.map (fun p => (p.1, p.2.filter (fun u => u.cell != g)))).filter (fun p => !p.2.isEmpty)

/-- The state in which the barriers of a fenced cell reset. -/
def cutOff (s : State) (g : Nat) : State :=
  { s.modCell g cutCell with fabric := { s.fabric with updates := updatesWithout g s.fabric.updates } }

/-- A cell that waits at barrier n halts. -/
def haltWaiting (n : Nat) (c : CellState) : CellState := if c.wait = some (.barrier n) then haltReqObeyed c else c

/-- Barrier n resets when cell g is a member of it, and the members that wait there halt (spec/04 R98). -/
def resetNet (g : Nat) (s : State) (n : Nat) : State :=
  let b := lookup {} s.fabric.barrier n
  if b.members.contains g then
    let s := b.members.foldl (fun s m => s.modCell m (haltWaiting n)) s
    { s with fabric := { s.fabric with barrier := put {} s.fabric.barrier n { b with arrived := [] } } }
  else s

theorem fenceCell_eq (s : State) (g : Nat) : fenceCell s g = (List.range 64).foldl (resetNet g) (cutOff s g) := rfl

/-- Nothing but barriers and cells is written, and a cell is as before unless it waited at a barrier and has halted. -/
def OnlyBarrierHalts (s t : State) : Prop :=
  t = { s with cells := t.cells, fabric := { s.fabric with barrier := t.fabric.barrier } } ∧
  ∀ h, t.cell h = s.cell h ∨ (∃ n, (s.cell h).wait = some (.barrier n)) ∧ t.cell h = haltReqObeyed (s.cell h)

theorem onlyBarrierHalts_refl (s : State) : OnlyBarrierHalts s s := ⟨rfl, fun _ => .inl rfl⟩

theorem onlyBarrierHalts_trans {s t u : State} (a : OnlyBarrierHalts s t) (b : OnlyBarrierHalts t u) : OnlyBarrierHalts s u := by
  obtain ⟨ea, ha⟩ := a
  obtain ⟨eb, hb⟩ := b
  refine ⟨by rw [eb, ea], fun h => ?_⟩
  rcases hb h with hu | ⟨⟨n, hw⟩, hu⟩
  · rw [hu]; exact ha h
  · rcases ha h with ht | ⟨-, ht⟩
    · rw [ht] at hw hu; exact .inr ⟨⟨n, hw⟩, hu⟩
    · rw [ht] at hw; simp at hw

theorem onlyBarrierHalts_haltWaiting (s : State) (m n : Nat) : OnlyBarrierHalts s (s.modCell m (haltWaiting n)) := by
  refine ⟨rfl, fun h => ?_⟩
  by_cases e : h = m
  · subst e
    rw [modCell_same, haltWaiting]
    split
    · next hw => exact .inr ⟨⟨n, hw⟩, rfl⟩
    · exact .inl rfl
  · exact .inl (modCell_other s m _ e)

theorem onlyBarrierHalts_foldl {α : Type} (f : State → α → State) (hf : ∀ s a, OnlyBarrierHalts s (f s a)) (l : List α) (s : State) :
    OnlyBarrierHalts s (l.foldl f s) :=
  List.foldlRecOn (motive := OnlyBarrierHalts s) l f (onlyBarrierHalts_refl s) fun t ht a _ => onlyBarrierHalts_trans ht (hf t a)

theorem onlyBarrierHalts_resetNet (g : Nat) (s : State) (n : Nat) : OnlyBarrierHalts s (resetNet g s n) := by
  unfold resetNet
  simp only
  split
  · obtain ⟨e, hc⟩ := onlyBarrierHalts_foldl _ (fun s m => onlyBarrierHalts_haltWaiting s m n) (lookup {} s.fabric.barrier n).members s
    exact ⟨by rw [e], hc⟩
  · exact onlyBarrierHalts_refl s

/-- A barrier with its arrivals gone when cell g is a member. -/
def resetFor (g : Nat) (b : Barrier) : Barrier := if g ∈ b.members then { b with arrived := [] } else b

theorem resetFor_resetFor (g : Nat) (b : Barrier) : resetFor g (resetFor g b) = resetFor g b := by
  by_cases h : g ∈ b.members <;> simp [resetFor, h]

theorem resetNet_barrier (g : Nat) (s : State) (n m : Nat) :
    lookup {} (resetNet g s n).fabric.barrier m =
      if m = n then resetFor g (lookup {} s.fabric.barrier m) else lookup {} s.fabric.barrier m := by
  have hfab : ∀ l : List Nat, (l.foldl (fun s m => s.modCell m (haltWaiting n)) s).fabric = s.fabric := fun l =>
    List.foldlRecOn (motive := fun (t : State) => t.fabric = s.fabric) l _ rfl fun _ ht _ _ => ht
  unfold resetNet
  simp only [hfab, List.contains_iff_mem]
  by_cases e : m = n
  · subst e
    by_cases hg : g ∈ (lookup {} s.fabric.barrier m).members <;> simp [resetFor, hg]
  · rw [if_neg e]
    split
    · exact lookup_put_other _ _ _ e
    · rfl

theorem foldl_resetNet_barrier (g : Nat) (l : List Nat) (s : State) (m : Nat) :
    lookup {} (l.foldl (resetNet g) s).fabric.barrier m =
      if m ∈ l then resetFor g (lookup {} s.fabric.barrier m) else lookup {} s.fabric.barrier m := by
  induction l generalizing s with
  | nil => simp
  | cons n l ih =>
    rw [List.foldl_cons, ih, resetNet_barrier]
    by_cases e : m = n <;> by_cases hl : m ∈ l <;> simp [e, hl, resetFor_resetFor]

theorem fenceCell_barrier (s : State) (g m : Nat) :
    lookup {} (fenceCell s g).fabric.barrier m =
      if m < 64 then resetFor g (lookup {} s.fabric.barrier m) else lookup {} s.fabric.barrier m := by
  rw [fenceCell_eq, foldl_resetNet_barrier]
  simp only [List.mem_range]
  rfl

/-- Beyond the cut, a FENCE writes barriers and halts cells that wait there. -/
theorem fenceCell_only (s : State) (g : Nat) : OnlyBarrierHalts (cutOff s g) (fenceCell s g) :=
  onlyBarrierHalts_foldl _ (onlyBarrierHalts_resetNet g) _ _

theorem cutOff_cell (s : State) (g : Nat) : (cutOff s g).cell g = cutCell (s.cell g) := modCell_same s g cutCell

theorem cutOff_cell_other (s : State) (g : Nat) {h : Nat} (e : h ≠ g) : (cutOff s g).cell h = s.cell h := modCell_other s g cutCell e

theorem fenceCell_cell (s : State) (g : Nat) :
    (fenceCell s g).cell g = cutCell (s.cell g) ∨ (fenceCell s g).cell g = haltReqObeyed (cutCell (s.cell g)) := by
  have h := (fenceCell_only s g).2 g
  rw [cutOff_cell] at h
  exact h.imp_right And.right

theorem fenceCell_cell_other (s : State) (g : Nat) {h : Nat} (e : h ≠ g) (hw : ∀ n, (s.cell h).wait ≠ some (.barrier n)) :
    (fenceCell s g).cell h = s.cell h := by
  have ho := (fenceCell_only s g).2 h
  rw [cutOff_cell_other s g e] at ho
  exact ho.resolve_right fun ⟨⟨n, hn⟩, _⟩ => hw n hn

/-- What a FENCE of an unfenced cell leaves, before the figures follow. -/
theorem fenceCell_leaves (s : State) (g : Nat) :
    ((fenceCell s g).cell g).fence = true ∧ ((fenceCell s g).cell g).posts = [] ∧ ((fenceCell s g).cell g).held = [] ∧
    ((fenceCell s g).cell g).fault = (s.cell g).fault ∧ SameMemories (s.cell g) ((fenceCell s g).cell g) := by
  rcases fenceCell_cell s g with h | h <;> rw [h] <;> exact ⟨rfl, rfl, rfl, rfl, sameMemories_refl _⟩

theorem fenceCell_updates (s : State) (g : Nat) : (fenceCell s g).fabric.updates = updatesWithout g s.fabric.updates :=
  congrArg (fun t : State => t.fabric.updates) (fenceCell_only s g).1

theorem fenceCell_frame (s : State) (g : Nat) : fenceCell s g = { s with
    cells := (fenceCell s g).cells
    fabric := { s.fabric with barrier := (fenceCell s g).fabric.barrier, updates := (fenceCell s g).fabric.updates } } := by
  rw [fenceCell_updates]
  exact (fenceCell_only s g).1

theorem mem_updatesWithout {g q : Nat} {t : Tab (List Update)} {u : Update} (h : u ∈ lookup [] (updatesWithout g t) q) : u.cell ≠ g := by
  rcases lookup_mem_or_default [] (updatesWithout g t) q with e | hm
  · rw [e] at h; simp at h
  · obtain ⟨p, -, hp⟩ := List.mem_map.1 (List.mem_of_mem_filter hm)
    have : lookup [] (updatesWithout g t) q = p.2.filter (fun u => u.cell != g) := (congrArg Prod.snd hp).symm
    rw [this] at h
    simpa using (List.mem_filter.1 h).2

theorem exec_fence_fenced {g : CellNo} {s : State} (h : (s.cell g.val).fence = true) : exec (.fence g) s = .next s :=
  congrArg Host.Outcome.next (withFence_id (if_pos h))

theorem exec_fence {g : CellNo} {s : State} (h : (s.cell g.val).fence = false) :
    exec (.fence g) s = .next (if unfenced s g.val then cellsChanged (fenceCell s g.val) else fenceCell s g.val) := by
  show Host.Outcome.next (withFence s g.val _) = _
  simp only [withFence, h, unfenced_fenced (fenceCell_leaves s g.val).1, Bool.false_eq_true, if_false]
  cases unfenced s g.val <;> simp

/-! ### A fence cleared -/

/-- The cell that FENCE cleared leaves. -/
def unfencedCell (c : CellState) : CellState :=
  { stopRun c with fence := false, st := if failuresOf c ≠ 0 then .faulted else .idle }

theorem unfenceCell_fenced {s : State} {g : Nat} (h : (s.cell g).fence = true) :
    unfenceCell s g = s.setCell g (unfencedCell (s.cell g)) := by
  simp [unfenceCell, State.modCell, h, unfencedCell]

theorem unfenceCell_unfenced {s : State} {g : Nat} (h : (s.cell g).fence = false) : unfenceCell s g = s.setCell g (s.cell g) := by
  simp [unfenceCell, State.modCell, h]

theorem exec_fenceClear_fenced {g : CellNo} {s : State} (h : (s.cell g.val).fence = true) :
    exec (.fenceClear g) s = .next (if unfenced (unfenceCell s g.val) g.val then cellsChanged (unfenceCell s g.val)
      else unfenceCell s g.val) := by
  show Host.Outcome.next (withFence s g.val _) = _
  simp only [withFence, unfenced_fenced h]
  cases unfenced (unfenceCell s g.val) g.val <;> simp

theorem exec_fenceClear_unfenced {g : CellNo} {s : State} (h : (s.cell g.val).fence = false) :
    exec (.fenceClear g) s = .next (s.setCell g.val (s.cell g.val)) :=
  congrArg Host.Outcome.next (withFence_setCell (unfenceCell_unfenced h) rfl rfl)

/-! ### Writes of the page -/

/-- A write of the page that keeps the cell's fence and service leaves figures and admission alone. -/
theorem exec_registerWrite_cell {g : CellNo} {off : BitVec 12} {v : Word} {s : State} {c : CellState}
    (hw : writeCell s g.val off.toNat v = s.setCell g.val c) (hf : c.fence = (s.cell g.val).fence)
    (hs : c.service = (s.cell g.val).service) : exec (.registerWrite (.cell g off v)) s = .next (s.setCell g.val c) :=
  congrArg Host.Outcome.next (withFence_setCell hw hf hs)

/-- A word below 4 holds CELL_CTRL's bank bits and none of its commands. -/
theorem getLsbD_of_lt_four {v : Word} (h : v.toNat < 4) {i : Nat} (hi : 2 ≤ i) : v.getLsbD i = false := by
  rw [← BitVec.testBit_toNat]
  exact Nat.testBit_lt_two_pow (h.trans_le (Nat.pow_le_pow_right (n := 2) (by decide) hi))

theorem writeCtrl_banks {s : State} {g : Nat} {v : Word} (hv : v.toNat < 4) (hf : (s.cell g).fence = false) :
    writeCtrl s g v = s.setCell g { s.cell g with tbank := v.toNat / 2, ibank := v.toNat % 2 } := by
  have ht : bits v.toNat 1 1 = v.toNat / 2 := by simp only [bits]; omega
  have hi : bits v.toNat 0 0 = v.toNat % 2 := by simp only [bits]; omega
  simp only [writeCtrl, getLsbD_of_lt_four hv (i := 4) (by decide), getLsbD_of_lt_four hv (i := 5) (by decide),
    getLsbD_of_lt_four hv (i := 6) (by decide), getLsbD_of_lt_four hv (i := 7) (by decide), Bool.false_eq_true, if_false,
    unfenceCell_unfenced hf, State.modCell, setCell_cell, setCell_setCell, ht, hi]

/-- A write of a register of the page that takes none changes nothing (R7, R8). -/
theorem exec_registerWrite_ignored {g : CellNo} {off : BitVec 12} {v : Word} {s : State} (h1 : off ≠ 0x008) (h2 : off ≠ 0x018)
    (h3 : off ≠ 0x028) (h4 : off ≠ 0x100) : exec (.registerWrite (.cell g off v)) s = .next s := by
  have n1 : off.toNat ≠ 0x008 := fun e => h1 (BitVec.eq_of_toNat_eq e)
  have n2 : off.toNat ≠ 0x018 := fun e => h2 (BitVec.eq_of_toNat_eq e)
  have n3 : off.toNat ≠ 0x028 := fun e => h3 (BitVec.eq_of_toNat_eq e)
  have n4 : off.toNat ≠ 0x100 := fun e => h4 (BitVec.eq_of_toNat_eq e)
  have hw : writeCell s g.val off.toNat v = s := by
    unfold writeCell
    rw [if_neg n1, if_neg n2, if_neg n3, if_neg n4]
  exact congrArg Host.Outcome.next (withFence_id hw)

/-! ### Reads that clear and latch -/

/-- The word that a read gives is no part of a cell. -/
theorem setDev_cell (s : State) (d : Dev) (g : Nat) : State.cell { s with dev := d } g = s.cell g := rfl

/-- The correctable-error counts of a cell after the read that clears them. -/
def recountErrors (n b o : Nat) (c : CellState) : CellState :=
  { c with ceOther := min o 65535, ceBbuf := min b 65535, ceStore := min n 65535 }

theorem readClear_eccCe (s : State) (g : CellNo) (b o n : Nat) : readClear s (.eccCe g b o) n =
    { s.modCell g.val (recountErrors n b o) with dev := { s.dev with regOut := cellReg s g.val 0x030 } } := rfl

theorem readClear_eccCe_cell (s : State) (g : CellNo) (b o n : Nat) :
    (readClear s (.eccCe g b o) n).cell g.val = recountErrors n b o (s.cell g.val) := by
  rw [readClear_eccCe]
  exact (setDev_cell _ _ _).trans (modCell_same s g.val _)

theorem readClear_eccCe_cell_other (s : State) (g : CellNo) (b o n : Nat) {h : Nat} (e : h ≠ g.val) :
    (readClear s (.eccCe g b o) n).cell h = s.cell h := by
  rw [readClear_eccCe]
  exact (setDev_cell _ _ _).trans (modCell_other s g.val _ e)

/-- A cell whose SENT_LOG latch holds x. -/
def latchSent (x : Option (Nat × Word)) (c : CellState) : CellState := { c with sentLatch := x }

/-- The read of a low word latches the high word of its entry. -/
theorem sentRead_low (s : State) (g e : Nat) : sentRead s g e false =
    { s.modCell g (latchSent (some (e, BitVec.ofNat 64 (sentEntry (s.cell g) e / 2 ^ 64)))) with
      dev := { s.dev with regOut := BitVec.ofNat 64 (sentEntry (s.cell g) e) } } := rfl

/-- The read of a high word gives what the low word's read has latched, and lets it go. -/
theorem sentRead_high {s : State} {g e : Nat} {x : Word} (h : (s.cell g).sentLatch = some (e, x)) : sentRead s g e true =
    { s.modCell g (latchSent none) with dev := { s.dev with regOut := x } } := by
  simp only [sentRead, h, if_true]
  rfl

theorem sentRead_low_latch (s : State) (g e : Nat) : ((sentRead s g e false).cell g).sentLatch =
    some (e, BitVec.ofNat 64 (sentEntry (s.cell g) e / 2 ^ 64)) := by
  rw [sentRead_low]
  exact congrArg CellState.sentLatch (modCell_same s g (latchSent _))

theorem sentRead_latches (s : State) (g e : Nat) (high : Bool) :
    ∃ x d, sentRead s g e high = { s.modCell g (latchSent x) with dev := d } := by
  cases high
  · exact ⟨_, _, sentRead_low s g e⟩
  · exact ⟨_, _, rfl⟩

/-- Beside the word it gives, a read of SENT_LOG changes nothing but its cell's latch. -/
theorem onlyCell_sentRead (s : State) (g e : Nat) (high : Bool) : OnlyCell g s { sentRead s g e high with dev := s.dev } := by
  obtain ⟨x, d, h⟩ := sentRead_latches s g e high
  rw [h]
  exact onlyCell_modCell s g (latchSent x)

theorem sentLogRead_latches (g : CellNo) (e : Fin 32) (s : State) : ∃ t u,
    exec (.sentLogRead g e false) s = .next t ∧ t.dev.regOut = BitVec.ofNat 64 (sentEntry (s.cell g.val) e.val) ∧
    OnlyCell g.val s { t with dev := s.dev } ∧
    exec (.sentLogRead g e true) t = .next u ∧ u.dev.regOut = BitVec.ofNat 64 (sentEntry (s.cell g.val) e.val / 2 ^ 64) ∧
    OnlyCell g.val s { u with dev := s.dev } := by
  have first := onlyCell_sentRead s g.val e.val false
  have second := sentRead_high (sentRead_low_latch s g.val e.val)
  refine ⟨sentRead s g.val e.val false, _, rfl, rfl, first, congrArg Host.Outcome.next second, rfl, ?_⟩
  exact onlyCell_trans first (onlyCell_modCell _ g.val (latchSent none))

/-! ### The page's commands together -/

/-- Settles O19: each command of the page is a write of one cell, but for FENCE, which also resets barriers and drops updates. -/
theorem cellControlPage : Obligations.CellControlPage := by
  unfold Obligations.CellControlPage
  refine ⟨fun g s => ⟨?begins, ?waits, ?bad⟩, fun g s => ⟨?stopped, ?atOnce, ?later, ?obeyed⟩,
    fun g s => ⟨?fenced, ?fence, ?cleared, ?unfenced, ?counters⟩, fun g v s => ⟨?fault, ?limit, ?sentinel, ?banks, ?others⟩,
    ?errors, ?late, ?lost, ?highest, ?log⟩
  case begins =>
    intro hf hst hb
    refine ⟨_, congrArg Host.Outcome.next (startCell_runs hf hst hb), onlyCell_setCell _ _ _, ?_⟩
    simp only [setCell_cell, startRun, and_self]
  case waits =>
    intro hf hst hb
    exact ⟨_, congrArg Host.Outcome.next (startCell_waits hf hst hb), onlyCell_setCell _ _ _, setCell_cell _ _ _⟩
  case bad =>
    intro h
    exact ⟨_, congrArg Host.Outcome.next (startCell_bad h), onlyCell_setCell _ _ _, setCell_cell _ _ _⟩
  case stopped => exact fun h => congrArg Host.Outcome.next (haltRequest_stopped h)
  case atOnce =>
    intro hf hst hm
    refine ⟨_, congrArg Host.Outcome.next (haltRequest_atOnce hf hst hm), onlyCell_setCell _ _ _, ?_⟩
    simp [sameMemories_haltReqObeyed]
  case later =>
    intro hf hst h5 h7
    exact ⟨_, congrArg Host.Outcome.next (haltRequest_later hf hst h5 h7), onlyCell_setCell _ _ _, setCell_cell _ _ _⟩
  case obeyed =>
    intro hr hb hc
    refine ⟨_, exec_haltObeyed hr hb hc, onlyCell_setCell _ _ _, ?_⟩
    simp [sameMemories_haltReqObeyed]
  case fenced => exact exec_fence_fenced
  case fence =>
    intro hf
    obtain ⟨hfence, hposts, hheld, hfault, hmem⟩ := fenceCell_leaves s g.val
    refine ⟨fenceCell s g.val, exec_fence hf, hfence, hposts, hheld, hfault, hmem, fun n hn hg => ?_, fun n hg => ?_,
      fun h e hw => fenceCell_cell_other s g.val e hw, fun q u hu => ?_, fenceCell_frame s g.val⟩
    · rw [fenceCell_barrier, if_pos hn, resetFor, if_pos hg]
    · rw [fenceCell_barrier, resetFor, if_neg hg, ite_self]
    · rw [fenceCell_updates] at hu
      exact mem_updatesWithout hu
  case cleared =>
    intro hf
    refine ⟨_, exec_fenceClear_fenced hf, ?_⟩
    rw [unfenceCell_fenced hf, setCell_cell]
    exact ⟨onlyCell_setCell _ _ _, rfl, rfl, rfl, sameMemories_refl _⟩
  case unfenced =>
    intro hf
    exact ⟨_, exec_fenceClear_unfenced hf, onlyCell_setCell _ _ _, setCell_cell _ _ _⟩
  case counters => exact ⟨_, rfl, onlyCell_modCell _ _ _, modCell_same _ _ _⟩
  case fault =>
    refine ⟨_, exec_registerWrite_cell rfl rfl rfl, onlyCell_setCell _ _ _, ?_⟩
    rw [setCell_cell]
    exact ⟨rfl, rfl, sameMemories_refl _, rfl⟩
  case limit =>
    refine ⟨_, exec_registerWrite_cell rfl rfl rfl, onlyCell_setCell _ _ _, ?_⟩
    rw [setCell_cell]
    simp only [bits, pow_zero, Nat.div_one]
    rfl
  case sentinel => exact ⟨_, exec_registerWrite_cell rfl rfl rfl, onlyCell_setCell _ _ _, setCell_cell _ _ _⟩
  case banks =>
    intro hv hf
    exact ⟨_, exec_registerWrite_cell (writeCtrl_banks hv hf) rfl rfl, onlyCell_setCell _ _ _, setCell_cell _ _ _⟩
  case others => exact fun off h1 h2 h3 h4 => exec_registerWrite_ignored h1 h2 h3 h4
  case errors =>
    intro g b o n s
    refine ⟨readClear s (.eccCe g b o) n, rfl, ?_, ?_, ?_, rfl, fun h e => readClear_eccCe_cell_other s g b o n e, rfl⟩
    all_goals
      rw [readClear_eccCe_cell]
      rfl
  case late => exact fun k n s => ⟨_, rfl, lookup_put_same _ _ _ _, fun j e => lookup_put_other _ _ _ e, rfl, rfl⟩
  case lost => exact fun k n s => ⟨_, rfl, lookup_put_same _ _ _ _, rfl, rfl⟩
  case highest => exact fun n s => rfl
  case log => exact sentLogRead_latches

end Sys2Proof.Machine

/-! SUPPORT. Causes and notices: a leaf that is set stays and nothing but the cause tree is written (spec/11 R292 to R294); a notice
writes its Laster, and the cause tree where its FIFO is full (spec/08 R229, R230). -/

namespace Sys2Proof.Machine

open Sys2Proof.Safety

/-! ### Leaves -/

/-- The leaf has a bit in its register of 64. -/
def Leaf.inRegister : Leaf → Prop
  | .main _ b | .slot _ b | .istFailed b | .istUntested b => b < 64

theorem getLsbD_bit64 (b i : Nat) : (bit64 b).getLsbD i = (decide (i < 64) && decide (i = b)) := by
  have shifted : bit64 b = 1#64 <<< b := rfl
  rw [shifted, BitVec.getLsbD_shiftLeft, BitVec.getLsbD_one, Bool.eq_iff_iff]
  simp only [Bool.and_eq_true, Bool.not_eq_true', decide_eq_true_eq, decide_eq_false_iff_not]
  omega

theorem leafIsSet_setLeaf_same (c : Causes) {l : Leaf} (h : l.inRegister) : leafIsSet (setLeaf c l) l = true := by
  cases l <;> simp only [Leaf.inRegister] at h <;> simp [leafIsSet, setLeaf, getLsbD_bit64, h]

/-- Setting a bit of a register clears none. -/
theorem getLsbD_put_or (t : Tab Word) (g k b i : Nat) (h : (lookup 0 t k).getLsbD i = true) :
    (lookup 0 (put 0 t g (lookup 0 t g ||| bit64 b)) k).getLsbD i = true := by
  by_cases e : k = g
  · subst e; rw [lookup_put_same, BitVec.getLsbD_or, h, Bool.true_or]
  · rwa [lookup_put_other _ _ _ e]

theorem leafIsSet_setLeaf {c : Causes} {m : Leaf} (l : Leaf) (h : leafIsSet c m = true) : leafIsSet (setLeaf c l) m = true := by
  cases l with
  | main g b => cases m with
    | main k i => exact getLsbD_put_or _ _ _ _ _ h
    | _ => exact h
  | slot g b => cases m with
    | slot k i => exact getLsbD_put_or _ _ _ _ _ h
    | _ => exact h
  | istFailed g => cases m with
    | istFailed k =>
      have h : c.istFailed.getLsbD k = true := h
      simp [setLeaf, leafIsSet, h]
    | _ => exact h
  | istUntested g => cases m with
    | istUntested k =>
      have h : c.istUntested.getLsbD k = true := h
      simp [setLeaf, leafIsSet, h]
    | _ => exact h

/-- Nothing but the cause tree is written, and no leaf is cleared. -/
def OnlyCauses (s t : State) : Prop :=
  t = { s with causes := t.causes } ∧ ∀ m, leafIsSet s.causes m = true → leafIsSet t.causes m = true

theorem onlyCauses_refl (s : State) : OnlyCauses s s := ⟨rfl, fun _ h => h⟩

theorem onlyCauses_trans {s t u : State} (a : OnlyCauses s t) (b : OnlyCauses t u) : OnlyCauses s u := by
  refine ⟨?_, fun m h => b.2 m (a.2 m h)⟩
  rw [b.1, a.1]

theorem queueEmergency_onlyCauses (s : State) (m : EmMsg) : OnlyCauses s (queueEmergency s m) := by
  unfold queueEmergency
  split
  · exact onlyCauses_refl s
  · exact ⟨rfl, fun l h => by cases l <;> exact h⟩

theorem settle_onlyCauses (s : State) : OnlyCauses s (settle s) := by
  have h : OnlyCauses s { s with causes := { s.causes with emPending := irqAsserted s.causes } } :=
    ⟨rfl, fun l h => by cases l <;> exact h⟩
  unfold settle
  simp only
  split
  · exact onlyCauses_trans h (queueEmergency_onlyCauses _ _)
  · exact h

/-- What a leaf that is raised passes through: the tree with the leaf set, then only the cause tree is written. -/
theorem raiseWith_cases (s : State) (l : Leaf) (arg addr e : Nat) :
    leafIsSet s.causes l = true ∧ raiseWith s l arg addr e = s ∨
    ∃ info, OnlyCauses { s with causes := { setLeaf s.causes l with info := info } } (raiseWith s l arg addr e) := by
  unfold raiseWith
  split
  · next h => exact .inl ⟨h, rfl⟩
  · right
    simp only
    generalize (if groupClear s.causes l.group then _ else s.causes.info) = info
    have hq (u : State) (m : EmMsg) (b : Bool) : OnlyCauses u (if b then queueEmergency u m else u) := by
      split
      · exact queueEmergency_onlyCauses _ _
      · exact onlyCauses_refl _
    exact ⟨info, onlyCauses_trans (hq _ _ _) (settle_onlyCauses _)⟩

theorem leafIsSet_info (c : Causes) (t : Tab Word) (m : Leaf) : leafIsSet { c with info := t } m = leafIsSet c m := by
  cases m <;> rfl

theorem raiseWith_onlyCauses (s : State) (l : Leaf) (arg addr e : Nat) : OnlyCauses s (raiseWith s l arg addr e) := by
  rcases raiseWith_cases s l arg addr e with ⟨-, h⟩ | ⟨info, h⟩
  · rw [h]; exact onlyCauses_refl s
  · exact onlyCauses_trans ⟨rfl, fun m hm => by rw [leafIsSet_info]; exact leafIsSet_setLeaf l hm⟩ h

/-- A leaf that is raised is set (R294). -/
theorem leafIsSet_raiseWith (s : State) {l : Leaf} (hl : l.inRegister) (arg addr e : Nat) :
    leafIsSet (raiseWith s l arg addr e).causes l = true := by
  rcases raiseWith_cases s l arg addr e with ⟨h, hs⟩ | ⟨info, h⟩
  · rw [hs]; exact h
  · exact h.2 l (by rw [leafIsSet_info]; exact leafIsSet_setLeaf_same _ hl)

theorem raise_onlyCauses (s : State) (l : Leaf) (arg addr : Nat) : OnlyCauses s (raise s l arg addr) := raiseWith_onlyCauses _ _ _ _ _

theorem leafIsSet_raise (s : State) {l : Leaf} (hl : l.inRegister) (arg addr : Nat) : leafIsSet (raise s l arg addr).causes l = true :=
  leafIsSet_raiseWith s hl _ _ _

theorem leafIsSet_raise_main (s : State) (g : Nat) {b : Nat} (hb : b < 64) (arg addr : Nat) :
    leafIsSet (raise s (.main g b) arg addr).causes (.main g b) = true := leafIsSet_raise s (l := .main g b) hb _ _

theorem raiseCell_onlyCauses (s : State) (g : Nat) : OnlyCauses s (raiseCell s g) := raiseWith_onlyCauses _ _ _ _ _

theorem leafIsSet_raiseCell (s : State) {g : Nat} (h : g < 64) : leafIsSet (raiseCell s g).causes (.main gCell g) = true :=
  leafIsSet_raiseWith s (l := .main gCell g) h _ _ _

section
variable {s t : State} (h : OnlyCauses s t)
include h

theorem OnlyCauses.cells : t.cells = s.cells := by rw [h.1]
theorem OnlyCauses.cell (g : Nat) : t.cell g = s.cell g := by rw [h.1]; rfl
theorem OnlyCauses.tackers : t.tackers = s.tackers := by rw [h.1]
theorem OnlyCauses.tacker (k : Nat) : t.tacker k = s.tacker k := by rw [h.1]; rfl
theorem OnlyCauses.lasters : t.lasters = s.lasters := by rw [h.1]
theorem OnlyCauses.laster (n : Nat) : t.laster n = s.laster n := by rw [h.1]; rfl
theorem OnlyCauses.jobs : t.jobs = s.jobs := by rw [h.1]
theorem OnlyCauses.ctxs : t.ctxs = s.ctxs := by rw [h.1]
theorem OnlyCauses.fabric : t.fabric = s.fabric := by rw [h.1]
theorem OnlyCauses.power : t.power = s.power := by rw [h.1]
theorem OnlyCauses.zone (z : Nat) : t.zone z = s.zone z := by rw [h.1]; rfl
theorem OnlyCauses.slot (n : Nat) : t.slot n = s.slot n := by rw [h.1]; rfl
theorem OnlyCauses.slots : t.streams.slot = s.streams.slot := by rw [h.1]
theorem OnlyCauses.resil : t.resil = s.resil := by rw [h.1]
theorem OnlyCauses.dev : t.dev = s.dev := by rw [h.1]
theorem OnlyCauses.boot : t.boot = s.boot := by rw [h.1]

end

/-! ### Counts -/

theorem count2601_tacker (s : State) (k n t : Nat) : (count2601 s k n).tacker t = s.tacker t := rfl
theorem count2601_laster (s : State) (k n m : Nat) : (count2601 s k n).laster m = s.laster m := rfl

theorem count2601_same (s : State) (k n : Nat) : lookup 0 (count2601 s k n).resil.count k = satAdd 32 (lookup 0 s.resil.count k) n :=
  lookup_put_same _ _ _ _

/-! ### Notices -/

/-- Nothing but the Lasters and the cause tree is written, and no leaf is cleared. -/
def OnlyNotices (s t : State) : Prop :=
  t = { s with lasters := t.lasters, causes := t.causes } ∧ ∀ m, leafIsSet s.causes m = true → leafIsSet t.causes m = true

theorem onlyNotices_refl (s : State) : OnlyNotices s s := ⟨rfl, fun _ h => h⟩

theorem onlyNotices_trans {s t u : State} (a : OnlyNotices s t) (b : OnlyNotices t u) : OnlyNotices s u := by
  refine ⟨?_, fun m h => b.2 m (a.2 m h)⟩
  rw [b.1, a.1]

theorem OnlyCauses.onlyNotices {s t : State} (h : OnlyCauses s t) : OnlyNotices s t := ⟨by rw [h.1], h.2⟩

theorem setLaster_onlyNotices (s : State) (n : Nat) (x : Laster) : OnlyNotices s (s.setLaster n x) := ⟨rfl, fun _ h => h⟩

theorem onlyCauses_noticeLost (s : State) (t : Tab Nat) : OnlyCauses s { s with causes := { s.causes with noticeLost := t } } :=
  ⟨rfl, fun l h => by cases l <;> exact h⟩

theorem pushNotice_onlyNotices (s : State) (n : Nat) (x : Notice) : OnlyNotices s (pushNotice s n x) := by
  unfold pushNotice
  simp only
  split
  · exact setLaster_onlyNotices _ _ _
  · exact onlyNotices_trans (setLaster_onlyNotices s n _)
      (onlyCauses_trans (onlyCauses_noticeLost _ _) (raise_onlyCauses _ _ _ _)).onlyNotices

theorem sendNotice_onlyNotices (s : State) (n : Nat) (src : NoticeSrc) (k : NoticeKind) : OnlyNotices s (sendNotice s n src k) :=
  onlyNotices_trans (setLaster_onlyNotices _ _ _) (pushNotice_onlyNotices _ _ _)

end Sys2Proof.Machine

/-! SUPPORT. Cells that go out of service with their zone or their quarter, and the same change made of several cells
(spec/01 R26, spec/10 R259, R263). -/

namespace Sys2Proof.Machine

open Sys2Proof.Safety

theorem sameMemories_trans {c d e : CellState} (a : SameMemories c d) (b : SameMemories d e) : SameMemories c e := by
  obtain ⟨a1, a2, a3, a4, a5, a6, a7, a8⟩ := a
  obtain ⟨b1, b2, b3, b4, b5, b6, b7, b8⟩ := b
  exact ⟨b1.trans a1, b2.trans a2, b3.trans a3, b4.trans a4, b5.trans a5, b6.trans a6, b7.trans a7, b8.trans a8⟩

/-! ### One change of several cells -/

/-- Nothing but cells is written. -/
def OnlyCells (s t : State) : Prop := t = { s with cells := t.cells }

theorem onlyCells_refl (s : State) : OnlyCells s s := rfl

theorem onlyCells_trans {s t u : State} (a : OnlyCells s t) (b : OnlyCells t u) : OnlyCells s u := by
  unfold OnlyCells at *
  rw [b, a]

theorem onlyCells_modCell (s : State) (g : Nat) (f : CellState → CellState) : OnlyCells s (s.modCell g f) := rfl

/-- A step that writes cells only, made for each element of a list, writes cells only. -/
theorem onlyCells_foldl {α : Type} {f : State → α → State} (hf : ∀ s a, OnlyCells s (f s a)) (l : List α) (s : State) :
    OnlyCells s (l.foldl f s) :=
  List.foldlRecOn (motive := OnlyCells s) l f (onlyCells_refl s) fun t ht a _ => onlyCells_trans ht (hf t a)

theorem foldl_modCell_only (f : CellState → CellState) (l : List Nat) (s : State) :
    OnlyCells s (l.foldl (fun s g => s.modCell g f) s) := onlyCells_foldl (fun s g => onlyCells_modCell s g f) l s

/-- A change that made twice is made once reaches every cell of a list. -/
theorem foldl_modCell_cell {f : CellState → CellState} (hf : ∀ c, f (f c) = f c) (l : List Nat) (s : State) (h : Nat) :
    (l.foldl (fun s g => s.modCell g f) s).cell h = if h ∈ l then f (s.cell h) else s.cell h := by
  induction l generalizing s with
  | nil => simp
  | cons g l ih =>
    rw [List.foldl_cons, ih]
    by_cases e : h = g
    · subst e; simp [hf]
    · simp [modCell_other s g f e, e]

/-! ### A cell that goes out of service -/

/-- Nothing but cells, barriers and the counter updates on the way is written. -/
def OnlyFencing (s t : State) : Prop :=
  t = { s with cells := t.cells, fabric := { s.fabric with barrier := t.fabric.barrier, updates := t.fabric.updates } }

theorem onlyFencing_trans {s t u : State} (a : OnlyFencing s t) (b : OnlyFencing t u) : OnlyFencing s u := by
  unfold OnlyFencing at *
  rw [b, a]

section
variable {s t : State} (h : OnlyFencing s t)
include h

theorem OnlyFencing.tacker (k : Nat) : t.tacker k = s.tacker k := by rw [h]; rfl
theorem OnlyFencing.causes : t.causes = s.causes := by rw [h]
theorem OnlyFencing.jobs : t.jobs = s.jobs := by rw [h]
theorem OnlyFencing.ctxs : t.ctxs = s.ctxs := by rw [h]
theorem OnlyFencing.power : t.power = s.power := by rw [h]
theorem OnlyFencing.fabric : t.fabric = { s.fabric with barrier := t.fabric.barrier, updates := t.fabric.updates } := by
  conv_lhs => rw [h]

end

/-- The fields that say whether a cell works and for whom, beside its memories. -/
def SameStanding (c d : CellState) : Prop :=
  d.fence = c.fence ∧ d.service = c.service ∧ d.claim = c.claim ∧ d.tackerClaim = c.tackerClaim ∧ SameMemories c d

theorem sameStanding_refl (c : CellState) : SameStanding c c := ⟨rfl, rfl, rfl, rfl, sameMemories_refl c⟩

theorem sameStanding_trans {c d e : CellState} (a : SameStanding c d) (b : SameStanding d e) : SameStanding c e := by
  obtain ⟨a1, a2, a3, a4, a5⟩ := a
  obtain ⟨b1, b2, b3, b4, b5⟩ := b
  exact ⟨b1.trans a1, b2.trans a2, b3.trans a3, b4.trans a4, sameMemories_trans a5 b5⟩

theorem sameStanding_haltReqObeyed (c : CellState) : SameStanding c (haltReqObeyed c) := sameStanding_refl c

/-- The cell fenced, unless it is already. -/
def fencedOff (s : State) (g : Nat) : State := if (s.cell g).fence then s else fenceCell s g

theorem fencedOff_only (s : State) (g : Nat) : OnlyFencing s (fencedOff s g) := by
  unfold fencedOff
  split
  · rfl
  · exact fenceCell_frame s g

theorem fencedOff_cell (s : State) (g : Nat) : SameStanding { s.cell g with fence := true } ((fencedOff s g).cell g) := by
  unfold fencedOff
  split
  · next h => exact ⟨h, rfl, rfl, rfl, sameMemories_refl _⟩
  · have cut : SameStanding { s.cell g with fence := true } (cutCell (s.cell g)) := sameStanding_refl _
    rcases fenceCell_cell s g with h | h <;> rw [h]
    · exact cut
    · exact sameStanding_trans cut (sameStanding_haltReqObeyed _)

theorem fencedOff_cell_other (s : State) (g : Nat) {h : Nat} (e : h ≠ g) : SameStanding (s.cell h) ((fencedOff s g).cell h) := by
  unfold fencedOff
  split
  · exact sameStanding_refl _
  · have ho := (fenceCell_only s g).2 h
    rw [cutOff_cell_other s g e] at ho
    rcases ho with hk | ⟨-, hk⟩ <;> rw [hk]
    · exact sameStanding_refl _
    · exact sameStanding_haltReqObeyed _

/-- A cell fenced with its Tacker's claim ended, and its service changed by f. -/
def outOfService (f : Nat → Nat) (s : State) (g : Nat) : State :=
  (fencedOff s g).modCell g (fun c => { endTackerClaim (fencedOff s g).now c with service := f c.service })

theorem outOfService_only (f : Nat → Nat) (s : State) (g : Nat) : OnlyFencing s (outOfService f s g) :=
  onlyFencing_trans (fencedOff_only s g) rfl

theorem outOfService_cell (f : Nat → Nat) (s : State) (g : Nat) :
    SameStanding { s.cell g with fence := true, service := f (s.cell g).service, tackerClaim := false } ((outOfService f s g).cell g) := by
  obtain ⟨hf, hs, hc, -, hm⟩ := fencedOff_cell s g
  unfold outOfService
  rw [modCell_same]
  exact ⟨hf, congrArg f hs, hc, rfl, hm⟩

theorem outOfService_cell_other (f : Nat → Nat) (s : State) (g : Nat) {h : Nat} (e : h ≠ g) :
    SameStanding (s.cell h) ((outOfService f s g).cell h) := by
  unfold outOfService
  rw [modCell_other _ _ _ e]
  exact fencedOff_cell_other s g e

theorem outOfService_claim (f : Nat → Nat) (s : State) (g h : Nat) : ((outOfService f s g).cell h).claim = (s.cell h).claim := by
  by_cases e : h = g
  · subst e; exact (outOfService_cell f s h).2.2.1
  · exact (outOfService_cell_other f s g e).2.2.1

/-- No job is lost with a cell that none holds. -/
theorem loseCell_unclaimed {s : State} {g : Nat} (h : (s.cell g).claim = none) (src : NoticeSrc) (b : Bool) : loseCell s g src b = s := by
  simp [loseCell, h]

end Sys2Proof.Machine

/-! SUPPORT. Rail zones and the scrubber (spec/01 R21, spec/09 R240, spec/10 R256 to R258, R263). -/

namespace Sys2Proof.Machine

open Sys2Proof.Safety

/-! ### Gating -/

/-- Cell g has been idle, unclaimed and unreserved for 200 us. -/
def GateIdle (s : State) (g : Nat) : Prop :=
  isClaimed s g = false ∧ cellRuns s g = false ∧ isReserved s g = false ∧ (s.cell g).idleSince + 200000 ≤ s.now

theorem gateZone_idle {s : State} {z : Nat} (hon : (s.zone z).on = true) (h : ∀ g ∈ zoneCells z, GateIdle s g) :
    gateZone s z = s.setZone z { s.zone z with on := false } := by
  refine if_pos ?_
  rw [hon, Bool.true_and, List.all_eq_true]
  intro g hg
  obtain ⟨hc, hr, hv, ht⟩ := h g hg
  simp [hc, hr, hv, ht]

theorem gateZone_busy {s : State} {z : Nat} (h : (s.zone z).on = false ∨ ¬ ∀ g ∈ zoneCells z, GateIdle s g) : gateZone s z = s := by
  refine if_neg ?_
  rw [Bool.and_eq_true, List.all_eq_true, not_and_or]
  refine h.imp (fun hoff => by simp [hoff]) fun hbusy hall => hbusy fun g hg => ?_
  have hg' := hall g hg
  simp only [Bool.and_eq_true, Bool.not_eq_true', decide_eq_true_eq] at hg'
  obtain ⟨⟨⟨hc, hr⟩, hv⟩, ht⟩ := hg'
  exact ⟨hc, hr, hv, ht⟩

/-! ### Power-good -/

/-- The cells of a failed zone that wait for their test. -/
def dueTests (s : State) (z : Nat) : List Nat :=
  if (s.zone z).failed = true then (zoneCells z).filter (fun g => decide ((s.cell g).service = 1)) else []

/-- A Tacker takes the cell for its test. -/
def takeForTest (c : CellState) : CellState := { c with tackerClaim := true, service := 3, tested := false }

/-- A test owed to the cell begins, where no job holds it (spec/10 R268). -/
def beginOwedTest (c : CellState) : CellState := if c.forced && c.claim.isNone then { c with service := 3 } else c

theorem takeForTest_takeForTest (c : CellState) : takeForTest (takeForTest c) = takeForTest c := rfl

theorem beginOwedTest_of_owed {c : CellState} (hf : c.forced = true) (hc : c.claim = none) : beginOwedTest c = { c with service := 3 } :=
  if_pos (by simp [hf, hc])

theorem beginOwedTest_of_not_owed {c : CellState} (h : c.forced = false ∨ c.claim ≠ none) : beginOwedTest c = c :=
  if_neg (by rw [Bool.and_eq_true, Option.isNone_iff_eq_none]; rintro ⟨hf, hc⟩; rcases h with h | h <;> simp_all)

theorem beginOwedTest_beginOwedTest (c : CellState) : beginOwedTest (beginOwedTest c) = beginOwedTest c := by
  by_cases h : c.forced = true ∧ c.claim = none
  · rw [beginOwedTest_of_owed h.1 h.2]
    exact beginOwedTest_of_owed h.1 h.2
  · rw [not_and_or, Bool.not_eq_true] at h
    rw [beginOwedTest_of_not_owed h, beginOwedTest_of_not_owed h]

/-- The zone's rail stands: its tests begin, and the claims that waited for it are about to go on. -/
def poweredUp (s : State) (z : Nat) : State :=
  (zoneCells z).foldl (fun s g => s.modCell g beginOwedTest)
    ((dueTests s z).foldl (fun s g => s.modCell g takeForTest) (s.setZone z { s.zone z with on := true, waking := false, held := [] }))

theorem zoneGood_asleep {s : State} {z : Nat} (h : (s.zone z).waking = false) : zoneGood s z = s := by simp [zoneGood, h]

theorem zoneGood_atLimit {s : State} {z : Nat} (hd : dueTests s z ≠ [])
    (hl : s.power.cellLimit < claimedCount s + (dueTests s z).length) : zoneGood s z = s := by
  unfold zoneGood
  simp only
  split
  · rfl
  · refine if_pos ?_
    have hne : (dueTests s z).isEmpty = false := by simpa using hd
    change (!(dueTests s z).isEmpty && decide (s.power.cellLimit < claimedCount s + (dueTests s z).length)) = true
    simp [hne, hl]

theorem zoneGood_powersUp {s : State} {z : Nat} (hw : (s.zone z).waking = true)
    (hd : dueTests s z = [] ∨ claimedCount s + (dueTests s z).length ≤ s.power.cellLimit) :
    zoneGood s z = (s.zone z).held.foldl powerGoodClaim (poweredUp s z) := by
  have within : ¬ (!(dueTests s z).isEmpty && decide (s.power.cellLimit < claimedCount s + (dueTests s z).length)) = true := by
    rcases hd with hd | hd
    · simp [hd]
    · simp [hd]
  unfold zoneGood
  simp only
  rw [if_neg (by simp [hw])]
  exact if_neg within

theorem poweredUp_cell (s : State) (z h : Nat) : (poweredUp s z).cell h =
    (if h ∈ zoneCells z then beginOwedTest else id) ((if h ∈ dueTests s z then takeForTest else id) (s.cell h)) := by
  unfold poweredUp
  rw [foldl_modCell_cell beginOwedTest_beginOwedTest, foldl_modCell_cell takeForTest_takeForTest]
  change (if h ∈ zoneCells z then beginOwedTest (if h ∈ dueTests s z then takeForTest (s.cell h) else s.cell h) else
    if h ∈ dueTests s z then takeForTest (s.cell h) else s.cell h) = _
  split <;> split <;> rfl

theorem poweredUp_only (s : State) (z : Nat) :
    poweredUp s z = { s with cells := (poweredUp s z).cells, power := (poweredUp s z).power } ∧
    (poweredUp s z).zone z = { s.zone z with on := true, waking := false, held := [] } := by
  have only : OnlyCells (s.setZone z { s.zone z with on := true, waking := false, held := [] }) (poweredUp s z) :=
    onlyCells_trans (foldl_modCell_only _ _ _) (foldl_modCell_only _ _ _)
  generalize poweredUp s z = t at only ⊢
  rw [only]
  exact ⟨rfl, setZone_zone _ _ _⟩

theorem beginOwedTest_takeForTest (c : CellState) : beginOwedTest (takeForTest c) = takeForTest c := by
  unfold beginOwedTest
  split <;> rfl

/-- A failed zone's cell that is due is under test, whatever else it is owed. -/
theorem poweredUp_due {s : State} {z g : Nat} (h : g ∈ dueTests s z) : (poweredUp s z).cell g = takeForTest (s.cell g) := by
  rw [poweredUp_cell, if_pos h]
  split
  · exact beginOwedTest_takeForTest _
  · rfl

theorem poweredUp_owed {s : State} {z g : Nat} (hz : g ∈ zoneCells z) (hf : (s.cell g).forced = true) (hc : (s.cell g).claim = none) :
    ((poweredUp s z).cell g).service = 3 := by
  by_cases h : g ∈ dueTests s z
  · rw [poweredUp_due h]; rfl
  · rw [poweredUp_cell, if_neg h, if_pos hz]
    exact congrArg CellState.service (beginOwedTest_of_owed hf hc)

theorem poweredUp_other {s : State} {z g : Nat} (hd : g ∉ dueTests s z)
    (h : g ∉ zoneCells z ∨ (s.cell g).forced = false ∨ (s.cell g).claim ≠ none) : (poweredUp s z).cell g = s.cell g := by
  rw [poweredUp_cell, if_neg hd]
  rcases h with h | h
  · rw [if_neg h]; rfl
  · split
    · exact beginOwedTest_of_not_owed h
    · rfl

/-! ### A zone that fails -/

theorem zoneCells_lt {z g : Nat} (hz : z < 16) (h : g ∈ zoneCells z) : g < 64 := by
  obtain ⟨c, hc, rfl⟩ := List.mem_map.1 h
  have := List.mem_range.1 hc
  omega

/-- The service of a cell whose zone fails: out of service for good where it is so already, or at the second failure within an hour. -/
def zoneFailService (again : Bool) (k : Nat) : Nat := if k = 4 || again then 4 else 1

/-- The second failure within an hour. -/
def failsAgain (s : State) (z : Nat) : Bool := match (s.zone z).firstFail with | some t => decide (s.now ≤ t + hour) | none => false

/-- The zone gated, with its failure noted. -/
def zoneGated (s : State) (z : Nat) : State :=
  let x := s.zone z
  s.setZone z { x with
    on := false, waking := false, held := [], failed := true, retired := x.retired || (failsAgain s z && !x.failed)
    firstFail := some (if failsAgain s z then x.firstFail.getD s.now else s.now) }

/-- One cell of a failing zone: out of service, with its cause, and its job lost (spec/10 R263). -/
def zoneLosesCell (again : Bool) (s : State) (g : Nat) : State :=
  loseCell (raiseCell (outOfService (zoneFailService again) s g) g) g (tackerSrc (tackerOf g)) true

theorem zoneFail_off {s : State} {z : Nat} (ho : (s.zone z).on = false) (hw : (s.zone z).waking = false) : zoneFail s z = s := by
  simp [zoneFail, ho, hw]

/-- A zone that fails for the first time, with no claim held for it. -/
theorem zoneFail_first {s : State} {z : Nat} (hp : (s.zone z).on = true ∨ (s.zone z).waking = true) (hf : (s.zone z).failed = false)
    (hh : (s.zone z).held = []) :
    zoneFail s z = cellsChanged ((zoneCells z).foldl (zoneLosesCell (failsAgain s z)) (zoneGated s z)) := by
  unfold zoneFail
  simp only
  rw [if_neg (by rcases hp with h | h <;> simp [h]), if_neg (by simp [hf]), hh]
  rfl

theorem zoneLosesCell_unclaimed (again : Bool) {s : State} {g : Nat} (h : (s.cell g).claim = none) :
    zoneLosesCell again s g = raiseCell (outOfService (zoneFailService again) s g) g := by
  refine loseCell_unclaimed ?_ _ _
  rw [(raiseCell_onlyCauses _ g).cell, outOfService_claim]
  exact h

/-- What the cells of a list leave when they go with their zone and no job holds one. -/
def ZoneCellsGone (l : List Nat) (s t : State) : Prop :=
  t.power = s.power ∧ (∀ m, leafIsSet s.causes m = true → leafIsSet t.causes m = true) ∧
  (∀ g ∈ l, (t.cell g).fence = true ∧ ((t.cell g).service = 1 ∨ (t.cell g).service = 4) ∧ leafIsSet t.causes (.main gCell g) = true) ∧
  ∀ g, g ∉ l → (t.cell g).fence = (s.cell g).fence ∧ (t.cell g).service = (s.cell g).service

theorem zoneCellsGone_one (again : Bool) (s : State) {g : Nat} (hg : g < 64) :
    ZoneCellsGone [g] s (raiseCell (outOfService (zoneFailService again) s g) g) := by
  have raised := raiseCell_onlyCauses (outOfService (zoneFailService again) s g) g
  have out := outOfService_only (zoneFailService again) s g
  obtain ⟨hfence, hservice, -⟩ := outOfService_cell (zoneFailService again) s g
  refine ⟨?_, fun m hm => raised.2 m ?_, fun h hh => ?_, fun h hh => ?_⟩
  · rw [raised.power, out.power]
  · rw [out.causes]; exact hm
  · rw [List.mem_singleton] at hh
    subst hh
    rw [raised.cell]
    refine ⟨hfence, ?_, leafIsSet_raiseCell _ hg⟩
    rw [hservice]
    simp only [zoneFailService]
    split
    · exact .inr rfl
    · exact .inl rfl
  · rw [raised.cell]
    obtain ⟨hf, hs, -⟩ := outOfService_cell_other (zoneFailService again) s g (h := h) (by simpa using hh)
    exact ⟨hf, hs⟩

theorem zoneCellsGone_cons {g : Nat} {l : List Nat} {s t u : State} (hg : g ∉ l) (a : ZoneCellsGone [g] s t) (b : ZoneCellsGone l t u) :
    ZoneCellsGone (g :: l) s u := by
  obtain ⟨ap, am, ag, ao⟩ := a
  obtain ⟨bp, bm, bg, bo⟩ := b
  refine ⟨bp.trans ap, fun m h => bm m (am m h), fun h hh => ?_, fun h hh => ?_⟩
  · rcases List.mem_cons.1 hh with rfl | hh
    · obtain ⟨hf, hs, hl⟩ := ag h (by simp)
      rw [(bo h hg).1, (bo h hg).2]
      exact ⟨hf, hs, bm _ hl⟩
    · exact bg h hh
  · obtain ⟨h1, h2⟩ := not_or.1 (mt List.mem_cons.2 hh)
    obtain ⟨bf, bs⟩ := bo h h2
    obtain ⟨af, as⟩ := ao h (by simpa using h1)
    exact ⟨bf.trans af, bs.trans as⟩

theorem foldl_zoneLosesCell (again : Bool) (l : List Nat) (s : State) (hn : l.Nodup) (hl : ∀ g ∈ l, g < 64 ∧ (s.cell g).claim = none) :
    ZoneCellsGone l s (l.foldl (zoneLosesCell again) s) := by
  induction l generalizing s with
  | nil => exact ⟨rfl, fun _ h => h, by simp, fun _ _ => ⟨rfl, rfl⟩⟩
  | cons g l ih =>
    obtain ⟨hg, hc⟩ := hl g (by simp)
    obtain ⟨hgl, hn⟩ := List.nodup_cons.1 hn
    rw [List.foldl_cons, zoneLosesCell_unclaimed again hc]
    refine zoneCellsGone_cons hgl (zoneCellsGone_one again s hg) (ih _ hn fun h hh => ⟨(hl h (by simp [hh])).1, ?_⟩)
    rw [(raiseCell_onlyCauses _ g).cell, outOfService_claim]
    exact (hl h (by simp [hh])).2

theorem zoneCells_nodup (z : Nat) : (zoneCells z).Nodup := by
  refine List.nodup_range.map fun a b h => ?_
  have h : z / 4 * 16 + a * 4 + z % 4 = z / 4 * 16 + b * 4 + z % 4 := h
  omega

/-! ### The scrubber -/

theorem placeKey_lpddr (a : BitVec 36) : placeKey (.lpddr a) = (0, a.toNat) := rfl

/-- The counts that a corrected word of LPDDR6 leaves, before CE_RATE is judged. -/
def countedLpddr (s : State) : State :=
  { count2601 s 7 1 with resil := { (count2601 s 7 1).resil with ceMem := lastSecond s.now s.resil.ceMem } }

theorem correctedLpddr_onlyCauses (s : State) (tag addr : Nat) : OnlyCauses (countedLpddr s) (correctedLpddr s tag addr) := by
  unfold correctedLpddr
  simp only
  split
  · exact raise_onlyCauses _ _ _ _
  · exact onlyCauses_refl _

/-- The words corrected in this cycle, with the one at p. -/
def notedFixed (s : State) (p : ScrubPlace) : State :=
  let r := s.resil
  { s with resil := { r with fixedNow := if r.fixedNow.contains (placeKey p) then r.fixedNow else r.fixedNow ++ [placeKey p] } }

@[simp] theorem notedFixed_count (s : State) (p : ScrubPlace) : (notedFixed s p).resil.count = s.resil.count := rfl
@[simp] theorem notedFixed_fabric (s : State) (p : ScrubPlace) : (notedFixed s p).fabric = s.fabric := rfl
@[simp] theorem notedFixed_cells (s : State) (p : ScrubPlace) : (notedFixed s p).cells = s.cells := rfl

theorem mem_notedFixed (s : State) (p : ScrubPlace) : placeKey p ∈ (notedFixed s p).resil.fixedNow := by
  unfold notedFixed
  simp only
  split
  · next h => exact List.contains_iff_mem.1 h
  · simp

theorem sticky_first {s : State} {p : ScrubPlace} (h : placeKey p ∉ s.resil.fixedLast) : sticky s p = notedFixed s p := by
  unfold sticky
  simp only
  rw [if_pos (by simpa using h)]
  rfl

/-- A word corrected in two cycles in a row raises STICKY (R258). -/
theorem sticky_again {s : State} {a : BitVec 36} (h : (0, a.toNat) ∈ s.resil.fixedLast) : sticky s (.lpddr a) =
    raise (notedFixed s (.lpddr a)) (.main gMem 2) (ownerTag (notedFixed s (.lpddr a)) a.toNat).toNat a.toNat := by
  have again : ¬ (!s.resil.fixedLast.contains (placeKey (.lpddr a))) = true := by simpa [placeKey_lpddr] using h
  exact (if_neg again).trans (if_pos rfl)

theorem startRestart_restarts {s : State} {reason : Nat} (hp : powered s = true) (hs : s.power.pstate ≠ 3) (ht : s.dev.thermTrip = false)
    (hi : s.boot.noImage = false) : startRestart s reason = restartState s reason := by
  simp [startRestart, hp, hs, ht, hi]

/-- A warm restart leaves no cell, keeps the counts of errors and the retained image, and stands in BOOT with its reason. -/
theorem restartState_leaves (s : State) (reason : Nat) :
    (restartState s reason).dev.state = .boot ∧ (restartState s reason).dev.restartReason = reason ∧ (restartState s reason).cells = [] ∧
    (restartState s reason).resil.count = s.resil.count ∧ (restartState s reason).boot.retained = s.boot.retained := by
  unfold restartState alRefuse
  simp only
  refine ⟨?_, ?_, ?_, ?_, ?_⟩
  · rw [(raise_onlyCauses _ _ _ _).dev]
  · rw [(raise_onlyCauses _ _ _ _).dev]
  · rw [(raise_onlyCauses _ _ _ _).cells]
    rfl
  · rw [(raise_onlyCauses _ _ _ _).resil]
  · rw [(raise_onlyCauses _ _ _ _).boot]

/-- Settles O48: the fold over a zone's cells keeps what it does to each, and a warm restart keeps the scrubber's counts. -/
theorem zonesAndScrub : Obligations.ZonesAndScrub := by
  unfold Obligations.ZonesAndScrub
  refine ⟨fun z s => ⟨?busy, ?idle, ?asleep, ⟨?atLimit, ?powersUp⟩, ?claims, ?off, ?fails⟩, fun _ _ => rfl, fun _ _ _ _ => rfl,
    fun a s => ⟨?known, ?bad, ?fixed, ?again⟩, fun s a b hp hs ht hi => ⟨?firmware, ?retained⟩⟩
  case busy => exact fun h => congrArg Host.Outcome.next (gateZone_busy h)
  case idle => exact fun hon h => congrArg Host.Outcome.next (gateZone_idle hon h)
  case asleep => exact fun h => congrArg Host.Outcome.next (zoneGood_asleep h)
  case atLimit => exact fun _ hd hl => congrArg Host.Outcome.next (zoneGood_atLimit hd hl)
  case powersUp =>
    intro hw hd
    obtain ⟨only, hzone⟩ := poweredUp_only s z.val
    refine ⟨poweredUp s z.val, congrArg Host.Outcome.next (zoneGood_powersUp hw hd), hzone, fun g hg => ?_,
      fun g hg => poweredUp_owed hg, fun g hd => poweredUp_other hd, only⟩
    rw [poweredUp_due hg]
    exact ⟨rfl, rfl, rfl⟩
  case claims => exact fun l g j => rfl
  case off => exact fun ho hw => congrArg Host.Outcome.next (zoneFail_off ho hw)
  case fails =>
    intro hp hf hh hc
    obtain ⟨hpower, -, hgone, hother⟩ := foldl_zoneLosesCell (failsAgain s z.val) (zoneCells z.val) (zoneGated s z.val)
      (zoneCells_nodup _) fun g hg => ⟨zoneCells_lt z.isLt hg, hc g hg⟩
    refine ⟨_, congrArg Host.Outcome.next (zoneFail_first hp hf hh), ?_, ?_, hgone, fun g hg => (hother g hg).1⟩
    all_goals
      unfold State.zone
      rw [hpower]
      exact (congrArg _ (setZone_zone s z.val _)).trans rfl
  case known => exact fun h => congrArg Host.Outcome.next (if_pos (by simpa using h))
  case bad => exact fun h => congrArg Host.Outcome.next (if_neg (by simpa using h))
  case fixed =>
    intro h
    have counted := correctedLpddr_onlyCauses s (ownerTag s a.toNat).toNat a.toNat
    refine ⟨_, congrArg Host.Outcome.next (sticky_first (p := .lpddr a) ?_), ?_, mem_notedFixed _ _, ?_, ?_⟩
    · rw [counted.resil]; exact h
    · rw [notedFixed_count, counted.resil]
      exact count2601_same s 7 1
    · rw [notedFixed_fabric, counted.fabric]
      rfl
    · rw [notedFixed_cells, counted.cells]
      rfl
  case again =>
    intro h
    refine ⟨_, congrArg Host.Outcome.next (sticky_again ?_), leafIsSet_raise_main _ _ (by decide) _ _⟩
    rw [(correctedLpddr_onlyCauses s _ _).resil]
    exact h
  case firmware =>
    have restarts : startRestart (count2601 s 6 1) 3 = restartState (count2601 s 6 1) 3 := startRestart_restarts hp hs ht hi
    obtain ⟨hst, hr, hc, hn, -⟩ := restartState_leaves (count2601 s 6 1) 3
    refine ⟨_, congrArg Host.Outcome.next restarts, hst, hr, hc, ?_⟩
    rw [hn]
    exact count2601_same s 6 1
  case retained =>
    have restarts := startRestart_restarts (s := count2601 { s with boot := { s.boot with retained := none } } 6 1) (reason := 3) hp hs ht hi
    obtain ⟨hst, hr, -, -, hb⟩ := restartState_leaves (count2601 { s with boot := { s.boot with retained := none } } 6 1) 3
    exact ⟨_, congrArg Host.Outcome.next restarts, hst, hr, hb⟩

end Sys2Proof.Machine

/-! SUPPORT. Settings of a stream slot, its calibration reads and its meshes (spec/07 R169 to R172, R190, R193, R194). -/

namespace Sys2Proof.Machine

open Sys2Proof.Safety

/-! ### One slot only -/

theorem onlySlot_setSlot (s : State) (n : Nat) (x : Slot) : OnlySlot n s (s.setSlot n x) := ⟨rfl, fun _ e => setSlot_slot_other _ _ _ e⟩

theorem onlySlot_refl (n : Nat) (s : State) : OnlySlot n s s := ⟨rfl, fun _ _ => rfl⟩

theorem onlySlot_trans {n : Nat} {s t u : State} (a : OnlySlot n s t) (b : OnlySlot n t u) : OnlySlot n s u := by
  refine ⟨?_, fun m e => (b.2 m e).trans (a.2 m e)⟩
  rw [b.1, a.1]

/-- A write that answers its code leaves the device as it was, the answer apart. -/
theorem onlySlot_answer {n : Nat} {s u : State} (h : OnlySlot n s u) (c : Nat) : OnlySlot n s { answer u c with dev := s.dev } ∧
    (answer u c).dev = { s.dev with answer := BitVec.ofNat 32 c } := by
  obtain ⟨e, ho⟩ := h
  have hdev : u.dev = s.dev := by rw [e]
  refine ⟨⟨?_, ho⟩, ?_⟩
  · rw [e]; rfl
  · rw [← hdev]; rfl

/-- Causes raised beside a slot's change. -/
theorem onlySlot_onlyCauses {n : Nat} {s t u : State} (a : OnlySlot n s t) (b : OnlyCauses t u) :
    OnlySlot n s { u with causes := s.causes } := by
  obtain ⟨ea, ha⟩ := a
  refine ⟨?_, fun m e => (b.slot m).trans (ha m e)⟩
  rw [b.1, ea]

theorem onlySlot_besideCauses {n : Nat} {s t u : State} (a : OnlySlot n s { t with causes := s.causes }) (b : OnlySlot n t u) :
    OnlySlot n s { u with causes := s.causes } := by
  obtain ⟨ea, ha⟩ := a
  obtain ⟨eb, hb⟩ := b
  refine ⟨?_, fun m e => (hb m e).trans (ha m e)⟩
  rw [eb]
  exact congrArg (fun v : State => { v with streams := { v.streams with slot := u.streams.slot } }) ea

/-! ### A new descriptor (R193, R194) -/

/-- A slot that holds its resources takes the descriptor as its shadow. -/
def RearmFits (s : State) (n : Nat) (e : Mem) : Prop :=
  let x := s.slot n
  dSource e = dSource x.desc ∧ dPort e = dPort x.desc ∧ dVc e = dVc x.desc ∧ streamDescOk s n e = true ∧
  (needsCal e = true → calibOf { x with gcmdStatus := statusUnder x e } ≠ 0) ∧
  (∃ i, x.instance_ = some i ∧ instanceFits s n e i = true) ∧ encoderFits s n e = true ∧
  ∀ k, x.decoder = some k → decoderFits s n e k = true

/-- The overruns of a slot that takes one more shadow. -/
def rearmOverrun (x : Slot) : Nat := if x.shadow.isSome then satAdd 32 x.overrun 1 else x.overrun

/-- The slot with the overrun counted that a second shadow before the frame boundary makes. -/
def overrunCounted (s : State) (n : Nat) : State :=
  if (s.slot n).shadow.isSome then s.setSlot n { s.slot n with overrun := satAdd 32 (s.slot n).overrun 1 } else s

theorem overrunCounted_only (s : State) (n : Nat) : OnlySlot n s (overrunCounted s n) := by
  unfold overrunCounted
  split
  · exact onlySlot_setSlot _ _ _
  · exact onlySlot_refl _ _

theorem overrunCounted_slot (s : State) (n : Nat) : (overrunCounted s n).slot n = { s.slot n with overrun := rearmOverrun (s.slot n) } := by
  unfold overrunCounted rearmOverrun
  split
  · exact setSlot_slot _ _ _
  · rfl

/-- The three checks of the write: what a descriptor may not change, what it must say, and the room it needs. -/
theorem rearmFits_iff (s : State) (n : Nat) (d : Mem) : RearmFits s n d ↔
    ¬ (dSource d ≠ dSource (s.slot n).desc ∨ dPort d ≠ dPort (s.slot n).desc ∨ dVc d ≠ dVc (s.slot n).desc) ∧
    ¬ ((!streamDescOk s n d) = true ∨
      (needsCal d = true ∧ calibOf { s.slot n with gcmdStatus := statusUnder (s.slot n) d } = 0)) ∧
    ¬ ((!(match (s.slot n).instance_ with | some i => instanceFits s n d i | none => false)) = true ∨ (!encoderFits s n d) = true ∨
      (!(match (s.slot n).decoder with | some k => decoderFits s n d k | none => true)) = true) := by
  unfold RearmFits
  simp only
  generalize calibOf { s.slot n with gcmdStatus := statusUnder (s.slot n) d } = cal
  cases (s.slot n).instance_ <;> cases (s.slot n).decoder <;> simp [and_assoc]

section
variable {s : State} {n : Nat} {l : List Byte} (hs : setupState s = true)
include hs

theorem writeStreamDesc_length (hl : l.length ≠ 192) : writeStreamDesc s n l = answer s 0x06070010 := by
  simp [writeStreamDesc, hs, hl]

theorem writeStreamDesc_starting (hl : l.length = 192) (hx : (s.slot n).starting = true) : writeStreamDesc s n l = answer s wrongState := by
  simp [writeStreamDesc, hs, hl, hx]

theorem writeStreamDesc_idle (hl : l.length = 192) (hx : (s.slot n).starting = false) (h0 : (s.slot n).st = 0) :
    writeStreamDesc s n l = answer (s.setSlot n { s.slot n with desc := writeBytes [] 0 l }) okCode := by
  simp [writeStreamDesc, hs, hl, hx, h0]

theorem writeStreamDesc_fits (hl : l.length = 192) (hx : (s.slot n).starting = false) (h0 : (s.slot n).st ≠ 0)
    (hf : RearmFits s n (writeBytes [] 0 l)) :
    writeStreamDesc s n l = answer (holdShadow (overrunCounted s n) n (writeBytes [] 0 l)) okCode := by
  obtain ⟨named, valid, room⟩ := (rearmFits_iff s n _).1 hf
  unfold writeStreamDesc
  simp only
  rw [if_neg (by simp [hs]), if_neg (by simp [hl]), if_neg (by simp [hx]), if_neg h0, if_neg named, if_neg valid]
  exact if_neg room

theorem writeStreamDesc_refused (hl : l.length = 192) (hx : (s.slot n).starting = false) (h0 : (s.slot n).st ≠ 0)
    (hf : ¬ RearmFits s n (writeBytes [] 0 l)) : writeStreamDesc s n l = answer s refusedCode := by
  rw [rearmFits_iff] at hf
  unfold writeStreamDesc
  simp only
  rw [if_neg (by simp [hs]), if_neg (by simp [hl]), if_neg (by simp [hx]), if_neg h0]
  split
  · rfl
  · next named =>
    split
    · rfl
    · next valid => exact if_pos (not_not.1 fun room => hf ⟨named, valid, room⟩)

end

theorem holdTabs_only (s : State) (n : Nat) (d : Mem) (t : SlotTabs) : OnlySlot n s (holdTabs s n d t) := onlySlot_setSlot _ _ _

theorem holdTabs_slot (s : State) (n : Nat) (d : Mem) (t : SlotTabs) : (holdTabs s n d t).slot n =
    { s.slot n with shadow := some (d, (builtViews d).isEmpty), shadowTabs := t, meshWait := builtViews d } := setSlot_slot _ _ _

theorem copyTables_onlySlot {n : Nat} {s t : State} (h : OnlySlot n s t) (d : Mem) : copyTables t d = copyTables s d := by
  rw [h.1]; rfl

/-- A descriptor with a table out of range is held, never to be ready (R187). -/
def heldOutOfRange (s : State) (n : Nat) (d : Mem) : State :=
  s.setSlot n { s.slot n with shadow := some (d, false), shadowTabs := {}, meshWait := [] }

theorem heldOutOfRange_slot (s : State) (n : Nat) (d : Mem) : (heldOutOfRange s n d).slot n =
    { s.slot n with shadow := some (d, false), shadowTabs := {}, meshWait := [] } := setSlot_slot _ _ _

theorem holdShadow_inRange {s : State} {n : Nat} {d : Mem} (h : meshRange d = false) : holdShadow s n d = holdTabs s n d (copyTables s d) :=
  if_neg (by simp [h])

theorem holdShadow_outOfRange {s : State} {n : Nat} {d : Mem} (h : meshRange d = true) :
    holdShadow s n d = stopSlot (heldOutOfRange s n d) n rMeshRange := if_pos h

/-! ### Host calibration and group (R171, spec/01 R18) -/

section
variable {s : State} {n : Nat} {l : List Byte} (hs : setupState s = true)
include hs

theorem writeHostCal_length (hl : 192 < l.length) : writeHostCal s n l = answer s 0x06070010 := by
  simp [writeHostCal, hs, hl]

theorem writeHostCal_none : writeHostCal s n [] = answer (s.setSlot n { s.slot n with hostCal := [] }) okCode := by
  simp [writeHostCal, hs]

theorem writeHostCal_bad (h0 : l ≠ []) (hl : l.length ≤ 192) (h : 3 ≤ gcmdStatus (s.slot n).desc l ∨ gWord l 6 2 ≠ l.length) :
    writeHostCal s n l = answer s refusedCode := by
  have := Nat.not_lt.2 hl
  simp only [writeHostCal, hs, this, h0, List.isEmpty_iff, Bool.not_true, Bool.false_eq_true, if_false]
  exact if_pos (by simpa using h)

theorem writeHostCal_good (h0 : l ≠ []) (hl : l.length ≤ 192) (h : gcmdStatus (s.slot n).desc l ≤ 2) (hw : gWord l 6 2 = l.length) :
    writeHostCal s n l = answer (s.setSlot n { s.slot n with hostCal := l }) okCode := by
  have := Nat.not_lt.2 hl
  simp only [writeHostCal, hs, this, h0, List.isEmpty_iff, Bool.not_true, Bool.false_eq_true, if_false]
  exact if_neg (by simp [hw]; omega)

theorem writeGroup_range {g : Nat} (hg : 3 < g) : writeGroup s n g = answer s outOfRange := by simp [writeGroup, hs, hg]

theorem writeGroup_bound {g : Nat} (hg : g ≤ 3) (hb : boundCtxs s n ≠ []) : writeGroup s n g = answer s wrongState := by
  have := Nat.not_lt.2 hg
  simp [writeGroup, hs, this, hb]

theorem writeGroup_free {g : Nat} (hg : g ≤ 3) (hb : boundCtxs s n = []) : writeGroup s n g =
    answer (s.setSlot n { s.slot n with group := if g = n / 8 then none else some g }) okCode := by
  have := Nat.not_lt.2 hg
  simp [writeGroup, hs, this, hb]

end

theorem slotGroup_written (s : State) (n g c : Nat) :
    slotGroup (answer (s.setSlot n { s.slot n with group := if g = n / 8 then none else some g }) c) n = g := by
  have hx : (answer (s.setSlot n { s.slot n with group := if g = n / 8 then none else some g }) c).slot n =
      { s.slot n with group := if g = n / 8 then none else some g } := setSlot_slot _ _ _
  unfold slotGroup
  rw [hx]
  by_cases h : g = n / 8
  · simp [h]
  · simp [h]

/-! ### GCMD reads (R169, R171, R190) -/

/-- The slot with the image that a read gives, or with none after the third NACK (R169). -/
def withImage (x : Slot) (r : GcmdRead) : Slot :=
  match gcmdImage r with
  | none => { x with gcmd := [], gcmdStatus := 3 }
  | some l => { x with gcmd := l, gcmdStatus := gcmdStatus x.desc l }

theorem withImage_nacked {x : Slot} {r : GcmdRead} (h : 3 ≤ r.nacks) : withImage x r = { x with gcmd := [], gcmdStatus := 3 } := by
  simp [withImage, gcmdImage, h]

theorem withImage_read {x : Slot} {r : GcmdRead} (h : r.nacks < 3) : withImage x r =
    { x with gcmd := r.bytes.take (max 8 (min 192 (gWord r.bytes 6 2)))
             gcmdStatus := gcmdStatus x.desc (r.bytes.take (max 8 (min 192 (gWord r.bytes 6 2)))) } := by
  simp [withImage, gcmdImage, Nat.not_le.2 h]

theorem withImage_keeps (x : Slot) (r : GcmdRead) :
    (withImage x r).reads = x.reads ∧ (withImage x r).reading = x.reading ∧ (withImage x r).desc = x.desc := by
  unfold withImage
  split <;> exact ⟨rfl, rfl, rfl⟩

theorem storeGcmd_only (s : State) (n : Nat) (r : GcmdRead) : OnlyCauses (s.setSlot n (withImage (s.slot n) r)) (storeGcmd s n r) := by
  change OnlyCauses _ (if 3 ≤ (withImage (s.slot n) r).gcmdStatus then raise (s.setSlot n (withImage (s.slot n) r)) (.slot n 1) n 0
    else s.setSlot n (withImage (s.slot n) r))
  split
  · exact raise_onlyCauses _ _ _ _
  · exact onlyCauses_refl _

theorem storeGcmd_slot (s : State) (n : Nat) (r : GcmdRead) : (storeGcmd s n r).slot n = withImage (s.slot n) r :=
  ((storeGcmd_only s n r).slot n).trans (setSlot_slot _ _ _)

/-- An image that is absent or bad raises CAL_HOST_ONLY. -/
theorem storeGcmd_raises {s : State} {n : Nat} {r : GcmdRead} (h : 3 ≤ (withImage (s.slot n) r).gcmdStatus) :
    leafIsSet (storeGcmd s n r).causes (.slot n 1) = true := by
  change leafIsSet (if 3 ≤ (withImage (s.slot n) r).gcmdStatus then raise (s.setSlot n (withImage (s.slot n) r)) (.slot n 1) n 0
    else s.setSlot n (withImage (s.slot n) r)).causes _ = true
  rw [if_pos h]
  exact leafIsSet_raise _ (l := .slot n 1) (by decide : 1 < 64) _ _

theorem storeGcmd_good {s : State} {n : Nat} {r : GcmdRead} (h : (withImage (s.slot n) r).gcmdStatus ≤ 2) :
    storeGcmd s n r = s.setSlot n (withImage (s.slot n) r) := by
  have good : ¬ 3 ≤ (withImage (s.slot n) r).gcmdStatus := by omega
  exact if_neg good

theorem gcmdBus_none {s : State} {n : Nat} (h : ∀ b, b < 8 → (s.bus b).waiting.head?.any (isGcmdOf n) = false) : gcmdBus s n = none := by
  unfold gcmdBus
  rw [List.find?_eq_none]
  intro b hb
  simp [h b (List.mem_range.1 hb)]

theorem gcmdDone_noBus {s : State} {n : Nat} (r : GcmdRead) (h : gcmdBus s n = none) : gcmdDone s n r = s := by
  simp [gcmdDone, h]

/-- The bus after its transfer at the front has ended. -/
def busFreed (s : State) (b : Nat) : State := s.setBus b { s.bus b with waiting := (s.bus b).waiting.drop 1 }

theorem busFreed_slot (s : State) (b n : Nat) : (busFreed s b).slot n = s.slot n := rfl

/-- The read that a slot asked for first has ended, and its image is stored. -/
def readTaken (s : State) (n b : Nat) (rest : List Nat) (r : GcmdRead) : State :=
  storeGcmd ((busFreed s b).setSlot n { s.slot n with reads := rest, reading := !rest.isEmpty }) n r

theorem readTaken_slot (s : State) (n b : Nat) (rest : List Nat) (r : GcmdRead) :
    (readTaken s n b rest r).slot n = withImage { s.slot n with reads := rest, reading := !rest.isEmpty } r := by
  unfold readTaken
  rw [storeGcmd_slot, setSlot_slot]

theorem gcmdDone_unasked {s : State} {n b : Nat} (r : GcmdRead) (hb : gcmdBus s n = some b) (h : (s.slot n).reads = []) :
    gcmdDone s n r = busFreed s b := by
  unfold gcmdDone
  rw [hb]
  simp only
  change (match (s.slot n).reads with | [] => busFreed s b | why :: rest => _) = _
  rw [h]

/-- The descriptor and the tables that a slot's calibration is for: those of its shadow, where it has one. -/
def calTarget (x : Slot) : Mem × SlotTabs := match x.shadow with | some (d, _) => (d, x.shadowTabs) | none => (x.desc, x.tabs)

/-- What the end of a read leads to, by what it was asked for (R162, R169, R190). -/
def afterRead (u : State) (n : Nat) (x : Slot) (why : Nat) : State :=
  let y := u.slot n
  if why = 0 then startTables u n
  else if why = 2 then
    (if moduleChanged x y then stopSlot u n rCameraChanged
     else u.setSlot n { y with timedOut := false, tf := none, smooth := none, waiting := true })
  else if needsCal (calTarget x).1 && calibOf y == 0 then u
  else holdTabs (u.setSlot n { y with moduleId := if imageReadable y then moduleOf y.gcmd else y.moduleId }) n (calTarget x).1 (calTarget x).2

theorem gcmdDone_asked {s : State} {n b why : Nat} {rest : List Nat} (r : GcmdRead) (hb : gcmdBus s n = some b)
    (h : (s.slot n).reads = why :: rest) : gcmdDone s n r = afterRead (readTaken s n b rest r) n (s.slot n) why := by
  unfold gcmdDone
  rw [hb]
  simp only
  change (match (s.slot n).reads with | [] => busFreed s b | why :: rest => _) = _
  rw [h]
  rfl

/-! ### Meshes (R172, R193) -/

/-- Tables with the mesh of view v built. -/
def meshAdded (s : State) (d : Mem) (t : SlotTabs) (cal : List Byte) (v : Nat) : SlotTabs :=
  { t with mesh := insertKey (erase t.mesh v) v (buildMesh s d t cal v) }

theorem meshAdded_mesh (s : State) (d : Mem) (t : SlotTabs) (cal : List Byte) (v : Nat) :
    lookup [] (meshAdded s d t cal v).mesh v = buildMesh s d t cal v := lookup_insertKey_same _ _ _ _ (erase_keys _ _)

/-- The views whose meshes are still to be built after that of v. -/
def meshesLeft (x : Slot) (v : Nat) : List Nat := x.meshWait.filter (fun k => k != v)

theorem meshesLeft_eq_nil {x : Slot} {v : Nat} (h : ∀ k ∈ x.meshWait, k = v) : meshesLeft x v = [] := by
  simpa [meshesLeft, List.filter_eq_nil_iff] using h

theorem meshesLeft_ne_nil {x : Slot} {v : Nat} (h : ∃ k ∈ x.meshWait, k ≠ v) : (meshesLeft x v).isEmpty = false := by
  obtain ⟨k, hk, hv⟩ := h
  rw [List.isEmpty_eq_false_iff_exists_mem]
  exact ⟨k, by simp [meshesLeft, hk, hv]⟩

/-- A starting slot without a shadow has one mesh more. -/
def startMesh (s : State) (n v : Nat) : State :=
  let x := s.slot n
  s.setSlot n { x with meshWait := meshesLeft x v, tabs := meshAdded s x.desc x.tabs (calibBytes x) v }

/-- The shadow d of a slot has one mesh more. -/
def shadowMesh (s : State) (n v : Nat) (d : Mem) : State :=
  let x := s.slot n
  s.setSlot n { x with meshWait := meshesLeft x v, shadow := some (d, (meshesLeft x v).isEmpty)
                       shadowTabs := meshAdded s d x.shadowTabs (calibBytes x) v }

theorem startMesh_slot (s : State) (n v : Nat) : (startMesh s n v).slot n =
    { s.slot n with meshWait := meshesLeft (s.slot n) v
                    tabs := meshAdded s (s.slot n).desc (s.slot n).tabs (calibBytes (s.slot n)) v } := setSlot_slot _ _ _

theorem shadowMesh_slot (s : State) (n v : Nat) (d : Mem) : (shadowMesh s n v d).slot n =
    { s.slot n with meshWait := meshesLeft (s.slot n) v, shadow := some (d, (meshesLeft (s.slot n) v).isEmpty)
                    shadowTabs := meshAdded s d (s.slot n).shadowTabs (calibBytes (s.slot n)) v } := setSlot_slot _ _ _

theorem meshDone_unasked {s : State} {n v : Nat} (h : v ∉ (s.slot n).meshWait) : meshDone s n v = s := by simp [meshDone, h]

theorem meshDone_idle {s : State} {n v : Nat} (h : (s.slot n).starting = false) (hs : (s.slot n).shadow = none) : meshDone s n v = s := by
  simp [meshDone, h, hs]

theorem meshDone_start {s : State} {n v : Nat} (hv : v ∈ (s.slot n).meshWait) (h : (s.slot n).starting = true)
    (hs : (s.slot n).shadow = none) : meshDone s n v =
      if (meshesLeft (s.slot n) v).isEmpty then enterRunning (startMesh s n v) n else startMesh s n v := by
  unfold meshDone
  simp only
  rw [if_neg (by simp [hv]), if_pos (by simp [h, hs])]
  rfl

theorem meshDone_shadow {s : State} {n v : Nat} {d : Mem} {b : Bool} (hv : v ∈ (s.slot n).meshWait)
    (hs : (s.slot n).shadow = some (d, b)) : meshDone s n v =
      if (s.slot n).starting && (meshesLeft (s.slot n) v).isEmpty then enterRunning (applyShadow (shadowMesh s n v d) n) n
      else shadowMesh s n v d := by
  unfold meshDone
  simp only
  rw [if_neg (by simp [hv]), if_neg (by simp [hs])]
  rw [hs]
  rfl

theorem enterRunning_only (s : State) (n : Nat) : OnlySlot n s (enterRunning s n) := onlySlot_setSlot _ _ _

/-- What a slot that becomes RUNNING keeps: its descriptor, its tables and the calibration in use (R172). -/
theorem enterRunning_slot (s : State) (n : Nat) : let y := (enterRunning s n).slot n
    y.st = 1 ∧ y.starting = false ∧ y.calib = calibOf (s.slot n) ∧ y.desc = (s.slot n).desc ∧ y.tabs = (s.slot n).tabs ∧
    y.meshWait = (s.slot n).meshWait := by
  have h : (enterRunning s n).slot n = _ := setSlot_slot _ _ _
  rw [h]
  exact ⟨rfl, rfl, rfl, rfl, rfl, rfl⟩

/-- The slot whose shadow d has taken effect (R193). -/
def shadowApplied (x : Slot) (d : Mem) : Slot :=
  let y := { x with desc := d, gcmdStatus := statusUnder x d }
  { y with tabs := x.shadowTabs, shadow := none, shadowTabs := {}, calib := calibOf y }

theorem applyShadow_ready {s : State} {n : Nat} {d : Mem} (h : (s.slot n).shadow = some (d, true)) :
    OnlyCauses (s.setSlot n (shadowApplied (s.slot n) d)) (applyShadow s n) := by
  unfold applyShadow
  simp only [h]
  split
  · exact raise_onlyCauses _ _ _ _
  · exact onlyCauses_refl _

theorem afterRead_start (u : State) (n : Nat) (x : Slot) : afterRead u n x 0 = startTables u n := rfl

theorem afterRead_changed {u : State} {n : Nat} {x : Slot} (h : moduleChanged x (u.slot n) = true) :
    afterRead u n x 2 = stopSlot u n rCameraChanged := by simp [afterRead, h]

theorem afterRead_returned {u : State} {n : Nat} {x : Slot} (h : moduleChanged x (u.slot n) = false) :
    afterRead u n x 2 = u.setSlot n { u.slot n with timedOut := false, tf := none, smooth := none, waiting := true } := by
  simp [afterRead, h]

theorem afterRead_noCal {u : State} {n : Nat} {x : Slot} (h : needsCal (calTarget x).1 = true) (hc : calibOf (u.slot n) = 0) :
    afterRead u n x 1 = u := by simp [afterRead, h, hc]

theorem afterRead_cal {u : State} {n : Nat} {x : Slot} (h : needsCal (calTarget x).1 = false ∨ calibOf (u.slot n) ≠ 0) :
    afterRead u n x 1 = holdTabs (u.setSlot n { u.slot n with
      moduleId := if imageReadable (u.slot n) then moduleOf (u.slot n).gcmd else (u.slot n).moduleId }) n (calTarget x).1 (calTarget x).2 := by
  unfold afterRead
  simp only
  rw [if_neg (by decide), if_neg (by decide)]
  exact if_neg (by simpa [Bool.and_eq_true, imp_iff_not_or] using h)

/-- What the slot holds after a read, and what its status raises (R169, R171). -/
theorem readTaken_facts (s : State) (n b : Nat) (rest : List Nat) (r : GcmdRead) :
    let u := readTaken s n b rest r
    let y := u.slot n
    (3 ≤ r.nacks → y.gcmdStatus = 3 ∧ y.gcmd = [] ∧ leafIsSet u.causes (.slot n 1) = true) ∧
    (r.nacks < 3 → y.gcmd = r.bytes.take (max 8 (min 192 (gWord r.bytes 6 2))) ∧ y.gcmdStatus = gcmdStatus (s.slot n).desc y.gcmd ∧
      (3 ≤ y.gcmdStatus → leafIsSet u.causes (.slot n 1) = true) ∧ (y.gcmdStatus ≤ 2 → u.causes = s.causes)) ∧
    y.reads = rest ∧ y.reading = !rest.isEmpty := by
  simp only
  rw [readTaken_slot]
  have raises : 3 ≤ (withImage { s.slot n with reads := rest, reading := !rest.isEmpty } r).gcmdStatus →
      leafIsSet (readTaken s n b rest r).causes (.slot n 1) = true := by
    intro h
    refine storeGcmd_raises ?_
    rw [setSlot_slot]
    exact h
  refine ⟨fun hn => ?_, fun hn => ?_, ?_⟩
  · have h := withImage_nacked (x := { s.slot n with reads := rest, reading := !rest.isEmpty }) hn
    rw [h]
    exact ⟨rfl, rfl, raises (by rw [h])⟩
  · refine ⟨?_, ?_, raises, fun h => ?_⟩
    · rw [withImage_read hn]
    · rw [withImage_read hn]
    · have good : readTaken s n b rest r = _ := storeGcmd_good (by rw [setSlot_slot]; exact h)
      rw [good]
      rfl
  · obtain ⟨hr, hg, -⟩ := withImage_keeps { s.slot n with reads := rest, reading := !rest.isEmpty } r
    exact ⟨hr, hg⟩

/-- The last mesh of a starting slot makes it RUNNING. -/
theorem meshDone_startLast {s : State} {n v : Nat} (hv : v ∈ (s.slot n).meshWait) (hst : (s.slot n).starting = true)
    (hsh : (s.slot n).shadow = none) (hl : ∀ k ∈ (s.slot n).meshWait, k = v) :
    meshDone s n v = enterRunning (startMesh s n v) n := by
  rw [meshDone_start hv hst hsh, meshesLeft_eq_nil hl]
  rfl

theorem meshDone_startMore {s : State} {n v : Nat} (hv : v ∈ (s.slot n).meshWait) (hst : (s.slot n).starting = true)
    (hsh : (s.slot n).shadow = none) (hl : ∃ k ∈ (s.slot n).meshWait, k ≠ v) : meshDone s n v = startMesh s n v := by
  rw [meshDone_start hv hst hsh, meshesLeft_ne_nil hl]
  rfl

theorem meshDone_shadowLast {s : State} {n v : Nat} {d : Mem} {b : Bool} (hv : v ∈ (s.slot n).meshWait)
    (hst : (s.slot n).starting = true) (hsh : (s.slot n).shadow = some (d, b)) (hl : ∀ k ∈ (s.slot n).meshWait, k = v) :
    meshDone s n v = enterRunning (applyShadow (shadowMesh s n v d) n) n := by
  rw [meshDone_shadow hv hsh, meshesLeft_eq_nil hl, hst]
  rfl

theorem meshDone_shadowMore {s : State} {n v : Nat} {d : Mem} {b : Bool} (hv : v ∈ (s.slot n).meshWait)
    (hsh : (s.slot n).shadow = some (d, b)) (h : (s.slot n).starting = false ∨ ∃ k ∈ (s.slot n).meshWait, k ≠ v) :
    meshDone s n v = shadowMesh s n v d := by
  rw [meshDone_shadow hv hsh, if_neg]
  rcases h with h | h
  · simp [h]
  · simp [meshesLeft_ne_nil h]

/-- The last mesh of a starting slot's shadow makes the shadow the slot's descriptor, and the slot RUNNING. -/
theorem shadowLast_leaves (s : State) (n v : Nat) (d : Mem) (hl : ∀ k ∈ (s.slot n).meshWait, k = v) :
    let t := enterRunning (applyShadow (shadowMesh s n v d) n) n
    OnlySlot n s { t with causes := s.causes } ∧ (t.slot n).desc = d ∧ (t.slot n).st = 1 ∧ (t.slot n).starting = false ∧
    lookup [] (t.slot n).tabs.mesh v = buildMesh s d (s.slot n).shadowTabs (calibBytes (s.slot n)) v := by
  have ready : ((shadowMesh s n v d).slot n).shadow = some (d, true) := by
    rw [shadowMesh_slot, meshesLeft_eq_nil hl]
    rfl
  have applied := applyShadow_ready ready
  obtain ⟨hst, hstart, -, hdesc, htabs, -⟩ := enterRunning_slot (applyShadow (shadowMesh s n v d) n) n
  have only : OnlySlot n s ((shadowMesh s n v d).setSlot n (shadowApplied ((shadowMesh s n v d).slot n) d)) :=
    onlySlot_trans (onlySlot_setSlot s n _) (onlySlot_setSlot _ n _)
  refine ⟨onlySlot_besideCauses (onlySlot_onlyCauses only applied) (enterRunning_only _ n), ?_, hst, hstart, ?_⟩
  · rw [hdesc, applied.slot, setSlot_slot]
    rfl
  · rw [htabs, applied.slot, setSlot_slot, shadowMesh_slot]
    exact meshAdded_mesh _ _ _ _ _

/-- Settles O32: each write and each end of a read or a mesh is one branch of its check, and writes one slot. -/
theorem slotSettingsAndCalibration : Obligations.SlotSettingsAndCalibration := by
  unfold Obligations.SlotSettingsAndCalibration
  refine ⟨fun n s => ⟨?wrongState, fun hs => ⟨?length, ?starting, ?idle, fun d hl hx h0 => ⟨?refused, ?shadow, ?range⟩,
    ?calLength, ?noCal, ?badCal, ?goodCal, ?groupRange, ?bound, ?group⟩⟩, ?noRead, fun n r s b hb => ⟨?unasked, ?read⟩,
    fun n v s => ⟨?notWaited, ?notHeld, ?more, ?last, ?lastShadow, ?moreShadow⟩⟩
  case wrongState =>
    intro hs d v
    refine ⟨?_, ?_, ?_⟩ <;> refine congrArg Host.Outcome.next (if_pos (by simp [hs]))
  case length => exact fun d hl => congrArg Host.Outcome.next (writeStreamDesc_length hs hl)
  case starting => exact fun d hl hx => congrArg Host.Outcome.next (writeStreamDesc_starting hs hl hx)
  case idle => exact fun d hl hx h0 => congrArg Host.Outcome.next (writeStreamDesc_idle hs hl hx h0)
  case refused => exact fun hf => congrArg Host.Outcome.next (writeStreamDesc_refused hs hl hx h0 hf)
  case shadow =>
    intro hf hm
    have only := overrunCounted_only s n.val
    have held := holdShadow_inRange (s := overrunCounted s n.val) (n := n.val) hm
    have all := onlySlot_trans only (holdTabs_only _ n.val (writeBytes [] 0 d) (copyTables (overrunCounted s n.val) (writeBytes [] 0 d)))
    obtain ⟨hslot, hdev⟩ := onlySlot_answer all okCode
    refine ⟨_, congrArg Host.Outcome.next ((writeStreamDesc_fits hs hl hx h0 hf).trans (by rw [held])), hslot, hdev, ?_⟩
    change ((holdTabs _ _ _ _).slot n.val).shadow = _ ∧ ((holdTabs _ _ _ _).slot n.val).shadowTabs = _ ∧
      ((holdTabs _ _ _ _).slot n.val).meshWait = _ ∧ ((holdTabs _ _ _ _).slot n.val).desc = _ ∧
      ((holdTabs _ _ _ _).slot n.val).st = _ ∧ ((holdTabs _ _ _ _).slot n.val).overrun = _
    rw [holdTabs_slot, overrunCounted_slot, copyTables_onlySlot only]
    exact ⟨rfl, rfl, rfl, rfl, rfl, rfl⟩
  case range =>
    intro hf hm
    have held := holdShadow_outOfRange (s := overrunCounted s n.val) (n := n.val) hm
    refine ⟨heldOutOfRange (overrunCounted s n.val) n.val (writeBytes [] 0 d),
      congrArg Host.Outcome.next ((writeStreamDesc_fits hs hl hx h0 hf).trans (by rw [held]; rfl)),
      onlySlot_trans (overrunCounted_only s n.val) (onlySlot_setSlot _ _ _), ?_⟩
    rw [heldOutOfRange_slot, overrunCounted_slot]
    exact ⟨rfl, rfl, rfl⟩
  case calLength => exact fun l hl => congrArg Host.Outcome.next (writeHostCal_length hs hl)
  case noCal => exact congrArg Host.Outcome.next (writeHostCal_none hs)
  case badCal => exact fun l h0 hl h => congrArg Host.Outcome.next (writeHostCal_bad hs h0 hl h)
  case goodCal => exact fun l h0 hl h hw => congrArg Host.Outcome.next (writeHostCal_good hs h0 hl h hw)
  case groupRange => exact fun v hv => congrArg Host.Outcome.next (writeGroup_range hs hv)
  case bound => exact fun v hv hb => congrArg Host.Outcome.next (writeGroup_bound hs hv hb)
  case group =>
    intro v hv hb
    obtain ⟨hslot, hdev⟩ := onlySlot_answer (onlySlot_setSlot s n.val
      { s.slot n.val with group := if v.toNat = n.val / 8 then none else some v.toNat }) okCode
    exact ⟨_, congrArg Host.Outcome.next (writeGroup_free hs hv hb), slotGroup_written _ _ _ _, hslot, hdev⟩
  case noRead => exact fun n r s h => congrArg Host.Outcome.next (gcmdDone_noBus r (gcmdBus_none h))
  case unasked => exact fun h => congrArg Host.Outcome.next (gcmdDone_unasked r hb h)
  case read =>
    intro why rest h
    have ends : exec (.gcmdReadDone n r) s = .next (afterRead (readTaken s n.val b rest r) n.val (s.slot n.val) why) :=
      congrArg Host.Outcome.next (gcmdDone_asked r hb h)
    obtain ⟨nacked, good, hreads, hreading⟩ := readTaken_facts s n.val b rest r
    refine ⟨nacked, good, hreads, hreading, ?_, ?_, ?_, ?_, ?_⟩
    · rintro rfl
      exact ends
    · rintro rfl hm
      exact ends.trans (congrArg Host.Outcome.next (afterRead_changed hm))
    · rintro rfl hm
      exact ends.trans (congrArg Host.Outcome.next (afterRead_returned hm))
    · rintro rfl hn hc
      exact ends.trans (congrArg Host.Outcome.next (afterRead_noCal hn hc))
    · rintro rfl hn
      exact ends.trans (congrArg Host.Outcome.next (afterRead_cal hn))
  case notWaited => exact fun hv => congrArg Host.Outcome.next (meshDone_unasked hv)
  case notHeld => exact fun hst hsh => congrArg Host.Outcome.next (meshDone_idle hst hsh)
  case more =>
    intro hv hst hsh hl
    refine ⟨_, congrArg Host.Outcome.next (meshDone_startMore hv hst hsh hl), onlySlot_setSlot _ _ _, ?_⟩
    rw [startMesh_slot]
    exact ⟨rfl, rfl, hst, meshAdded_mesh _ _ _ _ _⟩
  case last =>
    intro hv hst hsh hl
    obtain ⟨hrun, hstart, hcal, -, htabs, hwait⟩ := enterRunning_slot (startMesh s n.val v.val) n.val
    refine ⟨_, congrArg Host.Outcome.next (meshDone_startLast hv hst hsh hl), onlySlot_trans (onlySlot_setSlot _ _ _) (enterRunning_only _ _), ?_⟩
    rw [hwait, hcal, htabs, startMesh_slot]
    exact ⟨meshesLeft_eq_nil hl, hrun, hstart, rfl, meshAdded_mesh _ _ _ _ _⟩
  case lastShadow =>
    intro d b hv hst hsh hl
    exact ⟨_, congrArg Host.Outcome.next (meshDone_shadowLast hv hst hsh hl), shadowLast_leaves s n.val v.val d hl⟩
  case moreShadow =>
    intro d b hv h hsh
    refine ⟨_, congrArg Host.Outcome.next (meshDone_shadowMore hv hsh h), onlySlot_setSlot _ _ _, ?_⟩
    rw [shadowMesh_slot]
    exact ⟨rfl, rfl, meshAdded_mesh _ _ _ _ _⟩

end Sys2Proof.Machine

/-! SUPPORT. Firmware that restarts or is replaced, and quarters and links that are lost or come (spec/01 R15, R26, spec/10 R264, R265,
spec/13 R338, R354). -/

namespace Sys2Proof.Machine

open Sys2Proof.Safety

/-! ### Tackers that restart and Lasters that are replaced -/

theorem restartTacker_onlyCauses (s : State) (t : Nat) :
    OnlyCauses (count2601 (s.setTacker t { s.tacker t with state := 1, restarts := satAdd 16 (s.tacker t).restarts 1 }) 3 1)
      (restartTacker s t) := raise_onlyCauses _ _ _ _

theorem beginReplacement_onlyCauses (s : State) (n : Nat) :
    OnlyCauses (count2601 (s.setLaster n { s.laster n with state := 1, replacements := satAdd 16 (s.laster n).replacements 1 }) 4 1)
      (beginReplacement s n) := raise_onlyCauses _ _ _ _

theorem restartTacker_tacker (s : State) (t : Nat) :
    (restartTacker s t).tacker t = { s.tacker t with state := 1, restarts := satAdd 16 (s.tacker t).restarts 1 } :=
  ((restartTacker_onlyCauses s t).tacker t).trans ((count2601_tacker _ _ _ _).trans (setTacker_tacker s t _))

theorem restartTacker_tacker_other (s : State) {t k : Nat} (h : k ≠ t) : (restartTacker s t).tacker k = s.tacker k :=
  ((restartTacker_onlyCauses s t).tacker k).trans ((count2601_tacker _ _ _ _).trans (setTacker_tacker_other s t _ h))

/-- A restart sets TACKER_RESTART (R264). -/
theorem restartTacker_leaf (s : State) (t : Nat) : leafIsSet (restartTacker s t).causes (.main gFw 0) = true :=
  leafIsSet_raise_main _ _ (by decide) _ _

theorem restartTacker_count (s : State) (t : Nat) :
    lookup 0 (restartTacker s t).resil.count 3 = satAdd 32 (lookup 0 s.resil.count 3) 1 := by
  rw [(restartTacker_onlyCauses s t).resil]
  exact count2601_same _ 3 1

theorem restartTacker_keeps (s : State) (t : Nat) : (restartTacker s t).cells = s.cells ∧ (restartTacker s t).jobs = s.jobs ∧
    (restartTacker s t).lasters = s.lasters ∧ (restartTacker s t).boot = s.boot :=
  have h := restartTacker_onlyCauses s t
  ⟨h.cells, h.jobs, h.lasters, h.boot⟩

theorem beginReplacement_laster (s : State) (n : Nat) :
    (beginReplacement s n).laster n = { s.laster n with state := 1, replacements := satAdd 16 (s.laster n).replacements 1 } :=
  ((beginReplacement_onlyCauses s n).laster n).trans ((count2601_laster _ _ _ _).trans (setLaster_laster s n _))

theorem beginReplacement_laster_other (s : State) {n k : Nat} (h : k ≠ n) : (beginReplacement s n).laster k = s.laster k :=
  ((beginReplacement_onlyCauses s n).laster k).trans ((count2601_laster _ _ _ _).trans (setLaster_laster_other s n _ h))

/-- A replacement sets LASTER_REPLACED (R265). -/
theorem beginReplacement_leaf (s : State) (n : Nat) : leafIsSet (beginReplacement s n).causes (.main gFw 1) = true :=
  leafIsSet_raise_main _ _ (by decide) _ _

theorem beginReplacement_count (s : State) (n : Nat) :
    lookup 0 (beginReplacement s n).resil.count 4 = satAdd 32 (lookup 0 s.resil.count 4) 1 := by
  rw [(beginReplacement_onlyCauses s n).resil]
  exact count2601_same _ 4 1

theorem beginReplacement_keeps (s : State) (n : Nat) : (beginReplacement s n).cells = s.cells ∧ (beginReplacement s n).jobs = s.jobs ∧
    (beginReplacement s n).tackers = s.tackers :=
  have h := beginReplacement_onlyCauses s n
  ⟨h.cells, h.jobs, h.tackers⟩

/-- With no activation under way, a processor that runs its image anew changes nothing beyond itself (spec/13 R354). -/
theorem activated_idle {s : State} (h : s.boot.activation ≠ 1) (k : Nat) (ok : Bool) : activated s k ok = s := by
  simp [activated, h]

theorem exec_tackerWatchdog_down {t : TackerNo} {s : State} (h : (s.tacker t.val).state ≠ 0) : exec (.tackerWatchdog t) s = .next s :=
  congrArg Host.Outcome.next (if_neg h)

theorem exec_tackerWatchdog_up {t : TackerNo} {s : State} (h : (s.tacker t.val).state = 0) :
    exec (.tackerWatchdog t) s = .next (restartTacker s t.val) := congrArg Host.Outcome.next (if_pos h)

theorem exec_lasterWatchdog_down {n : LasterNo} {s : State} (h : (s.laster n.val).state ≠ 0) :
    exec (.lasterWatchdog n) s = .next (activated s n.val false) := congrArg Host.Outcome.next (if_neg h)

theorem exec_lasterWatchdog_up {n : LasterNo} {s : State} (h : (s.laster n.val).state = 0) :
    exec (.lasterWatchdog n) s = .next (beginReplacement s n.val) := congrArg Host.Outcome.next (if_pos h)

/-! ### The commands 0x2605 (R270) -/

section
variable {s : State} {v : Nat} (hr : runtimeState s = true)
include hr

theorem writeReplace_range (hv : 3 < v) : writeReplace s v = answer s outOfRange := by simp [writeReplace, hr, hv]

theorem writeReplace_down (hv : v ≤ 3) (h : (s.laster v).state ≠ 0) : writeReplace s v = answer s wrongState := by
  simp [writeReplace, hr, Nat.not_lt.2 hv, h]

theorem writeReplace_up (hv : v ≤ 3) (h : (s.laster v).state = 0) : writeReplace s v = answer (beginReplacement s v) okCode := by
  simp [writeReplace, hr, Nat.not_lt.2 hv, h]

theorem writeRestartTacker_range (hv : 15 < v) : writeRestartTacker s v = answer s outOfRange := by simp [writeRestartTacker, hr, hv]

theorem writeRestartTacker_down (hv : v ≤ 15) (h : (s.tacker v).state ≠ 0) : writeRestartTacker s v = answer s wrongState := by
  simp [writeRestartTacker, hr, Nat.not_lt.2 hv, h]

theorem writeRestartTacker_up (hv : v ≤ 15) (h : (s.tacker v).state = 0) :
    writeRestartTacker s v = answer (restartTacker s v) okCode := by
  simp [writeRestartTacker, hr, Nat.not_lt.2 hv, h]

end

/-! ### The end of a restart and of a replacement (R264, R265) -/

theorem exec_lasterReplacementDone_up {n : LasterNo} {s : State} (h : (s.laster n.val).state = 0) :
    exec (.lasterReplacementDone n) s = .next s := congrArg Host.Outcome.next (if_pos h)

theorem exec_lasterReplacementDone_down {n : LasterNo} {s : State} (h : (s.laster n.val).state ≠ 0) :
    exec (.lasterReplacementDone n) s =
      .next (activated (reconcile (s.setLaster n.val { s.laster n.val with state := 0 }) n.val) n.val true) := by
  refine congrArg Host.Outcome.next ((if_neg h).trans ?_)
  rw [replacementDone, if_neg h]

theorem exec_tackerRestartDone_notRestarting {t : TackerNo} {s : State} (h : (s.tacker t.val).state ≠ 1) (ok : Bool) :
    exec (.tackerRestartDone t ok) s = .next s := congrArg Host.Outcome.next (if_pos h)

theorem exec_tackerRestartDone_restarting {t : TackerNo} {s : State} (h : (s.tacker t.val).state = 1) (ok : Bool) :
    exec (.tackerRestartDone t ok) s = .next (activated (tackerBack s t.val ok) (4 + t.val) ok) :=
  congrArg Host.Outcome.next (if_neg (not_not.2 h))

theorem tackerBack_ok {s : State} {t : Nat} (h : (s.tacker t).state = 1) : tackerBack s t true =
    forceNext (afterFree (serveQueues (pendingActions (s.setTacker t { s.tacker t with state := 0, failed := 0 }) t) t)) (t / 4) := by
  unfold tackerBack
  simp only
  rw [if_neg (not_not.2 h), if_pos trivial]

theorem tackerBack_again {s : State} {t : Nat} (h : (s.tacker t).state = 1) (hf : (s.tacker t).failed < 2) : tackerBack s t false =
    restartTacker (s.setTacker t { s.tacker t with failed := (s.tacker t).failed + 1 }) t := by
  unfold tackerBack
  simp only
  rw [if_neg (not_not.2 h), if_neg (by decide), if_neg (Nat.not_le.2 hf)]

theorem tackerBack_fails {s : State} {t : Nat} (h : (s.tacker t).state = 1) (hf : 2 ≤ (s.tacker t).failed) : tackerBack s t false =
    isolateTacker (s.setTacker t { s.tacker t with failed := 3 }) t := by
  unfold tackerBack
  simp only
  rw [if_neg (not_not.2 h), if_neg (by decide), if_pos hf]

/-! ### A quarter that is lost (spec/01 R25, R26) -/

/-- A key that a filter lets no entry of pass reads the default. -/
theorem lookup_filter_none {α : Type} (d : α) (t : Tab α) (p : Nat × α → Bool) (k : Nat) (h : ∀ v, p (k, v) = false) :
    lookup d (t.filter p) k = d := by
  rcases lookup_mem_or_default d (t.filter p) k with e | hm
  · exact e
  · have := (List.mem_filter.1 hm).2
    rw [h] at this
    exact absurd this (by decide)

/-- A range of zeros reads 0. -/
theorem readByte_zeroRange (m : Mem) {a n c : Nat} (h : a ≤ c ∧ c < a + n) : readByte (zeroRange m a n) c = 0 :=
  lookup_filter_none _ _ _ _ fun v => by simp; omega

/-- Nothing but Tackers, Lasters and the cause tree is written, and no leaf is cleared. -/
def OnlyTackers (s t : State) : Prop :=
  t = { s with tackers := t.tackers, lasters := t.lasters, causes := t.causes } ∧
  ∀ m, leafIsSet s.causes m = true → leafIsSet t.causes m = true

theorem onlyTackers_refl (s : State) : OnlyTackers s s := ⟨rfl, fun _ h => h⟩

theorem onlyTackers_trans {s t u : State} (a : OnlyTackers s t) (b : OnlyTackers t u) : OnlyTackers s u := by
  refine ⟨?_, fun m h => b.2 m (a.2 m h)⟩
  rw [b.1, a.1]

section
variable {s t : State} (h : OnlyTackers s t)
include h

theorem OnlyTackers.cell (g : Nat) : t.cell g = s.cell g := by rw [h.1]; rfl
theorem OnlyTackers.fabric : t.fabric = s.fabric := by rw [h.1]
theorem OnlyTackers.jobs : t.jobs = s.jobs := by rw [h.1]
theorem OnlyTackers.ctxs : t.ctxs = s.ctxs := by rw [h.1]

end

theorem OnlyNotices.onlyTackers {s t : State} (h : OnlyNotices s t) : OnlyTackers s t := ⟨by rw [h.1], h.2⟩

theorem OnlyNotices.tacker {s t : State} (h : OnlyNotices s t) (k : Nat) : t.tacker k = s.tacker k := by rw [h.1]; rfl

theorem setTacker_onlyTackers (s : State) (t : Nat) (x : Tacker) : OnlyTackers s (s.setTacker t x) := ⟨rfl, fun _ h => h⟩

theorem onlyNotices_foldl {α : Type} {f : State → α → State} (hf : ∀ s a, OnlyNotices s (f s a)) (l : List α) (s : State) :
    OnlyNotices s (l.foldl f s) :=
  List.foldlRecOn (motive := OnlyNotices s) l f (onlyNotices_refl s) fun t ht a _ => onlyNotices_trans ht (hf t a)

/-- The claims that wait at a Tacker come back; beside its queues and the Lasters' FIFOs nothing is written. -/
theorem refuseQueued_onlyNotices (s : State) (t : Nat) :
    OnlyNotices (s.setTacker t { s.tacker t with queues := [] }) (refuseQueued s t) := by
  refine onlyNotices_foldl (fun s p => onlyNotices_foldl (fun s x => ?_) _ _) _ _
  cases x with
  | claim g id => exact sendNotice_onlyNotices _ _ _ _
  | _ => exact onlyNotices_refl s

/-- One Tacker of a lost quarter. -/
def tackerLost (s : State) (t : Nat) : State := refuseQueued (s.setTacker t { s.tacker t with state := 2 }) t

theorem tackerLost_only (s : State) (t : Nat) : OnlyTackers s (tackerLost s t) :=
  onlyTackers_trans (onlyTackers_trans (setTacker_onlyTackers s t _) (setTacker_onlyTackers _ t _))
    (refuseQueued_onlyNotices _ t).onlyTackers

theorem tackerLost_state (s : State) (t k : Nat) : ((tackerLost s t).tacker k).state = if k = t then 2 else (s.tacker k).state := by
  unfold tackerLost
  rw [(refuseQueued_onlyNotices _ t).tacker]
  by_cases e : k = t
  · subst e
    rw [setTacker_tacker, setTacker_tacker, if_pos rfl]
  · rw [setTacker_tacker_other _ _ _ e, setTacker_tacker_other _ _ _ e, if_neg e]

/-- The Tackers of quarter q go out of service. -/
def tackersLost (q : Nat) (l : List Nat) (s : State) : State := l.foldl (fun s c => tackerLost s (4 * q + c)) s

theorem tackersLost_only (q : Nat) (l : List Nat) (s : State) : OnlyTackers s (tackersLost q l s) :=
  List.foldlRecOn (motive := OnlyTackers s) l _ (onlyTackers_refl s) fun t ht _ _ => onlyTackers_trans ht (tackerLost_only t _)

theorem tackersLost_state (q : Nat) (l : List Nat) (s : State) (k : Nat) :
    ((tackersLost q l s).tacker k).state = if ∃ c ∈ l, k = 4 * q + c then 2 else (s.tacker k).state := by
  unfold tackersLost
  induction l generalizing s with
  | nil => simp
  | cons c l ih =>
    rw [List.foldl_cons, ih, tackerLost_state]
    by_cases e : k = 4 * q + c <;> simp [e]

/-- A cell that its quarter has taken along. -/
def CellGone (c : CellState) : Prop := c.fence = true ∧ c.service = 4 ∧ c.tackerClaim = false

/-- The cells of quarter q go out of service. -/
def cellsLost (q : Nat) (l : List Nat) (s : State) : State := l.foldl (fun s i => outOfService (fun _ => 4) s (16 * q + i)) s

theorem cellsLost_only (q : Nat) (l : List Nat) (s : State) : OnlyFencing s (cellsLost q l s) :=
  List.foldlRecOn (motive := OnlyFencing s) l _ rfl fun t ht _ _ => onlyFencing_trans ht (outOfService_only _ t _)

theorem sameStanding_cellGone {c d : CellState} (h : SameStanding c d) (hc : CellGone c) : CellGone d := by
  obtain ⟨hf, hs, -, ht, -⟩ := h
  exact ⟨hf.trans hc.1, hs.trans hc.2.1, ht.trans hc.2.2⟩

theorem outOfService_cellGone (s : State) (g h : Nat) (hc : h = g ∨ CellGone (s.cell h)) :
    CellGone ((outOfService (fun _ => 4) s g).cell h) := by
  by_cases e : h = g
  · subst e
    exact sameStanding_cellGone (outOfService_cell _ s h) ⟨rfl, rfl, rfl⟩
  · exact sameStanding_cellGone (outOfService_cell_other _ s g e) (hc.resolve_left e)

theorem cellsLost_gone (q : Nat) (l : List Nat) (s : State) (h : Nat) (hc : (∃ i ∈ l, h = 16 * q + i) ∨ CellGone (s.cell h)) :
    CellGone ((cellsLost q l s).cell h) := by
  unfold cellsLost
  induction l generalizing s with
  | nil => exact hc.resolve_left (by simp)
  | cons i l ih =>
    rw [List.foldl_cons]
    refine ih _ ?_
    rcases hc with ⟨k, hk, e⟩ | hc
    · rcases List.mem_cons.1 hk with rfl | hk
      · exact .inr (outOfService_cellGone _ _ _ (.inl e))
      · exact .inl ⟨k, hk, e⟩
    · exact .inr (outOfService_cellGone _ _ _ (.inr hc))

theorem cellsLost_other (q : Nat) (l : List Nat) (s : State) (h : Nat) (hl : ∀ i ∈ l, h ≠ 16 * q + i) :
    SameStanding (s.cell h) ((cellsLost q l s).cell h) :=
  List.foldlRecOn (motive := fun t : State => SameStanding (s.cell h) (t.cell h)) l _ (sameStanding_refl _) fun t ht i hi =>
    sameStanding_trans ht (outOfService_cell_other _ t _ (hl i hi))

/-- The quarter's memories, its place on the links and its work in the fabric are gone. -/
def quarterCut (s : State) (q : Nat) : State :=
  let f := s.fabric
  { s with fabric := { f with
    mapStore := zeroRange f.mapStore (q * 33554432) 33554432, lpddr := zeroRange f.lpddr (q * quarterRegion) quarterRegion,
    lost := f.lost ++ [q], linkUp := f.linkUp.filter (fun x => x != q), lacer := f.lacer.filter (fun p => decide (p.1 / 4 ≠ q)),
    awl := f.awl.filter (fun p => decide (p.1 ≠ q)), updates := f.updates.filter (fun p => decide (p.1 ≠ q)) } }

/-- The quarter's rail is off, and its leaf set. -/
def quarterDown (s : State) (q : Nat) : State :=
  raise ((quarterCut s q).setQpower q { (quarterCut s q).qpower q with state := 3 }) (.main gQuarter q) 0 0

theorem quarterDown_only (s : State) (q : Nat) :
    OnlyCauses ((quarterCut s q).setQpower q { (quarterCut s q).qpower q with state := 3 }) (quarterDown s q) := raise_onlyCauses _ _ _ _

theorem quarterDown_fabric (s : State) (q : Nat) : (quarterDown s q).fabric = (quarterCut s q).fabric := (quarterDown_only s q).fabric

/-- The quarter with its Tackers out of service. -/
def quarterUnled (s : State) (q : Nat) : State := tackersLost q (List.range 4) (quarterDown s q)

/-- The quarter with its Tackers and cells out of service, before contexts and jobs follow. -/
def quarterOut (s : State) (q : Nat) : State := cellsLost q (List.range 16) (quarterUnled s q)

theorem quarterUnled_only (s : State) (q : Nat) : OnlyTackers (quarterDown s q) (quarterUnled s q) := tackersLost_only _ _ _

theorem quarterOut_only (s : State) (q : Nat) : OnlyFencing (quarterUnled s q) (quarterOut s q) := cellsLost_only _ _ _

/-- The transfers on the quarter's Lacers. -/
def transfersOf (s : State) (q : Nat) : List Transfer := (s.fabric.lacer.filter (fun p => decide (p.1 / 4 = q))).flatMap (·.2)

theorem loseQuarter_lost {s : State} {q : Nat} (h : q ∈ s.fabric.lost) : loseQuarter s q = s := by simp [loseQuarter, h]

theorem loseQuarter_eq {s : State} {q : Nat} (h : q ∉ s.fabric.lost) : loseQuarter s q =
    if (quarterDown s q).fabric.lost.length = 4 then enterFault (quarterDown s q)
    else afterLoss (transfersOf s q) q (quarterOut s q) := by
  unfold loseQuarter
  rw [if_neg (by simpa using h)]
  rfl

theorem quarterDown_lost (s : State) (q : Nat) : (quarterDown s q).fabric.lost = s.fabric.lost ++ [q] := by
  rw [quarterDown_fabric]
  rfl

theorem loseQuarter_loses {s : State} {q : Nat} (h : q ∉ s.fabric.lost) (hl : s.fabric.lost.length < 3) :
    loseQuarter s q = afterLoss (transfersOf s q) q (quarterOut s q) := by
  rw [loseQuarter_eq h, quarterDown_lost, if_neg]
  rw [List.length_append, List.length_singleton]
  omega

theorem loseQuarter_fourth {s : State} {q : Nat} (h : q ∉ s.fabric.lost) (hl : s.fabric.lost.length = 3) :
    loseQuarter s q = enterFault (quarterDown s q) := by
  rw [loseQuarter_eq h, quarterDown_lost, if_pos]
  rw [List.length_append, List.length_singleton, hl]

theorem quarterDown_leaf (s : State) {q : Nat} (h : q < 4) : leafIsSet (quarterDown s q).causes (.main gQuarter q) = true :=
  leafIsSet_raise_main _ _ (by omega) _ _

/-- The parts of the fabric that the cells' loss leaves as the cut left them. -/
theorem quarterOut_fabric (s : State) (q : Nat) : (quarterOut s q).fabric = { (quarterCut s q).fabric with
    barrier := (quarterOut s q).fabric.barrier, updates := (quarterOut s q).fabric.updates } := by
  have h := (quarterOut_only s q).fabric
  rwa [(quarterUnled_only s q).fabric, quarterDown_fabric] at h

theorem quarterOut_cell (s : State) (q h : Nat) : (h / 16 = q → CellGone ((quarterOut s q).cell h)) ∧
    (h / 16 ≠ q → SameStanding (s.cell h) ((quarterOut s q).cell h)) := by
  have before : (quarterUnled s q).cell h = s.cell h := ((quarterUnled_only s q).cell h).trans ((quarterDown_only s q).cell h)
  refine ⟨fun e => cellsLost_gone _ _ _ _ (.inl ⟨h % 16, List.mem_range.2 (Nat.mod_lt _ (by decide)), by omega⟩), fun e => ?_⟩
  rw [← before]
  refine cellsLost_other _ _ _ _ fun i hi => ?_
  have := List.mem_range.1 hi
  omega

theorem quarterOut_tacker (s : State) (q k : Nat) :
    ((quarterOut s q).tacker k).state = if k / 4 = q then 2 else (s.tacker k).state := by
  have inQuarter : (∃ c ∈ List.range 4, k = 4 * q + c) ↔ k / 4 = q := by
    constructor
    · rintro ⟨c, hc, rfl⟩
      have := List.mem_range.1 hc
      omega
    · exact fun e => ⟨k % 4, List.mem_range.2 (Nat.mod_lt _ (by decide)), by omega⟩
  have lost := tackersLost_state q (List.range 4) (quarterDown s q) k
  simp only [inQuarter] at lost
  rw [(quarterOut_only s q).tacker]
  exact lost.trans (congrArg (fun x : Tacker => if k / 4 = q then 2 else x.state) ((quarterDown_only s q).tacker k))

theorem quarterRegion_pos : 0 < quarterRegion := by
  unfold quarterRegion lpddrSize
  split <;> decide

/-- A quarter that is lost goes with all that R25 and R26 name. -/
theorem quarterGone_quarterOut {s : State} {q : Nat} (hq : q < 4) : QuarterGone s q (quarterOut s q) := by
  have out := quarterOut_only s q
  have unled := quarterUnled_only s q
  have fabric := quarterOut_fabric s q
  have within {a r : Nat} (hr : 0 < r) (h : a / r = q) : q * r ≤ a ∧ a < q * r + r := by
    subst h
    exact ⟨Nat.div_mul_le_self a r, Nat.lt_div_mul_add hr⟩
  refine ⟨by rw [fabric]; rfl, ?leaf, ?jobs, ?ctxs, fun i hi => ?gone, fun h hh => ?others, fun c hc => ?down, fun t ht => ?up,
    fun a ha => ?map, fun a ha => ?lpddr, fun p hp => ?lacer⟩
  case leaf =>
    rw [out.causes]
    exact unled.2 _ (quarterDown_leaf s hq)
  case jobs => exact out.jobs.trans (unled.jobs.trans (quarterDown_only s q).jobs)
  case ctxs => exact out.ctxs.trans (unled.ctxs.trans (quarterDown_only s q).ctxs)
  case gone => exact (quarterOut_cell s q _).1 (by omega)
  case others =>
    obtain ⟨hf, -, -, -, hm⟩ := (quarterOut_cell s q h).2 hh
    exact ⟨hf, hm⟩
  case down => rw [quarterOut_tacker, if_pos (by omega)]
  case up => rw [quarterOut_tacker, if_neg ht]
  case map =>
    rw [fabric]
    exact readByte_zeroRange _ (within (by decide) ha)
  case lpddr =>
    rw [fabric]
    exact readByte_zeroRange _ (within quarterRegion_pos ha)
  case lacer =>
    rw [fabric] at hp
    exact of_decide_eq_true (List.mem_filter.1 hp).2

/-! ### Records, events and halts -/

/-- The fabric is not written, and a cell is written only as a halt or a release writes it: none becomes idle that was not. -/
structure OnlyHalts (s t : State) : Prop where
  fabric : t.fabric = s.fabric
  idle : ∀ g, (t.cell g).st = .idle → (s.cell g).st = .idle

theorem OnlyHalts.of_same {s t : State} (hf : t.fabric = s.fabric) (hc : t.cells = s.cells) : OnlyHalts s t :=
  ⟨hf, fun g h => by unfold State.cell at h ⊢; rwa [hc] at h⟩

@[refl] theorem OnlyHalts.refl (s : State) : OnlyHalts s s := ⟨rfl, fun _ h => h⟩

theorem OnlyHalts.after {s t u : State} (k : OnlyHalts t u) (h : OnlyHalts s t) : OnlyHalts s u :=
  ⟨k.fabric.trans h.fabric, fun g i => h.idle g (k.idle g i)⟩

theorem onlyHalts_foldl {α : Type} {f : State → α → State} (hf : ∀ s a, OnlyHalts s (f s a)) (l : List α) (s : State) :
    OnlyHalts s (l.foldl f s) :=
  List.foldlRecOn (motive := OnlyHalts s) l f (.refl s) fun t ht a _ => (hf t a).after ht

/-- A cell is written that was idle or is not idle now. -/
theorem onlyHalts_setCell {s : State} {g : Nat} {c : CellState} (h : c.st = .idle → (s.cell g).st = .idle) : OnlyHalts s (s.setCell g c) := by
  refine ⟨rfl, fun k hk => ?_⟩
  by_cases e : k = g
  · subst e
    exact h (by rwa [setCell_cell] at hk)
  · rwa [setCell_cell_other _ _ _ e] at hk

theorem onlyHalts_raise (s : State) (l : Leaf) (arg addr : Nat) : OnlyHalts s (raise s l arg addr) := .of_same (raise_onlyCauses _ _ _ _).fabric (raise_onlyCauses _ _ _ _).cells

theorem onlyHalts_closeSecond (s : State) (r : List Byte) : OnlyHalts s (closeSecond s r) := by
  unfold closeSecond
  simp only
  split <;> exact .of_same rfl rfl

theorem onlyHalts_draw (s : State) : OnlyHalts s s.draw := .of_same rfl rfl
theorem onlyHalts_setQueue (s : State) (q : Nat) (x : Queue) : OnlyHalts s (s.setQueue q x) := .of_same rfl rfl
theorem onlyHalts_updateResults (s : State) (c : Nat) (r : RecIn) : OnlyHalts s (updateResults s c r) := .of_same rfl rfl
theorem onlyHalts_ringWrite (s : State) (ch a : Nat) (l : List Byte) : OnlyHalts s (ringWrite s ch a l) := .of_same rfl rfl
theorem onlyHalts_commitQueue (s : State) (q : Nat) (x : Queue) : OnlyHalts s (commitQueue s q x) := .of_same rfl rfl

theorem onlyHalts_landRaw (s : State) (q : Nat) (x : Queue) (r : List Byte) : OnlyHalts s (landRaw s q x r) :=
  (onlyHalts_commitQueue _ _ _).after ((onlyHalts_ringWrite _ _ _ _).after (onlyHalts_closeSecond s r))

theorem onlyHalts_postEvent (s : State) (c code : Nat) (data : List Byte) : OnlyHalts s (postEvent s c code data) := by
  unfold postEvent
  simp only
  split
  · exact .of_same rfl rfl
  · split
    · exact .of_same rfl rfl
    · split
      · exact onlyHalts_landRaw _ _ _ _
      · exact .of_same rfl rfl

theorem onlyHalts_reportDropped (s : State) (c : Nat) : OnlyHalts s (reportDropped s c) := by
  unfold reportDropped
  simp only
  split
  · split
    · exact .of_same rfl rfl
    · split
      · exact .of_same rfl rfl
      · split
        · exact (onlyHalts_postEvent _ _ _ _).after (onlyHalts_setQueue _ _ _)
        · exact .of_same rfl rfl
  · exact .of_same rfl rfl

theorem onlyHalts_noteLate (s : State) (c : Nat) : OnlyHalts s (noteLate s c) := by
  unfold noteLate
  exact (onlyHalts_raise _ _ _ _).after (.of_same rfl rfl)

/-- The interval of a SECOND record that never lands ends. -/
def dropSecond (s : State) (c : Nat) (r : RecIn) : State := if 64 ≤ r.flags % 128 then closeLate s c r.out r.tag r.tInput else s

theorem onlyHalts_dropSecond (s : State) (c : Nat) (r : RecIn) : OnlyHalts s (dropSecond s c r) := by
  unfold dropSecond
  split <;> exact .of_same rfl rfl

/-- A record goes to the COMPLETE ring, to the hold of 16, or to the count of dropped records (R208). -/
def queueRecord (s : State) (c cq : Nat) (r : RecIn) : State :=
  match s.queue? cq with
  | none => dropSecond s c r
  | some q =>
    if q.typ ≠ .complete ∨ q.ctx ≠ c then dropSecond s c r
    else if q.held.isEmpty && q.room then landRaw s cq q (stampPost q.version r.moment (r.bytes q.version c))
    else if q.held.length < 16 then commitQueue s cq { q with held := q.held ++ [r.bytes q.version c] }
    else reportDropped (raise (commitQueue (dropSecond s c r) cq { q with lost := satAdd 32 q.lost 1, droppedSince := q.droppedSince + 1 })
      (.main gSched 1) c 0) c

theorem onlyHalts_queueRecord (s : State) (c cq : Nat) (r : RecIn) : OnlyHalts s (queueRecord s c cq r) := by
  unfold queueRecord
  split
  · exact onlyHalts_dropSecond s c r
  · split
    · exact onlyHalts_dropSecond s c r
    · split
      · exact onlyHalts_landRaw _ _ _ _
      · split
        · exact .of_same rfl rfl
        · exact (onlyHalts_reportDropped _ _).after ((onlyHalts_raise _ _ _ _).after
            ((onlyHalts_commitQueue _ _ _).after (onlyHalts_dropSecond s c r)))

/-- The objects and the late count that a record updates before it is queued (R198, spec/12 R315). -/
def notedRecord (s : State) (c : Nat) (r : RecIn) : State :=
  if r.status = stLate then noteLate (updateResults s c r) c else updateResults s c r

theorem onlyHalts_notedRecord (s : State) (c : Nat) (r : RecIn) : OnlyHalts s (notedRecord s c r) := by
  unfold notedRecord
  split
  · exact (onlyHalts_noteLate _ _).after (onlyHalts_updateResults s c r)
  · exact .of_same rfl rfl

theorem postRecord_eq (s : State) (c : Nat) (r : RecIn) : postRecord s c r =
    let r := { r with flags := r.flags ||| (if (s.ctx c).st = .unadmitted then 4 else 0) }
    queueRecord (notedRecord s c r) c (s.ctx c).cq r := rfl

theorem onlyHalts_postRecord (s : State) (c : Nat) (r : RecIn) : OnlyHalts s (postRecord s c r) := by
  rw [postRecord_eq]
  exact (onlyHalts_queueRecord _ _ _ _).after (onlyHalts_notedRecord _ _ _)

theorem onlyHalts_postJob (s : State) (j : Job) (status flags code : Nat) (b : Bool) : OnlyHalts s (postJob s j status flags code b) :=
  (onlyHalts_draw _).after (onlyHalts_foldl (fun s _ => onlyHalts_postRecord s j.ctx _) _ s)

theorem onlyHalts_setTacker (s : State) (t : Nat) (x : Tacker) : OnlyHalts s (s.setTacker t x) := .of_same rfl rfl

theorem onlyHalts_enqueueCmd (s : State) (t n : Nat) (x : TackCmd) : OnlyHalts s (enqueueCmd s t n x) := by
  unfold enqueueCmd
  simp only
  split <;> exact .of_same rfl rfl

theorem onlyHalts_sendCmd {act : State → State} (h : ∀ s, OnlyHalts s (act s)) (s : State) (t n : Nat) (x : TackCmd) :
    OnlyHalts s (sendCmd s t n x act) := by
  unfold sendCmd
  split
  · exact onlyHalts_enqueueCmd _ _ _ _
  · exact (h _).after (onlyHalts_setTacker s t _)

theorem onlyHalts_haltRequest (s : State) (g : Nat) : OnlyHalts s (haltRequest s g) := by
  unfold haltRequest
  simp only
  split
  · rfl
  · split
    · exact onlyHalts_setCell fun h => nomatch h
    · exact onlyHalts_setCell id

theorem onlyHalts_haltCellOf (s : State) (g id : Nat) : OnlyHalts s (haltCellOf s g id) := by
  unfold haltCellOf
  split
  · split
    · exact onlyHalts_setCell fun h => h
    · exact onlyHalts_haltRequest s g
  · rfl

theorem onlyHalts_haltJob (s : State) (j : Job) : OnlyHalts s (haltJob s j) := by
  refine onlyHalts_foldl (fun s g => ?_) _ s
  split
  · exact onlyHalts_sendCmd (fun u => onlyHalts_haltCellOf u g j.id) _ _ _ _
  · exact .of_same rfl rfl

theorem onlyHalts_releaseJob (s : State) (j : Job) : OnlyHalts s (releaseJob s j) := by
  refine onlyHalts_foldl (fun s g => ?_) _ s
  split
  · exact onlyHalts_setCell fun h => h
  · rfl

theorem onlyHalts_modJob (s : State) (id : Nat) (f : Job → Job) : OnlyHalts s (s.modJob id f) := .of_same rfl rfl
theorem onlyHalts_dropJob (s : State) (id : Nat) : OnlyHalts s (dropJob s id) := .of_same rfl rfl
theorem onlyHalts_creditRun (s : State) (j : Job) (t : Nat) : OnlyHalts s (creditRun s j t) := .of_same rfl rfl

theorem onlyHalts_credited (s : State) (j : Job) : OnlyHalts s (creditRun (releaseJob s j) j s.now) :=
  (onlyHalts_creditRun _ _ _).after (onlyHalts_releaseJob s j)

theorem onlyHalts_settleJob (s : State) (id : Nat) : OnlyHalts s (settleJob s id) := by
  unfold settleJob
  split
  · exact .of_same rfl rfl
  · split
    · exact .of_same rfl rfl
    · split
      · exact (onlyHalts_dropJob _ _).after (onlyHalts_credited _ _)
      · split
        · exact (onlyHalts_modJob _ _ _).after (onlyHalts_credited _ _)
        · exact .of_same rfl rfl

theorem onlyHalts_abandonJob (s : State) (id : Nat) : OnlyHalts s (abandonJob s id) := by
  unfold abandonJob
  split
  · exact .of_same rfl rfl
  · exact (onlyHalts_settleJob _ _).after ((onlyHalts_modJob _ _ _).after (onlyHalts_haltJob _ _))

theorem onlyHalts_unloadJobs (s : State) (c : Nat) : OnlyHalts s (unloadJobs s c) := by
  refine onlyHalts_foldl (fun s j => ?_) _ s
  split
  · exact .of_same rfl rfl
  · exact (onlyHalts_abandonJob _ _).after (onlyHalts_postJob _ _ _ _ _ _)

/-! ### A context that is unloaded loses no quarter -/

theorem rewritten_lost (s : State) (space addr len : Nat) : (rewritten s space addr len).fabric.lost = s.fabric.lost := by
  unfold rewritten
  simp only
  split <;> rfl

theorem freeLines_lost (s : State) (a n : Nat) : (freeLines s a n).fabric.lost = s.fabric.lost := rewritten_lost _ _ _ _

theorem onlyHalts_unmapOwner (s : State) (owner : Nat) : OnlyHalts s (unmapOwner s owner) := by
  refine onlyHalts_foldl (fun s ch => ?_) _ s
  simp only
  split <;> exact .of_same rfl rfl

/-- The package's lines of a context that is unloaded, where it has one, become free. -/
def packageFreed (s : State) (x : Ctx) : State := match x.pkg with | some p => freeLines s x.allocAt p.allocBytes | none => s

theorem packageFreed_lost (s : State) (x : Ctx) : (packageFreed s x).fabric.lost = s.fabric.lost := by
  unfold packageFreed
  split
  · exact freeLines_lost _ _ _
  · rfl

theorem unloadCtx_lost (s : State) (c reason : Nat) : (unloadCtx s c reason).fabric.lost = s.fabric.lost := by
  have jobs : (postEvent (unloadJobs s c) c evUnloaded [BitVec.ofNat 8 reason]).fabric = s.fabric :=
    ((onlyHalts_postEvent _ _ _ _).after (onlyHalts_unloadJobs s c)).fabric
  have unmapped (u : State) : (unmapOwner u c).fabric.lost = u.fabric.lost := congrArg Fabric.lost ((onlyHalts_unmapOwner u c).fabric)
  refine (unmapped _).trans ((packageFreed_lost _ _).trans ?_)
  rw [jobs]

/-! ### FAULT (spec/12 R327) -/

/-- Every cell stops and every context is unloaded. -/
def faultUnloaded (s : State) : State :=
  let s := { s with fabric := { s.fabric with lost := allQuarters } }
  let s := (List.range 64).foldl (fun s g => s.modCell g (fun c =>
    { stopRun c with
      fence := true, service := 4, tackerClaim := false, forced := false, claim := none, idleSince := s.now, startHeld := false, startFor := [], st := if c.st = .running then .halted else c.st })) s
  ((loadedCtxs s).map (·.1)).foldl (fun s c => unloadCtx s c 1) s

/-- Jobs and Tackers are gone. -/
def faultUnled (s : State) : State :=
  { s with jobs := [], tackers := (List.range 16).map (fun t => (t, { s.tacker t with state := 2, queues := [] })) }

/-- Every slot is IDLE. -/
def slotsIdle (l : List Nat) (s : State) : State := l.foldl (fun s n => s.setSlot n (s.slot n).idle) s

def ofHost : BusReq → Bool
  | .host _ => true
  | .gcmd .. => false

/-- Only the host's transfers stay on a bus. -/
def Bus.hostOnly (b : Bus) : Bus := { b with waiting := b.waiting.filter ofHost }

def busesFreed (s : State) : State := { s with streams := { s.streams with bus := mapKeys {} s.streams.bus 8 Bus.hostOnly } }

/-- Every quarter's leaf is set. -/
def quarterLeaves (s : State) : State := allQuarters.foldl (fun s q => raise s (.main gQuarter q) 0 0) s

/-- The device is in FAULT with its AL error, and the quarters' rails are off. -/
def faultEntered (s : State) : State :=
  allQuarters.foldl (fun s q => s.setQpower q { s.qpower q with state := 3 })
    (setDevState (alRefuse (if s.dev.al = .init then s else { s with dev := { s.dev with al := .preop } }) 0x8001) .fault)

theorem enterFault_eq (s : State) : enterFault s =
    publish (faultEntered (quarterLeaves (busesFreed (slotsIdle (List.range 32) (faultUnled (faultUnloaded s)))))) false := rfl

/-- A state whose device is in FAULT, with nothing but causes, device and rails changed. -/
def FaultOf (s t : State) : Prop :=
  t = { s with causes := t.causes, dev := t.dev, power := t.power } ∧ t.dev.state = .fault ∧ t.dev.alError = true ∧ t.dev.alCode = 0x8001

theorem setQpower_faultOf {s t : State} (h : FaultOf s t) (q : Nat) (x : QPower) : FaultOf s (t.setQpower q x) := by
  obtain ⟨e, hd⟩ := h
  refine ⟨?_, hd⟩
  rw [e]
  rfl

theorem setDevState_same (s : State) (d : DevState) : (setDevState s d).dev.state = d ∧ (setDevState s d).dev.alError = s.dev.alError ∧
    (setDevState s d).dev.alCode = s.dev.alCode ∧ setDevState s d = { s with dev := (setDevState s d).dev } := by
  unfold setDevState
  split
  · next h => exact ⟨h, rfl, rfl, rfl⟩
  · exact ⟨rfl, rfl, rfl, rfl⟩

/-- A refused AL request writes the device and the cause tree. -/
theorem alRefuse_only (s : State) (code : Nat) :
    OnlyCauses { s with dev := { s.dev with alError := true, alCode := code } } (alRefuse s code) := raise_onlyCauses _ _ _ _

theorem setDevState_faultOf {s t : State} (h : t = { s with causes := t.causes, dev := t.dev, power := t.power })
    (he : t.dev.alError = true) (hc : t.dev.alCode = 0x8001) : FaultOf s (setDevState t .fault) := by
  obtain ⟨hs, hae, hac, only⟩ := setDevState_same t .fault
  refine ⟨?_, hs, hae.trans he, hac.trans hc⟩
  rw [only, h]

theorem faultEntered_faultOf (s : State) : FaultOf s (faultEntered s) := by
  have preop (b : Prop) [Decidable b] : ∃ d, (if b then s else { s with dev := { s.dev with al := .preop } }) = { s with dev := d } := by
    split
    · exact ⟨s.dev, rfl⟩
    · exact ⟨_, rfl⟩
  obtain ⟨d, hd⟩ := preop (s.dev.al = .init)
  have refused := alRefuse_only { s with dev := d } 0x8001
  unfold faultEntered
  rw [hd]
  refine List.foldlRecOn (motive := FaultOf s) _ _ (setDevState_faultOf ?_ ?_ ?_) fun t ht q _ => setQpower_faultOf ht q _
  · rw [refused.1]
  · rw [refused.dev]
  · rw [refused.dev]

theorem quarterLeaves_only (s : State) : OnlyCauses s (quarterLeaves s) :=
  List.foldlRecOn (motive := OnlyCauses s) _ _ (onlyCauses_refl s) fun _ ht _ _ => onlyCauses_trans ht (raise_onlyCauses _ _ _ _)

theorem faultUnloaded_lost (s : State) : (faultUnloaded s).fabric.lost = allQuarters := by
  unfold faultUnloaded
  refine List.foldlRecOn (motive := fun t : State => t.fabric.lost = allQuarters) _ _ ?_ fun t ht c _ => (unloadCtx_lost t c 1).trans ht
  exact List.foldlRecOn (motive := fun t : State => t.fabric.lost = allQuarters) _ _ rfl fun _ ht _ _ => ht

theorem lookup_map_range {α : Type} (d : α) (f : Nat → α) (n k : Nat) (h : k < n) :
    lookup d ((List.range n).map (fun i => (i, f i))) k = f k := by
  have mem : (k, f k) ∈ (List.range n).map (fun i => (i, f i)) := List.mem_map.2 ⟨k, List.mem_range.2 h, rfl⟩
  have all : ∀ p ∈ (List.range n).map (fun i => (i, f i)), p.2 = f p.1 := by
    intro p hp
    obtain ⟨i, -, rfl⟩ := List.mem_map.1 hp
    rfl
  generalize (List.range n).map (fun i => (i, f i)) = l at mem all
  induction l with
  | nil => simp at mem
  | cons p l ih =>
    obtain ⟨a, v⟩ := p
    simp only [lookup]
    by_cases e : k = a
    · subst e
      rw [if_pos rfl]
      exact all (k, v) (by simp)
    · rw [if_neg e]
      refine ih ?_ fun q hq => all q (by simp [hq])
      exact (List.mem_cons.1 mem).resolve_left fun h => e (congrArg Prod.fst h)

theorem faultUnled_tacker (s : State) {t : Nat} (h : t < 16) : ((faultUnled s).tacker t).state = 2 := by
  unfold faultUnled State.tacker
  simp only
  rw [lookup_map_range _ _ _ _ h]

theorem slotsIdle_keeps (l : List Nat) (s : State) : (slotsIdle l s).jobs = s.jobs ∧ (slotsIdle l s).tackers = s.tackers ∧
    (slotsIdle l s).fabric = s.fabric :=
  List.foldlRecOn (motive := fun t : State => t.jobs = s.jobs ∧ t.tackers = s.tackers ∧ t.fabric = s.fabric) l _ ⟨rfl, rfl, rfl⟩
    fun _ ht _ _ => ht

theorem slotsIdle_slot (l : List Nat) (s : State) (n : Nat) (h : n ∈ l ∨ (s.slot n).st = 0) : ((slotsIdle l s).slot n).st = 0 := by
  unfold slotsIdle
  induction l generalizing s with
  | nil => exact h.resolve_left (by simp)
  | cons m l ih =>
    rw [List.foldl_cons]
    refine ih _ ?_
    by_cases e : n = m
    · subst e
      exact .inr (by rw [setSlot_slot]; rfl)
    · rw [setSlot_slot_other _ _ _ e]
      exact h.imp_left fun hm => (List.mem_cons.1 hm).resolve_left e

section
variable {s t : State} (h : FaultOf s t)
include h

theorem FaultOf.jobs : t.jobs = s.jobs := by rw [h.1]
theorem FaultOf.tackers : t.tackers = s.tackers := by rw [h.1]
theorem FaultOf.slots : t.streams.slot = s.streams.slot := by rw [h.1]
theorem FaultOf.fabric : t.fabric = s.fabric := by rw [h.1]

end

theorem busesFreed_keeps (s : State) : (busesFreed s).jobs = s.jobs ∧ (busesFreed s).tackers = s.tackers ∧
    (busesFreed s).streams.slot = s.streams.slot ∧ (busesFreed s).fabric = s.fabric := by
  unfold busesFreed
  exact ⟨rfl, rfl, rfl, rfl⟩

/-- The last steps into FAULT leave jobs, Tackers, slots and the fabric as they were. -/
theorem faultEntered_keeps {w v u : State} (leaves : OnlyCauses (busesFreed w) v) (entered : FaultOf v u) :
    u.jobs = w.jobs ∧ u.tackers = w.tackers ∧ u.streams.slot = w.streams.slot ∧ u.fabric = w.fabric := by
  obtain ⟨jobs, tackers, slot, fabric⟩ := busesFreed_keeps w
  exact ⟨entered.jobs.trans (leaves.jobs.trans jobs), entered.tackers.trans (leaves.tackers.trans tackers),
    entered.slots.trans (leaves.slots.trans slot), entered.fabric.trans (leaves.fabric.trans fabric)⟩

/-- What FAULT leaves of a state. -/
theorem enterFault_leaves (s : State) : ∃ u, enterFault s = publish u false ∧ u.dev.state = .fault ∧ u.dev.alError = true ∧
    u.dev.alCode = 0x8001 ∧ u.jobs = [] ∧ (∀ t, t < 16 → (u.tacker t).state = 2) ∧ (∀ n, n < 32 → (u.slot n).st = 0) ∧
    ∀ k, k < 4 → k ∈ u.fabric.lost := by
  have slots (n : Nat) (hn : n < 32) : ((slotsIdle (List.range 32) (faultUnled (faultUnloaded s))).slot n).st = 0 :=
    slotsIdle_slot _ _ n (.inl (List.mem_range.2 hn))
  obtain ⟨jobs, tackers, fabric⟩ := slotsIdle_keeps (List.range 32) (faultUnled (faultUnloaded s))
  refine ⟨_, enterFault_eq s, ?_⟩
  generalize slotsIdle (List.range 32) (faultUnled (faultUnloaded s)) = w at jobs tackers fabric slots
  have entered := faultEntered_faultOf (quarterLeaves (busesFreed w))
  obtain ⟨ujobs, utackers, uslots, ufabric⟩ := faultEntered_keeps (quarterLeaves_only (busesFreed w)) entered
  obtain ⟨-, hstate, herr, hcode⟩ := entered
  refine ⟨hstate, herr, hcode, ujobs.trans jobs, fun t ht => ?_, fun n hn => ?_, fun k hk => ?_⟩
  · unfold State.tacker
    rw [utackers, tackers]
    exact faultUnled_tacker _ ht
  · unfold State.slot
    rw [uslots]
    exact slots n hn
  · rw [ufabric, fabric]
    have lost : (faultUnled (faultUnloaded s)).fabric.lost = [0, 1, 2, 3] := faultUnloaded_lost s
    rw [lost]
    simp
    omega

/-! ### Links (spec/01 R15, spec/13 R338) -/

/-- The link is fenced. -/
def linkFenced (s : State) (l : Nat) : State :=
  { s with fabric := { s.fabric with
      linkFenced := if s.fabric.linkFenced.contains l then s.fabric.linkFenced else s.fabric.linkFenced ++ [l] } }

theorem mem_linkFenced (s : State) (l : Nat) : l ∈ (linkFenced s l).fabric.linkFenced ∧
    ∀ k ∈ s.fabric.linkFenced, k ∈ (linkFenced s l).fabric.linkFenced := by
  unfold linkFenced
  simp only
  split
  · next h => exact ⟨List.contains_iff_mem.1 h, fun _ hk => hk⟩
  · exact ⟨by simp, fun k hk => List.mem_append_left _ hk⟩

/-- The leaf of link l is set. -/
def linkRaised (s : State) (l : Nat) : State := raise s (.main gQuarter (8 + l)) 0 0

theorem linkRaised_only (s : State) (l : Nat) : OnlyCauses s (linkRaised s l) := raise_onlyCauses _ _ _ _

theorem linkRaised_leaf (s : State) {l : Nat} (h : l < 10) : leafIsSet (linkRaised s l).causes (.main gQuarter (8 + l)) = true :=
  leafIsSet_raise_main _ _ (by omega) _ _

theorem linkFail_between {s : State} {l : Nat} (h : l < 6) : linkFail s l = recheck (linkFenced (linkRaised s l) l) false := if_pos h

theorem linkFail_ioDie (s : State) {l q : Nat} (h : l = q + 6) : linkFail s l = loseQuarter (linkRaised s l) q := by
  have hq : l - 6 = q := by omega
  change (if l < 6 then recheck (linkFenced (linkRaised s l) l) false else loseQuarter (linkRaised s l) (l - 6)) = _
  rw [if_neg (by omega), hq]

/-- A quarter is lost alike whatever the cause tree holds beside. -/
theorem quarterGone_ofCauses {s t u : State} {q : Nat} (h : OnlyCauses s t) (g : QuarterGone t q u) : QuarterGone s q u := by
  unfold QuarterGone at *
  simp only [h.fabric, h.jobs, h.ctxs, h.cell, h.tacker] at g
  exact g

theorem transfersOf_ofCauses {s t : State} (h : OnlyCauses s t) (q : Nat) : transfersOf t q = transfersOf s q := by
  unfold transfersOf
  rw [h.fabric]

theorem linkTrained_not {q : QuarterNo} {s : State} (h : s.dev.state ≠ .boot ∨ q.val ∈ s.fabric.linkUp ∨ quarterRailOut s q.val = true) :
    exec (.linkTrained q) s = .next s := congrArg Host.Outcome.next (if_pos (by simpa using h))

/-- The link of quarter q is up. -/
def linkUp (s : State) (q : Nat) : State := { s with fabric := { s.fabric with linkUp := s.fabric.linkUp ++ [q] } }

/-- The quarter's Tackers start from the image, where the others have been released already. -/
def tackersReleased (s : State) (q : Nat) : State :=
  if s.boot.released then { s with boot := (tackerHarts q).foldl (releaseHart s.boot.header s.boot.body) s.boot } else s

theorem linkTrained_trains {q : QuarterNo} {s : State} (hb : s.dev.state = .boot) (hu : q.val ∉ s.fabric.linkUp)
    (hr : quarterRailOut s q.val = false) : exec (.linkTrained q) s = .next (tackersReleased (linkUp s q.val) q.val) :=
  congrArg Host.Outcome.next (if_neg (by simp [hb, hu, hr]))

/-- Harts released from an image run its section and start at its entry, and no other hart is touched. -/
theorem foldl_releaseHart (h body : List Byte) (l : List Nat) (b : Boot) (k : Nat) :
    lookup [] (l.foldl (releaseHart h body) b).code k = (if k ∈ l then imageSection h body (hartSection k) else lookup [] b.code k) ∧
    lookup none (l.foldl (releaseHart h body) b).release k =
      (if k ∈ l then some (Config.entryAddress k (imageSection h body (hartSection k))) else lookup none b.release k) := by
  induction l generalizing b with
  | nil => simp
  | cons i l ih =>
    rw [List.foldl_cons, (ih _).1, (ih _).2]
    by_cases e : k = i
    · subst e
      simp [releaseHart]
    · simp [releaseHart, e, lookup_put_other]

theorem hartSection_tackerHarts {q h : Nat} (hh : h ∈ tackerHarts q) : hartSection h = 2 := by
  obtain ⟨i, -, rfl⟩ := List.mem_map.1 hh
  unfold hartSection
  rw [if_neg (by omega), if_neg (by omega)]

theorem tackersReleased_only (s : State) (q : Nat) : tackersReleased s q = { s with boot := (tackersReleased s q).boot } := by
  unfold tackersReleased
  split <;> rfl

theorem tackersReleased_boot {s : State} {q : Nat} (h : s.boot.released = true) :
    (tackersReleased s q).boot = (tackerHarts q).foldl (releaseHart s.boot.header s.boot.body) s.boot := by
  unfold tackersReleased
  rw [if_pos h]

theorem tackersReleased_unreleased {s : State} {q : Nat} (h : s.boot.released = false) : tackersReleased s q = s := by
  unfold tackersReleased
  rw [if_neg (by simp [h])]

/-- Settles O29: each restart is one write and one leaf, and a lost quarter is a fold over its Tackers and one over its cells. -/
theorem firmwareLinksAndQuarters : Obligations.FirmwareLinksAndQuarters := by
  unfold Obligations.FirmwareLinksAndQuarters
  refine ⟨⟨fun t s => ⟨exec_tackerWatchdog_down, ?restarts⟩, fun n s => ⟨?lasterDown, ?lasterReplaced⟩,
      fun v s => ⟨?asleep, fun hr hv => ?replaceRange, fun hr hv => ?restartRange, fun hr hv h => ?replaceDown,
        fun hr hv h => ?restartDown, fun hr hv h => ?replace, fun hr hv h => ?restart⟩⟩,
    ⟨fun n s => ⟨exec_lasterReplacementDone_up, exec_lasterReplacementDone_down⟩,
      fun t s => ⟨exec_tackerRestartDone_notRestarting, ?runs, ?again, ?fails⟩⟩,
    ⟨?between, ?alreadyLost, fun q s h => congrArg Host.Outcome.next (loseQuarter_lost h), ?ioDie, ?timeout, ?fourth,
      fun q s => ⟨linkTrained_not, ?trains⟩⟩⟩
  case restarts =>
    intro h
    obtain ⟨hc, hj, hl, -⟩ := restartTacker_keeps s t.val
    exact ⟨_, exec_tackerWatchdog_up h, restartTacker_tacker _ _, fun k hk => restartTacker_tacker_other s hk, restartTacker_leaf _ _,
      restartTacker_count _ _, hc, hj, hl⟩
  case lasterDown =>
    intro h
    refine ⟨exec_lasterWatchdog_down h, fun hb => ?_⟩
    rw [exec_lasterWatchdog_down h, activated_idle hb]
  case lasterReplaced =>
    intro h
    exact ⟨_, exec_lasterWatchdog_up h, beginReplacement_laster _ _, fun k hk => beginReplacement_laster_other s hk,
      beginReplacement_leaf _ _, beginReplacement_count _ _, beginReplacement_keeps _ _⟩
  case asleep =>
    intro hr
    exact ⟨congrArg Host.Outcome.next (if_pos (by simp [hr])), congrArg Host.Outcome.next (if_pos (by simp [hr]))⟩
  case replaceRange => exact congrArg Host.Outcome.next (writeReplace_range hr hv)
  case restartRange => exact congrArg Host.Outcome.next (writeRestartTacker_range hr hv)
  case replaceDown => exact congrArg Host.Outcome.next (writeReplace_down hr hv h)
  case restartDown => exact congrArg Host.Outcome.next (writeRestartTacker_down hr hv h)
  case replace =>
    obtain ⟨hc, hj, -⟩ := beginReplacement_keeps s v.toNat
    exact ⟨_, congrArg Host.Outcome.next (writeReplace_up hr hv h), congrArg Laster.state (beginReplacement_laster s v.toNat), rfl, hc, hj⟩
  case restart =>
    obtain ⟨hc, hj, -, -⟩ := restartTacker_keeps s v.toNat
    exact ⟨_, congrArg Host.Outcome.next (writeRestartTacker_up hr hv h), congrArg Tacker.state (restartTacker_tacker s v.toNat), rfl, hc, hj⟩
  case runs => exact fun h => by rw [exec_tackerRestartDone_restarting h, tackerBack_ok h]
  case again =>
    intro h hf hb
    obtain ⟨hc, hj, -, hboot⟩ := restartTacker_keeps (s.setTacker t.val { s.tacker t.val with failed := (s.tacker t.val).failed + 1 }) t.val
    refine ⟨_, ?_, ?_, hc, hj, restartTacker_leaf _ _⟩
    · rw [exec_tackerRestartDone_restarting h, tackerBack_again h hf, activated_idle (by rw [hboot]; exact hb)]
    · rw [restartTacker_tacker, setTacker_tacker]
  case fails => exact fun h hf => by rw [exec_tackerRestartDone_restarting h, tackerBack_fails h hf]
  case between =>
    intro l s h
    have raised := linkRaised_only s l.val
    obtain ⟨hl, hk⟩ := mem_linkFenced (linkRaised s l.val) l.val
    rw [raised.fabric] at hk
    refine ⟨_, congrArg Host.Outcome.next (linkFail_between h), hl, hk, linkRaised_leaf s l.isLt, ?_, raised.cells⟩
    change (linkRaised s l.val).fabric.lost = _
    rw [raised.fabric]
  case alreadyLost =>
    intro l q s hl hq
    have raised := linkRaised_only s l.val
    have failed : linkFail s l.val = linkRaised s l.val :=
      (linkFail_ioDie s hl).trans (loseQuarter_lost (by rw [raised.fabric]; exact hq))
    exact ⟨_, congrArg Host.Outcome.next failed, raised.cells, raised.fabric, linkRaised_leaf s l.isLt⟩
  case ioDie =>
    intro l q s hl hq
    have raised := linkRaised_only s l.val
    have failed : exec (.quarterLinkFail l) s = exec (.tackerComplexTimeout q) (linkRaised s l.val) :=
      congrArg Host.Outcome.next (linkFail_ioDie s hl)
    refine ⟨linkRaised_leaf s l.isLt, failed, fun h3 => ⟨quarterOut (linkRaised s l.val) q.val, failed.trans ?_,
      quarterGone_ofCauses raised (quarterGone_quarterOut q.isLt)⟩⟩
    have lost := loseQuarter_loses (s := linkRaised s l.val) (q := q.val) (by rw [raised.fabric]; exact hq) (by rw [raised.fabric]; exact h3)
    rw [transfersOf_ofCauses raised] at lost
    exact congrArg Host.Outcome.next lost
  case timeout => exact fun q s hq h3 => ⟨_, congrArg Host.Outcome.next (loseQuarter_loses hq h3), quarterGone_quarterOut q.isLt⟩
  case fourth =>
    intro q s hq h3
    obtain ⟨u, hu, leaves⟩ := enterFault_leaves (quarterDown s q.val)
    exact ⟨u, congrArg Host.Outcome.next ((loseQuarter_fourth hq h3).trans hu), leaves⟩
  case trains =>
    intro hb hu hr
    refine ⟨_, linkTrained_trains hb hu hr, tackersReleased_only _ _, fun h => ?_, fun h => ⟨fun k hk => ?_, fun k hk => ?_⟩⟩
    · rw [tackersReleased_unreleased (s := linkUp s q.val) h]
      rfl
    · obtain ⟨hcode, hrel⟩ := foldl_releaseHart s.boot.header s.boot.body (tackerHarts q.val) s.boot k
      rw [if_pos hk, hartSection_tackerHarts hk] at hcode hrel
      rw [tackersReleased_boot (s := linkUp s q.val) h]
      exact ⟨hcode, hrel⟩
    · obtain ⟨hcode, -⟩ := foldl_releaseHart s.boot.header s.boot.body (tackerHarts q.val) s.boot k
      rw [if_neg hk] at hcode
      rw [tackersReleased_boot (s := linkUp s q.val) h]
      exact hcode

end Sys2Proof.Machine

/-! SUPPORT. Dispatching starts no cell and stops none into idleness, and the refutation of O27. -/

namespace Sys2Proof.Machine

open Sys2Proof.Safety

/-! ### Dispatching -/

theorem onlyHalts_modCtx (s : State) (c : Nat) (f : Ctx → Ctx) : OnlyHalts s (s.modCtx c f) := .of_same rfl rfl

theorem onlyHalts_assign (s : State) (id k : Nat) (cells : List Nat) (stripe : Bool) : OnlyHalts s (assign s id k cells stripe) :=
  onlyHalts_modJob _ _ _

theorem onlyHalts_evict (s : State) (j : Job) : OnlyHalts s (evict s j) := by
  unfold evict
  split
  · rfl
  · exact (onlyHalts_settleJob _ _).after ((onlyHalts_haltJob _ _).after ((onlyHalts_modJob _ _ _).after (onlyHalts_modCtx _ _ _)))

/-- The best-effort jobs on the cells of a home set go (R213). -/
theorem onlyHalts_evictAll (s : State) (h : List Nat) :
    OnlyHalts s (h.foldl (fun s g => match bJobOn s g with | some b => evict s b | none => s) s) := by
  refine onlyHalts_foldl (fun s g => ?_) h s
  split
  · exact onlyHalts_evict _ _
  · rfl

theorem onlyHalts_ite {s a b : State} {p : Prop} [Decidable p] (ha : OnlyHalts s a) (hb : OnlyHalts s b) : OnlyHalts s (if p then a else b) := by
  split
  · exact ha
  · exact hb

theorem onlyHalts_placeJob (s : State) (n : Nat) (j : Job) : OnlyHalts s (placeJob s n j) := by
  unfold placeJob
  refine onlyHalts_ite (.refl s) ?_
  split
  · split
    · exact onlyHalts_assign _ _ _ _ _
    · rfl
  · refine onlyHalts_ite (.refl s) ?_
    split
    · exact onlyHalts_assign _ _ _ _ _
    · split
      · exact onlyHalts_evictAll _ _
      · split
        · exact onlyHalts_assign _ _ _ _ _
        · exact onlyHalts_modJob _ _ _
  · split
    · rfl
    · split
      · exact onlyHalts_assign _ _ _ _ _
      · exact onlyHalts_modJob _ _ _

theorem onlyHalts_failNoCell (s : State) (j : Job) : OnlyHalts s (failNoCell s j) :=
  (onlyHalts_abandonJob _ _).after ((onlyHalts_modCtx _ _ _).after ((onlyHalts_postJob _ _ _ _ _ _).after (onlyHalts_raise _ _ _ _)))

theorem onlyHalts_dispatchPass (s : State) (n : Nat) : OnlyHalts s (dispatchPass s n) := by
  refine onlyHalts_foldl (fun s j => ?_) _ s
  split
  · rfl
  · split
    · exact onlyHalts_failNoCell _ _
    · exact onlyHalts_placeJob _ _ _

theorem onlyHalts_dispatch (s : State) (n : Nat) : OnlyHalts s (dispatch s n) := by
  unfold dispatch
  split
  · rfl
  · exact onlyHalts_foldl (fun s _ => onlyHalts_dispatchPass s n) _ s

/-! ### A load that strays into a sibling's bank

A transfer holds its address in bits 96 to 187. A context whose allocation lies at 129 * 2^96 is within the type but
beyond those bits: the load of cell 0, bank 1, submitted for it, selects cell 1, bank 0, so START of cell 1, which holds
its slot's program, is held until that load is over. -/

/-- A package of one plan of no slots. -/
def emptyPackage : Package where
  length := 0
  groups := []
  stripe := noPlan
  halo := none
  spill := none
  streamed := none
  lpddrMaps := false
  counters := 0
  barriers := []
  powerMw := 0
  outs := []
  argAt := []
  batchAt := []
  allocBytes := 0
  digest := []

/-- A claimed job of cells 0 and 1, both under Tacker 0. -/
def twoCellJob : Job :=
  { id := 7, ctx := 0, tag := 1, tInput := 0, src := 1, inAddr := 0, inLen := 0, arg := [], voidPos := [], buffers := [], cold := false,
    cells := [0, 1], phase := .claimed }

/-- Cell 1 holds the empty program and cell 0 none; the context's address is too wide for a transfer. -/
def strayLoad : State :=
  { State.reset with
    cells := [(0, { claim := some (0, 7) }), (1, { claim := some (0, 7), resident := some noProg })]
    jobs := [twoCellJob]
    ctxs := [(0, { pkg := some emptyPackage, allocAt := 129 * 2 ^ 96 })] }

theorem strayLoad_job : strayLoad.job? 7 = some twoCellJob := by decide

/-- The model's own run: START of cell 1 waits. -/
theorem jobCommand_strayLoad_idle : ((jobCommand strayLoad 0 7).cell 1).st = .idle := by decide +kernel

theorem strayLoad_ready : ∀ g ∈ twoCellJob.cells, hasClaim strayLoad 7 g = true ∧ (strayLoad.cell g).fence = false ∧
    (strayLoad.cell g).startHeld = false ∧ ((strayLoad.cell g).st = .idle ∨ (strayLoad.cell g).st = .halted) := by
  decide

theorem strayLoad_holds :
    holdsProgram (strayLoad.cell 1) ((planOf (strayLoad.ctx 0) twoCellJob.stripe (runsStreamed strayLoad twoCellJob)).slots.getD 1 noProg) = true := by
  decide +kernel

/-- Refutes O27: a load whose address overflows its field selects another cell of the job, whose start then waits although
it holds its slot's program. -/
theorem not_claimsJobsAndReports : ¬ Obligations.ClaimsJobsAndReports := by
  unfold Obligations.ClaimsJobsAndReports
  rintro ⟨-, commands, -⟩
  obtain ⟨-, -, -, -, starts⟩ := commands 0 7 strayLoad
  obtain ⟨t, run, cells, -, -⟩ := starts twoCellJob emptyPackage strayLoad_job rfl rfl rfl (by decide) (by decide) strayLoad_ready
    ⟨0, by decide, by decide⟩ rfl rfl rfl
  obtain ⟨-, -, -, -, started, -⟩ := cells 1 1 rfl rfl
  have running : (t.cell 1).st = .running := (started strayLoad_holds).1
  have after : jobCommand strayLoad 0 7 = dispatch t 0 := by
    injection run
  have idle := (onlyHalts_dispatch t 0).idle 1 (after ▸ jobCommand_strayLoad_idle)
  rw [running] at idle
  cases idle

end Sys2Proof.Machine

/-! SUPPORT. A Plamor-V instruction as a command: what it leaves of the state in a tile program and in a thread, what it writes of the
vector registers, and what an instruction that is invalid where it executes does (spec/05 R105 to R110, R118). -/

namespace Sys2Proof.Machine

open Sys2Proof.Safety

/-! ### The rows -/

/-- The rows of Plamor-V: opcode and command (spec/05 R109). -/
def vectorRows : List (Nat × (CellNo → VWhere → Word → Instr)) :=
  (fpRows 0).map (fun r => (r.1, r.2.1)) ++ [(0x00, .vnop), (0x01, .vend), (0x30, .vcmp), (0x31, .vsel), (0x38, .vcvt), (0x40, .vamax),
    (0x41, .vscale), (0x50, .vldd), (0x51, .vlds), (0x52, .vstd), (0x53, .vld), (0x54, .vst), (0x55, .vldc), (0x56, .vsts),
    (0x58, .vgath), (0x59, .vscat), (0x5A, .vscadd), (0x60, .vhget), (0x61, .vhput), (0x68, .vrsrst), (0x69, .vrnorm)]

/-- Each row's command is the shared operation with the row's opcode. -/
theorem exec_vectorRow : ∀ p ∈ vectorRows, ∀ (g : CellNo) (m : VWhere) (w : Word) (s : State),
    exec (p.2 g m w) s = vectorOp p.1 g m w s := by
  intro p hp
  fin_cases hp <;> exact fun _ _ _ _ => rfl

/-! ### In a tile program -/

/-- The cell with its current tile program one instruction further. -/
def advanceTile (c : CellState) (x : VCtx) (rest : List VCtx) : CellState := { c with vctx := { x with pos := x.pos + 1 } :: rest }

section
variable {g : CellNo} {w : Word} {s : State} {x : VCtx} {rest : List VCtx} {d : CellState} {code : Nat} (hop : vOp w = code)
include hop

theorem vectorOp_tile_ok (hin : InTile s g.val x rest w) (hv : vTile (vEnv s) (s.cell g.val) w = .ok d) :
    vectorOp code g .tile w s = .next (s.setCell g.val d).draw := by
  obtain ⟨hlive, hctx, -⟩ := hin
  simp [vectorOp, hop, tileExec, hlive, hctx, hv]

theorem vectorOp_tile_noPlace (hin : InTile s g.val x rest w) (hv : vTile (vEnv s) (s.cell g.val) w = .noPlace) :
    vectorOp code g .tile w s = .next (s.modCell g.val (fun c => setStalls c (c.stalls ||| 0x08))) := by
  obtain ⟨hlive, hctx, -⟩ := hin
  simp [vectorOp, hop, tileExec, hlive, hctx, hv]

theorem vectorOp_tile_invalid (hlive : (s.cell g.val).live = true) (hctx : (s.cell g.val).vctx = x :: rest)
    (hv : vTile (vEnv s) (s.cell g.val) w = .invalid d) :
    vectorOp code g .tile w s = .next (s.setCell g.val (haltProg s.now d .illegalOp)) := by
  simp [vectorOp, hop, tileExec, hlive, hctx, hv]

end

theorem onlyCell_setCell_draw (s : State) (g : Nat) (c : CellState) : OnlyCell g s (s.setCell g c).draw :=
  onlyCell_trans (onlyCell_setCell s g c) (onlyCell_draw g _)

section
variable {i : Instr} {g : CellNo} {w : Word} {s : State} {x : VCtx} {rest : List VCtx} {code : Nat}
  (hi : exec i s = vectorOp code g .tile w s) (hop : vOp w = code) (hin : InTile s g.val x rest w)
include hi hop hin

/-- A tile program's instruction that ends well: what vTile's answer satisfies holds of its cell, and nothing else of the state differs. -/
theorem completes_tile {P : CellState → Prop} (hv : ∃ d, vTile (vEnv s) (s.cell g.val) w = .ok d ∧ P d) :
    Completes i s (fun t => OnlyCell g.val s t ∧ P (t.cell g.val)) := by
  obtain ⟨d, hv, hP⟩ := hv
  refine ⟨_, hi.trans (vectorOp_tile_ok hop hin hv), onlyCell_setCell_draw _ _ _, ?_⟩
  rwa [draw_cell, setCell_cell]

theorem completes_tile_eq {d : CellState} (hv : vTile (vEnv s) (s.cell g.val) w = .ok d) :
    Completes i s (fun t => OnlyCell g.val s t ∧ t.cell g.val = d) :=
  completes_tile hi hop hin (P := fun e => e = d) ⟨d, hv, rfl⟩

end

theorem haltedBy_haltProg (now : Nat) (c : CellState) (why : JobFault) : HaltedBy (haltProg now c why) c.pc why :=
  ⟨rfl, rfl, rfl, rfl, rfl, rfl, rfl, rfl⟩

theorem sameMemories_haltProg (now : Nat) (c : CellState) (why : JobFault) : SameMemories c (haltProg now c why) := sameMemories_refl c

/-- R110: what the run-time check refuses is invalid before it does anything. -/
theorem vTile_invalid {v : VEnv} {c : CellState} {x : VCtx} {rest : List VCtx} {w : Word} (hctx : c.vctx = x :: rest)
    (hok : vOk (placeOf x) w = false) : vTile v c w = .invalid c := by
  simp [vTile, hctx, hok]

/-! ### The vector registers -/

theorem setVreg_vreg (c : CellState) (w : Word) (f : Nat → BitVec 32) : (setVreg c w f).vreg =
    put [] c.vreg (vD w) ((List.range 128).map (fun i => if acts c w i then f i else vreg c (vD w) i)) := rfl

theorem vreg_setVreg (c : CellState) (w : Word) (f : Nat → BitVec 32) {i : Nat} (hi : i < 128) :
    vreg (setVreg c w f) (vD w) i = if acts c w i then f i else vreg c (vD w) i := by
  rw [vreg, setVreg_vreg, lookup_put_same]
  simp [hi]

theorem writesReg_setVreg (c : CellState) (w : Word) (f : Nat → BitVec 32) : WritesReg c (setVreg c w f) w f :=
  ⟨fun _ hi => vreg_setVreg c w f hi, fun _ hr => by rw [setVreg_vreg, lookup_put_other _ _ _ hr]⟩

theorem onlyVreg_setVreg (c : CellState) (w : Word) (f : Nat → BitVec 32) : OnlyVreg c (setVreg c w f) :=
  ⟨rfl, rfl, rfl, rfl, rfl, rfl, rfl, rfl, rfl, rfl, rfl, rfl, rfl, rfl, rfl, rfl, rfl⟩

/-- The results of a lane-wise instruction over the cell's registers (R109). -/
def laneResults (tab : BitVec 16) (c : CellState) (w : Word) : List LaneOut :=
  laneOps tab w 128 (acts c w) (vreg c (vA w)) (vreg c (vB w)) (vreg c (vC w))

/-- What lane i gets of them. -/
def laneResult (tab : BitVec 16) (c : CellState) (w : Word) (i : Nat) : BitVec 32 := ((laneResults tab c w).getD i ⟨0, false, false⟩).v

/-- R108, R109: a lane-wise instruction writes its lanes' results to vd and moves nothing else but counts. -/
theorem vTile_laneWise {v : VEnv} {c : CellState} {x : VCtx} {rest : List VCtx} {w : Word} (hctx : c.vctx = x :: rest)
    (hok : vOk (placeOf x) w = true) (hop : laneWise (vOp w) = true) :
    ∃ d, vTile v c w = .ok d ∧ OnlyVreg c d ∧ Placed x rest d ∧ WritesReg c d w (laneResult v.tab c w) := by
  have answer : vTile v c w = .ok (countNarrow (setVreg (advanceTile c x rest) w (laneResult v.tab c w))
      (x.latest c) x.dst.layer 0 (laneCounts w (acts c w) (laneResults v.tab c w)).1 (laneCounts w (acts c w) (laneResults v.tab c w)).2) := by
    simp only [vTile, hctx, hok, hop, Bool.not_true, Bool.false_eq_true, if_false, if_true]
    rfl
  exact ⟨_, answer, onlyVreg_setVreg (advanceTile c x rest) w (laneResult v.tab c w), rfl,
    writesReg_setVreg (advanceTile c x rest) w (laneResult v.tab c w)⟩

/-! ### Predicates -/

theorem predOf_succ (n : Nat) (f : Nat → Bool) : predOf (n + 1) f = predOf n f + (if f n then 2 ^ n else 0) := by
  simp [predOf, List.range_succ]

theorem predOf_lt (n : Nat) (f : Nat → Bool) : predOf n f < 2 ^ n := by
  induction n with
  | zero => exact Nat.one_pos
  | succ n ih =>
    rw [predOf_succ, Nat.pow_succ]
    split <;> omega

/-- A predicate made lane by lane holds what each lane gives. -/
theorem testBit_predOf (n : Nat) (f : Nat → Bool) {i : Nat} (hi : i < n) : (predOf n f).testBit i = f i := by
  induction n with
  | zero => exact absurd hi (Nat.not_lt_zero i)
  | succ n ih =>
    rw [predOf_succ]
    rcases Nat.lt_or_eq_of_le (Nat.le_of_lt_succ hi) with h | rfl
    · split
      · rw [Nat.add_comm, Nat.testBit_two_pow_add_gt h, ih h]
      · exact ih h
    · have below : (predOf i f).testBit i = false := Nat.testBit_lt_two_pow (predOf_lt i f)
      cases hf : f i
      · simp [below]
      · simp [Nat.add_comm (predOf i f), Nat.testBit_two_pow_add_eq, below]

/-- The cell with predicate p made of lanes f. -/
def setPred (c : CellState) (p : Nat) (f : Nat → Bool) : CellState :=
  { c with pred := put 0 c.pred p (BitVec.ofNat 128 (predOf 128 f)) }

theorem setPred_frame (c : CellState) (p : Nat) (f : Nat → Bool) : (setPred c p f).vctx = c.vctx ∧ (setPred c p f).vreg = c.vreg ∧
    (setPred c p f).store = c.store ∧ (setPred c p f).drainBuf = c.drainBuf := by
  unfold setPred
  exact ⟨rfl, rfl, rfl, rfl⟩

theorem vpred_zero (c : CellState) (i : Nat) : vpred c 0 i = true := by simp [vpred]

theorem vpred_setPred_same (c : CellState) {p : Nat} (hp : p ≠ 0) (f : Nat → Bool) {i : Nat} (hi : i < 128) :
    vpred (setPred c p f) p i = f i := by
  have lane : (BitVec.ofNat 128 (predOf 128 f)).getLsbD i = f i := by
    rw [BitVec.getLsbD_ofNat, testBit_predOf 128 f hi, decide_eq_true hi, Bool.true_and]
  rw [vpred, setPred, lookup_put_same, lane, decide_eq_false hp, Bool.false_or]

theorem vpred_setPred_other (c : CellState) {p q : Nat} (hq : q ≠ p ∨ q = 0) (f : Nat → Bool) (i : Nat) :
    vpred (setPred c p f) q i = vpred c q i := by
  rcases hq with hq | rfl
  · simp [vpred, setPred, lookup_put_other _ _ _ hq]
  · rw [vpred_zero, vpred_zero]

/-! ### In a thread -/

section
variable {s : State} {g k : Nat} {w : Word} {d : CellState}

/-- An instruction that ends its thread with a program error moves nothing but its cell. -/
theorem threadExec_bad {f : JobFault} {u : Option (Nat × Nat)}
    (h : vThread s.boot.interp (quarterOf g) s.fabric.mapStore (s.cell g) k w = { c := d, map := s.fabric.mapStore, upd := u, bad := some f }) :
    threadExec s g k w = jobFault (s.setCell g d) g f := by
  simp [threadExec, h]

/-- An instruction that neither loads nor stores and gives no counter update moves nothing but its cell. -/
theorem threadExec_quiet (hop : vOp w ≠ 0x58 ∧ vOp w ≠ 0x59 ∧ vOp w ≠ 0x5A)
    (h : vThread s.boot.interp (quarterOf g) s.fabric.mapStore (s.cell g) k w = { c := d, map := s.fabric.mapStore }) :
    threadExec s g k w = s.setCell g d := by
  obtain ⟨h1, h2, h3⟩ := hop
  simp [threadExec, threadBad, h, h1, h2, h3]

theorem threadExec_update {sig inc : Nat} (hop : vOp w ≠ 0x58 ∧ vOp w ≠ 0x59 ∧ vOp w ≠ 0x5A)
    (h : vThread s.boot.interp (quarterOf g) s.fabric.mapStore (s.cell g) k w = { c := d, map := s.fabric.mapStore, upd := some (sig, inc) }) :
    threadExec s g k w = bumpSignal (s.setCell g d) g sig inc := by
  obtain ⟨h1, h2, h3⟩ := hop
  simp [threadExec, threadBad, h, h1, h2, h3]

end

theorem vectorOp_thread {s : State} {g : CellNo} {k : ThreadNo} {w : Word} {code : Nat} (hop : vOp w = code) (hlive : (s.cell g.val).live = true)
    (hst : (lookup {} (s.cell g.val).threads k.val).status = 1) :
    vectorOp code g (.thread k) w s = .next (threadExec s g.val k.val w) := by
  have ready : ((lookup {} (s.cell g.val).threads k.val).status == 1) = true := beq_iff_eq.2 hst
  simp only [vectorOp, hop, ne_eq, not_true_eq_false, if_false, hlive, ready, Bool.and_self, if_true]

@[simp] theorem lookup_setThread_same (c : CellState) (k : Nat) (t : Thread) : lookup {} (setThread c k t).threads k = t :=
  lookup_put_same _ _ _ _

theorem lookup_setThread_other (c : CellState) {k j : Nat} (t : Thread) (h : j ≠ k) :
    lookup {} (setThread c k t).threads j = lookup {} c.threads j := lookup_put_other _ _ _ h

theorem onlyThread_setThread (c : CellState) (k : Nat) (t : Thread) : OnlyThread c (setThread c k t) k :=
  ⟨rfl, fun _ h => lookup_setThread_other c t h⟩

/-- R110: an instruction that is invalid in a thread ends it. -/
theorem vThread_invalid {tab : BitVec 16} {q : Nat} {map : Mem} {c : CellState} {k : Nat} {w : Word} (hok : vOk 8 w = false) :
    vThread tab q map c k w =
      { c := setThread c k { lookup {} c.threads k with status := 0 }, map := map, bad := some .illegalOp } := by
  simp [vThread, hok]

theorem onlyCell_jobFault (s : State) (g : Nat) (why : JobFault) : OnlyCell g s (jobFault s g why) := onlyCell_modCell _ _ _

/-- A job's fault tells the cell's job of it and leaves the memories and threads of the cell. -/
theorem jobFault_cell (s : State) (g : Nat) (why : JobFault) :
    ((jobFault s g why).cell g).threads = (s.cell g).threads ∧ SameMemories (s.cell g) ((jobFault s g why).cell g) ∧
    ((s.cell g).prog = none → ((jobFault s g why).cell g).prog = some why ∧ ((jobFault s g why).cell g).report = true) := by
  rw [jobFault, modCell_same]
  by_cases h : (s.cell g).prog.isSome = true
  · rw [if_pos h]
    exact ⟨rfl, sameMemories_refl _, fun e => by simp [e] at h⟩
  · rw [if_neg h]
    exact ⟨rfl, sameMemories_refl _, fun _ => ⟨rfl, rfl⟩⟩

/-! ### Instructions that are invalid where they execute -/

section
variable {g : CellNo} {w : Word} {s : State} {x : VCtx} {rest : List VCtx} {k : ThreadNo}

/-- R110: an instruction that is invalid in a tile program halts the cell. -/
theorem completes_tile_invalid {i : Instr} {code : Nat} (hi : exec i s = vectorOp code g .tile w s) (hop : vOp w = code)
    (hlive : (s.cell g.val).live = true) (hctx : (s.cell g.val).vctx = x :: rest) (hok : vOk (placeOf x) w = false) :
    Completes i s (fun t => OnlyCell g.val s t ∧
      HaltedBy (t.cell g.val) (s.cell g.val).pc .illegalOp ∧ SameMemories (s.cell g.val) (t.cell g.val)) := by
  refine ⟨_, hi.trans (vectorOp_tile_invalid hop hlive hctx (vTile_invalid hctx hok)), onlyCell_setCell _ _ _, ?_⟩
  rw [setCell_cell]
  exact ⟨haltedBy_haltProg _ _ _, sameMemories_haltProg _ _ _⟩

/-- R110: one that is invalid in a thread ends it and faults its cell's job. -/
theorem completes_thread_invalid {i : Instr} {code : Nat} (hi : exec i s = vectorOp code g (.thread k) w s) (hop : vOp w = code)
    (hlive : (s.cell g.val).live = true) (hst : (lookup {} (s.cell g.val).threads k.val).status = 1) (hok : vOk 8 w = false) :
    Completes i s (fun t => OnlyCell g.val s t ∧
      (lookup {} (t.cell g.val).threads k.val).status = 0 ∧
      (∀ j, j ≠ k.val → lookup {} (t.cell g.val).threads j = lookup {} (s.cell g.val).threads j) ∧
      ((s.cell g.val).prog = none → (t.cell g.val).prog = some .illegalOp ∧ (t.cell g.val).report = true) ∧
      SameMemories (s.cell g.val) (t.cell g.val)) := by
  have run := (hi.trans (vectorOp_thread hop hlive hst)).trans (congrArg _ (threadExec_bad (vThread_invalid hok)))
  refine ⟨_, run, onlyCell_trans (onlyCell_setCell _ _ _) (onlyCell_jobFault _ _ _), ?_⟩
  obtain ⟨threads, memories, told⟩ := jobFault_cell (s.setCell g.val (setThread (s.cell g.val) k.val
    { lookup {} (s.cell g.val).threads k.val with status := 0 })) g.val .illegalOp
  rw [setCell_cell] at threads memories told
  rw [threads, lookup_setThread_same]
  exact ⟨rfl, fun j hj => lookup_setThread_other _ _ hj, told, memories⟩

end

end Sys2Proof.Machine

/-! SUPPORT. VCVT: the lanes of each target format, and an MX block against its shared exponent (spec/02 R32, R35, spec/05 R109). -/

namespace Sys2Proof.Machine

open Sys2Proof.Safety

/-! ### Blocks of a list -/

/-- A list cut into runs of n, each mapped to as many results: result i is result i % n of the run that i stands in. -/
theorem getElem?_flatMap_chunks {α β : Type} {n : Nat} (hn : 0 < n) {F : List α → List β} (hF : ∀ b, (F b).length = b.length) :
    ∀ (fuel : Nat) (l : List α) (i : Nat), l.length < fuel → i < l.length →
      ((chunks n fuel l).flatMap F)[i]? = (F ((l.drop (i / n * n)).take n))[i % n]?
  | 0, _, _, hfuel, _ => absurd hfuel (Nat.not_lt_zero _)
  | fuel + 1, l, i, hfuel, hi => by
    have cons : chunks n (fuel + 1) l = l.take n :: chunks n fuel (l.drop n) := by
      cases l with
      | nil => exact absurd hi (Nat.not_lt_zero i)
      | cons a l => rfl
    have first : (F (l.take n)).length = min n l.length := by rw [hF, List.length_take]
    rw [cons, List.flatMap_cons]
    rcases Nat.lt_or_ge i n with h | h
    · rw [List.getElem?_append_left (by omega), Nat.div_eq_of_lt h, Nat.mod_eq_of_lt h, Nat.zero_mul, List.drop_zero]
    · have full : (F (l.take n)).length = n := by omega
      have run : n + (i - n) / n * n = i / n * n := by
        rw [Nat.div_eq_sub_div hn h, Nat.add_mul, Nat.one_mul, Nat.add_comm]
      rw [List.getElem?_append_right (by omega), full,
        getElem?_flatMap_chunks hn hF fuel _ _ (by rw [List.length_drop]; omega) (by rw [List.length_drop]; omega),
        List.drop_drop, run, ← Nat.mod_eq_sub_mod h]

/-- A run of n out of a table of N values. -/
theorem take_drop_map_range {α : Type} (f : Nat → α) {m n N : Nat} (h : m + n ≤ N) :
    (((List.range N).map f).drop m).take n = (List.range n).map (fun j => f (m + j)) := by
  refine List.ext_getElem (by simp; omega) fun j hj hj' => ?_
  simp

/-! ### The lanes of a lane-wise instruction -/

/-- The block of lanes that VCVT converts to an MX format together (R35). -/
def cvtWidth : Nat := if Config.vcvtWide then 64 else 32

theorem cvtWidth_cases : cvtWidth = 64 ∨ cvtWidth = 32 := by
  unfold cvtWidth
  cases Config.vcvtWide
  · exact .inr rfl
  · exact .inl rfl

/-- What lane j gives to its block: a lane that does not act counts as +0. -/
def cvtInput (c : CellState) (w : Word) (j : Nat) : FVal := if acts c w j then f32 (vreg c (vA w) j) else .fin false 0 1

/-- The scale byte of the block in which lane i stands. -/
def cvtScale (c : CellState) (w : Word) (i : Nat) : Nat :=
  (mxQuant (vImm w) false ((List.range cvtWidth).map (fun j => cvtInput c w (i / cvtWidth * cvtWidth + j)))).1

/-- One block of VCVT to an MX format. -/
def cvtBlock (f : Nat) (b : List (Bool × F32)) : List LaneOut :=
  let vs := b.map (fun p => if p.1 then f32 p.2 else .fin false 0 1)
  let x := (mxQuant f false vs).1
  b.mapIdx (fun i p =>
    let v := vs.getD i .nan
    if x = 0xFF then ⟨openAbove f p.2 0, false, v.isNan⟩
    else
      let r := narrowElem f (v.mul (dyadic false 1 (127 - (x : Int))))
      ⟨openAbove f p.2 r.code, r.clipped, r.nan⟩)

theorem cvtMx_eq (f : Nat) (l : List (Bool × F32)) : cvtMx f l = (chunks cvtWidth (l.length + 1) l).flatMap (cvtBlock f) := rfl

theorem length_cvtBlock (f : Nat) (b : List (Bool × F32)) : (cvtBlock f b).length = b.length := List.length_mapIdx

section
variable {tab : BitVec 16} {c : CellState} {w : Word} {i : Nat}

/-- But for VCVT to an MX format, each lane has its own result. -/
theorem laneResult_lane (hi : i < 128) (hmx : ¬ (vOp w = 0x38 ∧ isMx (vImm w) = true)) :
    laneResult tab c w i = (laneOp tab w (vreg c (vA w) i) (vreg c (vB w) i) (vreg c (vC w) i)).v := by
  simp [laneResult, laneResults, laneOps, hmx, hi]

/-- R35: an MX block of lanes narrows against its shared exponent. -/
theorem laneResult_mx (hi : i < 128) (hop : vOp w = 0x38) (hmx : isMx (vImm w) = true) (hs : cvtScale c w i ≠ 0xFF) :
    laneResult tab c w i = openAbove (vImm w) (vreg c (vA w) i)
      (narrowElem (vImm w) ((cvtInput c w i).mul (dyadic false 1 (127 - (cvtScale c w i : Int))))).code := by
  have pos : 0 < cvtWidth := by rcases cvtWidth_cases with h | h <;> omega
  have whole : i / cvtWidth * cvtWidth + cvtWidth ≤ 128 := by rcases cvtWidth_cases with h | h <;> rw [h] <;> omega
  have place : i / cvtWidth * cvtWidth + i % cvtWidth = i := Nat.div_add_mod' i cvtWidth
  have inside : i % cvtWidth < cvtWidth := Nat.mod_lt i pos
  have scale : (mxQuant (vImm w) false ((List.range cvtWidth).map fun j => if acts c w (i / cvtWidth * cvtWidth + j) = true then
      f32 (vreg c (vA w) (i / cvtWidth * cvtWidth + j)) else .fin false 0 1)).1 = cvtScale c w i := rfl
  rw [laneResult, laneResults, laneOps, if_pos ⟨hop, hmx⟩, cvtMx_eq, List.getD_eq_getElem?_getD,
    getElem?_flatMap_chunks pos (length_cvtBlock _) _ _ _ (Nat.lt_succ_self _) (by simpa using hi), take_drop_map_range _ whole]
  simp [cvtBlock, cvtInput, Function.comp_def, inside, place, scale, hs]

end

/-! ### The targets -/

theorem formatBits_le (f : Nat) : formatBits f ≤ 32 := by
  unfold formatBits
  split <;> decide

/-- The code stands in a lane's low bits. -/
theorem openAbove_mod (f : Nat) (x : F32) (code : Nat) : (openAbove f x code).toNat % 2 ^ formatBits f = code % 2 ^ formatBits f := by
  rw [openAbove, BitVec.toNat_ofNat, Nat.mod_mod_of_dvd _ (Nat.pow_dvd_pow 2 (formatBits_le f)), Nat.mul_add_mod_self_right]

theorem cvtLane_int8 (x : F32) : (cvtLane 0x00 x).v = BitVec.ofInt 32 (narrowInt (-128) 127 0 (f32 x)).1 := rfl
theorem cvtLane_int4 (x : F32) : (cvtLane 0x01 x).v = BitVec.ofInt 32 (narrowInt (-8) 7 0 (f32 x)).1 := rfl
theorem cvtLane_int32 (x : F32) : (cvtLane 0x0E x).v = BitVec.ofInt 32 (narrowInt (-2147483648) 2147483647 0 (f32 x)).1 := rfl
theorem cvtLane_fp32 (x : F32) : (cvtLane 0x0D x).v = x := rfl

theorem cvtLane_float {f : Nat} (hf : f = 0x0B ∨ f = 0x0C ∨ f = 0x02 ∨ f = 0x03) (x : F32) :
    (cvtLane f x).v = openAbove f x (narrowElem f (f32 x)).code := by
  rcases hf with rfl | rfl | rfl | rfl <;> rfl

theorem vLane_of_vcvt {p : Nat} {w : Word} (hop : vOp w = 0x38) (hok : vOk p w = true) : vLane w = 0 := by
  simp [vOk, hop, vRow] at hok
  omega

theorem laneOp_vcvt {tab : BitVec 16} {w : Word} (hop : vOp w = 0x38) (hl : vLane w = 0) (a b c : BitVec 32) :
    laneOp tab w a b c = cvtLane (vImm w) a := by
  simp [laneOp, hop, hl]

/-- What VCVT makes of lane i: lane a of va in, lane d of vd out. -/
theorem vcvt_lane {tab : BitVec 16} {c : CellState} {w : Word} {i : Nat} (hop : vOp w = 0x38) (hl : vLane w = 0) (hi : i < 128)
    (ha : acts c w i = true) {d : BitVec 32} (hd : d = laneResult tab c w i) :
    (isMx (vImm w) = false → d = (cvtLane (vImm w) (vreg c (vA w) i)).v) ∧
    (isMx (vImm w) = true → cvtScale c w i ≠ 0xFF → d.toNat % 2 ^ formatBits (vImm w) =
      (narrowElem (vImm w) ((f32 (vreg c (vA w) i)).mul (dyadic false 1 (127 - (cvtScale c w i : Int))))).code % 2 ^ formatBits (vImm w)) := by
  refine ⟨fun hmx => ?_, fun hmx hs => ?_⟩
  · rw [hd, laneResult_lane hi (by simp [hmx]), laneOp_vcvt hop hl]
  · have input : cvtInput c w i = f32 (vreg c (vA w) i) := if_pos ha
    rw [hd, laneResult_mx hi hop hmx hs, openAbove_mod, input]

end Sys2Proof.Machine

/-! SUPPORT. VCMP and VSEL, the end of a tile program and of a thread, and what is settled of them and of VCVT (spec/02 R32, R35, R36,
spec/05 R105, R108 to R110, R118, R136). -/

namespace Sys2Proof.Machine

open Sys2Proof.Safety

/-! ### Instructions of a tile program -/

theorem bits_2_0 (v : Nat) : bits v 2 0 = v % 8 := by simp [bits]
theorem bits_5_3 (v : Nat) : bits v 5 3 = v / 8 % 8 := by simp [bits]

section
variable {v : VEnv} {c : CellState} {x : VCtx} {rest : List VCtx} {w : Word} (hctx : c.vctx = x :: rest)
  (hok : vOk (placeOf x) w = true)
include hctx hok

theorem vTile_vnop (hop : vOp w = 0x00) : vTile v c w = .ok (advanceTile c x rest) := by
  simp [vTile, hctx, hok, hop, laneWise, advanceTile]

theorem vTile_vend (hop : vOp w = 0x01) : vTile v c w = endTile (advanceTile c x rest) x rest := by
  simp [vTile, hctx, hok, hop, laneWise, advanceTile]

/-- R109: VCMP writes the lanes of one predicate that act, and none of predicate 0. -/
theorem vTile_vcmp (hop : vOp w = 0x30) : ∃ d, vTile v c w = .ok d ∧ Placed x rest d ∧
    d.vreg = c.vreg ∧ d.store = c.store ∧ d.drainBuf = c.drainBuf ∧
    (∀ q, q ≠ vImm w % 8 ∨ q = 0 → ∀ i, vpred d q i = vpred c q i) ∧
    (vImm w % 8 ≠ 0 → ∀ i, i < 128 → vpred d (vImm w % 8) i =
      if acts c w i then cmpLane w (vreg c (vA w) i) (vreg c (vB w) i) else vpred c (vImm w % 8) i) := by
  by_cases hp : vImm w % 8 = 0
  · refine ⟨advanceTile c x rest, ?_, rfl, rfl, rfl, rfl, fun _ _ _ => rfl, fun h => absurd hp h⟩
    simp [vTile, hctx, hok, hop, laneWise, advanceTile, bits_2_0, hp]
  · obtain ⟨hplace, hvreg, hstore, hdrain⟩ := setPred_frame (advanceTile c x rest) (vImm w % 8)
      (fun i => if acts c w i then cmpLane w (vreg c (vA w) i) (vreg c (vB w) i) else vpred c (vImm w % 8) i)
    refine ⟨_, ?_, hplace, hvreg, hstore, hdrain, fun _ hq i => vpred_setPred_other _ hq _ i, fun h _ hi => vpred_setPred_same _ h _ hi⟩
    simp [vTile, hctx, hok, hop, laneWise, bits_2_0, hp]
    rfl

/-- R109: VSEL picks each lane that acts by a predicate. -/
theorem vTile_vsel (hop : vOp w = 0x31) : ∃ d, vTile v c w = .ok d ∧ Placed x rest d ∧ OnlyVreg c d ∧
    WritesReg c d w (fun i => if vpred c (vImm w % 8) i then vreg c (vA w) i else vreg c (vB w) i) := by
  refine ⟨setVreg (advanceTile c x rest) w (fun i => if vpred c (vImm w % 8) i then vreg c (vA w) i else vreg c (vB w) i), ?_, rfl,
    onlyVreg_setVreg (advanceTile c x rest) w _, writesReg_setVreg (advanceTile c x rest) w _⟩
  simp [vTile, hctx, hok, hop, laneWise, bits_2_0]
  rfl

end

theorem cmpLane_float {w : Word} (hl : vLane w = 0) (a b : BitVec 32) :
    cmpLane w a b = condHolds (vImm w / 8 % 8) ((f32 a).isNan || (f32 b).isNan) ((f32 a).cmp (f32 b)) := by
  simp [cmpLane, hl, bits_5_3]

theorem cmpLane_int {w : Word} (hl : vLane w = 1) (a b : BitVec 32) :
    cmpLane w a b = condHolds (vImm w / 8 % 8) false (if a.toInt < b.toInt then -1 else if a = b then 0 else 1) := by
  simp [cmpLane, hl, bits_5_3]

/-! ### The end of a tile program -/

/-- A tile's post: what its VSTD gathered, behind the tiles before it (R136, R137). -/
def tilePost (x : VCtx) (b : Bind) : Post :=
  { peer := b.peer, sig := b.sig, inc := b.inc, dst := b.dst + x.tile * b.lines * 512, data := x.gathered, cover := x.cover }

section
variable {c : CellState} {x : VCtx} {rest : List VCtx} {b : Bind}

theorem endTile_unposted (h : x.kind ≠ 0 ∨ x.post = none) : endTile c x rest = .ok { c with vctx := rest } := by
  unfold endTile
  rcases h with h | h
  · split
    · next hk _ => exact absurd hk h
    · rfl
  · simp [h]

theorem endTile_noPlace (hk : x.kind = 0) (hb : x.post = some b) (hp : x.place = false) (h : 4 ≤ places { c with vctx := rest }) :
    endTile c x rest = .noPlace := by
  simp [endTile, hk, hb, hp, h]

theorem endTile_posted (hk : x.kind = 0) (hb : x.post = some b) (h : x.place = true ∨ places { c with vctx := rest } < 4) :
    endTile c x rest = .ok { c with vctx := rest, posts := c.posts ++ [tilePost x b], postsSent := c.postsSent + 1 } := by
  have place : ¬ (x.place = false ∧ 4 ≤ places { c with vctx := rest }) := by
    rintro ⟨hp, h4⟩
    rcases h with h | h
    · rw [hp] at h
      cases h
    · omega
  simp [endTile, hk, hb, place, tilePost]

end

/-! ### VNOP and VEND in a thread -/

section
variable {tab : BitVec 16} {q : Nat} {map : Mem} {c : CellState} {k : Nat} {w : Word} (hok : vOk 8 w = true)
include hok

theorem vThread_vnop (hop : vOp w = 0x00) : vThread tab q map c k w =
    { c := setThread c k { lookup {} c.threads k with pc := (lookup {} c.threads k).pc + 1 }, map := map } := by
  simp [vThread, hok, hop, laneWise]

theorem vThread_vend (hop : vOp w = 0x01) : vThread tab q map c k w =
    { c := setThread c k { lookup {} c.threads k with pc := (lookup {} c.threads k).pc + 1, status := 0 }, map := map,
      upd := if (lookup {} c.threads k).inc = 0 then none else some ((lookup {} c.threads k).sig, (lookup {} c.threads k).inc) } := by
  simp [vThread, hok, hop, laneWise]

end

/-- R118: the end of a thread gives its counter its increment. -/
theorem threadExec_vend {s : State} {g k : Nat} {w : Word} (hok : vOk 8 w = true) (hop : vOp w = 0x01) :
    let th := lookup {} (s.cell g).threads k
    threadExec s g k w = bumpSignal (s.setCell g (setThread (s.cell g) k { th with pc := th.pc + 1, status := 0 })) g th.sig th.inc := by
  intro th
  have quiet : vOp w ≠ 0x58 ∧ vOp w ≠ 0x59 ∧ vOp w ≠ 0x5A := by omega
  have vend := vThread_vend (tab := s.boot.interp) (q := quarterOf g) (map := s.fabric.mapStore) (c := s.cell g) (k := k) hok hop
  by_cases h : th.inc = 0
  · rw [if_pos h] at vend
    exact (threadExec_quiet quiet vend).trans (if_pos h).symm
  · rw [if_neg h] at vend
    exact threadExec_update quiet vend

/-! ### The statements -/

section
variable {g : CellNo} {w : Word} {s : State} {k : ThreadNo}

/-- VEND of a thread ends it, and its counter gets its increment (R118). -/
theorem exec_vend_thread (hop : vOp w = 0x01) (hin : InThread s g.val k.val w) :
    let th := lookup {} (s.cell g.val).threads k.val
    exec (.vend g (.thread k) w) s =
      .next (bumpSignal (s.setCell g.val (setThread (s.cell g.val) k.val { th with pc := th.pc + 1, status := 0 })) g.val th.sig th.inc) := by
  obtain ⟨hlive, hst, hok⟩ := hin
  exact (vectorOp_thread hop hlive hst).trans (congrArg _ (threadExec_vend hok hop))

theorem exec_vnop_thread (hop : vOp w = 0x00) (hin : InThread s g.val k.val w) :
    let th := lookup {} (s.cell g.val).threads k.val
    exec (.vnop g (.thread k) w) s = .next (s.setCell g.val (setThread (s.cell g.val) k.val { th with pc := th.pc + 1 })) := by
  obtain ⟨hlive, hst, hok⟩ := hin
  exact (vectorOp_thread hop hlive hst).trans (congrArg _ (threadExec_quiet (by omega) (vThread_vnop hok hop)))

end

/-- Settles O23: each instruction is one case of vTile or vThread, and the lanes of VCVT fall into the formats and the MX blocks. -/
theorem conversionsComparesAndEnds : Obligations.ConversionsComparesAndEnds := by
  unfold Obligations.ConversionsComparesAndEnds
  refine ⟨fun g w s x rest hop hin => ?vcvt, fun g w s x rest hin => ⟨fun hop => ?vcmp, fun hop => ?vsel⟩,
    fun g w s => ⟨fun x rest hop hin => ?vnop, fun k hop hin => ?vnopThread, fun x rest hop hin hx => ?vend,
      fun x rest b hop hin hk hb hp hf => ?vendFull, fun x rest b hop hin hk hb hp => ?vendPost, fun k hop hin => ?vendThread⟩,
    fun p hp g w s hop hlive => ⟨fun x rest hctx hok => ?invalidTile, fun k hst hok => ?invalidThread⟩⟩
  case vcvt =>
    have ⟨_, hctx, hok⟩ := hin
    obtain ⟨t, run, only, vregs, place, lanes, others⟩ :=
      completes_tile (i := .vcvt g .tile w) rfl hop hin (vTile_laneWise hctx hok (by rw [hop]; decide))
    refine ⟨t, run, only, vregs, place, others, fun i hi ha => ?_⟩
    obtain ⟨plain, mx⟩ := vcvt_lane hop (vLane_of_vcvt hop hok) hi ha ((lanes i hi).trans (if_pos ha))
    refine ⟨fun h => ?_, fun h => ?_, fun h => ?_, fun h => ?_, fun h => ?_, mx⟩
    · rw [plain (by rw [h]; rfl), h, cvtLane_fp32]
    · rw [plain (by rw [h]; rfl), h, cvtLane_int8]
    · rw [plain (by rw [h]; rfl), h, cvtLane_int4]
    · rw [plain (by rw [h]; rfl), h, cvtLane_int32]
    · rw [plain (by rcases h with h | h | h | h <;> rw [h] <;> rfl), cvtLane_float h, openAbove_mod]
  case vcmp =>
    have ⟨_, hctx, hok⟩ := hin
    obtain ⟨t, run, only, place, vregs, store, drain, others, lanes⟩ :=
      completes_tile (i := .vcmp g .tile w) rfl hop hin (vTile_vcmp hctx hok hop)
    refine ⟨t, run, only, place, vregs, store, drain, others, fun h i hi ha => ?_, fun h hl i hi ha => ?_, fun h hl i hi ha => ?_⟩
    · rw [lanes h i hi, if_neg (by rw [ha]; exact Bool.false_ne_true)]
    · rw [lanes h i hi, if_pos ha, cmpLane_float hl]
    · rw [lanes h i hi, if_pos ha, cmpLane_int hl]
  case vsel =>
    have ⟨_, hctx, hok⟩ := hin
    exact (completes_tile (i := .vsel g .tile w) rfl hop hin (vTile_vsel hctx hok hop) :)
  case vnop =>
    have ⟨_, hctx, hok⟩ := hin
    exact completes_tile_eq rfl hop hin (vTile_vnop hctx hok hop)
  case vnopThread =>
    refine ⟨_, exec_vnop_thread hop hin, onlyCell_setCell _ _ _, ?_⟩
    rw [setCell_cell]
    exact ⟨onlyThread_setThread _ _ _, lookup_setThread_same _ _ _⟩
  case vend =>
    have ⟨_, hctx, hok⟩ := hin
    exact completes_tile_eq rfl hop hin ((vTile_vend hctx hok hop).trans (endTile_unposted hx))
  case vendFull =>
    have ⟨_, hctx, hok⟩ := hin
    have full := (vTile_vend (v := vEnv s) hctx hok hop).trans (endTile_noPlace hk hb hp hf)
    exact ⟨_, vectorOp_tile_noPlace hop hin full, onlyCell_modCell _ _ _, modCell_same _ _ _⟩
  case vendPost =>
    have ⟨_, hctx, hok⟩ := hin
    exact completes_tile_eq rfl hop hin ((vTile_vend hctx hok hop).trans (endTile_posted hk hb hp))
  case vendThread =>
    refine ⟨_, exec_vend_thread hop hin, onlyCell_setCell _ _ _, ?_⟩
    rw [setCell_cell]
    exact ⟨onlyThread_setThread _ _ _, lookup_setThread_same _ _ _⟩
  case invalidTile => exact completes_tile_invalid (exec_vectorRow p hp g .tile w s) hop hlive hctx hok
  case invalidThread => exact completes_thread_invalid (exec_vectorRow p hp g (.thread k) w s) hop hlive hst hok

/-- Settles O60: a NaN block is asked for before its elements are. -/
theorem nanBlocks : Obligations.NanBlocks := fun _ _ => if_pos rfl

end Sys2Proof.Machine

/-! SUPPORT. Memories: what a range of written or zeroed bytes reads as, inside and outside of it (spec/03 R75). -/

namespace Sys2Proof.Machine

/-- A key all of whose entries pass a filter reads as before. -/
theorem lookup_filter_all {α : Type} (d : α) (t : Tab α) (p : Nat × α → Bool) (k : Nat) (h : ∀ v, p (k, v) = true) :
    lookup d (t.filter p) k = lookup d t k := by
  induction t with
  | nil => rfl
  | cons q t ih =>
    obtain ⟨a, v⟩ := q
    by_cases e : k = a
    · subst e
      rw [List.filter_cons_of_pos (h v)]
      simp only [lookup, if_true]
    · rw [List.filter_cons]
      split <;> simp only [lookup, if_neg e, ih]

theorem readByte_zeroRange_other (m : Mem) {a n c : Nat} (h : ¬ (a ≤ c ∧ c < a + n)) : readByte (zeroRange m a n) c = readByte m c :=
  lookup_filter_all _ _ _ _ fun v => by simp; omega

theorem readBytes_writeBytes (m : Mem) (a : Nat) (l : List Byte) : readBytes (writeBytes m a l) a l.length = l := by
  refine List.ext_getElem (by simp [readBytes]) fun i hi hl => ?_
  simp only [readBytes, List.getElem_map, List.getElem_range, readByte_writeBytes]
  rw [if_pos (by omega), Nat.add_sub_cancel_left, List.getD_eq_getElem _ _ hl]

/-- Settles O6: a range that is written or zeroed reads as told inside, and as before outside. -/
theorem memoryKeepsItsForm : Obligations.MemoryKeepsItsForm := by
  unfold Obligations.MemoryKeepsItsForm
  refine fun m a l h => ⟨writeBytes_wf h a l, readBytes_writeBytes m a l, fun b hb => ?_, fun n => ⟨zeroRange_wf h a n, fun b => ?_⟩⟩
  · rw [readByte_writeBytes, if_neg (by omega)]
  · split
    · next hb => exact readByte_zeroRange m hb
    · next hb => exact readByte_zeroRange_other m hb

end Sys2Proof.Machine

/-! SUPPORT. The stitch of a cell: what a requested stitch does at a boundary and inside an interval, what holds it, and what its
events leave of the cell (spec/03 R57 to R70, R77 to R81; spec/04 R85, R100). -/

namespace Sys2Proof.Machine

open Sys2Proof.Safety

/-! ### A stitch at a boundary -/

theorem live_of_atBoundary {c : CellState} (h : atBoundary c = true) : c.live = true ∧ c.wait = none ∧ c.next ≤ c.since := by
  simpa [atBoundary, and_assoc] using h

/-- An operation row's command is what the sequencer performs by the word's opcode. -/
theorem macroOp_perform {code : Nat} {op : State → Nat → BitVec 128 → State} {g : CellNo} {w : BitVec 128} (s : State)
    (hw : opcode w = code) (h : ∀ s, perform s g.val w = op s g.val w) :
    macroOp code op g w s = .next (if atBoundary (s.cell g.val) then issueWith perform s g.val w else s) := by
  simp only [macroOp, hw, ne_eq, not_true_eq_false, if_false, issueWith, h]

theorem exec_macroRow : ∀ p ∈ macroRows, ∀ (g : CellNo) (w : BitVec 128) (s : State), opcode w = p.1 →
    exec (p.2 g w) s = .next (if atBoundary (s.cell g.val) then issueWith perform s g.val w else s) := by
  intro p hp g w s hw
  fin_cases hp <;> exact macroOp_perform s hw fun s => by simp only [perform, hw]

theorem stitchDone_boundary {s : State} {g : Nat} (h : atBoundary (s.cell g) = true) :
    stitchDone s g = issueWith perform s g (imemWord (s.cell g) (s.cell g).nextPc) := by
  obtain ⟨hlive, hwait, hnext⟩ := live_of_atBoundary h
  simp [stitchDone, hlive, hwait, Nat.not_lt.2 hnext]

theorem issueWith_pcOverrun (op : State → Nat → BitVec 128 → State) {s : State} {g : Nat} (w : BitVec 128) (hh : (s.cell g).haltReq = false)
    (hp : 1023 < (s.cell g).nextPc) : issueWith op s g w = s.setCell g (haltProg s.now (s.cell g) .pcOverrun) := by
  simp [issueWith, hh, hp]

/-! ### A stitch inside an interval -/

theorem stitchDone_inside {s : State} {g : Nat} (hlive : (s.cell g).live = true) (hwait : (s.cell g).wait = none)
    (hn : (s.cell g).since < (s.cell g).next) : stitchDone s g = completeStitch s g := by
  simp [stitchDone, hlive, hwait, hn]

theorem stitchDone_stopped {s : State} {g : Nat} (h : (s.cell g).live = false) : stitchDone s g = s := by
  simp [stitchDone, h]

theorem advance_starved {e : Env} (h : feedStalls e.c ≠ 0) : advance e = (.starved (feedStalls e.c), e.map) := if_pos h

theorem advance_wrong {e : Env} {x : Nat × Nat} (h : feedStalls e.c = 0) (hp : popBad e.c = some x) :
    advance e = (.wrong x.1 x.2, e.map) := by
  rw [advance, if_neg (not_not.2 h), hp]

/-- R58, R68: a stitch that takes from an empty eyelet or row operand register stays requested. -/
theorem completeStitch_starved {s : State} {g : Nat} (h : feedStalls (s.cell g) ≠ 0) :
    completeStitch s g = s.setCell g (setStalls { s.cell g with progressAt := s.now } ((s.cell g).stalls ||| feedStalls (s.cell g))) := by
  rw [completeStitch, advance_starved (e := envOf s g) h]
  rfl

/-- R69, R70: a stitch whose popped entry is wrong fails the cell. -/
theorem completeStitch_wrong {s : State} {g b e : Nat} (h : feedStalls (s.cell g) = 0) (hp : popBad (s.cell g) = some (b, e)) :
    completeStitch s g = s.setCell g (cellFail s.now (s.cell g) b 0 e) := by
  rw [completeStitch, advance_wrong (e := envOf s g) h hp]
  rfl

theorem failedWith_cellFail (now : Nat) (c : CellState) (bit addr eyelet : Nat) :
    FailedWith c (cellFail now c bit addr eyelet) bit addr eyelet := by
  refine ⟨rfl, rfl, rfl, rfl, rfl, rfl, rfl, ?_, sameMemories_refl _, rfl, rfl⟩
  simp [cellFail, at_]

theorem failedWith_wordFails (now : Nat) (c : CellState) (memory addr : Nat) : FailedWith c (wordFails now c memory addr) memory addr 0 :=
  failedWith_cellFail now c memory addr 0

/-! ### Events of a stitch -/

theorem modCell_eq {s : State} {g : Nat} {f : CellState → CellState} {c : CellState} (h : f (s.cell g) = c) : s.modCell g f = s.setCell g c := by
  rw [State.modCell, h]

/-- Counting once at each key of a list that a test picks. -/
theorem lookup_foldl_bump (n k : Nat) (p : Nat → Bool) {l : List Nat} (hl : l.Nodup) (t : Tab Nat) (i : Nat) :
    lookup 0 (l.foldl (fun t j => if p j then bump n t j k else t) t) i =
      if i ∈ l ∧ p i = true then satAdd n (lookup 0 t i) k else lookup 0 t i := by
  induction l generalizing t with
  | nil => simp
  | cons j l ih =>
    obtain ⟨hj, hl⟩ := List.nodup_cons.1 hl
    have one : lookup 0 (if p j then bump n t j k else t) i = if i = j ∧ p i = true then satAdd n (lookup 0 t i) k else lookup 0 t i := by
      by_cases e : i = j
      · subst e
        cases p i <;> simp [bump, modify]
      · cases p j <;> simp [bump, modify, e, lookup_put_other]
    rw [List.foldl_cons, ih hl, one]
    by_cases e : i = j
    · subst e; simp [hj]
    · simp [e]

theorem setStalls_stallEvents (c : CellState) (m : BitVec 8) (i : Nat) : lookup 0 (setStalls c m).stallEvents i =
    if i < 8 ∧ (m.getLsbD i && !c.stalls.getLsbD i) = true then satAdd 32 (lookup 0 c.stallEvents i) 1 else lookup 0 c.stallEvents i := by
  have h := lookup_foldl_bump 32 1 (fun j => m.getLsbD j && !c.stalls.getLsbD j) (List.nodup_range (n := 8)) c.stallEvents i
  simp only [List.mem_range] at h
  exact h

/-- The bit of a stall cause, as the stitch's events write it. -/
theorem getLsbD_cause (cause : Fin 8) (i : Nat) : (((1 <<< cause.val : Nat) : BitVec 8)).getLsbD i = decide (i = cause.val) := by
  have h := cause.isLt
  rw [BitVec.natCast_eq_ofNat, BitVec.getLsbD_ofNat, Nat.one_shiftLeft, Nat.testBit_two_pow]
  by_cases e : cause.val = i
  · simp [← e, h]
  · simp [e, Ne.symm e]

theorem or_cause_ne_zero (m : BitVec 8) (cause : Fin 8) : (m ||| ((1 <<< cause.val : Nat) : BitVec 8)) ≠ 0 := by
  intro h
  have bit := congrArg (fun v => v.getLsbD cause.val) h
  simp only [BitVec.getLsbD_or, getLsbD_cause] at bit
  simp at bit

/-! ### What a stitch event leaves -/

/-- What a requested stitch becomes for the cause of a participant that is not ready. -/
def frozenBy (now : Nat) (cause : Nat) (c : CellState) : CellState :=
  setStalls { c with progressAt := now } (c.stalls ||| (1 <<< cause))

theorem frozenBy_pacing (now : Nat) (cause : Fin 8) (c : CellState) : (frozenBy now cause.val c).pacing = false :=
  Bool.and_eq_false_imp.2 fun _ => beq_eq_false_iff_ne.2 (or_cause_ne_zero _ _)

theorem frozenBy_eq (now : Nat) (cause : Fin 8) (c : CellState) : frozenBy now cause.val c =
    { c with stalls := (frozenBy now cause.val c).stalls, stallEvents := (frozenBy now cause.val c).stallEvents, progressAt := now
             pacing := false } := by
  rw [← frozenBy_pacing now cause c]
  rfl

theorem frozenBy_stallEvents (now : Nat) (cause : Fin 8) (c : CellState) (i : Nat) : lookup 0 (frozenBy now cause.val c).stallEvents i =
    if i = cause.val ∧ c.stalls.getLsbD i = false then satAdd 32 (lookup 0 c.stallEvents i) 1 else lookup 0 c.stallEvents i := by
  have h := setStalls_stallEvents c (c.stalls ||| (1 <<< cause.val)) i
  rw [BitVec.getLsbD_or, getLsbD_cause] at h
  refine Eq.trans h ?_
  have lt := cause.isLt
  by_cases e : i = cause.val <;> cases c.stalls.getLsbD i <;> simp [e, lt]

theorem exec_stitch_done (g : CellNo) (s : State) : exec (.stitch g .done) s = .next (stitchDone s g.val) := rfl

section
variable (s : State) (g : Nat)

theorem stitchEvent_freeze (cause : Fin 8) : stitchEvent s g (.freeze cause) =
    s.modCell g (fun c => if !c.live || !freezeOk c cause.val then c else frozenBy s.now cause.val c) := rfl

theorem stitchEvent_feed (e : Fin 129) : stitchEvent s g (.feed e) = s.modCell g (fun c => if !c.live then c else feedEye c e.val) := rfl

theorem stitchEvent_combine (x : SplitSum) : stitchEvent s g (.combine x) = s.modCell g (fun c => if !c.live then c else addPartials c x) := rfl

theorem stitchEvent_paced : stitchEvent s g .paced =
    s.modCell g (fun c => if !c.live || c.stalls != 0 then c else { c with pacing := true, progressAt := s.now }) := rfl

theorem stitchEvent_skew (e : Fin 129) : stitchEvent s g (.skew e) =
    s.modCell g (fun c => if !c.live || !popsNow c e.val then c else cellFail s.now c 6 0 e.val) := rfl

theorem stitchEvent_parity (e : Fin 129) : stitchEvent s g (.parity e) =
    s.modCell g (fun c => if !c.live || !popsNow c e.val then c else cellFail s.now c 5 0 e.val) := rfl

theorem stitchEvent_uncorrectable (m : Fin 5) (a : BitVec 22) : stitchEvent s g (.uncorrectable m a) =
    count2601 (s.modCell g (fun c => wordFails s.now c m.val a.toNat)) 6 1 := rfl

theorem causeEnds_ready {cause : Nat} (hlive : (s.cell g).live = true) (hs : (s.cell g).stalls.getLsbD cause = true)
    (hh : (heldCauses s g).getLsbD cause = false) :
    causeEnds s g cause = s.modCell g (fun c => { c with stalls := (s.cell g).stalls &&& ~~~((1 : BitVec 8) <<< cause) }) := by
  simp [causeEnds, hlive, hs, hh]

theorem causeEnds_holds {cause : Nat} (h : (s.cell g).stalls.getLsbD cause = false ∨ (heldCauses s g).getLsbD cause = true) :
    causeEnds s g cause = s := by
  rcases h with h | h <;> simp [causeEnds, h]

/-- A stitch event that is a write of the cell: what it makes of a cell holds after it. -/
theorem completes_stitch {g : CellNo} {ev : StitchEvent} {f : CellState → CellState} {c : CellState}
    (he : stitchEvent s g.val ev = s.modCell g.val f) (hc : f (s.cell g.val) = c) :
    Completes (.stitch g ev) s (fun t => OnlyCell g.val s t ∧ t.cell g.val = c) := by
  refine ⟨s.modCell g.val f, congrArg Host.Outcome.next he, onlyCell_modCell _ _ _, ?_⟩
  rw [modCell_same, hc]

end

theorem completes_imp {i : Instr} {s : State} {P Q : State → Prop} (h : Completes i s P) (hpq : ∀ t, P t → Q t) : Completes i s Q := by
  obtain ⟨t, ht, hp⟩ := h
  exact ⟨t, ht, hpq t hp⟩

section
variable {i : Instr} {s : State} {g : Nat} {c : CellState}

theorem completes_setCell (h : exec i s = .next (s.setCell g c)) : Completes i s (fun t => OnlyCell g s t ∧ t.cell g = c) :=
  ⟨_, h, onlyCell_setCell _ _ _, setCell_cell _ _ _⟩

theorem completes_setCell_draw (h : exec i s = .next (s.setCell g c).draw) : Completes i s (fun t => OnlyCell g s t ∧ t.cell g = c) :=
  ⟨_, h, onlyCell_setCell_draw _ _ _, setCell_cell _ _ _⟩

end

/-! ### Time -/

/-- The pacing that 10 ns count (R62). -/
def pacedTime (now : Nat) (c : CellState) : CellState :=
  if c.pacing then { c with paceTime := satAdd 48 c.paceTime 4, progressAt := now } else c

/-- The freeze that 10 ns count, once on each cause (R78). -/
def frozenTime (now : Nat) (c : CellState) : CellState :=
  if c.stalls = 0 then c else
  { c with frozenTime := satAdd 48 c.frozenTime 4, progressAt := now,
           stallTime := (List.range 8).foldl (fun t i => if c.stalls.getLsbD i then bump 48 t i 4 else t) c.stallTime }

/-- The run that 10 ns count. -/
def ranTime (now : Nat) (c : CellState) : CellState :=
  { c with runTime := satAdd 48 c.runTime 4, idleSince := now, runMark := ranUntil now c.runMark }

theorem cellTime_eq {now : Nat} {c : CellState} (h : c.live = true) : cellTime now c = frozenTime now (pacedTime now (ranTime now c)) := by
  obtain ⟨hst, hf⟩ : c.st = .running ∧ c.fence = false := by simpa [CellState.live] using h
  exact if_neg (by simp [hst, hf])

theorem pacedTime_paceTime (now : Nat) (c : CellState) : (pacedTime now c).paceTime = if c.pacing then satAdd 48 c.paceTime 4 else c.paceTime := by
  unfold pacedTime; split <;> rfl

theorem pacedTime_keeps (now : Nat) (c : CellState) : (pacedTime now c).runTime = c.runTime ∧ (pacedTime now c).since = c.since ∧
    (pacedTime now c).stitchCount = c.stitchCount ∧ (pacedTime now c).stalls = c.stalls ∧
    (pacedTime now c).frozenTime = c.frozenTime ∧ (pacedTime now c).stallTime = c.stallTime := by
  unfold pacedTime; split <;> exact ⟨rfl, rfl, rfl, rfl, rfl, rfl⟩

theorem frozenTime_frozenTime (now : Nat) (c : CellState) : (frozenTime now c).frozenTime =
    if c.stalls = 0 then c.frozenTime else satAdd 48 c.frozenTime 4 := by
  unfold frozenTime; split <;> rfl

theorem frozenTime_keeps (now : Nat) (c : CellState) : (frozenTime now c).runTime = c.runTime ∧ (frozenTime now c).since = c.since ∧
    (frozenTime now c).stitchCount = c.stitchCount ∧ (frozenTime now c).paceTime = c.paceTime := by
  unfold frozenTime; split <;> exact ⟨rfl, rfl, rfl, rfl⟩

theorem frozenTime_stallTime (now : Nat) (c : CellState) {i : Nat} (hi : i < 8) : lookup 0 (frozenTime now c).stallTime i =
    if c.stalls.getLsbD i then satAdd 48 (lookup 0 c.stallTime i) 4 else lookup 0 c.stallTime i := by
  unfold frozenTime
  split
  · next h => simp [h]
  · have counted := lookup_foldl_bump 48 4 (fun j => c.stalls.getLsbD j) (List.nodup_range (n := 8)) c.stallTime i
    simpa only [List.mem_range, hi, true_and] using counted

/-- What a requested stitch of a running cell takes of each 10 ns (R78). -/
theorem cellTime_live {c : CellState} (h : c.live = true) (now : Nat) :
    (cellTime now c).runTime = satAdd 48 c.runTime 4 ∧ (cellTime now c).since = c.since ∧ (cellTime now c).stitchCount = c.stitchCount ∧
    (cellTime now c).paceTime = (if c.pacing then satAdd 48 c.paceTime 4 else c.paceTime) ∧
    (cellTime now c).frozenTime = (if c.stalls = 0 then c.frozenTime else satAdd 48 c.frozenTime 4) ∧
    ∀ i, i < 8 → lookup 0 (cellTime now c).stallTime i =
      (if c.stalls.getLsbD i then satAdd 48 (lookup 0 c.stallTime i) 4 else lookup 0 c.stallTime i) := by
  obtain ⟨run, since, count, stalls, frozen, times⟩ := pacedTime_keeps now (ranTime now c)
  obtain ⟨run', since', count', pace'⟩ := frozenTime_keeps now (pacedTime now (ranTime now c))
  rw [cellTime_eq h, run', since', count', pace', run, since, count, pacedTime_paceTime, frozenTime_frozenTime, stalls, frozen]
  refine ⟨rfl, rfl, rfl, rfl, rfl, fun i hi => ?_⟩
  rw [frozenTime_stallTime _ _ hi, stalls, times]
  rfl

/-! ### Feeders and split sums -/

/-- A cell whose feeders' causes end where they no longer hold (R78). -/
def settleFeeds (c : CellState) : CellState := { c with stalls := c.stalls &&& (feedStalls c ||| ~~~(7 : BitVec 8)) }

theorem settleFeeds_stalls (c : CellState) : (settleFeeds c).stalls = c.stalls &&& (feedStalls (settleFeeds c) ||| ~~~7) := rfl

/-- A cell whose eyelet e has taken the next entry x of what its feeder writes for operation m. -/
def eyeWritten (c : CellState) (m : MatOp) (e : Nat) (x : EyeEntry) (rest : List EyeEntry) : CellState :=
  { c with eyes := put [] c.eyes e (lookup [] c.eyes e ++ [x])
           mats := c.mats.map (fun y => if y.order = m.order then { m with feed := put [] m.feed e rest } else y) }

theorem feedEye_eyelet {c : CellState} {e : Nat} {m : MatOp} {x : EyeEntry} {rest : List EyeEntry} (hr : reducing c = some m)
    (hk : m.kind ≠ .dwc ∨ 64 ≤ e) (hf : lookup [] m.feed e = x :: rest) :
    feedEye c e = settleFeeds (if 16 ≤ (lookup [] c.eyes e).length then c else eyeWritten c m e x rest) := by
  have hk : ¬ (m.kind = .dwc ∧ e < 64) := by rintro ⟨h, l⟩; exact hk.elim (· h) (by omega)
  simp only [feedEye, hr, if_neg hk, hf]
  rfl

theorem splitAcc_int_pair {c : CellState} {x : SplitSum} {p q : BitVec 22} (hx : x.int = true) (hp : x.parts = [p, q]) (i : Nat) :
    splitAcc c x i = Acc.addI ⟨BitVec.ofNat 32 (rdLE (storeByte c) (p.toNat + 4 * i) 4), false, false, false⟩
      (BitVec.ofNat 32 (rdLE (storeByte c) (q.toNat + 4 * i) 4)).toInt := by
  simp [splitAcc, hx, hp, splitSumI]

/-- R47: a sum from a value that holds no bound saturates. -/
theorem addI_val_toInt (a : BitVec 32) (v : Int) : ((Acc.addI ⟨a, false, false, false⟩ v).val.toInt : Int) = clamp 32 (a.toInt + v) := by
  have ofInt_toInt : ∀ n : Int, -2147483648 ≤ n → n ≤ 2147483647 → (BitVec.ofInt 32 n).toInt = n := fun n lo hi => by
    rw [BitVec.toInt_ofInt]
    exact Int.bmod_eq_of_le (by omega) (by omega)
  unfold Acc.addI clamp
  simp only [Bool.false_eq_true, if_false]
  split_ifs with lo hi <;> simp only [] <;> rw [ofInt_toInt _ (by omega) (by omega)] <;> omega

/-! ### Hangs -/

theorem hang_fails {s : State} {g : Nat} (hlive : (s.cell g).live = true) (hs : (s.cell g).stalls = 0)
    (ht : (s.cell g).hangHeld.getD (s.cell g).hangLimit * 1000 ≤ s.now - (s.cell g).progressAt) :
    hang s g = s.setCell g (cellFail s.now (s.cell g) 7 0 0) :=
  modCell_eq (by simp [hlive, hs, ht])

theorem hang_none {s : State} {g : Nat} (h : (s.cell g).live = false ∨ (s.cell g).stalls ≠ 0 ∨
    s.now - (s.cell g).progressAt < (s.cell g).hangHeld.getD (s.cell g).hangLimit * 1000) : hang s g = s.setCell g (s.cell g) := by
  refine modCell_eq (if_neg ?_)
  simp only [Bool.and_eq_true, beq_iff_eq, decide_eq_true_eq, not_and, not_le]
  rcases h with h | h | h
  · simp [h]
  · exact fun a => absurd a.2 h
  · exact fun _ => h

/-! ### Corrected errors -/

/-- A corrected error of the cell's memory m as ECC_CE counts it (R77). -/
def corrected (m : Fin 3) (c : CellState) : CellState :=
  match m.val with
  | 0 => { c with corrected := satAdd 32 c.corrected 1, ceStore := satAdd 16 c.ceStore 1 }
  | 1 => { c with corrected := satAdd 32 c.corrected 1, ceBbuf := satAdd 16 c.ceBbuf 1 }
  | _ => { c with corrected := satAdd 32 c.corrected 1, ceOther := satAdd 16 c.ceOther 1 }

theorem stitchEvent_corrected (s : State) (g : Nat) (m : Fin 3) :
    stitchEvent s g (.corrected m) = correctedCell (s.modCell g (corrected m)) := by
  fin_cases m <;> rfl

theorem count2601_cell (s : State) (k n g : Nat) : (count2601 s k n).cell g = s.cell g := rfl

/-! ### The events together -/

section
variable {g : CellNo} {s : State} {e : Fin 129}

theorem completes_feed (hlive : (s.cell g.val).live = true) {m : MatOp} {x : EyeEntry} {rest : List EyeEntry}
    (hr : reducing (s.cell g.val) = some m) (hk : m.kind ≠ .dwc ∨ 64 ≤ e.val) (hf : lookup [] m.feed e.val = x :: rest) :
    Completes (.stitch g (.feed e)) s (fun t => OnlyCell g.val s t ∧
      let c := s.cell g.val
      let d := t.cell g.val
      SameMemories c d ∧ d.since = c.since ∧ d.stitchCount = c.stitchCount ∧ d.wait = c.wait ∧ d.loops = c.loops ∧
      ((lookup [] c.eyes e.val).length < 16 → lookup [] d.eyes e.val = lookup [] c.eyes e.val ++ [x] ∧
        ∀ k, k ≠ e.val → lookup [] d.eyes k = lookup [] c.eyes k) ∧
      (16 ≤ (lookup [] c.eyes e.val).length → d.eyes = c.eyes ∧ d.mats = c.mats) ∧
      d.stalls = c.stalls &&& (feedStalls d ||| ~~~7)) := by
  have fed := completes_stitch s (stitchEvent_feed s g.val e) ((if_neg (by simp [hlive])).trans (feedEye_eyelet hr hk hf))
  refine completes_imp fed fun t ⟨only, ht⟩ => ⟨only, ?_⟩
  by_cases full : 16 ≤ (lookup [] (s.cell g.val).eyes e.val).length
  · rw [if_pos full] at ht
    simp only [ht]
    exact ⟨sameMemories_refl _, rfl, rfl, rfl, rfl, fun h => absurd full (Nat.not_le.2 h), fun _ => ⟨rfl, rfl⟩, settleFeeds_stalls _⟩
  · rw [if_neg full] at ht
    simp only [ht]
    exact ⟨sameMemories_refl _, rfl, rfl, rfl, rfl, fun _ => ⟨lookup_put_same _ _ _ _, fun k hk => lookup_put_other _ _ _ hk⟩,
      fun h => absurd h full, settleFeeds_stalls _⟩

theorem completes_skew_popping (hlive : (s.cell g.val).live = true) (hp : popsNow (s.cell g.val) e.val = true) :
    Completes (.stitch g (.skew e)) s (fun t => FailedWith (s.cell g.val) (t.cell g.val) 6 0 e.val ∧ OnlyCell g.val s t) :=
  completes_imp (completes_stitch s (stitchEvent_skew s g.val e) (if_neg (by simp [hlive, hp]))) fun _ ⟨only, ht⟩ =>
    ⟨ht ▸ failedWith_cellFail _ _ _ _ _, only⟩

theorem completes_parity_popping (hlive : (s.cell g.val).live = true) (hp : popsNow (s.cell g.val) e.val = true) :
    Completes (.stitch g (.parity e)) s (fun t => FailedWith (s.cell g.val) (t.cell g.val) 5 0 e.val ∧ OnlyCell g.val s t) :=
  completes_imp (completes_stitch s (stitchEvent_parity s g.val e) (if_neg (by simp [hlive, hp]))) fun _ ⟨only, ht⟩ =>
    ⟨ht ▸ failedWith_cellFail _ _ _ _ _, only⟩

theorem completes_skew_quiet (hp : popsNow (s.cell g.val) e.val = false) :
    Completes (.stitch g (.skew e)) s (fun t => OnlyCell g.val s t ∧ t.cell g.val = s.cell g.val) :=
  completes_stitch s (stitchEvent_skew s g.val e) (if_pos (by simp [hp]))

theorem completes_parity_quiet (hp : popsNow (s.cell g.val) e.val = false) :
    Completes (.stitch g (.parity e)) s (fun t => OnlyCell g.val s t ∧ t.cell g.val = s.cell g.val) :=
  completes_stitch s (stitchEvent_parity s g.val e) (if_pos (by simp [hp]))

end

/-- Settles O18: a done stitch is the sequencer's issue, or its completion; every other event is a write of the cell. -/
theorem stitchesTimeAndFailures : Obligations.StitchesTimeAndFailures := by
  unfold Obligations.StitchesTimeAndFailures
  refine ⟨⟨fun p hp g s hr hop => ?issues, fun g s hb hh hpc => ?overrun, fun g s hlive hw hm hn => ?advances,
      fun g s hlive hw hn => ⟨fun hf => ?starved, fun b e hf hp => ?wrong⟩, fun g s h => ?stopped⟩,
    fun g s hlive => ⟨fun e m x rest hr hk hf => ?feeds, fun x => ?combines⟩,
    fun g s hlive => ⟨fun cause => ?freezes, fun hs => ?paces, fun hs => ?unpaced, fun cause => ⟨fun hs hh => ?ready, fun h => ?holds⟩,
      cellTime_live hlive⟩,
    fun g s => ⟨fun hlive e => ⟨fun hp => ?pops, fun hp => ?quiet⟩, fun m a => ?uncorrectable, fun hlive hs ht => ?hangs, fun h => ?runs⟩,
    fun g s m => ?corrected⟩
  case issues =>
    rw [exec_stitch_done, stitchDone_boundary hr.1, exec_macroRow p hp g _ s hop, if_pos hr.1]
  case overrun =>
    have halts := (stitchDone_boundary hb).trans (issueWith_pcOverrun perform _ hh hpc)
    refine completes_imp (completes_setCell (congrArg Host.Outcome.next halts)) fun t ⟨only, ht⟩ => ?_
    rw [ht]
    exact ⟨haltedBy_haltProg _ _ _, only, sameMemories_haltProg _ _ _⟩
  case advances =>
    have done := (stitchDone_inside hlive hw hn).trans (completeStitch_idle s g.val hm)
    refine completes_imp (completes_setCell_draw (congrArg Host.Outcome.next done)) fun t ⟨only, ht⟩ => ?_
    rw [ht]
    exact ⟨rfl, rfl, rfl, rfl, rfl, rfl, sameMemories_refl _, only⟩
  case starved =>
    rw [exec_stitch_done, stitchDone_inside hlive hw hn, completeStitch_starved hf]
  case wrong =>
    have failed := (stitchDone_inside hlive hw hn).trans (completeStitch_wrong hf hp)
    exact completes_imp (completes_setCell (congrArg Host.Outcome.next failed)) fun t ⟨only, ht⟩ =>
      ⟨ht ▸ failedWith_cellFail _ _ _ _ _, only⟩
  case stopped => rw [exec_stitch_done, stitchDone_stopped h]
  case feeds => exact completes_feed hlive hr hk hf
  case combines =>
    refine completes_imp (completes_stitch s (stitchEvent_combine s g.val x) (if_neg (by simp [hlive]))) fun t ⟨only, ht⟩ =>
      ⟨only, ?_⟩
    rw [ht]
    refine ⟨congrArg (storeBytes _ _) (List.flatMap_map ..), rfl, rfl, rfl, fun p q hx hp i => ?_⟩
    rw [splitAcc_int_pair hx hp, addI_val_toInt]
  case freezes =>
    refine completes_imp (completes_stitch s (stitchEvent_freeze s g.val cause) rfl) fun t ⟨only, ht⟩ => ⟨only, ?_, ?_⟩
    · intro h
      rw [ht, if_pos (by simp [h])]
    · intro h
      rw [if_neg (by simp [h, hlive])] at ht
      rw [ht]
      refine ⟨frozenBy_eq _ _ _, rfl, ?_, fun i hi => ?_⟩
      · rw [frozenBy_stallEvents]
        cases (s.cell g.val).stalls.getLsbD cause.val <;> simp
      · rw [frozenBy_stallEvents, if_neg fun h => hi h.1]
  case paces => exact completes_stitch s (stitchEvent_paced s g.val) (if_neg (by simp [hlive, hs]))
  case unpaced => exact completes_stitch s (stitchEvent_paced s g.val) (if_pos (by rw [bne_iff_ne.2 hs, Bool.or_true]))
  case ready => exact completes_stitch s (causeEnds_ready s g.val hlive hs hh) rfl
  case holds => exact congrArg Host.Outcome.next (causeEnds_holds s g.val h)
  case pops => exact ⟨completes_skew_popping hlive hp, completes_parity_popping hlive hp⟩
  case quiet => exact ⟨completes_imp (completes_skew_quiet hp) fun _ => And.symm, completes_imp (completes_parity_quiet hp) fun _ => And.symm⟩
  case uncorrectable =>
    refine ⟨_, congrArg Host.Outcome.next (stitchEvent_uncorrectable s g.val m a), ?_,
      fun h e => (count2601_cell _ _ _ _).trans (modCell_other _ _ _ e), rfl⟩
    rw [count2601_cell, modCell_same]
    exact failedWith_wordFails _ _ _ _
  case hangs =>
    exact completes_imp (completes_setCell (congrArg Host.Outcome.next (hang_fails hlive hs ht))) fun t ⟨only, ht⟩ =>
      ⟨ht ▸ failedWith_cellFail _ _ _ _ _, only⟩
  case runs => exact completes_imp (completes_setCell (congrArg Host.Outcome.next (hang_none h))) fun _ => And.symm
  case corrected =>
    refine ⟨_, congrArg Host.Outcome.next (stitchEvent_corrected s g.val m), ?_, fun h e => modCell_other _ _ _ e, rfl⟩
    rw [correctedCell, count2601_cell, modCell_same]
    rfl

end Sys2Proof.Machine

/-! SUPPORT. The issue of a matrix operation: what it writes of the cell, and its issue stitch, which takes from eyelets that are
empty still or, without an element to take, completes (spec/03 R65 to R68; spec/04 R91 to R94; spec/05 R127). -/

namespace Sys2Proof.Machine

open Sys2Proof.Safety

/-! ### The sentinel's part of an issue -/

/-- Nothing of the cell but the sentinel's marks, counters and log differs. -/
def OnlySentinel (c d : CellState) : Prop :=
  ∃ k v l g, d = { c with marks := k, violations := v, sentLost := l, sentLog := g }

theorem onlySentinel_refl (c : CellState) : OnlySentinel c c := ⟨_, _, _, _, rfl⟩

theorem onlySentinel_trans {c d e : CellState} (a : OnlySentinel c d) (b : OnlySentinel d e) : OnlySentinel c e := by
  obtain ⟨k, v, l, g, rfl⟩ := a
  obtain ⟨k', v', l', g', rfl⟩ := b
  exact ⟨k', v', l', g', rfl⟩

theorem onlySentinel_touch (c : CellState) (o i : Nat) (l : Bool) (sp : Nat) (w : Bool) (ls : List Nat) :
    OnlySentinel c (touch c o i l sp w ls) := by
  obtain ⟨v, a, b, e⟩ := touch_only c o i l sp w ls
  exact ⟨c.marks, v, a, b, e⟩

theorem onlySentinel_mark (c : CellState) (o i : Nat) (l : Bool) (sp : Nat) (r w : Bool) (u : Nat) (ls : List Nat) :
    OnlySentinel c (mark c o i l sp r w u ls) := by
  unfold mark
  split
  · exact onlySentinel_refl c
  · exact ⟨_, _, _, _, rfl⟩

theorem onlySentinel_foldl {α : Type} {f : CellState → α → CellState} (hf : ∀ c a, OnlySentinel c (f c a)) (l : List α) (c : CellState) :
    OnlySentinel c (l.foldl f c) :=
  List.foldlRecOn (motive := OnlySentinel c) l f (onlySentinel_refl c) fun d hd a _ => onlySentinel_trans hd (hf d a)

theorem onlySentinel_ite {p : Prop} [Decidable p] {c d e : CellState} (hd : OnlySentinel c d) (he : OnlySentinel c e) :
    OnlySentinel c (if p then d else e) := by
  split
  · exact hd
  · exact he

theorem onlySentinel_ite_after {p : Prop} [Decidable p] {c d e : CellState} (hd : OnlySentinel c d) (he : OnlySentinel d e) :
    OnlySentinel c (if p then e else d) :=
  onlySentinel_ite (onlySentinel_trans hd he) hd

theorem onlySentinel_ite_before {p : Prop} [Decidable p] {c d e : CellState} (hd : OnlySentinel c d) (he : OnlySentinel d e) :
    OnlySentinel c (if p then d else e) :=
  onlySentinel_ite hd (onlySentinel_trans hd he)

theorem onlySentinel_markProg (c : CellState) (x : VCtx) (entry len : Nat) (at_ : Nat → Nat) : OnlySentinel c (markProg c x entry len at_) := by
  refine onlySentinel_foldl (fun c j => ?_) _ _
  split
  · exact onlySentinel_mark ..
  · exact onlySentinel_refl c

theorem onlySentinel_markPrograms (c : CellState) (order idx s b nt : Nat) (x : MatIn) (post : Option Bind) (entry le proEntry lp : Nat) :
    OnlySentinel c (markPrograms c order idx s b nt x post entry le proEntry lp) := by
  refine onlySentinel_foldl (fun c n => ?_) _ _
  exact onlySentinel_ite_after (onlySentinel_ite_after (onlySentinel_refl c) (onlySentinel_markProg ..)) (onlySentinel_markProg ..)

theorem onlySentinel_sentMat (c : CellState) (order idx : Nat) (x : MatIn) (bstat epi : Bool) (post : Option Bind) (s b nt : Nat) :
    OnlySentinel c (sentMat c order idx x bstat epi post s b nt) := by
  refine onlySentinel_ite (onlySentinel_refl c) (onlySentinel_ite_before ?_
    (onlySentinel_foldl (fun c n => onlySentinel_foldl (fun c i => onlySentinel_mark ..) ..) ..))
  exact onlySentinel_trans (onlySentinel_trans (onlySentinel_trans (onlySentinel_trans (onlySentinel_trans
    (onlySentinel_touch ..) (onlySentinel_touch ..)) (onlySentinel_foldl (fun c i => onlySentinel_mark ..) ..)) (onlySentinel_mark ..))
    (onlySentinel_mark ..)) (onlySentinel_foldl (fun c n => onlySentinel_mark ..) ..)

/-! ### What an issue writes of the cell -/

/-- Stitches of a tile, and tiles (R64, R65). -/
def tileStitches (x : MatIn) : Nat := max x.kst 64
def tileCount (x : MatIn) : Nat := ceilDiv x.rows 64 * ceilDiv x.cols 64

/-- What R94 and R127 do not allow a matrix operation: POST without a binding, or fields that are no chain stage's. -/
def MatRefused (c : CellState) (x : MatIn) (w : BitVec 128) : Prop :=
  (fld w 115 115 = 1 ∧ c.bind = none) ∨ chainOk c x (fld w 117 117 == 1) = false

/-- The binding that a posting operation takes (R94). -/
def postOf (c : CellState) (w : BitVec 128) : Option Bind := if fld w 115 115 == 1 then c.bind else none

/-- Lengths of the epilogue and the prologue that a word binds. -/
def epilogueLen (c : CellState) (w : BitVec 128) : Nat := if fld w 117 117 == 1 then progLen c (fld w 60 51) else 0
def prologueLen (c : CellState) (w : BitVec 128) : Nat := if fld w 116 116 == 1 then progLen c (fld w 50 41) else 0

/-- The cell with the issue's marks (R61, R79). -/
def issueMarked (c : CellState) (x : MatIn) (w : BitVec 128) : CellState :=
  let d := sentMat c c.orders c.pc x (fld w 118 118 == 1) (fld w 117 117 == 1) (postOf c w) c.since (tileStitches x) (tileCount x)
  if d.sentOn.getLsbD 0 then
    markPrograms d d.orders d.pc c.since (tileStitches x) (tileCount x) x (postOf c w) (fld w 60 51) (epilogueLen c w) (fld w 50 41)
      (prologueLen c w)
  else d

/-- The B buffer filled, unless the operand is stationary (R66). -/
def loadedB (c : CellState) (x : MatIn) (w : BitVec 128) : CellState := if fld w 118 118 == 1 then c else { c with bbuf := loadB c x.b }

/-- The column and row scale registers set (R68). -/
def scalesSet (c : CellState) (x : MatIn) : CellState :=
  let colScale := fun (j : Nat) => if x.b.smode = 2 then
    (if j < x.b.extent then BitVec.ofNat 32 (rdLE (storeByte c) (x.b.scAddr + 4 * j) 4) else 0) else x.b.tscale
  { c with colScale := (List.range 64).foldl (fun t j => put 0 t j (colScale j)) [], rowScale := x.a.tscale }

/-- The row statistics cleared by the first stage of a MEM chain (R129). -/
def rowsCleared (c : CellState) (x : MatIn) : CellState := if x.chain = 1 ∧ x.first then { c with rmax := [], rsum := [] } else c

/-- The cell with everything its issue loads and clears. -/
def issueLoaded (c : CellState) (x : MatIn) (w : BitVec 128) : CellState :=
  { rowsCleared (scalesSet (loadedB c x w) x) x with tag := 0, eyes := [], rowReg := [] }

/-- The operation that begins in cell f.c, before its feeders have entries, for a word read in cell c. -/
def issueOp (c : CellState) (f : Env) (x : MatIn) (w : BitVec 128) (rs : List F32) : MatOp :=
  { kind := x.kind, idx := f.c.pc, order := f.c.orders, issue := c.since, b := tileStitches x, nt := tileCount x
    final := handOff c.since (tileStitches x) (tileCount x - 1) + max 64 (epilogueLen c w)
    entry := fld w 60 51, len := epilogueLen c w, proEntry := fld w 50 41, proLen := prologueLen c w, chain := x.chain
    first := x.chain != 0 && x.first, post := postOf c w, src := x.a, dst := x.d
    colTiles := ceilDiv x.cols 64, rowsTotal := x.rows, colsTotal := x.cols
    tiles := (List.range (tileCount x)).map (tileOut f x rs), rsums := rs, kst := x.kst, per := tagStitches x
    hold := entryHold x
    scaled := isMx x.a.format || isMx x.b.format || x.a.smode == 4 || x.b.smode == 4 || x.b.format == 0x0A
    int := x.int && x.chain == 0 }

/-- The cell in which operation m has begun. -/
def issueBegun (d : CellState) (x : MatIn) (w : BitVec 128) (m : MatOp) : CellState :=
  { d with
    orders := d.orders + 1, mats := d.mats ++ [m], bind := if fld w 115 115 == 1 then none else d.bind
    chainOpen := if x.chain = 0 then d.chainOpen else if x.first then x.chain else 0
    lastLayer := some x.d.layer }

theorem startMat_refused {e : Env} {kind : MatKind} {w : BitVec 128} (h : MatRefused e.c (matIn e.c kind w) w) : startMat e kind w = none := by
  refine if_pos ?_
  rcases h with ⟨hp, hb⟩ | hc
  · simp [hp, hb]
  · simp [hc]

theorem startMat_eq {e : Env} {kind : MatKind} {w : BitVec 128} (h : ¬ MatRefused e.c (matIn e.c kind w) w) :
    let x := matIn e.c kind w
    let f : Env := { e with c := issueLoaded (issueMarked e.c x w) x w }
    let rs := if x.second then rowSums f x else []
    startMat e kind w = some (issueBegun f.c x w (feedOf f x (issueOp e.c f x w rs)), max 1 (tileCount x * tileStitches x)) := by
  have allowed : ¬ (((fld w 115 115 == 1) && e.c.bind.isNone) || !chainOk e.c (matIn e.c kind w) (fld w 117 117 == 1)) = true := by
    simp only [MatRefused, not_or, not_and, Bool.not_eq_false] at h
    simp only [Bool.or_eq_true, Bool.and_eq_true, beq_iff_eq, Option.isNone_iff_eq_none, Bool.not_eq_true', not_or, not_and,
      Bool.not_eq_false]
    exact h
  exact if_neg allowed

/-- Beside the fields named here, which an issue sets, cell d is cell c. -/
def OnlyIssueFields (c d : CellState) : Prop :=
  d = { c with
    marks := d.marks, violations := d.violations, sentLost := d.sentLost, sentLog := d.sentLog, bbuf := d.bbuf, colScale := d.colScale
    rowScale := d.rowScale, rmax := d.rmax, rsum := d.rsum, tag := d.tag, eyes := d.eyes, rowReg := d.rowReg, orders := d.orders
    mats := d.mats, bind := d.bind, chainOpen := d.chainOpen, lastLayer := d.lastLayer }

/-- Cell d is cell c with the matrix operation of word w, of operands x, begun as operation m. -/
structure MatBegun (c : CellState) (x : MatIn) (w : BitVec 128) (d : CellState) (m : MatOp) : Prop where
  only : OnlyIssueFields c d
  mats : d.mats = c.mats ++ [m]
  eyes : d.eyes = []
  rowReg : d.rowReg = []
  bbuf : d.bbuf = if fld w 118 118 = 1 then c.bbuf else loadB c x.b
  bind : d.bind = if fld w 115 115 = 1 then none else c.bind
  kind : m.kind = x.kind
  issue : m.issue = c.since
  stitches : m.b = tileStitches x
  count : m.nt = tileCount x
  kst : m.kst = x.kst
  final : c.since < m.final
  prologue : fld w 116 116 = 0 → m.proLen = 0
  chain : m.chain = x.chain
  rows : m.rowsTotal = x.rows
  cols : m.colsTotal = x.cols
  src : m.src = x.a
  dst : m.dst = x.d
  post : m.post = if fld w 115 115 = 1 then c.bind else none

/-- Operation m's tiles and entries are those of operands x in cell and map store f, with the row sums rs (R65, R67). -/
def FedFrom (f : Env) (x : MatIn) (rs : List F32) (m : MatOp) : Prop :=
  m.tiles = (List.range (tileCount x)).map (tileOut f x rs) ∧ feedOf f x m = m

theorem feedOf_feedOf (f : Env) (x : MatIn) (m : MatOp) : feedOf f x (feedOf f x m) = feedOf f x m := rfl

theorem onlySentinel_issueMarked (c : CellState) (x : MatIn) (w : BitVec 128) : OnlySentinel c (issueMarked c x w) :=
  onlySentinel_ite_after (onlySentinel_sentMat ..) (onlySentinel_markPrograms ..)

theorem loadedB_eq (c : CellState) (x : MatIn) (w : BitVec 128) :
    loadedB c x w = { c with bbuf := if fld w 118 118 = 1 then c.bbuf else loadB c x.b } := by
  unfold loadedB
  by_cases h : fld w 118 118 = 1
  · rw [if_pos h, if_pos (by simp [h])]
  · rw [if_neg h, if_neg (by simp [h])]

theorem rowsCleared_eq (c : CellState) (x : MatIn) : ∃ m s, rowsCleared c x = { c with rmax := m, rsum := s } := by
  unfold rowsCleared
  split
  · exact ⟨_, _, rfl⟩
  · exact ⟨_, _, rfl⟩

theorem issueLoaded_eq (c : CellState) (x : MatIn) (w : BitVec 128) : ∃ rm rs, issueLoaded c x w =
    { c with
      bbuf := if fld w 118 118 = 1 then c.bbuf else loadB c x.b, colScale := (scalesSet c x).colScale, rowScale := x.a.tscale
      rmax := rm, rsum := rs, tag := 0, eyes := [], rowReg := [] } := by
  obtain ⟨rm, rs, cleared⟩ := rowsCleared_eq (scalesSet (loadedB c x w) x) x
  refine ⟨rm, rs, ?_⟩
  rw [issueLoaded, cleared, loadedB_eq]
  rfl

theorem issueLoaded_issueMarked (c : CellState) (x : MatIn) (w : BitVec 128) : ∃ k v l g cs rm rs,
    issueLoaded (issueMarked c x w) x w =
      { c with
        marks := k, violations := v, sentLost := l, sentLog := g, bbuf := if fld w 118 118 = 1 then c.bbuf else loadB c x.b
        colScale := cs, rowScale := x.a.tscale, rmax := rm, rsum := rs, tag := 0, eyes := [], rowReg := [] } := by
  obtain ⟨k, v, l, g, marked⟩ := onlySentinel_issueMarked c x w
  rw [marked]
  obtain ⟨rm, rs, loaded⟩ := issueLoaded_eq { c with marks := k, violations := v, sentLost := l, sentLog := g } x w
  exact ⟨k, v, l, g, _, rm, rs, loaded⟩

theorem lt_final (s b n l : Nat) : s < handOff s b n + max 64 l := by
  have := le_max_left 64 l
  unfold handOff
  omega

/-- An issue that is allowed begins the operation. -/
theorem matBegun_issueBegun (c : CellState) (f : Env) (x : MatIn) (w : BitVec 128) (rs : List F32)
    (hf : f.c = issueLoaded (issueMarked c x w) x w) :
    MatBegun c x w (issueBegun f.c x w (feedOf f x (issueOp c f x w rs))) (feedOf f x (issueOp c f x w rs)) := by
  obtain ⟨k, v, l, g, cs, rm, rs, loaded⟩ := issueLoaded_issueMarked c x w
  rw [loaded] at hf
  exact
    { only := by rw [hf]; rfl
      mats := by rw [hf]; rfl
      eyes := by rw [hf]; rfl
      rowReg := by rw [hf]; rfl
      bbuf := by rw [hf]; rfl
      bind := by simp only [issueBegun, hf, beq_iff_eq]
      kind := rfl, issue := rfl, stitches := rfl, count := rfl, kst := rfl
      final := lt_final _ _ _ _
      prologue := fun h => if_neg (by simp [h])
      chain := rfl, rows := rfl, cols := rfl, src := rfl, dst := rfl
      post := by simp only [feedOf, issueOp, postOf, beq_iff_eq] }

/-- A matrix operation that is allowed begins, with the tiles of its operands and what its feeders write. -/
theorem startMat_begins {e : Env} {kind : MatKind} {w : BitVec 128} (h : ¬ MatRefused e.c (matIn e.c kind w) w) :
    let x := matIn e.c kind w
    ∃ d m f rs, startMat e kind w = some (d, max 1 (tileCount x * tileStitches x)) ∧ MatBegun e.c x w d m ∧ FedFrom f x rs m ∧
      f.c.store = e.c.store ∧ f.c.bbuf = d.bbuf ∧ f.map = e.map ∧ f.q = e.q := by
  refine ⟨_, _, _, _, startMat_eq h, matBegun_issueBegun e.c _ _ w _ rfl, ⟨rfl, feedOf_feedOf _ _ _⟩, ?_, rfl, rfl, rfl⟩
  obtain ⟨k, v, l, g, cs, rm, rs, loaded⟩ := issueLoaded_issueMarked e.c (matIn e.c kind w) w
  exact (congrArg CellState.store loaded :)

/-! ### The issue stitch -/

/-- Cell c is at the issue stitch of matrix operation m, which is alone in flight, and no feeder has written. -/
structure AtIssue (c : CellState) (m : MatOp) : Prop where
  mats : c.mats = [m]
  eyes : c.eyes = []
  rowReg : c.rowReg = []
  notVrun : m.kind ≠ .vrun
  notGap : m.kind ≠ .gap
  issue : m.issue = c.since
  stitches : 64 ≤ m.b
  final : c.since < m.final

section
variable {c : CellState} {m : MatOp} (h : AtIssue c m)
include h

theorem reducing_atIssue (hn : 0 < m.nt) : reducing c = some m := by
  have hb := h.stitches
  have : 0 < m.nt * m.b := Nat.mul_pos hn (by omega)
  simp [reducing, h.mats, h.notVrun, h.notGap, h.issue, this]

theorem reducing_atIssue_untiled (hn : m.nt = 0) : reducing c = none := by
  simp [reducing, h.mats, h.issue, hn]

theorem stitch_atIssue : (c.since - m.issue) % m.b = 0 := by simp [h.issue]

theorem takesNow_atIssue (hn : 0 < m.nt) (e : Nat) : takesNow c e = popsAt m 0 e := by
  rw [takesNow, reducing_atIssue h hn]
  simp only [stitch_atIssue h]

theorem popBad_atIssue : popBad c = none := by
  simp [popBad, popsNow, h.eyes, lookup]

/-- R68: the first stitch of an operation that takes elements waits for its A and B eyelets, in DWC for its row operand registers. -/
theorem feedStalls_atIssue (hn : 0 < m.nt) (hk : 0 < m.kst) : (feedStalls c).getLsbD 0 = true ∧ (feedStalls c).getLsbD 1 = true := by
  have pops : ∀ e, e < 128 → takesPart m e = true → eyeEmpty c e = true := fun e he part => by
    simp [eyeEmpty, takesNow_atIssue h hn, popsAt, part, hk, Nat.ne_of_lt he, h.eyes, lookup]
  have a : ((List.range 64).any (eyeEmpty c) || rowsShort c) = true := by
    by_cases dwc : m.kind = .dwc
    · have short : rowsShort c = true := by
        simp only [rowsShort, reducing_atIssue h hn, stitch_atIssue h, h.rowReg]
        simpa [dwc, hk, lookup] using (⟨0, by decide⟩ : ∃ i, i < 64)
      rw [short, Bool.or_true]
    · have first : (List.range 64).any (eyeEmpty c) = true :=
        List.any_eq_true.2 ⟨0, List.mem_range.2 (by decide), pops 0 (by decide) (by simp [takesPart, dwc])⟩
      rw [first, Bool.true_or]
  have b : ((List.range 64).any fun j => eyeEmpty c (64 + j)) = true :=
    List.any_eq_true.2 ⟨0, List.mem_range.2 (by decide), pops 64 (by decide) (by simp [takesPart])⟩
  rw [feedStalls, if_pos a, if_pos b]
  split <;> decide

/-- An operation that takes no element asks for none. -/
theorem takesNow_atIssue_none (he : m.nt = 0 ∨ m.kst = 0) (e : Nat) : takesNow c e = false := by
  rcases Nat.eq_zero_or_pos m.nt with hn | hn
  · rw [takesNow, reducing_atIssue_untiled h hn]
  · have hk : m.kst = 0 := he.resolve_left (by omega)
    simp [takesNow_atIssue h hn, popsAt, hk]

theorem feedStalls_atIssue_none (he : m.nt = 0 ∨ m.kst = 0) : feedStalls c = 0 := by
  have short : rowsShort c = false := by
    rcases Nat.eq_zero_or_pos m.nt with hn | hn
    · rw [rowsShort, reducing_atIssue_untiled h hn]
    · have hk : m.kst = 0 := he.resolve_left (by omega)
      simp [rowsShort, reducing_atIssue h hn, hk]
  simp [feedStalls, eyeEmpty, takesNow_atIssue_none h he, short]

theorem popEyes_atIssue : popEyes c = c := by
  have eyes : (popEyes c).eyes = c.eyes := by simp [popEyes, h.eyes]
  have rows : (popEyes c).rowReg = c.rowReg := by
    simp only [popEyes, h.rowReg]
    split
    · exact ite_self _
    · rfl
  calc popEyes c = { c with eyes := (popEyes c).eyes, rowReg := (popEyes c).rowReg } := rfl
    _ = c := by rw [eyes, rows]

theorem dues_atIssue (hp : m.proLen = 0) : dues m c.since = [] := by
  have hf := h.final
  have inFlight : ¬ (c.since < m.issue ∨ m.final < c.since) := by rw [h.issue]; omega
  rw [dues, if_neg inFlight]
  split
  · rfl
  · next hk => exact absurd hk h.notVrun
  · have none : ¬ (m.len = 0 ∧ 0 < m.len) := by omega
    simp [h.issue, dueAt, hp, none]

theorem vectorPhase_atIssue (hp : m.proLen = 0) (v : VEnv) : vectorPhase v c.since c c.mats = .ok c := by
  have late : lateDues m c.since = [] := by simp [lateDues, h.issue]
  simp [vectorPhase, overdue, h.mats, late, dues_atIssue h hp, runAll, runDues]

theorem drainBlocked_atIssue : drainBlocked c c.since m = false := by
  have hb := h.stitches
  have : ¬ c.since + m.b ≤ c.since := by omega
  simp [drainBlocked, h.issue, this]

theorem drainMat_atIssue (e : Env) : drainMat e c.since m = e := by
  have hb := h.stitches
  have hf := h.final
  have noRow : ¬ (m.b ≤ c.since - m.issue ∧ m.nt ≠ 0) := by rw [h.issue]; omega
  have noHandOff : ¬ (c.since < m.issue + m.nt * m.b ∧ (c.since - m.issue + 1) % m.b = 0) := by
    rw [h.issue, Nat.sub_self, Nat.mod_eq_of_lt (by omega)]
    simp
  have notLast : ¬ (c.since = m.final ∧ m.first = true ∧ m.chain = 2) := by omega
  unfold drainMat
  split
  · rfl
  · next hk => exact absurd hk h.notGap
  · simp only [if_neg noRow, if_neg noHandOff, if_neg notLast]

end

/-! ### The issue stitch completes, or stays requested -/

/-- A stitch for which nothing is due completes, and does nothing else (R57). -/
theorem advance_quiet {e : Env} (hs : feedStalls e.c = 0) (hp : popBad e.c = none)
    (hv : vectorPhase e.v e.c.since e.c e.c.mats = .ok e.c) (hb : e.c.mats.any (drainBlocked e.c e.c.since) = false)
    (he : popEyes e.c = e.c) (hd : ∀ m ∈ e.c.mats, ∀ f, drainMat f e.c.since m = f) (hm : ∀ m ∈ e.c.mats, e.c.since < m.final) :
    advance e = (.ok (dropMarks { e.c with
      tag := nextTag e.c, since := e.c.since + 1, stitchCount := satAdd 64 e.c.stitchCount 1, pacing := false }), e.map) := by
  have drained : e.c.mats.foldl (fun f m => drainMat f e.c.since m) { e with c := popEyes e.c } = e := by
    rw [he]
    exact List.foldlRecOn (motive := fun f => f = e) _ _ rfl fun f hf m hmem => by rw [hd m hmem, hf]
  have kept : e.c.mats.filter (fun m => decide (e.c.since < m.final)) = e.c.mats :=
    List.filter_eq_self.2 fun m hmem => decide_eq_true (hm m hmem)
  rw [advance, if_neg (not_not.2 hs), hp]
  simp only [hv, hb, Bool.false_eq_true, if_false, drained, kept]

/-- A cell after a stitch that completes with nothing due. -/
def stitched (now : Nat) (c : CellState) : CellState :=
  { dropMarks { c with tag := nextTag c, since := c.since + 1, stitchCount := satAdd 64 c.stitchCount 1, pacing := false } with
    stalls := 0, progressAt := now }

section
variable {s : State} {g : Nat} {m : MatOp} (h : AtIssue (s.cell g) m)
include h

/-- R68: an operation that takes no element completes its issue stitch. -/
theorem completeStitch_atIssue (he : m.nt = 0 ∨ m.kst = 0) (hp : m.proLen = 0) :
    completeStitch s g = (s.setCell g (stitched s.now (s.cell g))).draw := by
  have quiet := advance_quiet (e := envOf s g) (feedStalls_atIssue_none h he) (popBad_atIssue h) (vectorPhase_atIssue h hp _)
    (by simp [envOf, h.mats, drainBlocked_atIssue h]) (popEyes_atIssue h)
    (by simpa [envOf, h.mats] using drainMat_atIssue h) (by simpa [envOf, h.mats] using h.final)
  rw [completeStitch, quiet]
  rfl

end

/-- Beside the fields named here, which a stitch sets, cell d is cell c. -/
def OnlyStitchFields (c d : CellState) : Prop :=
  d = { c with
    next := d.next, nextPc := d.nextPc, wait := d.wait, since := d.since, stitchCount := d.stitchCount, stalls := d.stalls
    stallEvents := d.stallEvents, pacing := d.pacing, progressAt := d.progressAt, tag := d.tag, marks := d.marks }

/-- The cell as an operation of i stitches stands in it (R85). -/
def standing (i : Nat) (c : CellState) : CellState := { c with next := c.since + i, nextPc := c.pc + 1, wait := none }

theorem onlyStitchFields_setStalls (i n : Nat) (c : CellState) (m : BitVec 8) :
    OnlyStitchFields c (setStalls { standing i c with progressAt := n } m) := rfl

theorem onlyStitchFields_stitched (i n : Nat) (c : CellState) : OnlyStitchFields c (stitched n (standing i c)) := by
  unfold OnlyStitchFields stitched standing dropMarks
  rfl

/-- What the issue stitch of a matrix operation m makes of cell c: it stays requested while its eyelets are empty, or has no element to
take and completes. -/
structure IssueStitch (c : CellState) (m : MatOp) (i : Nat) (d : CellState) : Prop where
  only : OnlyStitchFields c d
  next : d.next = c.since + i
  nextPc : d.nextPc = c.pc + 1
  waits : 0 < m.nt → 0 < m.kst → d.since = c.since ∧ d.stitchCount = c.stitchCount ∧ d.stalls.getLsbD 0 = true ∧ d.stalls.getLsbD 1 = true
  completes : m.nt = 0 ∨ m.kst = 0 → d.since = c.since + 1 ∧ d.stitchCount = satAdd 64 c.stitchCount 1 ∧ d.stalls = 0

section
variable {s : State} {g : Nat} {m : MatOp} (i : Nat) (h : AtIssue (s.cell g) m)
include h

theorem atIssue_standing : AtIssue ((s.modCell g (standing i)).cell g) m := by
  rw [modCell_same]
  exact ⟨h.mats, h.eyes, h.rowReg, h.notVrun, h.notGap, h.issue, h.stitches, h.final⟩

theorem issued_atIssue_waits (hn : 0 < m.nt) (hk : 0 < m.kst) : issued s g i =
    s.setCell g (setStalls { standing i (s.cell g) with progressAt := s.now } ((s.cell g).stalls ||| feedStalls (s.cell g))) := by
  have asks : feedStalls ((s.modCell g (standing i)).cell g) ≠ 0 := fun e => by
    have bit := (feedStalls_atIssue (atIssue_standing i h) hn hk).1
    rw [e] at bit
    exact absurd bit (by decide)
  refine (completeStitch_starved asks).trans ?_
  rw [modCell_same, State.modCell, setCell_setCell]
  rfl

theorem issued_atIssue_completes (he : m.nt = 0 ∨ m.kst = 0) (hp : m.proLen = 0) :
    issued s g i = (s.setCell g (stitched s.now (standing i (s.cell g)))).draw := by
  refine (completeStitch_atIssue (atIssue_standing i h) he hp).trans ?_
  rw [modCell_same, State.modCell, setCell_setCell]
  rfl

theorem issueStitch_atIssue (hp : (0 < m.nt ∧ 0 < m.kst) ∨ m.proLen = 0) :
    OnlyCell g s (issued s g i) ∧ IssueStitch (s.cell g) m i ((issued s g i).cell g) := by
  by_cases asks : 0 < m.nt ∧ 0 < m.kst
  · obtain ⟨hn, hk⟩ := asks
    have waits := issued_atIssue_waits i h hn hk
    obtain ⟨a, b⟩ := feedStalls_atIssue h hn hk
    rw [waits, setCell_cell]
    refine ⟨onlyCell_setCell _ _ _, onlyStitchFields_setStalls .., rfl, rfl, fun _ _ => ⟨rfl, rfl, ?_, ?_⟩, fun he => by omega⟩
    · rw [setStalls_stalls, BitVec.getLsbD_or, a, Bool.or_true]
    · rw [setStalls_stalls, BitVec.getLsbD_or, b, Bool.or_true]
  · have he : m.nt = 0 ∨ m.kst = 0 := by omega
    rw [issued_atIssue_completes i h he (hp.resolve_left asks), draw_cell, setCell_cell]
    exact ⟨onlyCell_setCell_draw _ _ _, onlyStitchFields_stitched .., rfl, rfl, fun hn hk => absurd ⟨hn, hk⟩ asks, fun _ => ⟨rfl, rfl, rfl⟩⟩

end

/-! ### The matrix operations -/

/-- The state with the writers of map-store lines that a MEM first stage names (spec/10 R257). -/
def withWriter (s : State) (t : Tab Nat) : State := { s with fabric := { s.fabric with writer := t } }

theorem withWriter_cell (s : State) (t : Tab Nat) (g : Nat) : (withWriter s t).cell g = s.cell g := rfl

theorem withWriter_fabric (s : State) (t : Tab Nat) : (withWriter s t).fabric = { s.fabric with writer := t } := rfl

theorem onlyCell_fabric {s t : State} {g : Nat} (h : OnlyCell g s t) : t.fabric = s.fabric := by rw [h.1]

/-- The writers after the issue of operation m of the run of start block sb: a MEM first stage's lines become the run's. -/
def writersAfter (s : State) (g : Nat) (sb : StartBlock) (m : MatOp) : Tab Nat :=
  if m.first ∧ m.chain = 1 then
    (List.range m.rowsTotal).foldl (fun t r => fillRange 0 t
      (lineKey 1 (flatAddr 1 (quarterOf g) ((m.dst.base * 8 + r * (m.dst.stride * 8)) % 33554432))) (ceilDiv m.colsTotal 8) (runKey sb))
      s.fabric.writer
  else s.fabric.writer

section
variable {kind : MatKind} {s : State} {g : Nat} {w : BitVec 128} {c : CellState} {x : MatIn} (hc : s.cell g = c) (hx : matIn c kind w = x)
include hc hx

theorem opMatrix_refused (h : MatRefused c x w) : opMatrix kind s g w = s.setCell g (haltProg s.now c .illegalOp) := by
  subst hc hx
  rw [opMatrix, startMat_refused (e := envOf s g) h]
  rfl

theorem opMatrix_begins (h : ¬ MatRefused c x w) :
    ∃ d m f rs t, opMatrix kind s g w = issued ((withWriter s t).setCell g d) g (max 1 (tileCount x * tileStitches x)) ∧
      MatBegun c x w d m ∧ FedFrom f x rs m ∧ f.c.store = c.store ∧ f.c.bbuf = d.bbuf ∧ f.map = s.fabric.mapStore ∧ f.q = quarterOf g ∧
      (x.chain ≠ 1 → t = s.fabric.writer) := by
  subst hc hx
  obtain ⟨d, m, f, rs, starts, begun, fed, store, bbuf, map, q⟩ := startMat_begins (e := envOf s g) h
  have last : d.mats.getLast? = some m := by rw [begun.mats]; simp
  refine ⟨d, m, f, rs, writersAfter s g d.sb m, ?_, begun, fed, store, bbuf, map, q, fun hx => if_neg fun hc => hx (begun.chain ▸ hc.2)⟩
  rw [opMatrix, starts]
  simp only [last]
  rfl

end

theorem onlyIssueFields_keeps {c d : CellState} (h : OnlyIssueFields c d) : d.pc = c.pc ∧ d.since = c.since ∧ d.stitchCount = c.stitchCount ∧
    d.st = c.st ∧ d.loops = c.loops ∧ d.store = c.store ∧ d.imem = c.imem ∧ d.tmem = c.tmem ∧ d.vreg = c.vreg ∧ d.pred = c.pred ∧
    d.drainBuf = c.drainBuf ∧ d.hist = c.hist := by
  rw [h]
  exact ⟨rfl, rfl, rfl, rfl, rfl, rfl, rfl, rfl, rfl, rfl, rfl, rfl⟩

theorem onlyStitchFields_keeps {c d : CellState} (h : OnlyStitchFields c d) : d.pc = c.pc ∧ d.st = c.st ∧ d.loops = c.loops ∧
    d.eyes = c.eyes ∧ d.bind = c.bind ∧ d.mats = c.mats ∧ d.bbuf = c.bbuf ∧ d.store = c.store ∧ d.imem = c.imem ∧ d.tmem = c.tmem ∧
    d.vreg = c.vreg ∧ d.pred = c.pred ∧ d.drainBuf = c.drainBuf ∧ d.hist = c.hist := by
  rw [h]
  exact ⟨rfl, rfl, rfl, rfl, rfl, rfl, rfl, rfl, rfl, rfl, rfl, rfl, rfl, rfl⟩

/-- An operation that has begun in a cell with none in flight is at its issue stitch. -/
theorem MatBegun.atIssue {c d : CellState} {x : MatIn} {w : BitVec 128} {m : MatOp} (h : MatBegun c x w d m) (hm : c.mats = [])
    (hk : x.kind ≠ .vrun ∧ x.kind ≠ .gap) : AtIssue d m := by
  obtain ⟨-, since, -⟩ := onlyIssueFields_keeps h.only
  exact
    { mats := by rw [h.mats, hm, List.nil_append]
      eyes := h.eyes
      rowReg := h.rowReg
      notVrun := h.kind ▸ hk.1
      notGap := h.kind ▸ hk.2
      issue := h.issue.trans since.symm
      stitches := h.stitches ▸ le_max_right _ _
      final := since ▸ h.final }

theorem exec_matrixRow : ∀ p ∈ matrixRows, ∀ (g : CellNo) (w : BitVec 128) (s : State),
    exec (p.2.2 g w) s = macroOp p.2.1 (opMatrix p.1) g w s := by
  intro p hp
  fin_cases hp <;> exact fun _ _ _ => rfl

theorem matrixRow_kind : ∀ p ∈ matrixRows, p.1 ≠ .vrun ∧ p.1 ≠ .gap := by decide

/-- A write of cell g, of the writers of lines, and whatever a stitch of cell g does. -/
theorem onlyCell_withWriter {s t : State} {g : Nat} {c d : CellState} {wr : Tab Nat}
    (only : OnlyCell g ((withWriter (s.setCell g c) wr).setCell g d) t) : (∀ h, h ≠ g → t.cell h = s.cell h) ∧
    t.fabric = { s.fabric with writer := wr } ∧
    t = { s with cells := t.cells, free := t.free, fabric := { s.fabric with writer := t.fabric.writer } } := by
  have fabric : t.fabric = { s.fabric with writer := wr } := by
    rw [onlyCell_fabric only, setCell_fabric, withWriter_fabric, setCell_fabric]
  refine ⟨fun h e => ?_, fabric, ?_⟩
  · rw [only.2 h e, setCell_cell_other _ _ _ e, withWriter_cell, setCell_cell_other _ _ _ e]
  · rw [fabric]
    have eq := only.1
    unfold withWriter State.setCell at eq
    exact eq

theorem MatBegun.takes {c d : CellState} {x : MatIn} {w : BitVec 128} {m : MatOp} (h : MatBegun c x w d m)
    (hq : (0 < tileCount x ∧ 0 < x.kst) ∨ fld w 116 116 = 0) : (0 < m.nt ∧ 0 < m.kst) ∨ m.proLen = 0 := by
  rw [h.count, h.kst]
  exact hq.imp_right h.prologue

/-- Settles O12: an operation that is allowed begins alone in flight with its eyelets empty, so its first stitch waits for an element,
or takes none and completes. -/
theorem matrixOperationIssues : Obligations.MatrixOperationIssues := by
  unfold Obligations.MatrixOperationIssues
  intro p hp g w s hr hw c x nt bad
  obtain ⟨hb, hh, hm, hpc⟩ := hr
  have run : exec (p.2.2 g w) s = .next (opMatrix p.1 (s.setCell g.val { c with pc := c.nextPc }) g.val w) :=
    (exec_matrixRow p hp g w s).trans (macroOp_ready _ _ _ _ _ hb hh hpc hm hw.1 hw.2)
  have hc : (s.setCell g.val { c with pc := c.nextPc }).cell g.val = { c with pc := c.nextPc } := setCell_cell _ _ _
  have hx : matIn { c with pc := c.nextPc } p.1 w = x := rfl
  have hk : x.kind ≠ .vrun ∧ x.kind ≠ .gap := matrixRow_kind p hp
  have kind : x.kind = p.1 := rfl
  clear_value x
  refine ⟨fun refused => ?_, fun allowed prologue => ?_⟩
  · rw [opMatrix_refused hc hx refused, setCell_setCell] at run
    refine completes_imp (completes_setCell run) fun t ⟨only, ht⟩ => ?_
    rw [ht]
    exact ⟨haltedBy_haltProg _ _ _, only, sameMemories_haltProg _ _ _⟩
  · obtain ⟨d, m, f, rs, wr, begins, begun, ⟨tiles, feed⟩, store, bbuf, map, q, writer⟩ := opMatrix_begins hc hx allowed
    rw [begins] at run
    have first : AtIssue (((withWriter (s.setCell g.val { c with pc := c.nextPc }) wr).setCell g.val d).cell g.val) m := by
      rw [setCell_cell]
      exact begun.atIssue hm hk
    obtain ⟨only, stitch⟩ := issueStitch_atIssue (max 1 (tileCount x * tileStitches x)) first (begun.takes prologue)
    rw [setCell_cell] at stitch
    generalize issued _ _ _ = t at run only stitch
    obtain ⟨others, fabric, frame⟩ := onlyCell_withWriter only
    obtain ⟨fields, next, nextPc, waits, completes⟩ := stitch
    obtain ⟨pc, since, count, st, loops, store', imem, tmem, vreg, pred, drainBuf, hist⟩ := onlyIssueFields_keeps begun.only
    obtain ⟨pc', st', loops', eyes', bind', mats', bbuf', store'', imem', tmem', vreg', pred', drainBuf', hist'⟩ :=
      onlyStitchFields_keeps fields
    rw [begun.count, begun.kst, since, count] at waits completes
    rw [since] at next
    rw [pc] at pc' nextPc
    refine ⟨t, run, fun hn hk => ?_, fun he => ?_, nextPc, loops'.trans loops, eyes'.trans begun.eyes, bind'.trans begun.bind,
      store''.trans store', imem'.trans imem, tmem'.trans tmem, vreg'.trans vreg, pred'.trans pred, drainBuf'.trans drainBuf,
      hist'.trans hist, bbuf'.trans begun.bbuf, ?_, others, frame, fun hx => ?_⟩
    · obtain ⟨since', count', a, b⟩ := waits hn hk
      exact ⟨pc', next, since', count', st'.trans st, a, b⟩
    · obtain ⟨since', count', stalls⟩ := completes he
      exact ⟨pc', since', next, count', st'.trans st, stalls⟩
    · have alone : d.mats = [m] := (begun.atIssue hm hk).mats
      exact ⟨m, f, rs, mats'.trans alone, begun.kind.trans kind, begun.issue, begun.stitches, begun.count, begun.rows, begun.cols,
        begun.src, begun.dst, begun.post, tiles, feed, store, bbuf.trans bbuf'.symm, map, q⟩
    · rw [fabric, writer hx]
      rfl

end Sys2Proof.Machine

/-! SUPPORT. A transfer whose completion names a word of port staging SRAM, and the refutation of O17 (spec/04 R95, spec/11 R290). -/

namespace Sys2Proof.Machine

open Sys2Proof.Safety

theorem exec_lacerTransferComplete (q : QuarterNo) (l : Fin 4) (by_ : Submitter) {err : TransferErr} (h : err ≠ .fabric) (s : State) :
    exec (.lacerTransferComplete q l ⟨by_, err⟩) s = .next (stopOn (lacerComplete s (q.val * 4 + l.val) by_ err) err) :=
  congrArg Host.Outcome.next (if_neg h)

/-! ### A word of staging that a refused transfer's completion names -/

/-- A descriptor of count 0, which is none (R95), submitted by cell 0. -/
def emptyTransfer : Transfer := { tag := 0, by_ := .cell 0, desc := 0, descAddr := 0, sb := {}, wait := false, idx := 0 }

/-- Host slot 0 runs with a view of one element; context 0 reads it, has a batch open with no sample in it, and one byte of LPDDR6 for the
batch, which holds 0x5A. Cell 0 has a transfer of no bytes on Lacer 0. -/
def openBatchState : State :=
  { State.reset with
    fabric := { lpddr := [(0, 0x5A)], lacer := [(0, [emptyTransfer])] }
    streams := { slot := [(0, { st := 1, desc := [(0, 2), (68, 1), (70, 1)] })] }
    ctxs := [(0, { st := .active, desc := [(2, 1)], pkg := some { emptyPackage with batchAt := [[0]], allocBytes := 1 }
                   openBatch := some { samples := [], opened := 0, tInput := 0, voidPos := [], buf := some 0 } })] }

/-- The first word of the slot's frame-entry ring. -/
def ringWord : TransferErr := .word (.staging 0 0x500000)

/-- The model's own run: the transfer moves nothing, the slot stops, its batch closes, and the VOID value of the position that has
no sample is written. -/
theorem lacerComplete_openBatch_lpddr :
    (stopOn (lacerComplete openBatchState 0 (.cell 0) ringWord) ringWord).fabric.lpddr = [(0, 0x80)] := by decide +kernel

theorem emptyTransfer_invalid : descValid emptyTransfer.desc = false := by decide +kernel

/-- Both its sides name LPDDR6. -/
theorem emptyTransfer_place : placeOf' (.cell 0) emptyTransfer.sb (tfield emptyTransfer.desc 139 136) (tfield emptyTransfer.desc 147 140) = some 0 ∧
    placeOf' (.cell 0) emptyTransfer.sb (tfield emptyTransfer.desc 191 188) (tfield emptyTransfer.desc 199 192) = some 0 := by decide +kernel

theorem openBatchState_cell (g : Nat) : openBatchState.cell g = {} := rfl

/-- Refutes O17: a completion that names a staging word of a running host slot stops the slot, and the batch that closes writes LPDDR6,
although the transfer itself is refused and moves nothing. -/
theorem not_transfers : ¬ Obligations.Transfers := by
  unfold Obligations.Transfers
  rintro ⟨-, refused, -⟩
  obtain ⟨source, dest⟩ := emptyTransfer_place
  obtain ⟨t, run, ⟨-, lpddr, -⟩, -⟩ := refused 0 0 0 openBatchState emptyTransfer 0 0 ringWord rfl rfl rfl rfl (by decide) source dest
    (by rw [if_pos emptyTransfer_invalid]; decide) fun h _ => by rw [openBatchState_cell]
  have after : stopOn (lacerComplete openBatchState 0 (.cell 0) ringWord) ringWord = t :=
    Host.Outcome.next.inj ((exec_lacerTransferComplete 0 0 (.cell 0) (by decide) openBatchState).symm.trans run)
  rw [← after, lacerComplete_openBatch_lpddr] at lpddr
  exact absurd lpddr (by decide)

end Sys2Proof.Machine

/-! SUPPORT. The issue of an operation at a cell with nothing in flight: how it is taken up, the issue stitch that completes, the one
that is held, and the program error (spec/03 R58, R78; spec/04 R83, R85). -/

namespace Sys2Proof.Machine

open Sys2Proof.Safety

/-! ### Taking up a word -/

/-- The cell with the operation at its next index current. -/
def takenUp (c : CellState) : CellState := { c with pc := c.nextPc }

/-- Cell d is in the stitch in which cell c takes up its next operation. -/
def InIssueOf (c d : CellState) : Prop := d.pc = c.nextPc ∧ d.since = c.since ∧ d.stitchCount = c.stitchCount ∧ d.st = c.st

theorem inIssueOf_takenUp (c : CellState) : InIssueOf c (takenUp c) := ⟨rfl, rfl, rfl, rfl⟩

/-- A row's command at a cell that is ready is the row's operation on the cell with the word taken up. -/
theorem exec_ready {i : Instr} {code : Nat} {op : State → Nat → BitVec 128 → State} {g : CellNo} {w : BitVec 128} {s : State}
    (hi : exec i s = macroOp code op g w s) (hr : Ready s g.val) (hw : Passes code w) :
    exec i s = .next (op (s.setCell g.val (takenUp (s.cell g.val))) g.val w) := by
  obtain ⟨hb, hh, hm, hp⟩ := hr
  exact hi.trans (macroOp_ready code op g w s hb hh hp hm hw.1 hw.2)

theorem ready_running {s : State} {g : Nat} (h : Ready s g) : (s.cell g).st = .running := by
  have live := (live_of_atBoundary h.1).1
  rw [CellState.live, Bool.and_eq_true, beq_iff_eq] at live
  exact live.1

theorem ready_mats {s : State} {g : Nat} (h : Ready s g) : (s.cell g).mats = [] := h.2.2.1

/-! ### The issue stitch completes -/

/-- A cell with no operation in flight after a stitch that completes. -/
def idleStitched (now : Nat) (c : CellState) : CellState :=
  { dropMarks { c with since := c.since + 1, stitchCount := satAdd 64 c.stitchCount 1, pacing := false } with
    eyes := c.eyes.filter (fun p => !p.2.isEmpty), stalls := 0, progressAt := now }

theorem completeStitch_setCell (s : State) (g : Nat) {d : CellState} (hm : d.mats = []) :
    completeStitch (s.setCell g d) g = (s.setCell g (idleStitched s.now d)).draw := by
  rw [completeStitch_idle _ _ (by rw [setCell_cell]; exact hm), setCell_cell, setCell_setCell]
  rfl

theorem issued_setCell (s : State) (g i : Nat) {d : CellState} (hm : d.mats = []) :
    issued (s.setCell g d) g i = (s.setCell g (idleStitched s.now (standing i d))).draw := by
  rw [issued, State.modCell, setCell_cell, setCell_setCell]
  exact completeStitch_setCell s g hm

theorem stepped_idleStitched {s t : State} {g i now : Nat} {d : CellState} (ht : t.cell g = idleStitched now d)
    (hd : InIssueOf (s.cell g) d) (hn : d.next = (s.cell g).since + i) : Stepped s g i t := by
  obtain ⟨pc, since, count, st⟩ := hd
  rw [Stepped, ht]
  exact ⟨pc, congrArg (· + 1) since, hn, congrArg (satAdd 64 · 1) count, st, rfl⟩

section
variable {i : Instr} {s u : State} {g n : Nat} {d : CellState}

theorem completes_completeStitch (run : exec i s = .next (completeStitch (u.setCell g d) g)) (hm : d.mats = [])
    (hd : InIssueOf (s.cell g) d) (hn : d.next = (s.cell g).since + n) :
    Completes i s (fun t => Stepped s g n t ∧ OnlyCell g u t ∧ t.cell g = idleStitched u.now d) := by
  rw [completeStitch_setCell u g hm] at run
  exact ⟨_, run, stepped_idleStitched (setCell_cell _ _ _) hd hn, onlyCell_setCell_draw _ _ _, setCell_cell _ _ _⟩

/-- An operation that makes u of what is outside its cell, and d of its cell, in its issue stitch. -/
theorem completes_issued (run : exec i s = .next (issued (u.setCell g d) g n)) (hm : d.mats = []) (hd : InIssueOf (s.cell g) d) :
    Completes i s (fun t => Stepped s g n t ∧ OnlyCell g u t ∧ t.cell g = idleStitched u.now (standing n d)) := by
  rw [issued_setCell u g n hm] at run
  exact ⟨_, run, stepped_idleStitched (setCell_cell _ _ _) hd (congrArg (· + n) hd.2.1), onlyCell_setCell_draw _ _ _, setCell_cell _ _ _⟩

end

/-! ### The issue stitch is held -/

/-- A cell held in its issue stitch. -/
def heldIssue (now : Nat) (x : Wait) (causes : BitVec 8) (c : CellState) : CellState :=
  setStalls { c with next := c.since + 1, nextPc := c.pc + 1, wait := some x, progressAt := now } causes

theorem holdIssue_setCell (s : State) (g : Nat) (d : CellState) (x : Wait) (causes : BitVec 8) :
    holdIssue (s.setCell g d) g x causes = s.setCell g (heldIssue s.now x causes d) := by
  rw [holdIssue, State.modCell, setCell_cell, setCell_setCell]
  rfl

theorem held_heldIssue {s t : State} {g now : Nat} {x : Wait} {causes : BitVec 8} {d : CellState} (ht : t.cell g = heldIssue now x causes d)
    (hd : InIssueOf (s.cell g) d) (hl : d.loops = (s.cell g).loops) (hm : SameMemories (s.cell g) d) : Safety.Held s g x causes t := by
  obtain ⟨pc, since, count, st⟩ := hd
  rw [Safety.Held, ht]
  exact ⟨rfl, rfl, since, count, pc, st, hl, hm⟩

/-- An operation that its cell takes up and holds. -/
theorem completes_held {i : Instr} {s : State} {g : Nat} {x : Wait} {causes : BitVec 8}
    (run : exec i s = .next (holdIssue (s.setCell g (takenUp (s.cell g))) g x causes)) :
    Completes i s (fun t => OnlyCell g s t ∧ Safety.Held s g x causes t) := by
  rw [holdIssue_setCell] at run
  exact completes_imp (completes_setCell run) fun t ⟨only, ht⟩ =>
    ⟨only, held_heldIssue ht (inIssueOf_takenUp _) rfl (sameMemories_refl _)⟩

/-! ### Program errors -/

theorem progError_setCell (s : State) (g : Nat) (d : CellState) (why : JobFault) :
    progError (s.setCell g d) g why = s.setCell g (haltProg s.now d why) := by
  rw [progError, State.modCell, setCell_cell, setCell_setCell]
  rfl

/-- An operation that halts the cell which takes it up. -/
theorem completes_progError {i : Instr} {s : State} {g : Nat} {why : JobFault}
    (run : exec i s = .next (progError (s.setCell g (takenUp (s.cell g))) g why)) :
    Completes i s (fun t => HaltedBy (t.cell g) (s.cell g).nextPc why ∧ OnlyCell g s t ∧ SameMemories (s.cell g) (t.cell g)) := by
  rw [progError_setCell] at run
  refine completes_imp (completes_setCell run) fun t ⟨only, ht⟩ => ?_
  rw [ht]
  exact ⟨haltedBy_haltProg _ _ _, only, sameMemories_haltProg _ (takenUp _) _⟩

end Sys2Proof.Machine

/-! SUPPORT. The operations that need no more than a stitch, and words that break R83 (spec/04 R83, R85, R93, R99, R100). -/

namespace Sys2Proof.Machine

open Sys2Proof.Safety

/-! ### Loops -/

theorem matchingEnd_takenUp (c : CellState) (f i d : Nat) : matchingEnd (takenUp c) f i d = matchingEnd c f i d := by
  induction f generalizing i d with
  | zero => rfl
  | succ f ih => simp only [matchingEnd, ih]; rfl

/-- The cell as LOOP opens a loop of n passes, or passes over it (R99). -/
def loopOpened (c : CellState) (w : BitVec 128) (n : Nat) : CellState :=
  let c := if fld w 119 119 == 1 then touch c c.orders c.pc false 0 false (linesOf (fld w 95 74) 2) else c
  let c := if n = 0 then c else { c with loops := ⟨c.pc + 1, fld w 73 64, n, 0⟩ :: c.loops }
  { c with next := c.since + 1, nextPc := if n = 0 then fld w 73 64 + 1 else c.pc + 1, orders := c.orders + 1, wait := none }

/-- Beside the sentinel's log, LOOP sets its loop, and the place of the next operation. -/
theorem loopOpened_eq (c : CellState) (w : BitVec 128) (n : Nat) : ∃ k v l e, loopOpened c w n =
    { c with
      marks := k, violations := v, sentLost := l, sentLog := e, next := c.since + 1, orders := c.orders + 1, wait := none
      loops := if n = 0 then c.loops else ⟨c.pc + 1, fld w 73 64, n, 0⟩ :: c.loops
      nextPc := if n = 0 then fld w 73 64 + 1 else c.pc + 1 } := by
  obtain ⟨k, v, l, e, touched⟩ := onlySentinel_ite (p := (fld w 119 119 == 1) = true)
    (onlySentinel_touch c c.orders c.pc false 0 false (linesOf (fld w 95 74) 2)) (onlySentinel_refl c)
  refine ⟨k, v, l, e, ?_⟩
  rw [loopOpened, touched]
  split <;> rfl

section
variable {s : State} {g : Nat} {c : CellState} {w : BitVec 128} (hc : s.cell g = c)
include hc

theorem opLoop_opens (hl : c.loops.length < 4) (he : matchingEnd c 1024 (c.pc + 1) 0 = some (fld w 73 64)) :
    opLoop s g w = completeStitch (s.setCell g (loopOpened c w (Safety.loopCount c w))) g := by
  subst hc
  have count : Safety.loopCount (s.cell g) w = if fld w 119 119 == 1 then rdLE (storeByte (s.cell g)) (fld w 95 74) 2 else fld w 111 96 := by
    simp only [Safety.loopCount, beq_iff_eq]
  rw [count]
  exact if_neg (not_or.2 ⟨Nat.not_le.2 hl, not_not.2 he⟩)

theorem opLoop_refused (h : 4 ≤ c.loops.length ∨ matchingEnd c 1024 (c.pc + 1) 0 ≠ some (fld w 73 64)) :
    opLoop s g w = progError s g .illegalOp := by
  subst hc
  exact if_pos h

/-- The cell as ENDLOOP goes back to the body of its loop, or leaves it (R99). -/
def loopEnded (c : CellState) (l : LoopFrame) (rest : List LoopFrame) : CellState :=
  if 1 < l.left then { c with loops := { l with left := l.left - 1, pass := l.pass + 1 } :: rest, next := c.since + 1, nextPc := l.body }
  else { c with loops := rest, next := c.since + 1, nextPc := c.pc + 1 }

theorem opEndloop_ends {l : LoopFrame} {rest : List LoopFrame} (hl : c.loops = l :: rest) (he : l.endIdx = c.pc) :
    opEndloop s g w = completeStitch (s.setCell g (loopEnded c l rest)) g := by
  subst hc
  rw [opEndloop, hl]
  exact if_neg (not_not.2 he)

end

/-- Settles O9: each of the five is an issue stitch that completes, after a write of the loops or of the hints. -/
theorem simpleMacroOperations : Obligations.SimpleMacroOperations := by
  unfold Obligations.SimpleMacroOperations
  refine ⟨fun g w s hr => ⟨fun hw => ?nop, fun hw => ?waits, fun hw => ?hint⟩, fun g w s hr hw hl he => ?opens, fun g w s hr hw h => ?refused,
    fun g w s l rest hr hw hl he => ?ends⟩
  case nop =>
    have run : exec (.nop g w) s = .next (issued (s.setCell g.val (takenUp (s.cell g.val))) g.val 1) :=
      exec_ready (i := .nop g w) (op := opNop) rfl hr hw
    refine completes_imp (completes_issued run (ready_mats hr) ⟨rfl, rfl, rfl, rfl⟩) fun t ⟨stepped, only, ht⟩ => ⟨stepped, only, ?_⟩
    rw [ht]
    exact ⟨sameMemories_refl _, rfl, rfl, rfl⟩
  case waits =>
    have run : exec (.waits g w) s = .next (issued (s.setCell g.val (takenUp (s.cell g.val))) g.val (fld w 111 88)) :=
      exec_ready (i := .waits g w) (op := opWaits) rfl hr hw
    refine completes_imp (completes_issued run (ready_mats hr) ⟨rfl, rfl, rfl, rfl⟩) fun t ⟨stepped, only, ht⟩ => ⟨stepped, only, ?_⟩
    rw [ht]
    exact ⟨sameMemories_refl _, rfl, rfl, rfl⟩
  case hint =>
    have run := exec_ready (i := .hint g w) rfl hr hw
    rw [opHint, State.modCell, setCell_cell, setCell_setCell] at run
    refine completes_imp (completes_issued run (ready_mats hr) ⟨rfl, rfl, rfl, rfl⟩) fun t ⟨stepped, only, ht⟩ => ⟨stepped, only, ?_⟩
    rw [ht]
    exact ⟨sameMemories_refl _, rfl, rfl, rfl⟩
  case opens =>
    have run := exec_ready (i := .loop g w) rfl hr hw
    obtain ⟨k, v, n, e, opened⟩ := loopOpened_eq (takenUp (s.cell g.val)) w (Safety.loopCount (s.cell g.val) w)
    have count : Safety.loopCount (takenUp (s.cell g.val)) w = Safety.loopCount (s.cell g.val) w := rfl
    rw [opLoop_opens (c := takenUp (s.cell g.val)) (setCell_cell _ _ _) hl ((matchingEnd_takenUp _ _ _ _).trans he), setCell_setCell,
      count, opened] at run
    refine completes_imp (completes_completeStitch run (ready_mats hr) ⟨rfl, rfl, rfl, rfl⟩ rfl) fun t ⟨stepped, only, ht⟩ =>
      ⟨stepped, only, ?_⟩
    rw [ht]
    exact ⟨sameMemories_refl _, fun h => ⟨if_pos h, if_pos h⟩, fun h => ⟨if_neg h, if_neg h⟩⟩
  case refused =>
    have run := exec_ready (i := .loop g w) rfl hr hw
    rw [opLoop_refused (c := takenUp (s.cell g.val)) (setCell_cell _ _ _) (h.imp id fun h => by rwa [matchingEnd_takenUp])] at run
    exact completes_imp (completes_progError run) fun t ⟨halted, only, _⟩ => ⟨halted, only⟩
  case ends =>
    have run := exec_ready (i := .endloop g w) rfl hr hw
    rw [opEndloop_ends (c := takenUp (s.cell g.val)) (setCell_cell _ _ _) hl he, setCell_setCell] at run
    by_cases more : 1 < l.left
    · rw [loopEnded, if_pos more] at run
      refine completes_imp (completes_completeStitch run (ready_mats hr) ⟨rfl, rfl, rfl, rfl⟩ rfl) fun t ⟨stepped, only, ht⟩ =>
        ⟨stepped, only, ?_⟩
      rw [ht]
      exact ⟨sameMemories_refl _, fun _ => ⟨rfl, rfl⟩, fun h => absurd more (Nat.not_lt.2 h)⟩
    · rw [loopEnded, if_neg more] at run
      refine completes_imp (completes_completeStitch run (ready_mats hr) ⟨rfl, rfl, rfl, rfl⟩ rfl) fun t ⟨stepped, only, ht⟩ =>
        ⟨stepped, only, ?_⟩
      rw [ht]
      exact ⟨sameMemories_refl _, fun h => absurd h more, fun _ => ⟨rfl, rfl⟩⟩

/-! ### Words at a boundary -/

/-- The rows but DRAIN, whose meaning takes its mask from the word: opcode, meaning, command. -/
def issueRows : List (Nat × (State → Nat → BitVec 128 → State) × (CellNo → BitVec 128 → Instr)) :=
  [(0x00, opNop, .nop), (0x01, opDrain 15 true, .halt), (0x02, opWaits, .waits), (0x04, opHint, .hint), (0x08, opLoop, .loop),
   (0x09, opEndloop, .endloop), (0x10, opMatrix .mma, .mma), (0x11, opMatrix .mmat, .mmat), (0x12, opMatrix .conv, .conv),
   (0x13, opMatrix .dwc, .dwc), (0x14, opGap, .gap), (0x18, opAwl, .awl), (0x20, opVrun, .vrun), (0x21, opVthr, .vthr),
   (0x28, opLace, .lace), (0x29, opTpost, .tpost), (0x30, opSignal false, .sigset), (0x31, opSignal true, .sigadd),
   (0x32, opSigwait, .sigwait), (0x33, opBarrier, .barrier)]

theorem exec_issueRow : ∀ p ∈ issueRows, ∀ (g : CellNo) (w : BitVec 128) (s : State), exec (p.2.2 g w) s = macroOp p.1 p.2.1 g w s := by
  intro p hp
  fin_cases hp <;> exact fun _ _ _ => rfl

section
variable {code : Nat} {op : State → Nat → BitVec 128 → State} {g : CellNo} {w : BitVec 128} {s : State}

theorem macroOp_otherOpcode (h : opcode w ≠ code) : macroOp code op g w s = .refused .illFormed := if_pos h

theorem macroOp_notAtBoundary (h : opcode w = code) (hb : atBoundary (s.cell g.val) = false) : macroOp code op g w s = .next s := by
  rw [macroOp, if_neg (not_not.2 h), hb, if_neg Bool.false_ne_true]

theorem macroOp_atBoundary (h : opcode w = code) (hb : atBoundary (s.cell g.val) = true) :
    macroOp code op g w s = .next (issueWith op s g.val w) := by
  rw [macroOp, if_neg (not_not.2 h), if_pos hb]

end

section
variable (op : State → Nat → BitVec 128 → State) {s : State} {g : Nat} {w : BitVec 128}

theorem issueWith_haltReq (h : (s.cell g).haltReq = true) : issueWith op s g w = s.setCell g (haltReqObeyed (s.cell g)) := by
  simp [issueWith, h]

/-- R85: what earlier operations have in flight holds no issue, unless their vector step fails; a word that breaks R83 is a program
error. -/
theorem issueWith_vectorOk {c : CellState} (hh : (s.cell g).haltReq = false) (hp : (s.cell g).nextPc ≤ 1023)
    (hv : vectorPhase (vEnv s) (s.cell g).since (s.cell g) (s.cell g).mats = .ok c) :
    issueWith op s g w = if wordOk w then op (s.setCell g (takenUp (s.cell g))) g w
      else progError (s.setCell g (takenUp (s.cell g))) g .illegalOp := by
  simp only [issueWith, hh, Bool.false_eq_true, if_false, if_neg (Nat.not_lt.2 hp), hv, takenUp]
  cases wordOk w <;> rfl

theorem issueWith_readyWord (hr : Ready s g) : issueWith op s g w = if wordOk w then op (s.setCell g (takenUp (s.cell g))) g w
    else progError (s.setCell g (takenUp (s.cell g))) g .illegalOp := by
  obtain ⟨-, hh, hm, hp⟩ := hr
  exact issueWith_vectorOk op hh hp (by rw [vectorPhase_idle _ _ _ hm, hm]; rfl)

end

/-- Settles O10: the sequencer's checks at a boundary, in their order; a word that breaks R83 is halted by the last. -/
theorem issueAndIllegalWords : Obligations.IssueAndIllegalWords := by
  unfold Obligations.IssueAndIllegalWords
  refine ⟨fun p hp g w s => ?_, fun p hp g w s hr hop bad => ?_, fun g w s hr hop => ?_⟩
  · rw [exec_issueRow p hp]
    refine ⟨macroOp_otherOpcode, macroOp_notAtBoundary, fun hop hb hh => ?_, fun hop hb hh hpc => ?_, fun c hw hb hh hpc hv => ?_⟩
    · rw [macroOp_atBoundary hop hb, issueWith_haltReq _ hh]
    · rw [macroOp_atBoundary hop hb, issueWith_pcOverrun _ _ hh hpc]
    · rw [macroOp_atBoundary hw.1 hb, issueWith_vectorOk _ hh hpc hv, if_pos hw.2]
      rfl
  · refine completes_progError ((exec_macroRow p hp g w s hop).trans ?_)
    rw [if_pos hr.1, issueWith_readyWord _ hr, bad, if_neg Bool.false_ne_true]
  · refine completes_progError ((if_neg (by rw [hop]; exact Bool.false_ne_true)).trans ?_)
    rw [if_pos hr.1, issueWith_readyWord _ hr, ite_self]

end Sys2Proof.Machine

/-! SUPPORT. Counters and barriers as a cell's operations use them (spec/04 R84, R96 to R98). -/

namespace Sys2Proof.Machine

open Sys2Proof.Safety

theorem device_of_lt {sb : StartBlock} {i : Nat} (h : i < sb.count) : sb.device i = some (sb.base + i) := if_pos h

theorem device_of_le {sb : StartBlock} {i : Nat} (h : sb.count ≤ i) : sb.device i = none := if_neg (Nat.not_lt.2 h)

theorem netOf_of_lt {sb : StartBlock} {b : Nat} (h : lookup 64 sb.bars b < 64) : sb.netOf b = some (lookup 64 sb.bars b) := if_pos h

theorem netOf_of_le {sb : StartBlock} {b : Nat} (h : 64 ≤ lookup 64 sb.bars b) : sb.netOf b = none := if_neg (Nat.not_lt.2 h)

/-- What an operation writes of the fabric is all that differs outside its cell. -/
theorem fabric_of_onlyCell {g : Nat} {s t : State} {f : Fabric} (h : OnlyCell g { s with fabric := f } t) : t.fabric = f :=
  onlyCell_fabric h

theorem onlyCells_fabric {s t : State} (h : OnlyCells s t) : t.fabric = s.fabric := by
  unfold OnlyCells at h
  rw [h]

theorem onlyCells_free {s t : State} (h : OnlyCells s t) : t.free = s.free := by
  unfold OnlyCells at h
  rw [h]

/-! ### Updates that a cell sends or holds (R96) -/

/-- The update that SIGSET or SIGADD leaves in its cell. -/
def heldUpdate (c : CellState) (k : Nat) (add : Bool) (w : BitVec 128) : Held :=
  ⟨k, add, BitVec.ofNat 32 (fld w 95 64), if fld w 119 119 == 1 then lastFinal c else 0, if fld w 119 119 == 1 then c.postsSent else 0⟩

/-- SIGSET and SIGADD hold their update: with REL, or behind a held one of the same counter. -/
def holdsUpdate (c : CellState) (k : Nat) (w : BitVec 128) : Bool := fld w 119 119 == 1 || c.held.any (fun h => h.counter == k)

theorem holdsUpdate_iff (c : CellState) (k : Nat) (w : BitVec 128) :
    holdsUpdate c k w = true ↔ fld w 119 119 = 1 ∨ ∃ h ∈ c.held, h.counter = k := by
  simp [holdsUpdate]

/-- The state with an update more on its way to the counter's quarter. -/
def sendUpdate (s : State) (u : Update) : State :=
  { s with fabric := { s.fabric with
      updates := put [] s.fabric.updates (u.counter / 4096) (lookup [] s.fabric.updates (u.counter / 4096) ++ [u]) } }

section
variable {u : State} {g : Nat} {c : CellState} {w : BitVec 128} {k : Nat} {add : Bool} (hc : u.cell g = c)
include hc

theorem opSignal_refused (h : c.sb.device (fld w 111 98) = none) : opSignal add u g w = progError u g .syncRange := by
  subst hc
  rw [opSignal, h]

theorem opSignal_holds (hk : c.sb.device (fld w 111 98) = some k) (h : holdsUpdate c k w = true) :
    opSignal add u g w = issued (u.setCell g { c with held := c.held ++ [heldUpdate c k add w] }) g 1 := by
  subst hc
  rw [opSignal, hk]
  exact if_pos h

theorem opSignal_sends (hk : c.sb.device (fld w 111 98) = some k) (h : ¬ holdsUpdate c k w = true) :
    opSignal add u g w = issued (sendUpdate u ⟨g, k, add, BitVec.ofNat 32 (fld w 95 64)⟩) g 1 := by
  subst hc
  rw [opSignal, hk]
  exact if_neg h

end

/-- A held update leaves with the posts and the stores that were sent before it. -/
theorem completes_heldUpdate {i : Instr} {s : State} {g k : Nat} {add : Bool} {w : BitVec 128} (hr : Ready s g)
    (hk : (s.cell g).sb.device (fld w 111 98) = some k) (hl : fld w 119 119 = 1 ∨ ∃ h ∈ (s.cell g).held, h.counter = k)
    (run : exec i s = .next (opSignal add (s.setCell g (takenUp (s.cell g))) g w)) :
    Completes i s (fun t => Stepped s g 1 t ∧ SameMemories (s.cell g) (t.cell g) ∧ (t.cell g).nextPc = (s.cell g).nextPc + 1 ∧
      OnlyCell g s t ∧ ∃ h : Machine.Held, (t.cell g).held = (s.cell g).held ++ [h] ∧ h.counter = k ∧ h.add = add ∧
        h.value = BitVec.ofNat 32 (fld w 95 64) ∧ (fld w 119 119 = 1 → h.posts = (s.cell g).postsSent)) := by
  rw [opSignal_holds (c := takenUp (s.cell g)) (setCell_cell _ _ _) hk ((holdsUpdate_iff _ _ _).2 hl), setCell_setCell] at run
  refine completes_imp (completes_issued run (ready_mats hr) ⟨rfl, rfl, rfl, rfl⟩) fun t ⟨stepped, only, ht⟩ => ?_
  rw [ht]
  exact ⟨stepped, sameMemories_refl _, rfl, only, heldUpdate (takenUp (s.cell g)) k add w, rfl, rfl, rfl, rfl,
    fun rel => if_pos (beq_iff_eq.2 rel)⟩

theorem completes_sentUpdate {i : Instr} {s : State} {g k : Nat} {add : Bool} {w : BitVec 128} (hr : Ready s g)
    (hk : (s.cell g).sb.device (fld w 111 98) = some k) (hl : ¬ (fld w 119 119 = 1 ∨ ∃ h ∈ (s.cell g).held, h.counter = k))
    (run : exec i s = .next (opSignal add (s.setCell g (takenUp (s.cell g))) g w)) :
    Completes i s (fun t => Stepped s g 1 t ∧ SameMemories (s.cell g) (t.cell g) ∧ (t.cell g).nextPc = (s.cell g).nextPc + 1 ∧
      (t.cell g).held = (s.cell g).held ∧ OnlyCell g (sendUpdate s ⟨g, k, add, BitVec.ofNat 32 (fld w 95 64)⟩) t) := by
  rw [opSignal_sends (c := takenUp (s.cell g)) (setCell_cell _ _ _) hk fun h => hl ((holdsUpdate_iff _ _ _).1 h)] at run
  refine completes_imp (completes_issued (u := sendUpdate s _) run (ready_mats hr) ⟨rfl, rfl, rfl, rfl⟩) fun t ⟨stepped, only, ht⟩ => ?_
  rw [ht]
  exact ⟨stepped, sameMemories_refl _, rfl, rfl, only⟩

/-! ### Waits for a counter (R97) -/

theorem sigHolds_iff (v target : BitVec 32) (equal : Bool) :
    sigHolds v target equal = true ↔ if equal = true then v = target else 0 ≤ (v - target).toInt := by
  cases equal <;> simp [sigHolds]

theorem sigMet_iff (s : State) (g k : Nat) (target : BitVec 32) (equal consume : Bool) :
    sigMet s g k target equal consume = true ↔
      sigHolds (s.counter k) target equal = true ∧ (consume = true → ownPending s g k = false) := by
  cases consume <;> simp [sigMet]

theorem sigMet_word (s : State) (g k : Nat) (target : BitVec 32) (e x : Nat) :
    sigMet s g k target (e == 1) (x == 1) = true ↔
      (if e = 1 then s.counter k = target else 0 ≤ (s.counter k - target).toInt) ∧ (x = 1 → ownPending s g k = false) := by
  simp only [sigMet_iff, sigHolds_iff, beq_iff_eq]

/-- The state as a SIGWAIT that goes on leaves the counters. -/
def consumed (s : State) (k : Nat) (target : BitVec 32) (consume : Bool) : State :=
  if consume = true then s.setCounter k (s.counter k - target) else s

theorem consumed_counter (s : State) (k : Nat) (target : BitVec 32) (consume : Bool) :
    (consumed s k target consume).counter k = if consume = true then s.counter k - target else s.counter k := by
  cases consume
  · rfl
  · exact setCounter_counter _ _ _

theorem consumed_counter_other (s : State) {k n : Nat} (target : BitVec 32) (consume : Bool) (h : n ≠ k) :
    (consumed s k target consume).counter n = s.counter n := by
  cases consume
  · rfl
  · exact setCounter_counter_other _ _ _ h

theorem consumed_eq (s : State) (k : Nat) (target : BitVec 32) (consume : Bool) :
    consumed s k target consume = { s with fabric := { s.fabric with counter := (consumed s k target consume).fabric.counter } } := by
  cases consume <;> rfl

theorem consumed_setCell (s : State) (g : Nat) (c : CellState) (k : Nat) (target : BitVec 32) (consume : Bool) :
    consumed (s.setCell g c) k target consume = (consumed s k target consume).setCell g c := by
  cases consume <;> rfl

theorem sigMet_takenUp (s : State) (g k : Nat) (target : BitVec 32) (equal consume : Bool) :
    sigMet (s.setCell g (takenUp (s.cell g))) g k target equal consume = sigMet s g k target equal consume := by
  rw [sigMet, ownPending, setCell_cell]
  rfl

section
variable {u : State} {g : Nat} {c : CellState} {w : BitVec 128} {k : Nat} (hc : u.cell g = c)
include hc

theorem opSigwait_refused (h : c.sb.device (fld w 111 98) = none) : opSigwait u g w = progError u g .syncRange := by
  subst hc
  rw [opSigwait, h]

theorem opSigwait_goes (hk : c.sb.device (fld w 111 98) = some k)
    (h : sigMet u g k (BitVec.ofNat 32 (fld w 95 64)) (fld w 118 118 == 1) (fld w 119 119 == 1) = true) :
    opSigwait u g w = issued (consumed u k (BitVec.ofNat 32 (fld w 95 64)) (fld w 119 119 == 1)) g 1 := by
  subst hc
  rw [opSigwait, hk]
  exact if_pos h

theorem opSigwait_waits (hk : c.sb.device (fld w 111 98) = some k)
    (h : ¬ sigMet u g k (BitVec.ofNat 32 (fld w 95 64)) (fld w 118 118 == 1) (fld w 119 119 == 1) = true) :
    opSigwait u g w =
      holdIssue u g (.signal k (BitVec.ofNat 32 (fld w 95 64)) (fld w 118 118 == 1) (fld w 119 119 == 1)) 0x20 := by
  subst hc
  rw [opSigwait, hk]
  exact if_neg h

end

/-! ### Barriers (R98) -/

/-- Cells that have arrived at a network when cell g has. -/
def arrivals (b : Barrier) (g : Nat) : List Nat := if b.arrived.contains g then b.arrived else b.arrived ++ [g]

theorem mem_arrivals {b : Barrier} {g m : Nat} : m ∈ arrivals b g ↔ m = g ∨ m ∈ b.arrived := by
  unfold arrivals
  split
  case isTrue h => exact ⟨.inr, fun e => e.elim (fun e => e ▸ List.contains_iff_mem.1 h) id⟩
  case isFalse => rw [List.mem_append, List.mem_singleton, or_comm]

/-- A cell as the release of network n leaves it. -/
def unfreeze (n : Nat) (c : CellState) : CellState := if c.wait = some (.barrier n) then { c with wait := none, stalls := 0 } else c

theorem unfreeze_waiting {n : Nat} {c : CellState} (h : c.wait = some (.barrier n)) : unfreeze n c = { c with wait := none, stalls := 0 } := if_pos h

theorem unfreeze_other {n : Nat} {c : CellState} (h : c.wait ≠ some (.barrier n)) : unfreeze n c = c := if_neg h

theorem unfreeze_unfreeze (n : Nat) (c : CellState) : unfreeze n (unfreeze n c) = unfreeze n c := by
  by_cases h : c.wait = some (.barrier n)
  · rw [unfreeze_waiting h]; rfl
  · rw [unfreeze_other h, unfreeze_other h]

theorem releaseBarrier_cell (s : State) (n h : Nat) :
    (releaseBarrier s n).cell h = if h ∈ (lookup {} s.fabric.barrier n).members then unfreeze n (s.cell h) else s.cell h :=
  foldl_modCell_cell (f := unfreeze n) (unfreeze_unfreeze n) _ _ h

/-- The state with network n in state b. -/
def setNet (s : State) (n : Nat) (b : Barrier) : State :=
  { s with fabric := { s.fabric with barrier := put {} s.fabric.barrier n b } }

theorem setNet_net (s : State) (n : Nat) (b : Barrier) : lookup {} (setNet s n b).fabric.barrier n = b := lookup_put_same _ _ _ _

theorem releaseBarrier_only (s : State) (n : Nat) :
    OnlyCells (setNet s n { lookup {} s.fabric.barrier n with arrived := [], gen := (lookup {} s.fabric.barrier n).gen + 1 }) (releaseBarrier s n) :=
  foldl_modCell_only (unfreeze n) _ _

section
variable (s : State) (g : Nat) (c : CellState) (n : Nat)

theorem arriveAt_last (h : ∀ m ∈ (lookup {} s.fabric.barrier n).members, m = g ∨ m ∈ (lookup {} s.fabric.barrier n).arrived) :
    arriveAt s g c n = releaseBarrier
      ((setNet s n { lookup {} s.fabric.barrier n with arrived := arrivals (lookup {} s.fabric.barrier n) g }).modCell g
        (fun d => { d with wait := none })) n :=
  if_pos (List.all_eq_true.2 fun m hm => List.contains_iff_mem.2 (mem_arrivals.2 (h m hm)))

theorem arriveAt_early (h : ¬ ∀ m ∈ (lookup {} s.fabric.barrier n).members, m = g ∨ m ∈ (lookup {} s.fabric.barrier n).arrived) :
    arriveAt s g c n = stayRequested
      (setNet s n { lookup {} s.fabric.barrier n with arrived := arrivals (lookup {} s.fabric.barrier n) g }) g c (some (.barrier n)) 0x20 :=
  if_neg fun e => h fun m hm => mem_arrivals.1 (List.contains_iff_mem.1 (List.all_eq_true.1 e m hm))

end

/-- The cell in BARRIER's own stitch, before it arrives. -/
def inBarrier (w : BitVec 128) (c : CellState) : CellState := { c with next := c.since + 1, nextPc := c.pc + 1, wait := some (.retry w 5) }

/-- What BARRIER does after its own stitch of cell c, which leaves state v. -/
def afterBarrierStitch (g : Nat) (w : BitVec 128) (c : CellState) (n : Nat) (v : State) : State :=
  if (v.cell g).since ≤ c.since ∨ (v.cell g).st ≠ .running then v
  else if !(v.cell g).posts.isEmpty then stayRequested v g c (some (.retry w 5)) 0x20
  else arriveAt v g c n

section
variable {u : State} {g : Nat} {c : CellState} {w : BitVec 128} {n : Nat} (hc : u.cell g = c)
include hc

theorem opBarrier_refused (h : c.sb.netOf (fld w 111 109) = none) : opBarrier u g w = progError u g .syncRange := by
  subst hc
  rw [opBarrier, h]

theorem opBarrier_noMember (hn : c.sb.netOf (fld w 111 109) = some n) (h : g ∉ (lookup {} u.fabric.barrier n).members) :
    opBarrier u g w = progError u g .syncRange := by
  subst hc
  rw [opBarrier, hn]
  exact if_pos (by simpa using h)

theorem opBarrier_member (hn : c.sb.netOf (fld w 111 109) = some n) (hg : g ∈ (lookup {} u.fabric.barrier n).members)
    (hm : c.mats = []) (hs : c.st = .running) :
    opBarrier u g w = if !c.posts.isEmpty then stayRequested (u.setCell g (idleStitched u.now (inBarrier w c))).draw g c (some (.retry w 5)) 0x20
      else arriveAt (u.setCell g (idleStitched u.now (inBarrier w c))).draw g c n := by
  subst hc
  have member : ¬ (!(lookup {} u.fabric.barrier n).members.contains g) = true := by simpa using hg
  have idle : ¬ (u.cell g).mats.any (fun m => decide ((u.cell g).since < m.final)) = true := by rw [hm]; exact Bool.false_ne_true
  have own : (u.setCell g (idleStitched u.now (inBarrier w (u.cell g)))).draw.cell g = idleStitched u.now (inBarrier w (u.cell g)) :=
    setCell_cell _ _ _
  have moved : ¬ ((idleStitched u.now (inBarrier w (u.cell g))).since ≤ (u.cell g).since ∨
      (idleStitched u.now (inBarrier w (u.cell g))).st ≠ .running) :=
    not_or.2 ⟨Nat.not_succ_le_self _, not_not.2 hs⟩
  rw [opBarrier, hn]
  refine (if_neg member).trans ((if_neg idle).trans
    ((congrArg (afterBarrierStitch g w (u.cell g) n) (completeStitch_setCell (d := inBarrier w (u.cell g)) u g hm)).trans ?_))
  rw [afterBarrierStitch, own]
  exact if_neg moved

end

theorem stayRequested_fabric (s : State) (g : Nat) (c : CellState) (x : Option Wait) (causes : BitVec 8) :
    (stayRequested s g c x causes).fabric = s.fabric := rfl

/-- A cell whose issue stitch has completed and is asked for again is held in it (spec/03 R58). -/
theorem held_stayRequested {s v : State} {g now : Nat} {c d : CellState} {x : Wait} {causes : BitVec 8} (hv : v.cell g = idleStitched now d)
    (hc : InIssueOf (s.cell g) c) (hd : InIssueOf (s.cell g) d) (hl : d.loops = (s.cell g).loops) (hm : SameMemories (s.cell g) d) :
    Safety.Held s g x causes (stayRequested v g c (some x) causes) := by
  obtain ⟨-, since, count, -⟩ := hc
  obtain ⟨pc, -, -, st⟩ := hd
  rw [Safety.Held, stayRequested, modCell_same, hv]
  exact ⟨rfl, rfl, since, count, pc, st, hl, hm⟩

/-- The last member's arrival leaves the network empty, with the next generation, and every member that waits at it unfrozen. -/
theorem arriveAt_last_eq (s : State) (g : Nat) (c : CellState) (n : Nat)
    (last : ∀ m ∈ (lookup {} s.fabric.barrier n).members, m = g ∨ m ∈ (lookup {} s.fabric.barrier n).arrived) :
    ∃ arr, OnlyCells (setNet (setNet s n { lookup {} s.fabric.barrier n with arrived := arr }) n
        { lookup {} s.fabric.barrier n with arrived := [], gen := (lookup {} s.fabric.barrier n).gen + 1 }) (arriveAt s g c n) ∧
      ∀ h, (arriveAt s g c n).cell h =
        if h ∈ (lookup {} s.fabric.barrier n).members then unfreeze n ((s.modCell g (fun d => { d with wait := none })).cell h)
        else (s.modCell g (fun d => { d with wait := none })).cell h := by
  rw [arriveAt_last s g c n last]
  have net : lookup {} ((setNet s n { lookup {} s.fabric.barrier n with arrived := arrivals (lookup {} s.fabric.barrier n) g }).modCell g
      (fun d => { d with wait := none })).fabric.barrier n =
      { lookup {} s.fabric.barrier n with arrived := arrivals (lookup {} s.fabric.barrier n) g } :=
    lookup_put_same _ _ _ _
  refine ⟨arrivals (lookup {} s.fabric.barrier n) g, ?_, fun h => ?_⟩
  · have only := releaseBarrier_only
      ((setNet s n { lookup {} s.fabric.barrier n with arrived := arrivals (lookup {} s.fabric.barrier n) g }).modCell g
        (fun d => { d with wait := none })) n
    rw [net] at only
    exact only
  · rw [releaseBarrier_cell, net]
    rfl

/-- The state after BARRIER's own stitch. -/
def barrierStitched (s : State) (g : Nat) (w : BitVec 128) : State :=
  (s.setCell g (idleStitched s.now (inBarrier w (takenUp (s.cell g))))).draw

theorem onlyCell_barrierStitched (s : State) (g : Nat) (w : BitVec 128) : OnlyCell g s (barrierStitched s g w) := onlyCell_setCell_draw _ _ _

theorem barrierStitched_fabric (s : State) (g : Nat) (w : BitVec 128) : (barrierStitched s g w).fabric = s.fabric := rfl

section
variable {g : CellNo} {w : BitVec 128} {s : State} {n : Nat} (hr : Ready s g.val) (hw : Passes 0x33 w)
  (hn : (s.cell g.val).sb.netOf (fld w 111 109) = some n) (hg : g.val ∈ (lookup {} s.fabric.barrier n).members)
include hr hw hn hg

theorem exec_barrier_posts (hp : (s.cell g.val).posts ≠ []) : exec (.barrier g w) s =
    .next (stayRequested (barrierStitched s g.val w) g.val (takenUp (s.cell g.val)) (some (.retry w 5)) 0x20) := by
  have run := exec_ready (i := .barrier g w) rfl hr hw
  rwa [opBarrier_member (c := takenUp (s.cell g.val)) (setCell_cell _ _ _) hn hg (ready_mats hr) (ready_running hr), setCell_setCell,
    if_pos (by simpa [takenUp] using hp)] at run

theorem exec_barrier_arrives (hp : (s.cell g.val).posts = []) : exec (.barrier g w) s =
    .next (arriveAt (barrierStitched s g.val w) g.val (takenUp (s.cell g.val)) n) := by
  have run := exec_ready (i := .barrier g w) rfl hr hw
  rwa [opBarrier_member (c := takenUp (s.cell g.val)) (setCell_cell _ _ _) hn hg (ready_mats hr) (ready_running hr), setCell_setCell,
    if_neg (by simpa [takenUp] using hp)] at run

end

/-- A SIGWAIT whose condition holds goes on, and takes its TARGET with CONSUME. -/
theorem completes_sigwait {g : CellNo} {w : BitVec 128} {s : State} (hr : Ready s g.val) (hw : Passes 0x32 w) {k : Nat} {target : BitVec 32}
    (ek : k = (s.cell g.val).sb.base + fld w 111 98) (et : target = BitVec.ofNat 32 (fld w 95 64)) (hk : fld w 111 98 < (s.cell g.val).sb.count)
    (met : (if fld w 118 118 = 1 then s.counter k = target else 0 ≤ (s.counter k - target).toInt) ∧
      (fld w 119 119 = 1 → ownPending s g.val k = false)) :
    Completes (.sigwait g w) s (fun t => Stepped s g.val 1 t ∧ SameMemories (s.cell g.val) (t.cell g.val) ∧
      (t.cell g.val).nextPc = (s.cell g.val).nextPc + 1 ∧ OnlyCell g.val (consumed s k target (fld w 119 119 == 1)) t) := by
  subst ek et
  have run := exec_ready (i := .sigwait g w) rfl hr hw
  have goes : sigMet (s.setCell g.val (takenUp (s.cell g.val))) g.val ((s.cell g.val).sb.base + fld w 111 98) (BitVec.ofNat 32 (fld w 95 64))
      (fld w 118 118 == 1) (fld w 119 119 == 1) = true := by
    rw [sigMet_takenUp]
    exact (sigMet_word _ _ _ _ _ _).2 met
  rw [opSigwait_goes (c := takenUp (s.cell g.val)) (setCell_cell _ _ _) (device_of_lt hk) goes, consumed_setCell] at run
  refine completes_imp (completes_issued run (ready_mats hr) ⟨rfl, rfl, rfl, rfl⟩) fun t ⟨stepped, only, ht⟩ => ?_
  rw [ht]
  exact ⟨stepped, sameMemories_refl _, rfl, only⟩

section
variable {g : CellNo} {w : BitVec 128} {s : State} {n : Nat} {b : Barrier} (hr : Ready s g.val) (hw : Passes 0x33 w)
  (hn : (s.cell g.val).sb.netOf (fld w 111 109) = some n) (hb : lookup {} s.fabric.barrier n = b) (hg : g.val ∈ b.members)
  (hp : (s.cell g.val).posts = [])
include hr hw hn hb hg hp

/-- The last arrival completes its stitch and releases every member that waits (R98). -/
theorem completes_barrier_last (last : ∀ m ∈ b.members, m = g.val ∨ m ∈ b.arrived) :
    Completes (.barrier g w) s (fun t => Stepped s g.val 1 t ∧ SameMemories (s.cell g.val) (t.cell g.val) ∧
      (t.cell g.val).nextPc = (s.cell g.val).nextPc + 1 ∧
      lookup {} t.fabric.barrier n = { members := b.members, arrived := [], gen := b.gen + 1 } ∧
      (∀ h, h ≠ g.val → h ∈ b.members → (s.cell h).wait = some (.barrier n) → t.cell h = { s.cell h with wait := none, stalls := 0 }) ∧
      (∀ h, h ≠ g.val → h ∉ b.members ∨ (s.cell h).wait ≠ some (.barrier n) → t.cell h = s.cell h) ∧
      t = { s with cells := t.cells, free := t.free, fabric := { s.fabric with barrier := t.fabric.barrier } }) := by
  subst hb
  obtain ⟨arr, only, cells⟩ := arriveAt_last_eq (barrierStitched s g.val w) g.val (takenUp (s.cell g.val)) _ last
  refine ⟨_, exec_barrier_arrives hr hw hn hg hp, ?_⟩
  rw [barrierStitched_fabric] at only cells
  generalize arriveAt (barrierStitched s g.val w) g.val (takenUp (s.cell g.val)) _ = t at only cells ⊢
  have fabric := onlyCells_fabric only
  have own : t.cell g.val = { idleStitched s.now (inBarrier w (takenUp (s.cell g.val))) with wait := none } := by
    rw [cells, if_pos hg, modCell_same]
    refine (unfreeze_other (Option.some_ne_none _).symm).trans ?_
    rw [barrierStitched, draw_cell, setCell_cell]
  have others : ∀ h, h ≠ g.val → ((barrierStitched s g.val w).modCell g.val (fun d => { d with wait := none })).cell h = s.cell h :=
    fun h hne => (modCell_other _ _ _ hne).trans ((onlyCell_barrierStitched s g.val w).2 h hne)
  refine ⟨?_, ?_, ?_, ?_, fun h hne hmem hwait => ?_, fun h hne apart => ?_, ?_⟩
  · rw [Stepped, own]; exact ⟨rfl, rfl, rfl, rfl, rfl, rfl⟩
  · rw [own]; exact sameMemories_refl _
  · rw [own]; rfl
  · rw [fabric]; exact setNet_net _ _ _
  · rw [cells, if_pos hmem, others h hne, unfreeze_waiting hwait]
  · rw [cells, others h hne]
    exact ite_eq_right_iff.2 fun hmem => unfreeze_other (apart.resolve_left (not_not.2 hmem))
  · rw [fabric, onlyCells_free only]; exact only

/-- An arrival before the last freezes its cell in the stitch (R98). -/
theorem completes_barrier_early (last : ¬ ∀ m ∈ b.members, m = g.val ∨ m ∈ b.arrived) :
    Completes (.barrier g w) s (fun t => Safety.Held s g.val (.barrier n) 0x20 t ∧
      g.val ∈ (lookup {} t.fabric.barrier n).arrived ∧ (∀ m ∈ b.arrived, m ∈ (lookup {} t.fabric.barrier n).arrived) ∧
      (lookup {} t.fabric.barrier n).gen = b.gen ∧ (∀ h, h ≠ g.val → t.cell h = s.cell h) ∧
      t = { s with cells := t.cells, free := t.free, fabric := { s.fabric with barrier := t.fabric.barrier } }) := by
  subst hb
  refine ⟨_, (exec_barrier_arrives hr hw hn hg hp).trans
    (congrArg Host.Outcome.next (arriveAt_early (barrierStitched s g.val w) g.val (takenUp (s.cell g.val)) _ last)), ?_⟩
  refine ⟨held_stayRequested (setCell_cell _ _ _) (inIssueOf_takenUp _) ⟨rfl, rfl, rfl, rfl⟩ rfl (sameMemories_refl _), ?_, ?_, ?_, ?_, rfl⟩
  · rw [stayRequested_fabric, setNet_net]; exact mem_arrivals.2 (.inl rfl)
  · rw [stayRequested_fabric, setNet_net]; exact fun m hm => mem_arrivals.2 (.inr hm)
  · rw [stayRequested_fabric, setNet_net]; rfl
  · exact fun h hne => (modCell_other _ _ _ hne).trans ((onlyCell_barrierStitched s g.val w).2 h hne)

end

/-- Settles O14: each operation is an issue stitch that completes, is held or halts, as the counter or the network it names says. -/
theorem signalsAndBarriers : Obligations.SignalsAndBarriers := by
  unfold Obligations.SignalsAndBarriers
  refine ⟨fun p hp g w s hr hw => ?signal, fun g w s hr hw => ⟨fun hk met => ?goes, fun hk met => ?waits, fun hk => ?noCounter⟩,
    fun g w s hr hw => ⟨fun hn hg hp last => ?last, fun hn hg hp last => ?early, fun hn hg hp => ?posts, fun h => ?refused⟩⟩
  case signal =>
    have run : exec (p.2.2 g w) s = .next (opSignal p.2.1 (s.setCell g.val (takenUp (s.cell g.val))) g.val w) := by
      fin_cases hp
      · exact exec_ready (i := .sigset g w) (op := opSignal false) rfl hr hw
      · exact exec_ready (i := .sigadd g w) (op := opSignal true) rfl hr hw
    refine ⟨fun hk late => ?_, fun hk late => completes_heldUpdate hr (device_of_lt hk) late run, fun hk => ?_⟩
    · refine completes_imp (completes_sentUpdate hr (device_of_lt hk) late run) fun t ⟨stepped, mem, next, held, only⟩ => ?_
      have fabric := fabric_of_onlyCell only
      refine ⟨stepped, mem, next, held, only.2, ?_, fun q hq => ?_, ?_⟩ <;> rw [fabric]
      · exact lookup_put_same _ _ _ _
      · exact lookup_put_other _ _ _ hq
      · exact only.1
    · rw [opSignal_refused (c := takenUp (s.cell g.val)) (setCell_cell _ _ _) (device_of_le hk)] at run
      exact completes_imp (completes_progError run) fun t ⟨halted, only, _⟩ => ⟨halted, only⟩
  case goes =>
    refine completes_imp (completes_sigwait hr hw rfl rfl hk met) fun t ⟨stepped, mem, next, only⟩ => ?_
    rw [consumed_eq] at only
    have fabric := fabric_of_onlyCell only
    have counter := fun n => congrArg (fun f : Fabric => lookup 0 f.counter n) fabric
    refine ⟨stepped, mem, next, only.2, fun n hn => (counter n).trans (consumed_counter_other _ _ _ hn), (counter _).trans ?_, ?_⟩
    · refine (consumed_counter s _ _ _).trans ?_
      simp only [beq_iff_eq]
    · rw [fabric]; exact only.1
  case waits =>
    have run := exec_ready (i := .sigwait g w) rfl hr hw
    have waits : ¬ sigMet (s.setCell g.val (takenUp (s.cell g.val))) g.val ((s.cell g.val).sb.base + fld w 111 98) (BitVec.ofNat 32 (fld w 95 64))
        (fld w 118 118 == 1) (fld w 119 119 == 1) = true := by
      rw [sigMet_takenUp]
      exact fun h => met ((sigMet_word _ _ _ _ _ _).1 h)
    rw [opSigwait_waits (c := takenUp (s.cell g.val)) (setCell_cell _ _ _) (device_of_lt hk) waits] at run
    exact completes_held run
  case noCounter =>
    have run := exec_ready (i := .sigwait g w) rfl hr hw
    rw [opSigwait_refused (c := takenUp (s.cell g.val)) (setCell_cell _ _ _) (device_of_le hk)] at run
    exact completes_imp (completes_progError run) fun t ⟨halted, only, _⟩ => ⟨halted, only⟩
  case last => exact completes_barrier_last hr hw (netOf_of_lt hn) rfl hg hp last
  case early => exact completes_barrier_early hr hw (netOf_of_lt hn) rfl hg hp last
  case posts =>
    exact ⟨_, exec_barrier_posts hr hw (netOf_of_lt hn) hg hp,
      held_stayRequested (setCell_cell _ _ _) (inIssueOf_takenUp _) ⟨rfl, rfl, rfl, rfl⟩ rfl (sameMemories_refl _),
      onlyCell_trans (onlyCell_setCell_draw _ _ _) (onlyCell_modCell _ _ _)⟩
  case refused =>
    have run := exec_ready (i := .barrier g w) rfl hr hw
    have halts : opBarrier (s.setCell g.val (takenUp (s.cell g.val))) g.val w =
        progError (s.setCell g.val (takenUp (s.cell g.val))) g.val .syncRange := by
      by_cases hn : lookup 64 (s.cell g.val).sb.bars (fld w 111 109) < 64
      · exact opBarrier_noMember (c := takenUp (s.cell g.val)) (setCell_cell _ _ _) (netOf_of_lt hn) (h.resolve_left (Nat.not_le.2 hn))
      · exact opBarrier_refused (c := takenUp (s.cell g.val)) (setCell_cell _ _ _) (netOf_of_le (Nat.not_lt.1 hn))
    rw [halts] at run
    exact completes_imp (completes_progError run) fun t ⟨halted, only, _⟩ => ⟨halted, only⟩

end Sys2Proof.Machine

/-! SUPPORT. Counter updates as they are applied, those of a completion, and the names a job may not use (spec/04 R84, R88, R96, R97). -/

namespace Sys2Proof.Machine

open Sys2Proof.Safety

/-! ### An update that is applied -/

/-- A counter's value after an update (R96). -/
def updated (v : BitVec 32) (u : Update) : BitVec 32 := if u.add then v + u.value else u.value

theorem applyUpdate_unwaited {s : State} {k : Nat} (h : waitersOf s k = []) (add : Bool) (v : BitVec 32) :
    applyUpdate s k add v = s.setCounter k (if add then s.counter k + v else v) := by
  have none (x : BitVec 32) : waitersOf (s.setCounter k x) k = [] := h
  simp [applyUpdate, none, testOrder]

theorem applyUpdate_waited {s : State} {k g : Nat} (h : waitersOf s k = [g]) (add : Bool) (v : BitVec 32) :
    applyUpdate s k add v = testWaiter (s.setCounter k (if add then s.counter k + v else v)) g := by
  have one (x : BitVec 32) : waitersOf (s.setCounter k x) k = [g] := h
  simp [applyUpdate, one, testOrder]

/-- The cell and the counter as a wait that is over leaves them. -/
def released (s : State) (g k : Nat) (target : BitVec 32) (consume : Bool) : State :=
  (consumed s k target consume).setCell g { s.cell g with wait := none, stalls := 0 }

section
variable {s : State} {g k : Nat} {target : BitVec 32} {equal consume : Bool} (h : (s.cell g).wait = some (.signal k target equal consume))
include h

theorem testWaiter_met (hm : sigMet s g k target equal consume = true) : testWaiter s g = released s g k target consume := by
  rw [testWaiter, h]
  exact if_pos hm

theorem testWaiter_unmet (hm : ¬ sigMet s g k target equal consume = true) : testWaiter s g = s := by
  rw [testWaiter, h]
  exact if_neg hm

end

theorem released_cell (s : State) (g k : Nat) (target : BitVec 32) (consume : Bool) :
    (released s g k target consume).cell g = { s.cell g with wait := none, stalls := 0 } := setCell_cell _ _ _

theorem released_cell_other (s : State) {g h : Nat} (k : Nat) (target : BitVec 32) (consume : Bool) (hne : h ≠ g) :
    (released s g k target consume).cell h = s.cell h :=
  (setCell_cell_other _ _ _ hne).trans (by rw [consumed_eq]; rfl)

theorem released_updates (s : State) (g k : Nat) (target : BitVec 32) (consume : Bool) :
    (released s g k target consume).fabric.updates = s.fabric.updates := by
  rw [released, consumed_eq]; rfl

/-- Beside counter k, nothing differs. -/
def OnlyCounter (k : Nat) (s t : State) : Prop :=
  t = { s with fabric := { s.fabric with counter := t.fabric.counter } } ∧ ∀ n, n ≠ k → t.counter n = s.counter n

theorem onlyCounter_setCounter (s : State) (k : Nat) (v : BitVec 32) : OnlyCounter k s (s.setCounter k v) :=
  ⟨rfl, fun _ h => setCounter_counter_other _ _ _ h⟩

theorem onlyCounter_refl (k : Nat) (s : State) : OnlyCounter k s s := ⟨rfl, fun _ _ => rfl⟩

theorem onlyCounter_trans {k : Nat} {s t u : State} (a : OnlyCounter k s t) (b : OnlyCounter k t u) : OnlyCounter k s u := by
  refine ⟨?_, fun n h => (b.2 n h).trans (a.2 n h)⟩
  rw [b.1, a.1]

theorem onlyCounter_cells {k : Nat} {s t : State} (h : OnlyCounter k s t) : t.cells = s.cells := by rw [h.1]

theorem onlyCounter_updates {k : Nat} {s t : State} (h : OnlyCounter k s t) : t.fabric.updates = s.fabric.updates := by rw [h.1]

theorem waitersOf_onlyCounter {k n : Nat} {s t : State} (h : OnlyCounter k s t) : waitersOf t n = waitersOf s n := by
  simp only [waitersOf, State.cell, onlyCounter_cells h]

/-- Updates of one counter that no cell waits on follow one another. -/
theorem applyUpdates_unwaited {k : Nat} : ∀ (l : List Update) (s : State), (∀ u ∈ l, u.counter = k) → waitersOf s k = [] →
    OnlyCounter k s (applyUpdates s l) ∧ (applyUpdates s l).counter k = l.foldl updated (s.counter k)
  | [], s, _, _ => ⟨onlyCounter_refl k s, rfl⟩
  | u :: l, s, hl, hw => by
    have first : applyUpdate s u.counter u.add u.value = s.setCounter k (updated (s.counter k) u) := by
      rw [hl u List.mem_cons_self]
      exact applyUpdate_unwaited hw _ _
    have only := onlyCounter_setCounter s k (updated (s.counter k) u)
    obtain ⟨rest, value⟩ := applyUpdates_unwaited l (s.setCounter k (updated (s.counter k) u)) (fun v hv => hl v (List.mem_cons_of_mem _ hv))
      ((waitersOf_onlyCounter only).trans hw)
    have step : applyUpdates s (u :: l) = applyUpdates (s.setCounter k (updated (s.counter k) u)) l := congrArg (applyUpdates · l) first
    rw [step]
    exact ⟨onlyCounter_trans only rest, by rw [value, setCounter_counter]; rfl⟩

/-! ### The oldest update of a quarter (R96, R97) -/

/-- The state with the oldest update of quarter q taken from its way. -/
def tookUpdate (s : State) (q : Nat) (rest : List Update) : State :=
  { s with fabric := { s.fabric with updates := put [] s.fabric.updates q rest } }

/-- A waiter tests the value that the update leaves, behind its own updates that are still on their way. -/
theorem sigMet_applied (s : State) (g k : Nat) (v target : BitVec 32) (equal consume : Bool) :
    sigMet (s.setCounter k v) g k target equal consume = (sigHolds v target equal && !(consume && ownPending s g k)) := by
  rw [sigMet, setCounter_counter]; rfl

section
variable {q : QuarterNo} {s : State} {u : Update} {rest : List Update} (h : lookup [] s.fabric.updates q.val = u :: rest)
include h

theorem exec_counterUpdateApplied :
    exec (.counterUpdateApplied q) s = .next (applyUpdate (tookUpdate s q.val rest) u.counter u.add u.value) :=
  congrArg Host.Outcome.next (by rw [counterApplied, h]; rfl)

theorem exec_counterUpdateApplied_unwaited (hw : waitersOf s u.counter = []) :
    exec (.counterUpdateApplied q) s = .next ((tookUpdate s q.val rest).setCounter u.counter (updated (s.counter u.counter) u)) :=
  (exec_counterUpdateApplied h).trans (congrArg Host.Outcome.next (applyUpdate_unwaited (s := tookUpdate s q.val rest) hw _ _))

theorem exec_counterUpdateApplied_waited {g : Nat} (hw : waitersOf s u.counter = [g]) : exec (.counterUpdateApplied q) s =
    .next (testWaiter ((tookUpdate s q.val rest).setCounter u.counter (updated (s.counter u.counter) u)) g) :=
  (exec_counterUpdateApplied h).trans (congrArg Host.Outcome.next (applyUpdate_waited (s := tookUpdate s q.val rest) hw _ _))

end

/-! ### Updates behind others (R88, R96) -/

theorem releasedUpdate_none {s : State} {g : Nat} (h : (s.cell g).held = []) : releasedUpdate s g = s := by
  rw [releasedUpdate, h]

theorem releasedUpdate_cons {s : State} {g : Nat} {h : Machine.Held} {rest : List Machine.Held} (hh : (s.cell g).held = h :: rest) :
    releasedUpdate s g = if h.posts ≤ (s.cell g).postsLanded ∧ (h.after < (s.cell g).since ∨ (s.cell g).mats = []) then
        applyUpdate (arriveOwn (s.setCell g { s.cell g with held := rest }) g h.counter) h.counter h.add h.value
      else s := by
  have free : h.after < (s.cell g).since ∧ h.posts ≤ (s.cell g).postsLanded ∨
      ((s.cell g).mats.isEmpty = true ∧ h.posts ≤ (s.cell g).postsLanded) ↔
      h.posts ≤ (s.cell g).postsLanded ∧ (h.after < (s.cell g).since ∨ (s.cell g).mats = []) := by
    rw [List.isEmpty_iff, ← or_and_right, and_comm]
  rw [releasedUpdate, hh]
  exact if_congr free rfl rfl

/-- An update of counter k that cell g issued. -/
def ownUpdate (g k : Nat) (u : Update) : Bool := u.cell == g && u.counter == k

theorem bumpSignal_zero (s : State) (g k : Nat) : bumpSignal s g k 0 = s := if_pos rfl

theorem bumpSignal_behind {s : State} {g k inc : Nat} (hi : inc ≠ 0) (h : ∃ h ∈ (s.cell g).held, h.counter = k) :
    bumpSignal s g k inc = s.setCell g { s.cell g with held := (s.cell g).held ++ [⟨k, true, BitVec.ofNat 32 inc, 0, 0⟩] } :=
  (if_neg hi).trans (if_pos (by simpa using h))

theorem bumpSignal_ahead {s : State} {g k inc : Nat} (hi : inc ≠ 0) (h : ¬ ∃ h ∈ (s.cell g).held, h.counter = k) :
    bumpSignal s g k inc = applyUpdate (arriveOwn s g k) k true (BitVec.ofNat 32 inc) :=
  (if_neg hi).trans (if_neg (by simpa using h))

/-- The cell's own updates of a counter arrive before a later one: none is left on its way. -/
theorem arriveOwn_unwaited {s : State} {g k : Nat} (hw : waitersOf s k = []) :
    OnlyCounter k (tookUpdate s (k / 4096) ((lookup [] s.fabric.updates (k / 4096)).filter (fun u => !ownUpdate g k u))) (arriveOwn s g k) ∧
    (arriveOwn s g k).counter k = ((lookup [] s.fabric.updates (k / 4096)).filter (ownUpdate g k)).foldl updated (s.counter k) :=
  applyUpdates_unwaited _ (tookUpdate s (k / 4096) _)
    (fun u hu => by
      have own := List.of_mem_filter hu
      rw [Bool.and_eq_true, beq_iff_eq, beq_iff_eq] at own
      exact own.2) hw

/-! ### Names (R84) -/

theorem signalOf_names {c : CellState} {sig inc k : Nat} (h : Names c sig inc k) : signalOf c sig inc = some k := by
  unfold Names at h
  unfold signalOf
  split at h
  · rw [if_pos ‹_›, h]
  · rw [if_neg ‹_›, h.2, device_of_lt h.1]

theorem signalOf_outside {c : CellState} {sig inc : Nat} (hi : inc ≠ 0) (h : c.sb.count ≤ sig) : signalOf c sig inc = none :=
  (if_neg hi).trans (device_of_le h)

/-- The block of 64 bytes that LACE or AWL names. -/
def blockAt (c : CellState) (w : BitVec 128) : BitVec 512 := BitVec.ofNat 512 (rdLE (storeByte c) (fld w 111 95 * 32) 64)

/-- The quarter and the Lacer that LACE names. -/
def lacerQuarter (g : Nat) (w : BitVec 128) : Nat := if fld w 94 92 = 4 then quarterOf g else fld w 94 92

def lacerOf (g : Nat) (w : BitVec 128) : Nat := lacerQuarter g w * 4 + fld w 91 90

/-- The Lacer that LACE names takes a transfer: its queue is not full, and its quarter stands. -/
def LacerRoom (s : State) (g : Nat) (w : BitVec 128) : Prop :=
  (lookup [] s.fabric.lacer (lacerOf g w)).length < 256 ∧ s.fabric.lost.contains (lacerQuarter g w) = false

theorem not_lacerRoom {s : State} {g : Nat} {w : BitVec 128} : ¬ LacerRoom s g w ↔
    256 ≤ (lookup [] s.fabric.lacer (lacerOf g w)).length ∨ s.fabric.lost.contains (lacerQuarter g w) = true := by
  rw [LacerRoom, not_and_or, not_lt, Bool.not_eq_false]

section
variable {u : State} {g : Nat} {c : CellState} {w : BitVec 128} (hc : u.cell g = c)
include hc

theorem opAwl_refused (h : signalOf c (fld w 94 81) (fld w 80 73) = none) : opAwl u g w = progError u g .syncRange := by
  subst hc
  rw [opAwl, h]

theorem opVthr_refused (h : signalOf c (fld w 94 81) (fld w 80 73) = none) : opVthr u g w = progError u g .syncRange := by
  subst hc
  rw [opVthr, h]

theorem opTpost_refused (h : c.sb.cellOf (fld w 111 106) = none ∨ signalOf c (fld w 105 92) (fld w 91 84) = none) :
    opTpost u g w = progError u g .syncRange := by
  subst hc
  rw [opTpost]
  rcases h with h | h
  · rw [h]
  · rw [h]
    cases (u.cell g).sb.cellOf (fld w 111 106) <;> rfl

theorem opLace_refused (room : LacerRoom u g w)
    (h : signalOf c (tfield (blockAt c w) 495 482) (tfield (blockAt c w) 481 474) = none ∨ slotsOk c.sb (blockAt c w) = false) :
    opLace u g w = progError u g .syncRange := by
  subst hc
  refine (if_neg fun full => not_lacerRoom.2 full room).trans ?_
  unfold blockAt at h
  cases hs : signalOf (u.cell g) (tfield (blockAt (u.cell g) w) 495 482) (tfield (blockAt (u.cell g) w) 481 474) with
  | none => rw [blockAt] at hs; rw [hs]
  | some k =>
    rw [blockAt] at hs
    rw [hs] at h ⊢
    exact if_pos (by rw [h.resolve_left (Option.some_ne_none _)]; rfl)

end

/-- Settles O15: an update sets its counter and tests the one cell that may wait; own updates arrive first; names outside the job's halt. -/
theorem counterUpdates : Obligations.CounterUpdates := by
  unfold Obligations.CounterUpdates
  refine ⟨⟨fun q s h => ?empty, fun q s u rest h => ⟨fun hw => ?unwaited, fun g target equal consume hw hs => ?waited⟩,
      fun g s h => congrArg Host.Outcome.next (releasedUpdate_none h), fun g s h rest hh => ?held,
      fun s g k inc => ⟨fun hi => hi ▸ bumpSignal_zero s g k, bumpSignal_behind, fun hi ahead hw => ?ahead⟩⟩,
    fun g w s hr => ⟨fun hw hi hk => ?awl, fun hw hi hk => ?vthr, fun hw hi hk room => ?lace, fun hw hs room => ?slots,
      fun hw hi hk => ?tpost, fun hw hp => ?peer⟩⟩
  case empty => exact congrArg Host.Outcome.next (by rw [counterApplied, h])
  case unwaited =>
    exact ⟨_, exec_counterUpdateApplied_unwaited h hw, rfl, lookup_put_same _ _ _ _, fun r hr => lookup_put_other _ _ _ hr,
      setCounter_counter _ _ _, fun k hk => setCounter_counter_other _ _ _ hk⟩
  case waited =>
    have waiter : (((tookUpdate s q.val rest).setCounter u.counter (updated (s.counter u.counter) u)).cell g).wait =
        some (.signal u.counter target equal consume) := hs
    refine ⟨_, exec_counterUpdateApplied_waited h hw, ?_⟩
    by_cases met : sigMet ((tookUpdate s q.val rest).setCounter u.counter (updated (s.counter u.counter) u)) g u.counter target equal consume = true
    · rw [testWaiter_met waiter met]
      rw [sigMet_applied, Bool.and_eq_true, Bool.not_eq_true'] at met
      refine ⟨fun n hn => released_cell_other _ _ _ _ hn, fun n hn => ?_, ?_, fun _ _ => ⟨released_cell _ _ _ _ _, ?_⟩, fun unmet => ?_⟩
      · exact (consumed_counter_other _ _ _ hn).trans (setCounter_counter_other _ _ _ hn)
      · rw [released_updates]; exact lookup_put_same _ _ _ _
      · refine (consumed_counter _ _ _ _).trans ?_
        rw [setCounter_counter]; rfl
      · exact unmet.elim (fun n => absurd met.1 (Bool.eq_false_iff.1 n)) fun own => absurd own (Bool.eq_false_iff.1 met.2)
    · rw [testWaiter_unmet waiter met]
      rw [sigMet_applied, Bool.and_eq_true, Bool.not_eq_true'] at met
      refine ⟨fun n hn => rfl, fun n hn => setCounter_counter_other _ _ _ hn, lookup_put_same _ _ _ _, fun holds own => ?_,
        fun _ => ⟨rfl, setCounter_counter _ _ _⟩⟩
      exact absurd ⟨holds, own⟩ met
  case held =>
    have run : exec (.releasedUpdate g) s = .next (releasedUpdate s g.val) := rfl
    rw [releasedUpdate_cons hh] at run
    exact ⟨fun free => by rwa [if_pos free] at run, fun busy => by rwa [if_neg busy] at run⟩
  case ahead =>
    obtain ⟨only, value⟩ := arriveOwn_unwaited (g := g) hw
    rw [bumpSignal_ahead hi ahead, applyUpdate_unwaited ((waitersOf_onlyCounter only).trans hw)]
    refine ⟨?_, fun n hn => (setCounter_counter_other _ _ _ hn).trans (only.2 n hn), fun u hu => ?_⟩
    · rw [setCounter_counter, value]; rfl
    · have left : lookup [] (arriveOwn s g k).fabric.updates (k / 4096) =
          (lookup [] s.fabric.updates (k / 4096)).filter (fun u => !ownUpdate g k u) := by
        rw [onlyCounter_updates only]; exact lookup_put_same _ _ _ _
      have others := List.of_mem_filter (left ▸ hu)
      rwa [Bool.not_eq_true'] at others
  case awl =>
    have run := exec_ready (i := .awl g w) rfl hr hw
    rw [opAwl_refused (c := takenUp (s.cell g.val)) (setCell_cell _ _ _) (signalOf_outside hi hk)] at run
    exact completes_progError run
  case vthr =>
    have run := exec_ready (i := .vthr g w) rfl hr hw
    rw [opVthr_refused (c := takenUp (s.cell g.val)) (setCell_cell _ _ _) (signalOf_outside hi hk)] at run
    exact completes_progError run
  case lace =>
    have run := exec_ready (i := .lace g w) rfl hr hw
    rw [opLace_refused (c := takenUp (s.cell g.val)) (setCell_cell _ _ _) room (.inl (signalOf_outside hi hk))] at run
    exact completes_progError run
  case slots =>
    have run := exec_ready (i := .lace g w) rfl hr hw
    rw [opLace_refused (c := takenUp (s.cell g.val)) (setCell_cell _ _ _) room (.inr hs)] at run
    exact completes_progError run
  case tpost =>
    have run := exec_ready (i := .tpost g w) rfl hr hw
    rw [opTpost_refused (c := takenUp (s.cell g.val)) (setCell_cell _ _ _) (.inr (signalOf_outside hi hk))] at run
    exact completes_progError run
  case peer =>
    have run := exec_ready (i := .tpost g w) rfl hr hw
    rw [opTpost_refused (c := takenUp (s.cell g.val)) (setCell_cell _ _ _) (.inl hp)] at run
    exact completes_progError run

end Sys2Proof.Machine

/-! SUPPORT. DRAIN and HALT at a cell with no operation in flight, and the end of a layer (spec/04 R93, spec/05 R139). -/

namespace Sys2Proof.Machine

open Sys2Proof.Safety

/-! ### What the end of a layer leaves -/

/-- Neither the cells nor the fabric is written. -/
def CellsKept (s t : State) : Prop := t.cells = s.cells ∧ t.fabric = s.fabric

theorem cellsKept_closeSecond (s : State) (r : List Byte) : CellsKept s (closeSecond s r) := by
  unfold closeSecond
  simp only
  split <;> exact ⟨rfl, rfl⟩

theorem cellsKept_trans {s t u : State} (a : CellsKept s t) (b : CellsKept t u) : CellsKept s u := ⟨b.1.trans a.1, b.2.trans a.2⟩

theorem cellsKept_ringWrite (s : State) (ch a : Nat) (l : List Byte) : CellsKept s (ringWrite s ch a l) := ⟨rfl, rfl⟩

theorem cellsKept_commitQueue (s : State) (q : Nat) (x : Queue) : CellsKept s (commitQueue s q x) := ⟨rfl, rfl⟩

theorem cellsKept_landRaw (s : State) (q : Nat) (x : Queue) (r : List Byte) : CellsKept s (landRaw s q x r) :=
  cellsKept_trans (cellsKept_trans (cellsKept_closeSecond s r) (cellsKept_ringWrite _ _ _ _)) (cellsKept_commitQueue _ _ _)

theorem cellsKept_postEvent (s : State) (c code : Nat) (data : List Byte) : CellsKept s (postEvent s c code data) := by
  unfold postEvent
  simp only
  split
  · exact ⟨rfl, rfl⟩
  · split
    · exact ⟨rfl, rfl⟩
    · split
      · exact cellsKept_landRaw _ _ _ _
      · exact ⟨rfl, rfl⟩

theorem cellsKept_clipCheck (s : State) (id l : Nat) : CellsKept s (clipCheck s id l) := by
  unfold clipCheck
  split
  · exact ⟨rfl, rfl⟩
  · simp only
    split
    · exact ⟨rfl, rfl⟩
    · exact cellsKept_postEvent (s.modJob id _) _ _ _

theorem cellsKept_layerEnd (s : State) (g : Nat) : CellsKept s (layerEnd s g) := by
  unfold layerEnd
  simp only
  split
  · split
    · exact cellsKept_clipCheck _ _ _
    · exact ⟨rfl, rfl⟩
  · exact ⟨rfl, rfl⟩

/-! ### Parts that are left -/

theorem causes_eq_zero (a b c : Bool) :
    ((if a then 0x80 else 0) ||| (if b then 0x08 else 0) ||| (if c then 0x10 else 0) : BitVec 8) = 0 ↔ a = false ∧ b = false ∧ c = false := by
  cases a <;> cases b <;> cases c <;> decide

theorem partsLeft_eq_zero (s : State) (g mask : Nat) : partsLeft s g mask = 0 ↔ NothingLeft s g mask := by
  refine (causes_eq_zero _ _ _).trans (and_congr ?_ (and_congr ?_ ?_)) <;>
    rw [Bool.and_eq_false_imp] <;> refine imp_congr_right fun _ => ?_
  · simp [List.any_eq_false]
  · simp
  · simp [List.any_eq_false]

/-- What is left of a cell's work is read from its posts, its threads and the Lacers. -/
theorem partsLeft_setCell {s : State} {g : Nat} {c : CellState} (mask : Nat) (hp : c.posts = (s.cell g).posts)
    (ht : c.threads = (s.cell g).threads) : partsLeft (s.setCell g c) g mask = partsLeft s g mask := by
  simp only [partsLeft, setCell_cell, hp, ht]
  rfl

theorem partsLeft_draw (s : State) (g mask : Nat) : partsLeft s.draw g mask = partsLeft s g mask := rfl

/-! ### DRAIN at a cell with nothing in flight -/

theorem idleStitched_st (now : Nat) (c : CellState) : (idleStitched now c).st = c.st := rfl
theorem idleStitched_since (now : Nat) (c : CellState) : (idleStitched now c).since = c.since + 1 := rfl
theorem idleStitched_posts (now : Nat) (c : CellState) : (idleStitched now c).posts = c.posts := rfl
theorem idleStitched_threads (now : Nat) (c : CellState) : (idleStitched now c).threads = c.threads := rfl

/-- The cell in its stitch of DRAIN or HALT. -/
def inDrain (mask until_ : Nat) (halt : Bool) (c : CellState) : CellState :=
  { c with wait := some (.drain mask until_ halt), next := until_, nextPc := c.pc + 1 }

/-- What a stitch of DRAIN of cell c does once the stitch has completed in state v. -/
def afterDrainStitch (g mask until_ : Nat) (halt : Bool) (c : CellState) (v : State) : State :=
  if c.since + 1 < until_ ∨ (v.cell g).since ≤ c.since ∨ (v.cell g).st ≠ .running then v
  else if partsLeft v g mask ≠ 0 then stayRequested v g c (v.cell g).wait (partsLeft v g mask)
  else drainDone v g mask halt

theorem opDrain_stitch {u : State} {g : Nat} (hm : (u.cell g).mats = []) (mask : Nat) (halt : Bool) (w : BitVec 128) :
    opDrain mask halt u g w = drainStitch (u.setCell g (inDrain mask ((u.cell g).since + 1) halt (u.cell g))) g mask ((u.cell g).since + 1) halt := by
  have one : max 1 ((u.cell g).mats.foldl (fun r m => max r (m.final + 1 - (u.cell g).since)) 0) = 1 := by rw [hm]; rfl
  unfold opDrain
  simp only [one]
  rw [inDrain]

theorem drainStitch_eq (v : State) (g mask until_ : Nat) (halt : Bool) :
    drainStitch v g mask until_ halt = afterDrainStitch g mask until_ halt (v.cell g) (completeStitch v g) := rfl

theorem afterDrainStitch_moved {u : State} {g : Nat} {c e : CellState} (hp : e.posts = (u.cell g).posts) (ht : e.threads = (u.cell g).threads)
    (hn : e.since = c.since + 1) (hs : e.st = .running) (mask : Nat) (halt : Bool) :
    afterDrainStitch g mask (c.since + 1) halt c (u.setCell g e).draw =
      if partsLeft u g mask ≠ 0 then stayRequested (u.setCell g e).draw g c e.wait (partsLeft u g mask)
      else drainDone (u.setCell g e).draw g mask halt := by
  have own : (u.setCell g e).draw.cell g = e := setCell_cell _ _ _
  rw [afterDrainStitch, own, partsLeft_draw, partsLeft_setCell mask hp ht]
  exact if_neg (not_or.2 ⟨Nat.lt_irrefl _, not_or.2 ⟨by rw [hn]; exact Nat.not_succ_le_self _, not_not.2 hs⟩⟩)

theorem opDrain_idle {u : State} {g : Nat} {c : CellState} (hc : u.cell g = c) (hm : c.mats = []) (hs : c.st = .running) (mask : Nat) (halt : Bool)
    (w : BitVec 128) :
    opDrain mask halt u g w = if partsLeft u g mask ≠ 0 then
        stayRequested (u.setCell g (idleStitched u.now (inDrain mask (c.since + 1) halt c))).draw g (inDrain mask (c.since + 1) halt c)
          (some (.drain mask (c.since + 1) halt)) (partsLeft u g mask)
      else drainDone (u.setCell g (idleStitched u.now (inDrain mask (c.since + 1) halt c))).draw g mask halt := by
  subst hc
  rw [opDrain_stitch hm, drainStitch_eq, completeStitch_setCell (d := inDrain mask ((u.cell g).since + 1) halt (u.cell g)) u g hm, setCell_cell]
  exact afterDrainStitch_moved (c := inDrain mask ((u.cell g).since + 1) halt (u.cell g))
    (e := idleStitched u.now (inDrain mask ((u.cell g).since + 1) halt (u.cell g))) (idleStitched_posts _ _) (idleStitched_threads _ _)
    (idleStitched_since _ _) ((idleStitched_st _ _).trans hs) mask halt

/-- The cell as a DRAIN that completes leaves it; one of all four parts hands its counters over (R93, spec/05 R140). -/
def drained (mask : Nat) (c : CellState) : CellState :=
  if mask = 15 then handCounters { c with wait := none } else { c with wait := none }

/-- Beside the layer's counters, DRAIN ends its wait only. -/
theorem drained_fields (mask : Nat) (c : CellState) :
    ((drained mask c).pc = c.pc ∧ (drained mask c).since = c.since ∧ (drained mask c).next = c.next ∧
      (drained mask c).stitchCount = c.stitchCount ∧ (drained mask c).st = c.st ∧ (drained mask c).stalls = c.stalls) ∧
    (drained mask c).prog = c.prog ∧
    SameMemories c (drained mask c) ∧ (drained mask c).nextPc = c.nextPc ∧ (drained mask c).wait = none ∧ (drained mask c).loops = c.loops ∧
    (drained mask c).layersDone = c.layersDone + if mask = 15 then 1 else 0 := by
  unfold drained
  split <;> exact ⟨⟨rfl, rfl, rfl, rfl, rfl, rfl⟩, rfl, ⟨rfl, rfl, rfl, rfl, rfl, rfl, rfl, rfl⟩, rfl, rfl, rfl, rfl⟩

/-- The cell as HALT leaves it (R93). -/
def haltDone (now : Nat) (c : CellState) : CellState :=
  { stopRun c with st := .idle, report := true, reportAt := now }

theorem haltDone_fields (now : Nat) (c : CellState) :
    ((haltDone now c).st = .idle ∧ (haltDone now c).report = true ∧ (haltDone now c).loops = [] ∧ (haltDone now c).threads = [] ∧
      (haltDone now c).wait = none) ∧
    (haltDone now c).since = c.since ∧ (haltDone now c).prog = c.prog ∧ SameMemories c (haltDone now c) :=
  ⟨⟨rfl, rfl, rfl, rfl, rfl⟩, rfl, rfl, rfl, rfl, rfl, rfl, rfl, rfl, rfl, rfl⟩

theorem drainDone_part (s : State) (g : Nat) {mask : Nat} (h : mask ≠ 15) : drainDone s g mask false = s.setCell g (drained mask (s.cell g)) :=
  if_neg h

theorem drainDone_drain (s : State) (g mask : Nat) : CellsKept (s.setCell g (drained mask (s.cell g))) (drainDone s g mask false) := by
  by_cases h : mask = 15
  · have all : drainDone s g mask false = layerEnd (s.setCell g (drained mask (s.cell g))) g := if_pos h
    rw [all]
    exact cellsKept_layerEnd _ _
  · rw [drainDone_part s g h]
    exact ⟨rfl, rfl⟩

theorem drainDone_halt (s : State) (g : Nat) : CellsKept (s.setCell g (haltDone s.now (drained 15 (s.cell g)))) (drainDone s g 15 true) :=
  cellsKept_layerEnd _ _

theorem cellsKept_cell {s t : State} (h : CellsKept s t) (g : Nat) : t.cell g = s.cell g := by rw [State.cell, h.1]; rfl

/-- The state after the one stitch of DRAIN or HALT. -/
def drainStitched (s : State) (g mask : Nat) (halt : Bool) : State :=
  (s.setCell g (idleStitched s.now (inDrain mask ((s.cell g).since + 1) halt (takenUp (s.cell g))))).draw

theorem onlyCell_drainStitched (s : State) (g mask : Nat) (halt : Bool) : OnlyCell g s (drainStitched s g mask halt) := onlyCell_setCell_draw _ _ _

theorem drainStitched_cell (s : State) (g mask : Nat) (halt : Bool) :
    (drainStitched s g mask halt).cell g = idleStitched s.now (inDrain mask ((s.cell g).since + 1) halt (takenUp (s.cell g))) := setCell_cell _ _ _

theorem drainStitched_other (s : State) {g h : Nat} (mask : Nat) (halt : Bool) (c : CellState) (hne : h ≠ g) :
    ((drainStitched s g mask halt).setCell g c).cell h = s.cell h :=
  (setCell_cell_other _ _ _ hne).trans ((onlyCell_drainStitched s g mask halt).2 h hne)

section
variable {i : Instr} {s : State} {g mask : Nat} {halt : Bool} {w : BitVec 128} (hr : Ready s g)
  (run : exec i s = .next (opDrain mask halt (s.setCell g (takenUp (s.cell g))) g w))
include hr run

theorem completes_drain_waits (left : ¬ NothingLeft s g mask) :
    Completes i s (fun t => OnlyCell g s t ∧ Safety.Held s g (.drain mask ((s.cell g).since + 1) halt) (partsLeft s g mask) t) := by
  rw [opDrain_idle (c := takenUp (s.cell g)) (setCell_cell _ _ _) (ready_mats hr) (ready_running hr), setCell_setCell,
    partsLeft_setCell (s := s) (c := takenUp (s.cell g)) mask rfl rfl, if_pos fun h => left ((partsLeft_eq_zero _ _ _).1 h)] at run
  exact ⟨_, run, onlyCell_trans (onlyCell_setCell_draw _ _ _) (onlyCell_modCell _ _ _),
    held_stayRequested (setCell_cell _ _ _) ⟨rfl, rfl, rfl, rfl⟩ ⟨rfl, rfl, rfl, rfl⟩ rfl (sameMemories_refl _)⟩

theorem exec_drain_completes (done : NothingLeft s g mask) : exec i s = .next (drainDone (drainStitched s g mask halt) g mask halt) := by
  rwa [opDrain_idle (c := takenUp (s.cell g)) (setCell_cell _ _ _) (ready_mats hr) (ready_running hr), setCell_setCell,
    partsLeft_setCell (s := s) (c := takenUp (s.cell g)) mask rfl rfl, if_neg (not_not.2 ((partsLeft_eq_zero _ _ _).2 done))] at run

end

/-- A DRAIN that completes: its stitch, and the layer's end with all four parts (R93). -/
theorem completes_drain {g : CellNo} {w : BitVec 128} {s : State} (hr : Ready s g.val) (hw : Passes 0x03 w) {mask : Nat} (hm : fld w 119 116 = mask)
    (done : NothingLeft s g.val mask) :
    Completes (.drain g w) s (fun t => Stepped s g.val 1 t ∧
      SameMemories (s.cell g.val) (t.cell g.val) ∧ (t.cell g.val).nextPc = (s.cell g.val).nextPc + 1 ∧ (t.cell g.val).wait = none ∧
      (t.cell g.val).loops = (s.cell g.val).loops ∧ (∀ h, h ≠ g.val → t.cell h = s.cell h) ∧ t.fabric = s.fabric ∧
      (t.cell g.val).layersDone = (s.cell g.val).layersDone + (if mask = 15 then 1 else 0) ∧ (mask ≠ 15 → OnlyCell g.val s t)) := by
  subst hm
  have run := exec_drain_completes hr (exec_ready (i := .drain g w) (op := opDrain (fld w 119 116) false) rfl hr hw) done
  have kept := drainDone_drain (drainStitched s g.val (fld w 119 116) false) g.val (fld w 119 116)
  have own := (cellsKept_cell kept g.val).trans (setCell_cell _ _ _)
  rw [drainStitched_cell] at own
  obtain ⟨⟨pc, since, next, count, st, stalls⟩, -, memories, nextPc, wait, loops, layers⟩ := drained_fields (fld w 119 116)
    (idleStitched s.now (inDrain (fld w 119 116) ((s.cell g.val).since + 1) false (takenUp (s.cell g.val))))
  rw [← own] at pc since next count st stalls memories nextPc wait loops layers
  refine ⟨_, run, ⟨pc, since, next, count, st, stalls⟩, memories, nextPc, wait, loops,
    fun h hne => (cellsKept_cell kept h).trans (drainStitched_other _ _ _ _ hne), kept.2, layers, fun part => ?_⟩
  rw [drainDone_part _ _ part]
  exact onlyCell_trans (onlyCell_drainStitched _ _ _ _) (onlyCell_setCell _ _ _)

/-- A HALT that completes: the cell is IDLE and its Tacker has its report (R93). -/
theorem completes_halt {g : CellNo} {w : BitVec 128} {s : State} (hr : Ready s g.val) (hw : Passes 0x01 w) (done : NothingLeft s g.val 15) :
    Completes (.halt g w) s (fun t => (t.cell g.val).st = .idle ∧ (t.cell g.val).report = true ∧ (t.cell g.val).loops = [] ∧
      (t.cell g.val).threads = [] ∧ (t.cell g.val).wait = none ∧ (t.cell g.val).since = (s.cell g.val).since + 1 ∧
      (t.cell g.val).prog = (s.cell g.val).prog ∧ SameMemories (s.cell g.val) (t.cell g.val) ∧
      (∀ h, h ≠ g.val → t.cell h = s.cell h) ∧ t.fabric = s.fabric) := by
  have run := exec_drain_completes hr (exec_ready (i := .halt g w) (op := opDrain 15 true) rfl hr hw) done
  have kept := drainDone_halt (drainStitched s g.val 15 true) g.val
  have own := (cellsKept_cell kept g.val).trans (setCell_cell _ _ _)
  rw [drainStitched_cell] at own
  obtain ⟨⟨-, sinceD, -⟩, progD, memoriesD, -⟩ := drained_fields 15
    (idleStitched s.now (inDrain 15 ((s.cell g.val).since + 1) true (takenUp (s.cell g.val))))
  obtain ⟨⟨st, report, loops, threads, wait⟩, since, prog, memories⟩ := haltDone_fields (drainStitched s g.val 15 true).now
    (drained 15 (idleStitched s.now (inDrain 15 ((s.cell g.val).since + 1) true (takenUp (s.cell g.val)))))
  rw [← own] at st report loops threads wait since prog memories
  exact ⟨_, run, st, report, loops, threads, wait, since.trans sinceD, prog.trans progD, sameMemories_trans memoriesD memories,
    fun h hne => (cellsKept_cell kept h).trans (drainStitched_other _ _ _ _ hne), kept.2⟩

/-- Settles O11: the stitch of DRAIN completes; then the parts that are left hold its cell, or the layer or the run is over. -/
theorem drainAndHalt : Obligations.DrainAndHalt := by
  unfold Obligations.DrainAndHalt
  refine ⟨fun g w s hr hw => ⟨completes_drain hr hw rfl, fun left => ?waits⟩,
    fun g w s hr hw => ⟨completes_halt hr hw, fun left => ?haltWaits⟩⟩
  case waits => exact completes_drain_waits hr (exec_ready (i := .drain g w) (op := opDrain (fld w 119 116) false) rfl hr hw) left
  case haltWaits => exact completes_drain_waits hr (exec_ready (i := .halt g w) (op := opDrain 15 true) rfl hr hw) left

end Sys2Proof.Machine

/-! SUPPORT. LACE, AWL and TPOST as they are issued (spec/03 R79; spec/04 R94, R95; spec/06 R149). -/

namespace Sys2Proof.Machine

open Sys2Proof.Safety

/-! ### What a submitted transfer marks (spec/03 R79) -/

/-- Nothing of the cell but the sentinel's marks and its numbers of operations differs. -/
def OnlyMarks (c d : CellState) : Prop := d = { c with marks := d.marks, orders := d.orders }

theorem onlyMarks_refl (c : CellState) : OnlyMarks c c := rfl

theorem onlyMarks_trans {c d e : CellState} (a : OnlyMarks c d) (b : OnlyMarks d e) : OnlyMarks c e := by
  unfold OnlyMarks at *
  rw [b, a]

theorem onlyMarks_mark (c : CellState) (o i : Nat) (l : Bool) (sp : Nat) (r w : Bool) (u : Nat) (ls : List Nat) :
    OnlyMarks c (mark c o i l sp r w u ls) := by
  unfold mark
  split
  · exact onlyMarks_refl c
  · rfl

/-- Nothing but the marks and the numbers of operations in cells differs. -/
def OnlyMarking (s t : State) : Prop := OnlyCells s t ∧ ∀ h, OnlyMarks (s.cell h) (t.cell h)

theorem onlyMarking_modCell {s : State} {g : Nat} {f : CellState → CellState} (hf : ∀ c, OnlyMarks c (f c)) : OnlyMarking s (s.modCell g f) := by
  refine ⟨onlyCells_modCell s g f, fun h => ?_⟩
  by_cases e : h = g
  · subst e; rw [modCell_same]; exact hf _
  · rw [modCell_other s g f e]; exact onlyMarks_refl _

theorem onlyMarking_markTransfer (x : Transfer) (s : State) (h : Nat) : OnlyMarking s (markTransfer x s h) :=
  onlyMarking_modCell fun c => by
    have side (c : CellState) (dst : Bool) : OnlyMarks c (if sideIn x.by_ x.sb x.desc dst h then
        mark c (x.orderIn h) x.idx true 0 (!dst) dst (c.since + 2 ^ 48) (sideLines x.desc dst) else c) := by
      split
      · exact onlyMarks_mark ..
      · exact onlyMarks_refl c
    exact onlyMarks_trans (onlyMarks_trans (side c false) (side _ true)) rfl

theorem onlyMarking_foldl (x : Transfer) (l : List Nat) (s : State) : OnlyMarking s (l.foldl (markTransfer x) s) :=
  List.foldlRecOn (motive := OnlyMarking s) l _ ⟨onlyCells_refl s, fun _ => onlyMarks_refl _⟩ fun t ht h _ =>
    ⟨onlyCells_trans ht.1 (onlyMarking_markTransfer x t h).1, fun k => onlyMarks_trans (ht.2 k) ((onlyMarking_markTransfer x t h).2 k)⟩

/-! ### LACE (R95) -/

/-- The block that LACE or AWL names has its DONE bit cleared. -/
def doneCleared (c : CellState) (w : BitVec 128) : CellState :=
  { c with store := storeBytes c.store (fld w 111 95 * 32 + 62) [storeByte c (fld w 111 95 * 32 + 62) &&& 0x7F] }

/-- The transfer that LACE submits. -/
def laceTransfer (u : State) (g : Nat) (c : CellState) (w : BitVec 128) : Transfer :=
  { tag := u.fabric.tag, by_ := .cell (cellNo g), desc := blockAt c w, descAddr := fld w 111 95 * 32, sb := c.sb
    wait := fld w 89 89 == 1, idx := c.pc
    orders := (g :: storeCells c.sb (blockAt c w)).dedup.map (fun h => (h, (u.cell h).orders)) }

/-- The fabric with the transfer of LACE at the end of its Lacer's queue. -/
def laceQueued (u : State) (g : Nat) (c : CellState) (w : BitVec 128) : State :=
  { u with fabric := { u.fabric with
      lacer := put [] u.fabric.lacer (lacerOf g w) (lookup [] u.fabric.lacer (lacerOf g w) ++ [laceTransfer u g c w]), tag := u.fabric.tag + 1 } }

/-- The state after LACE has queued and marked its transfer. -/
def laced (u : State) (g : Nat) (c : CellState) (w : BitVec 128) : State :=
  (g :: storeCells c.sb (blockAt c w)).dedup.foldl (markTransfer (laceTransfer u g c w)) ((laceQueued u g c w).setCell g (doneCleared c w))

theorem onlyMarking_laced (u : State) (g : Nat) (c : CellState) (w : BitVec 128) :
    OnlyMarking ((laceQueued u g c w).setCell g (doneCleared c w)) (laced u g c w) := onlyMarking_foldl _ _ _

section
variable {u : State} {g : Nat} {c : CellState} {w : BitVec 128} {k : Nat} (hc : u.cell g = c)
include hc

theorem opLace_submits (room : LacerRoom u g w) (hk : signalOf c (tfield (blockAt c w) 495 482) (tfield (blockAt c w) 481 474) = some k)
    (hs : slotsOk c.sb (blockAt c w) = true) :
    opLace u g w = if fld w 89 89 == 1 then holdIssue (laced u g c w) g (.lace (lacerOf g w) u.fabric.tag) 0x80 else issued (laced u g c w) g 1 := by
  subst hc
  have valid : ¬ (!slotsOk (u.cell g).sb (blockAt (u.cell g) w)) = true := by rw [hs]; exact Bool.false_ne_true
  refine (if_neg fun full => not_lacerRoom.2 full room).trans ?_
  unfold blockAt at hk
  rw [hk]
  exact if_neg valid

end

theorem opLace_waits {u : State} {g : Nat} {w : BitVec 128} (full : ¬ LacerRoom u g w) : opLace u g w = holdIssue u g (.retry w 7) 0x80 :=
  if_pos (not_lacerRoom.1 full)

/-- The cell that submits, after LACE has queued and marked its transfer. -/
theorem laced_cell (u : State) (g : Nat) (c : CellState) (w : BitVec 128) :
    ∃ m o, (laced u g c w).cell g = { doneCleared c w with marks := m, orders := o } := by
  have own := (onlyMarking_laced u g c w).2 g
  rw [setCell_cell] at own
  exact ⟨_, _, own⟩

theorem laced_cell_other (u : State) {g h : Nat} (c : CellState) (w : BitVec 128) (hne : h ≠ g) :
    OnlyMarks (u.cell h) ((laced u g c w).cell h) := by
  have other := (onlyMarking_laced u g c w).2 h
  rwa [setCell_cell_other _ _ _ hne] at other

theorem laced_only {u t : State} {g : Nat} {c : CellState} {w : BitVec 128} (h : OnlyCell g (laced u g c w) t) :
    t = { laceQueued u g c w with cells := t.cells, free := t.free } := by
  have marking := (onlyMarking_laced u g c w).1
  unfold OnlyCells at marking
  rw [h.1, marking]
  rfl

/-! ### AWL (spec/06 R149) -/

def awlQueued (u : State) (g : Nat) (c : CellState) (w : BitVec 128) (k : Nat) : State :=
  { u with fabric := { u.fabric with awl := put [] u.fabric.awl (quarterOf g) (lookup [] u.fabric.awl (quarterOf g) ++
      [⟨g, fld w 111 95 * 32, blockAt c w, k, fld w 80 73, c.sb, false, false⟩]) } }

section
variable {u : State} {g : Nat} {c : CellState} {w : BitVec 128} {k : Nat} (hc : u.cell g = c)
  (hk : signalOf c (fld w 94 81) (fld w 80 73) = some k)
include hc hk

theorem opAwl_queues (room : (lookup [] u.fabric.awl (quarterOf g)).length < 16) :
    opAwl u g w = issued ((awlQueued u g c w k).setCell g (doneCleared c w)) g 1 := by
  subst hc
  rw [opAwl, hk]
  exact if_neg (Nat.not_le.2 room)

theorem opAwl_waits (full : 16 ≤ (lookup [] u.fabric.awl (quarterOf g)).length) : opAwl u g w = holdIssue u g (.retry w 7) 0x80 := by
  subst hc
  rw [opAwl, hk]
  exact if_pos full

end

/-! ### TPOST (R94) -/

/-- The binding of a TPOST with BIND. -/
def tpostBinding (w : BitVec 128) (peer k : Nat) : Bind := ⟨peer, k, fld w 91 84, fld w 61 40, fld w 39 24, fld w 118 118 == 1⟩

/-- The cell after the reads of a TPOST's lines. -/
def tpostRead (c : CellState) (w : BitVec 128) : CellState :=
  mark (touch c c.orders c.pc false 0 false (linesOf (fld w 83 62) (fld w 39 24 * 512))) c.orders c.pc false 0 true false c.since
    (linesOf (fld w 83 62) (fld w 39 24 * 512))

/-- The region that a TPOST sends. -/
def tpostRegion (c : CellState) (w : BitVec 128) (peer k : Nat) : Post :=
  ⟨peer, k, fld w 91 84, fld w 61 40, writeBytes [] 0 ((List.range (fld w 39 24 * 512)).map (fun i => storeByte c (fld w 83 62 + i))),
    (List.range (fld w 39 24 * 512)).map (fun i => (i, true))⟩

/-- The cell with the region of a TPOST on its path. -/
def tpostSent (c : CellState) (w : BitVec 128) (peer k : Nat) : CellState :=
  { tpostRead c w with
    posts := (tpostRead c w).posts ++ [tpostRegion (tpostRead c w) w peer k], postsSent := (tpostRead c w).postsSent + 1
    orders := (tpostRead c w).orders + 1 }

theorem tpostSent_eq (c : CellState) (w : BitVec 128) (peer k : Nat) : ∃ m v l e, tpostSent c w peer k =
    { c with marks := m, violations := v, sentLost := l, sentLog := e, posts := c.posts ++ [tpostRegion c w peer k], postsSent := c.postsSent + 1
             orders := c.orders + 1 } := by
  obtain ⟨m, v, l, e, read⟩ := onlySentinel_trans
    (onlySentinel_touch c c.orders c.pc false 0 false (linesOf (fld w 83 62) (fld w 39 24 * 512)))
    (onlySentinel_mark _ c.orders c.pc false 0 true false c.since (linesOf (fld w 83 62) (fld w 39 24 * 512)))
  have read : tpostRead c w = { c with marks := m, violations := v, sentLost := l, sentLog := e } := read
  refine ⟨m, v, l, e, ?_⟩
  rw [tpostSent, read]
  rfl

theorem tpostRegion_data (c : CellState) (w : BitVec 128) (peer k : Nat) {i : Nat} (h : i < fld w 39 24 * 512) :
    readByte (tpostRegion c w peer k).data i = storeByte c (fld w 83 62 + i) := by
  rw [tpostRegion, readByte_writeBytes, if_pos ⟨Nat.zero_le i, by simpa using h⟩]
  simp [h]

section
variable {u : State} {g : Nat} {c : CellState} {w : BitVec 128} {peer k : Nat} (hc : u.cell g = c)
  (hp : c.sb.cellOf (fld w 111 106) = some peer) (hk : signalOf c (fld w 105 92) (fld w 91 84) = some k)
include hc hp hk

theorem opTpost_binds (hb : fld w 119 119 = 1) : opTpost u g w = issued (u.setCell g { c with bind := some (tpostBinding w peer k) }) g 1 := by
  subst hc
  rw [opTpost, hp, hk]
  exact if_pos hb

theorem opTpost_sends (hb : fld w 119 119 ≠ 1) (room : places c < 4) : opTpost u g w = issued (u.setCell g (tpostSent c w peer k)) g 1 := by
  subst hc
  rw [opTpost, hp, hk]
  exact (if_neg hb).trans (if_neg (Nat.not_le.2 room))

theorem opTpost_waits (hb : fld w 119 119 ≠ 1) (full : 4 ≤ places c) : opTpost u g w = holdIssue u g (.retry w 3) 0x08 := by
  subst hc
  rw [opTpost, hp, hk]
  exact (if_neg hb).trans (if_pos full)

end

/-- An issue in a state u whose cell is in the stitch that takes the word up. -/
theorem completes_issuedIn {i : Instr} {s u : State} {g n : Nat} (run : exec i s = .next (issued u g n)) (hm : (u.cell g).mats = [])
    (hd : InIssueOf (s.cell g) (u.cell g)) :
    Completes i s (fun t => Stepped s g n t ∧ OnlyCell g u t ∧ t.cell g = idleStitched u.now (standing n (u.cell g))) := by
  have eq : issued u g n = (u.setCell g (idleStitched u.now (standing n (u.cell g)))).draw :=
    completeStitch_setCell u g (d := standing n (u.cell g)) hm
  rw [eq] at run
  exact ⟨_, run, stepped_idleStitched (setCell_cell _ _ _) hd (congrArg (· + n) hd.2.1), onlyCell_setCell_draw _ _ _, setCell_cell _ _ _⟩

section
variable {g : CellNo} {w : BitVec 128} {s : State} {k : Nat} (hr : Ready s g.val) (hw : Passes 0x28 w)
include hr hw

theorem completes_lace
    (hk : signalOf (s.cell g.val) (tfield (blockAt (s.cell g.val) w) 495 482) (tfield (blockAt (s.cell g.val) w) 481 474) = some k)
    (hs : slotsOk (s.cell g.val).sb (blockAt (s.cell g.val) w) = true) (room : LacerRoom s g.val w) :
    Completes (.lace g w) s (fun t => OnlyCell g.val (laced (s.setCell g.val (takenUp (s.cell g.val))) g.val (takenUp (s.cell g.val)) w) t ∧
      (fld w 89 89 = 1 → (t.cell g.val).wait = some (.lace (lacerOf g.val w) s.fabric.tag) ∧ (t.cell g.val).stalls = 0x80 ∧
        (t.cell g.val).since = (s.cell g.val).since) ∧
      (fld w 89 89 = 0 → Stepped s g.val 1 t ∧ (t.cell g.val).nextPc = (s.cell g.val).nextPc + 1) ∧
      (t.cell g.val).store = (doneCleared (s.cell g.val) w).store) := by
  have run := exec_ready (i := .lace g w) rfl hr hw
  rw [opLace_submits (c := takenUp (s.cell g.val)) (setCell_cell _ _ _) room hk hs] at run
  obtain ⟨m, o, own⟩ := laced_cell (s.setCell g.val (takenUp (s.cell g.val))) g.val (takenUp (s.cell g.val)) w
  by_cases wait : fld w 89 89 = 1
  · rw [if_pos (beq_iff_eq.2 wait)] at run
    refine ⟨_, run, onlyCell_modCell _ _ _, fun _ => ?_, fun h => absurd h (by rw [wait]; exact Nat.one_ne_zero), ?_⟩ <;>
      rw [holdIssue, modCell_same, own]
    · exact ⟨rfl, rfl, rfl⟩
    · rfl
  · rw [if_neg fun h => wait (beq_iff_eq.1 h)] at run
    refine completes_imp (completes_issuedIn run (by rw [own]; exact ready_mats hr) (by rw [own]; exact ⟨rfl, rfl, rfl, rfl⟩))
      fun t ⟨stepped, only, ht⟩ => ⟨only, fun h => absurd h wait, fun _ => ⟨stepped, ?_⟩, ?_⟩ <;> rw [ht, own]
    · rfl
    · rfl

end

/-- Settles O16: each is held, or queues its command or region and completes its issue stitch. -/
theorem queuesAndPosts : Obligations.QueuesAndPosts := by
  unfold Obligations.QueuesAndPosts
  refine ⟨fun g w s hr => ⟨fun k hw hk hs => ⟨fun hl hq => ?submits, fun full => ?laceWaits⟩,
      fun k hw hk => ⟨fun room => ?queues, fun full => ?awlWaits⟩⟩,
    fun g w s peer k hr hw hp hk => ⟨fun hb => ?binds, fun hb room => ?sends, fun hb full => ?postWaits⟩⟩
  case submits =>
    refine completes_imp (completes_lace hr hw (signalOf_names hk) hs ⟨hl, hq⟩) fun t ⟨only, waits, goes, store⟩ => ?_
    have eq := laced_only only
    have fabric : t.fabric = (laceQueued (s.setCell g.val (takenUp (s.cell g.val))) g.val (takenUp (s.cell g.val)) w).fabric := by rw [eq]
    refine ⟨⟨laceTransfer (s.setCell g.val (takenUp (s.cell g.val))) g.val (takenUp (s.cell g.val)) w, ?_, rfl, rfl, rfl, rfl, rfl, waits⟩,
      goes, fun n hn => ?_, store, fun h hne => ?_, ?_⟩
    · rw [fabric]; exact lookup_put_same _ _ _ _
    · rw [fabric]; exact lookup_put_other _ _ _ hn
    · have marked := laced_cell_other (s.setCell g.val (takenUp (s.cell g.val))) (takenUp (s.cell g.val)) w hne
      rw [← only.2 h hne, setCell_cell_other _ _ _ hne] at marked
      exact marked
    · rw [fabric]; exact eq
  case laceWaits =>
    have run := exec_ready (i := .lace g w) rfl hr hw
    have noRoom : ¬ LacerRoom (s.setCell g.val (takenUp (s.cell g.val))) g.val w := not_lacerRoom.2 full
    rw [opLace_waits noRoom] at run
    exact completes_held run
  case queues =>
    have run := exec_ready (i := .awl g w) rfl hr hw
    rw [opAwl_queues (c := takenUp (s.cell g.val)) (setCell_cell _ _ _) (signalOf_names hk) room] at run
    refine completes_imp (completes_issued run (ready_mats hr) ⟨rfl, rfl, rfl, rfl⟩) fun t ⟨stepped, only, ht⟩ => ?_
    have fabric : t.fabric = (awlQueued s g.val (takenUp (s.cell g.val)) w k).fabric :=
      (onlyCell_fabric only).trans rfl
    refine ⟨stepped, ?_, ?_, ?_, fun h hne => (only.2 h hne).trans (setCell_cell_other _ _ _ hne), ?_⟩
    · rw [ht]; rfl
    · rw [fabric]; exact lookup_put_same _ _ _ _
    · rw [ht]; rfl
    · rw [fabric]; exact only.1
  case awlWaits =>
    have run := exec_ready (i := .awl g w) rfl hr hw
    rw [opAwl_waits (c := takenUp (s.cell g.val)) (setCell_cell _ _ _) (signalOf_names hk) full] at run
    exact completes_held run
  case binds =>
    have run := exec_ready (i := .tpost g w) rfl hr hw
    rw [opTpost_binds (c := takenUp (s.cell g.val)) (setCell_cell _ _ _) hp (signalOf_names hk) hb, setCell_setCell] at run
    refine completes_imp (completes_issued run (ready_mats hr) ⟨rfl, rfl, rfl, rfl⟩) fun t ⟨stepped, only, ht⟩ => ?_
    rw [ht]
    exact ⟨stepped, sameMemories_refl _, only, rfl, rfl, rfl⟩
  case sends =>
    have run := exec_ready (i := .tpost g w) rfl hr hw
    obtain ⟨m, v, l, e, sent⟩ := tpostSent_eq (takenUp (s.cell g.val)) w peer k
    rw [opTpost_sends (c := takenUp (s.cell g.val)) (setCell_cell _ _ _) hp (signalOf_names hk) (by rw [hb]; exact Nat.zero_ne_one) room,
      setCell_setCell, sent] at run
    refine completes_imp (completes_issued run (ready_mats hr) ⟨rfl, rfl, rfl, rfl⟩) fun t ⟨stepped, only, ht⟩ => ?_
    rw [ht]
    exact ⟨stepped, sameMemories_refl _, only, rfl, rfl, tpostRegion (takenUp (s.cell g.val)) w peer k, rfl, rfl, rfl, rfl, rfl, rfl,
      fun i hi => tpostRegion_data (takenUp (s.cell g.val)) w peer k hi⟩
  case postWaits =>
    have run := exec_ready (i := .tpost g w) rfl hr hw
    rw [opTpost_waits (c := takenUp (s.cell g.val)) (setCell_cell _ _ _) hp (signalOf_names hk) (by rw [hb]; exact Nat.zero_ne_one) full] at run
    exact completes_held run

end Sys2Proof.Machine

/-! SUPPORT. GAP, VRUN and VTHR as they are issued: the stitch of an operation that the array does not reduce, and the threads that start
(spec/04 R85, R91; spec/05 R117, R118; spec/06 R154). -/

namespace Sys2Proof.Machine

open Sys2Proof.Safety

/-! ### A stitch in which the array reduces nothing (spec/03 R67, R68) -/

section
variable {c : CellState} (h : reducing c = none)
include h

theorem takesNow_unreduced (e : Nat) : takesNow c e = false := by rw [takesNow, h]

theorem feedStalls_unreduced : feedStalls c = 0 := by
  have short : rowsShort c = false := by rw [rowsShort, h]
  simp [feedStalls, eyeEmpty, takesNow_unreduced h, short]

theorem popBad_unreduced : popBad c = none := by simp [popBad, popsNow, takesNow_unreduced h]

theorem popEyes_unreduced : popEyes c = { c with eyes := c.eyes.filter (fun p => !p.2.isEmpty) } := by
  have eyes : (popEyes c).eyes = c.eyes.filter (fun p => !p.2.isEmpty) := by simp [popEyes, takesNow_unreduced h]
  have rows : (popEyes c).rowReg = c.rowReg := by simp only [popEyes, h]
  calc popEyes c = { c with eyes := (popEyes c).eyes, rowReg := (popEyes c).rowReg } := rfl
    _ = _ := by rw [eyes, rows]

theorem nextTag_unreduced : nextTag c = c.tag := by rw [nextTag, h]

end

/-- Cell c is at the issue stitch of m, GAP or VRUN, alone in flight. -/
structure OffArray (c : CellState) (m : MatOp) : Prop where
  mats : c.mats = [m]
  kind : m.kind = .gap ∨ m.kind = .vrun
  issue : m.issue = c.since
  post : m.post = none
  final : m.kind = .gap → c.since < m.final

/-- A cell after a stitch of an operation that the array does not reduce; one at its final stitch is no longer in flight. -/
def offStitched (now : Nat) (c : CellState) : CellState :=
  { idleStitched now c with mats := c.mats.filter (fun m => decide (c.since < m.final)) }

section
variable {c : CellState} {m : MatOp} (h : OffArray c m)
include h

theorem reducing_offArray : reducing c = none := by
  rcases h.kind with k | k <;> simp [reducing, h.mats, k]

theorem dues_offArray : dues m c.since = [] := by
  unfold dues
  split
  · rfl
  · rcases h.kind with k | k
    · simp [k]
    · simp [k, h.issue]

theorem vectorPhase_offArray (v : VEnv) : vectorPhase v c.since c c.mats = .ok c := by
  have late : lateDues m c.since = [] := by rcases h.kind with k | k <;> simp [lateDues, k]
  simp [vectorPhase, overdue, h.mats, late, dues_offArray h, runAll, runDues]

theorem drainMat_offArray (e : Env) : drainMat e c.since m = e := by
  unfold drainMat
  rcases h.kind with k | k
  · have := h.final k
    simp only [k]
    exact if_neg (by omega)
  · simp only [k]

end

/-- A cell whose eyelets have lost their empty queues. -/
def eyesKept (c : CellState) : CellState := { c with eyes := c.eyes.filter (fun p => !p.2.isEmpty) }

theorem advance_offArray {e : Env} {m : MatOp} (h : OffArray e.c m) :
    advance e = (.ok (dropMarks { eyesKept e.c with
      since := e.c.since + 1, stitchCount := satAdd 64 e.c.stitchCount 1, pacing := false
      mats := e.c.mats.filter (fun m => decide (e.c.since < m.final)) }), e.map) := by
  have idle := reducing_offArray h
  have popped : popEyes e.c = eyesKept e.c := popEyes_unreduced idle
  have tag : nextTag (eyesKept e.c) = e.c.tag := nextTag_unreduced (c := eyesKept e.c) idle
  have blocked : e.c.mats.any (drainBlocked e.c e.c.since) = false := by simp [h.mats, drainBlocked, h.post]
  have drained : e.c.mats.foldl (fun f m => drainMat f e.c.since m) { e with c := eyesKept e.c } = { e with c := eyesKept e.c } := by
    rw [h.mats]
    exact drainMat_offArray h _
  rw [advance, if_neg (not_not.2 (feedStalls_unreduced idle)), popBad_unreduced idle]
  simp only [vectorPhase_offArray h, blocked, Bool.false_eq_true, if_false, popped, drained, tag]
  rfl

theorem completeStitch_offArray {s : State} {g : Nat} {m : MatOp} (h : OffArray (s.cell g) m) :
    completeStitch s g = (s.setCell g (offStitched s.now (s.cell g))).draw := by
  rw [completeStitch, advance_offArray (e := envOf s g) h]
  rfl

theorem issued_offArray (s : State) (g i : Nat) {d : CellState} {m : MatOp} (h : OffArray d m) :
    issued (s.setCell g d) g i = (s.setCell g (offStitched s.now (standing i d))).draw := by
  have at_ : OffArray ((s.setCell g (standing i d)).cell g) m := by
    rw [setCell_cell]
    exact ⟨h.mats, h.kind, h.issue, h.post, h.final⟩
  rw [issued, State.modCell, setCell_cell, setCell_setCell]
  refine (completeStitch_offArray at_).trans ?_
  rw [setCell_cell, setCell_setCell]
  rfl

/-- The issue of an operation that the array does not reduce: its first stitch completes. -/
theorem completes_offArray {i : Instr} {s : State} {g n : Nat} {d : CellState} {m : MatOp} (run : exec i s = .next (issued (s.setCell g d) g n))
    (h : OffArray d m) (hd : InIssueOf (s.cell g) d) :
    Completes i s (fun t => Stepped s g n t ∧ OnlyCell g s t ∧ t.cell g = offStitched s.now (standing n d)) := by
  obtain ⟨pc, since, count, st⟩ := hd
  rw [issued_offArray s g n h] at run
  refine completes_imp (completes_setCell_draw run) fun t ⟨only, ht⟩ => ⟨?_, only, ht⟩
  rw [Stepped, ht]
  exact ⟨pc, congrArg (· + 1) since, congrArg (· + n) since, congrArg (satAdd 64 · 1) count, st, rfl⟩

theorem sameMemories_offStitched (now : Nat) (c : CellState) : SameMemories c (offStitched now c) := ⟨rfl, rfl, rfl, rfl, rfl, rfl, rfl, rfl⟩
theorem sameMemories_standing (n : Nat) (c : CellState) : SameMemories c (standing n c) := ⟨rfl, rfl, rfl, rfl, rfl, rfl, rfl, rfl⟩

theorem offStitched_mats (now n : Nat) {d : CellState} {m : MatOp} (h : OffArray d m) (hf : d.since < m.final) :
    (offStitched now (standing n d)).mats = [m] := by
  have kept : (offStitched now (standing n d)).mats = d.mats.filter (fun m => decide (d.since < m.final)) := rfl
  rw [kept, h.mats, List.filter_singleton, decide_eq_true hf, cond_true]

/-- Operation m has begun in cell d, which was cell c, and nothing of what a stitch completes has moved. -/
structure OpBegun (c : CellState) (m : MatOp) (d : CellState) : Prop where
  mats : d.mats = c.mats ++ [m]
  pc : d.pc = c.pc
  since : d.since = c.since
  stitchCount : d.stitchCount = c.stitchCount
  st : d.st = c.st
  loops : d.loops = c.loops
  memories : SameMemories c d

/-- An operation off the array that begins at a cell with none in flight: its first stitch completes. -/
theorem completes_begun {i : Instr} {s : State} {g n : Nat} {d : CellState} {m : MatOp} (hr : Ready s g)
    (run : exec i s = .next (issued (s.setCell g d) g n)) (hd : OpBegun (takenUp (s.cell g)) m d) (hk : m.kind = .gap ∨ m.kind = .vrun)
    (hi : m.issue = (s.cell g).since) (hp : m.post = none) (hf : m.kind = .gap → (s.cell g).since < m.final) :
    Completes i s (fun t => Stepped s g n t ∧ (t.cell g).nextPc = (s.cell g).nextPc + 1 ∧ OnlyCell g s t ∧
      SameMemories (s.cell g) (t.cell g) ∧ (t.cell g).loops = (s.cell g).loops ∧ (t.cell g).lastLayer = d.lastLayer ∧
      ((s.cell g).since < m.final → (t.cell g).mats = [m])) := by
  have since : d.since = (s.cell g).since := hd.since
  have off : OffArray d m := by
    refine ⟨?_, hk, hi.trans since.symm, hp, fun k => since ▸ hf k⟩
    rw [hd.mats]
    exact congrArg (· ++ [m]) (ready_mats hr)
  refine completes_imp (completes_offArray run off ⟨hd.pc, since, hd.stitchCount, hd.st⟩) fun t ⟨stepped, only, ht⟩ => ?_
  rw [ht]
  exact ⟨stepped, congrArg (· + 1) hd.pc, only,
    sameMemories_trans hd.memories (sameMemories_trans (sameMemories_standing n d) (sameMemories_offStitched s.now _)), hd.loops, rfl,
    fun final => offStitched_mats _ _ off (since ▸ final)⟩

/-! ### GAP (R154) -/

def gapStitches (a : Desc) : Nat := max 1 (ceilDiv a.k 64 * a.height * a.extent)

/-- The cell with the marks of a GAP's reads and writes. -/
def gapMarked (c : CellState) (w : BitVec 128) : CellState :=
  let a := readDesc c (fld w 111 95)
  let d := readDesc c (fld w 77 61)
  let px := List.range (a.height * a.extent)
  let lines := pixelLines a px ++ auxLines a px
  let f := touch c c.orders c.pc false 0 false lines
  let f' := mark f f.orders f.pc false 0 true false (f.since + gapStitches a - 1) lines
  mark f' f'.orders f'.pc false 0 false true (c.since + gapStitches a + 1) (linesOf d.base (packedBytes d.format a.k))

theorem onlySentinel_gapMarked (c : CellState) (w : BitVec 128) : OnlySentinel c (gapMarked c w) :=
  onlySentinel_trans (onlySentinel_trans (onlySentinel_touch ..) (onlySentinel_mark ..)) (onlySentinel_mark ..)

/-- The channel means as they leave: one row. -/
def gapTile (c : CellState) (w : BitVec 128) : TileOut :=
  let a := readDesc c (fld w 111 95)
  let rs := (List.range a.k).map (gapOut c a (readDesc c (fld w 77 61)))
  ⟨[rs.map (fun r => BitVec.ofNat 32 r.code)], false, false, 0, (rs.filter (·.clipped)).length, (rs.filter (·.nan)).length⟩

/-- The operation of a GAP read in cell c, in the marked cell f. -/
def gapOp (c f : CellState) (w : BitVec 128) : MatOp :=
  let a := readDesc c (fld w 111 95)
  { kind := .gap, idx := f.pc, order := f.orders, issue := f.since, b := gapStitches a, nt := 0, final := c.since + gapStitches a + 1
    entry := 0, len := 0, proEntry := 0, proLen := 0, chain := 0, first := false, post := none, src := a, dst := readDesc c (fld w 77 61)
    colTiles := 1, rowsTotal := 1, colsTotal := a.k, tiles := [gapTile c w] }

theorem startGap_eq (c : CellState) (w : BitVec 128) : startGap c w =
    ({ gapMarked c w with orders := (gapMarked c w).orders + 1, mats := (gapMarked c w).mats ++ [gapOp c (gapMarked c w) w]
                          lastLayer := some (readDesc c (fld w 77 61)).layer }, gapStitches (readDesc c (fld w 111 95))) := rfl

/-- Beside the sentinel's log, a GAP adds its operation and names its layer. -/
theorem startGap_begins (c : CellState) (w : BitVec 128) : ∃ d, startGap c w = (d, gapStitches (readDesc c (fld w 111 95))) ∧
    OpBegun c (gapOp c c w) d ∧ d.lastLayer = some (readDesc c (fld w 77 61)).layer := by
  obtain ⟨k, v, l, e, marked⟩ := onlySentinel_gapMarked c w
  refine ⟨_, startGap_eq c w, ?_⟩
  rw [marked]
  exact ⟨⟨rfl, rfl, rfl, rfl, rfl, rfl, rfl, rfl, rfl, rfl, rfl, rfl, rfl, rfl⟩, rfl⟩

theorem gapTile_rows (c : CellState) (w : BitVec 128) : (gapTile c w).rows =
    [(List.range (readDesc c (fld w 111 95)).k).map
      (fun ch => BitVec.ofNat 32 (gapOut c (readDesc c (fld w 111 95)) (readDesc c (fld w 77 61)) ch).code)] := by
  simp only [gapTile, List.map_map]
  rfl

theorem opGap_eq {u : State} {g : Nat} {c : CellState} (hc : u.cell g = c) (w : BitVec 128) :
    opGap u g w = issued (u.setCell g (startGap c w).1) g (startGap c w).2 := by
  subst hc
  rfl

/-! ### VRUN (spec/05 R117) -/

/-- Rows that a VRUN's operand names. -/
def vrunRows (d : Desc) : Nat := if d.height = 0 then d.extent else d.extent * d.height

/-- The cell with the marks of a VRUN's program. -/
def vrunMarked (c : CellState) (w : BitVec 128) : CellState :=
  let a := readDesc c (fld w 111 95)
  let d := readDesc c (fld w 77 61)
  let l := progLen c (fld w 60 51)
  if !c.sentOn.getLsbD 0 then c else (List.range (fld w 40 25)).foldl (fun f n =>
    markProg f ⟨f.orders, f.pc, 2, n, n % max 1 (ceilDiv d.k 64), n / max 1 (ceilDiv d.k 64), a, d, none, vrunRows d, d.k, 0, 0, [], [], false⟩
      (fld w 60 51) l (fun j => c.since + 1 + n * l + j)) c

theorem onlySentinel_vrunMarked (c : CellState) (w : BitVec 128) : OnlySentinel c (vrunMarked c w) :=
  onlySentinel_ite (onlySentinel_refl c) (onlySentinel_foldl (fun _ _ => onlySentinel_markProg ..) _ _)

/-- The operation of a VRUN read in cell c, in the marked cell f. -/
def vrunOp (c f : CellState) (w : BitVec 128) : MatOp :=
  let d := readDesc c (fld w 77 61)
  let l := progLen c (fld w 60 51)
  { kind := .vrun, idx := f.pc, order := f.orders, issue := c.since, b := l, nt := fld w 40 25, final := c.since + fld w 40 25 * l
    entry := fld w 60 51, len := l, proEntry := 0, proLen := 0, chain := 0, first := false, post := none, src := readDesc c (fld w 111 95), dst := d
    colTiles := max 1 (ceilDiv d.k 64), rowsTotal := vrunRows d, colsTotal := d.k, tiles := [] }

theorem startVrun_eq (c : CellState) (w : BitVec 128) : startVrun c w =
    ({ vrunMarked c w with orders := (vrunMarked c w).orders + 1, mats := (vrunMarked c w).mats ++ [vrunOp c (vrunMarked c w) w] },
      1 + fld w 40 25 * progLen c (fld w 60 51)) := rfl

/-- Beside the sentinel's log, a VRUN adds its operation. -/
theorem startVrun_begins (c : CellState) (w : BitVec 128) : ∃ d, startVrun c w = (d, 1 + fld w 40 25 * progLen c (fld w 60 51)) ∧
    OpBegun c (vrunOp c c w) d := by
  obtain ⟨k, v, l, e, marked⟩ := onlySentinel_vrunMarked c w
  refine ⟨_, startVrun_eq c w, ?_⟩
  rw [marked]
  exact ⟨rfl, rfl, rfl, rfl, rfl, rfl, rfl, rfl, rfl, rfl, rfl, rfl, rfl, rfl⟩

theorem opVrun_eq {u : State} {g : Nat} {c : CellState} (hc : u.cell g = c) (w : BitVec 128) :
    opVrun u g w = issued (u.setCell g (startVrun c w).1) g (startVrun c w).2 := by
  subst hc
  rfl

/-! ### VTHR (spec/05 R118) -/

/-- The argument block of a VTHR: 32 words. -/
def vthrArgs (c : CellState) (w : BitVec 128) : List (BitVec 32) :=
  (List.range 32).map (fun j => BitVec.ofNat 32 (rdLE (storeByte c) (fld w 111 95 * 32 + 4 * j) 4))

/-- Thread i of a VTHR as it starts. -/
def vthrThread (w : BitVec 128) (k bank : Nat) (arg : List (BitVec 32)) (i : Nat) : Thread :=
  { status := 1, pc := fld w 60 51, tbank := bank, regs := put [] (put [] [] 0 arg) 1 (List.replicate 32 (BitVec.ofNat 32 i)), preds := []
    sig := k, inc := fld w 80 73 }

theorem vthrThread_regs (w : BitVec 128) (k bank : Nat) (arg : List (BitVec 32)) (i : Nat) :
    lookup [] (vthrThread w k bank arg i).regs 1 = List.replicate 32 (BitVec.ofNat 32 i) ∧
    lookup [] (vthrThread w k bank arg i).regs 0 = arg := by
  simp only [vthrThread, lookup_put, Nat.zero_ne_one, if_true, if_false, and_self]

/-- The cell with the first n threads of a VTHR started. -/
def vthrStarted (c : CellState) (w : BitVec 128) (k : Nat) (arg : List (BitVec 32)) (n : Nat) : CellState :=
  (List.range n).foldl (fun c i => setThread c (fld w 43 38 + i) (vthrThread w k c.actT arg i)) c

theorem vthrStarted_only (c : CellState) (w : BitVec 128) (k : Nat) (arg : List (BitVec 32)) (n : Nat) :
    vthrStarted c w k arg n = { c with threads := (vthrStarted c w k arg n).threads } :=
  List.foldlRecOn (motive := fun d : CellState => d = { c with threads := d.threads }) _ _ rfl fun d hd i _ => by
    rw [setThread, hd]

theorem vthrStarted_succ (c : CellState) (w : BitVec 128) (k : Nat) (arg : List (BitVec 32)) (n : Nat) :
    vthrStarted c w k arg (n + 1) = setThread (vthrStarted c w k arg n) (fld w 43 38 + n) (vthrThread w k c.actT arg n) := by
  have bank : (vthrStarted c w k arg n).actT = c.actT := by rw [vthrStarted_only]
  rw [← bank, vthrStarted, List.range_succ, List.foldl_append]
  rfl

theorem vthrStarted_thread (c : CellState) (w : BitVec 128) (k : Nat) (arg : List (BitVec 32)) (n j : Nat) :
    lookup {} (vthrStarted c w k arg n).threads j =
      if fld w 43 38 ≤ j ∧ j < fld w 43 38 + n then vthrThread w k c.actT arg (j - fld w 43 38) else lookup {} c.threads j := by
  induction n with
  | zero => rw [if_neg (by omega)]; rfl
  | succ n ih =>
    rw [vthrStarted_succ, setThread, lookup_put, ih]
    by_cases e : j = fld w 43 38 + n
    · rw [if_pos e, if_pos (by omega), e, Nat.add_sub_cancel_left]
    · rw [if_neg e]
      exact if_congr (by omega) rfl rfl

section
variable {u : State} {g : Nat} {c : CellState} {w : BitVec 128} {k : Nat} (hc : u.cell g = c)
  (hk : signalOf c (fld w 94 81) (fld w 80 73) = some k)
include hc hk

theorem opVthr_starts (idle : ∀ i, fld w 43 38 ≤ i ∧ i < fld w 43 38 + fld w 50 44 → (lookup {} c.threads i).status = 0) :
    opVthr u g w = issued (u.setCell g (vthrStarted c w k (vthrArgs c w) (fld w 50 44))) g 1 := by
  subst hc
  have none : ¬ (List.range (fld w 50 44)).any (fun i => (lookup {} (u.cell g).threads (fld w 43 38 + i)).status != 0) = true := by
    simpa using fun i hi => idle (fld w 43 38 + i) (by omega)
  rw [opVthr, hk]
  exact if_neg none

theorem opVthr_waits (busy : ∃ i, (fld w 43 38 ≤ i ∧ i < fld w 43 38 + fld w 50 44) ∧ (lookup {} c.threads i).status ≠ 0) :
    opVthr u g w = holdIssue u g (.retry w 4) 0x10 := by
  subst hc
  obtain ⟨i, ⟨lo, hi⟩, on⟩ := busy
  have some_ : (List.range (fld w 50 44)).any (fun i => (lookup {} (u.cell g).threads (fld w 43 38 + i)).status != 0) = true :=
    List.any_eq_true.2 ⟨i - fld w 43 38, List.mem_range.2 (by omega), by rw [Nat.add_sub_cancel' lo]; exact bne_iff_ne.2 on⟩
  rw [opVthr, hk]
  exact if_pos some_

end

/-- Settles O13: GAP and VRUN are alone in flight after a stitch that the array takes no part in; VTHR starts its threads one by one. -/
theorem gapVrunAndThreads : Obligations.GapVrunAndThreads := by
  unfold Obligations.GapVrunAndThreads
  refine ⟨fun g w s hr => ⟨fun hw => ?gap, fun hw => ?vrun⟩,
    fun g w s k hr hw hk => ⟨fun idle => ?starts, fun ⟨i, mine, on⟩ => ?waits⟩⟩
  case gap =>
    have run := exec_ready (i := .gap g w) rfl hr hw
    obtain ⟨d, begins, begun, layer⟩ := startGap_begins (takenUp (s.cell g.val)) w
    rw [opGap_eq (c := takenUp (s.cell g.val)) (setCell_cell _ _ _), begins, setCell_setCell] at run
    have final : (s.cell g.val).since < (gapOp (takenUp (s.cell g.val)) (takenUp (s.cell g.val)) w).final := Nat.lt_succ_of_le (Nat.le_add_right _ _)
    refine completes_imp (completes_begun hr run begun (.inl rfl) rfl rfl fun _ => final)
      fun t ⟨stepped, nextPc, only, memories, loops, last, mats⟩ => ⟨stepped, nextPc, only, memories, loops, last.trans layer, ?_⟩
    exact ⟨_, gapTile (takenUp (s.cell g.val)) w, mats final, rfl, rfl, rfl, rfl, rfl, rfl, rfl, gapTile_rows _ _⟩
  case vrun =>
    have run := exec_ready (i := .vrun g w) rfl hr hw
    obtain ⟨d, begins, begun⟩ := startVrun_begins (takenUp (s.cell g.val)) w
    rw [opVrun_eq (c := takenUp (s.cell g.val)) (setCell_cell _ _ _), begins, setCell_setCell] at run
    refine completes_imp (completes_begun hr run begun (.inr rfl) rfl rfl nofun)
      fun t ⟨stepped, nextPc, only, memories, loops, _, mats⟩ => ⟨stepped, nextPc, only, memories, loops, fun some_ => ?_⟩
    exact ⟨_, mats (Nat.lt_add_of_pos_right some_), rfl, rfl, rfl, rfl, rfl, rfl, rfl⟩
  case starts =>
    have run := exec_ready (i := .vthr g w) rfl hr hw
    rw [opVthr_starts (c := takenUp (s.cell g.val)) (setCell_cell _ _ _) (signalOf_names hk) idle, setCell_setCell, vthrStarted_only] at run
    refine completes_imp (completes_issued run (ready_mats hr) ⟨rfl, rfl, rfl, rfl⟩) fun t ⟨stepped, only, ht⟩ => ?_
    have threads : (t.cell g.val).threads =
        (vthrStarted (takenUp (s.cell g.val)) w k (vthrArgs (takenUp (s.cell g.val)) w) (fld w 50 44)).threads := by rw [ht]; rfl
    refine ⟨stepped, ?_, ?_, only, fun i other => ?_, fun i mine => ?_⟩
    · rw [ht]; exact sameMemories_refl _
    · rw [ht]; rfl
    · rw [threads, vthrStarted_thread, if_neg other]; rfl
    · rw [threads, vthrStarted_thread, if_pos mine]
      exact ⟨rfl, rfl, rfl, rfl, rfl, vthrThread_regs _ _ _ _ _⟩
  case waits =>
    have run := exec_ready (i := .vthr g w) rfl hr hw
    rw [opVthr_waits (c := takenUp (s.cell g.val)) (setCell_cell _ _ _) (signalOf_names hk) ⟨i, mine, on⟩] at run
    exact completes_held run

end Sys2Proof.Machine

/-! SUPPORT. A stream slot that stops or asks for its GCMD image: what its buses keep, what it gives up, and which cause it sets (spec/07
R168, R169, R187, R188). -/

namespace Sys2Proof.Machine

open Sys2Proof.Safety

/-! ### Slots and buses lie apart -/

@[simp] theorem setBus_slot (s : State) (b n : Nat) (x : Bus) : (s.setBus b x).slot n = s.slot n := rfl
@[simp] theorem setSlot_bus (s : State) (n b : Nat) (x : Slot) : (s.setSlot n x).bus b = s.bus b := rfl

theorem OnlyCauses.bus {s t : State} (h : OnlyCauses s t) (b : Nat) : t.bus b = s.bus b := by rw [h.1]; rfl

/-- A change of the first n entries of a table reaches these and no others. -/
theorem lookup_mapKeys {α : Type} [DecidableEq α] (d : α) (t : Tab α) (n : Nat) (f : α → α) (k : Nat) :
    lookup d (mapKeys d t n f) k = if k < n then f (lookup d t k) else lookup d t k := by
  induction n with
  | zero => rfl
  | succ n ih =>
    have last : mapKeys d t (n + 1) f = put d (mapKeys d t n f) n (f (lookup d (mapKeys d t n f) n)) := by
      simp [mapKeys, List.range_succ]
    have kept : lookup d (mapKeys d t n f) n = lookup d t n := by
      unfold mapKeys
      refine List.foldlRecOn (motive := fun u => lookup d u n = lookup d t n) _ _ rfl fun u hu j hj => ?_
      rw [lookup_put_other _ _ _ (by have := List.mem_range.1 hj; omega), hu]
    rw [last, lookup_put, ih, kept]
    by_cases e : k = n
    · subst e; simp
    · simp only [e, if_false]
      exact if_congr (by omega) rfl rfl

/-- A slot that gives up its reads writes the buses alone. -/
theorem dropReads_only (s : State) (n : Nat) : ∃ t, dropReads s n = { s with streams := { s.streams with bus := t } } ∧
    ∀ b, b < 8 → lookup {} t b = { s.bus b with waiting := (s.bus b).waiting.filter (fun r => !isGcmdOf n r) } := by
  unfold dropReads State.bus
  exact ⟨_, rfl, fun b hb => by rw [lookup_mapKeys, if_pos hb]⟩

theorem dropReads_bus (s : State) (n : Nat) {b : Nat} (hb : b < 8) :
    (dropReads s n).bus b = { s.bus b with waiting := (s.bus b).waiting.filter (fun r => !isGcmdOf n r) } := by
  obtain ⟨t, e, h⟩ := dropReads_only s n
  rw [e]
  exact h b hb

theorem dropReads_slot (s : State) (n m : Nat) : (dropReads s n).slot m = s.slot m := by
  obtain ⟨t, e, -⟩ := dropReads_only s n
  rw [e]
  rfl

/-! ### A slot that stops (R187, R188) -/

theorem stopLeaf_inRegister {n : Nat} (h : n < 32) (reason : Nat) : (stopLeaf n reason).inRegister := by
  unfold stopLeaf
  split
  · exact Nat.lt_trans h (by decide)
  · split
    · exact Nat.lt_trans h (by decide)
    · exact (by decide : 0 < 64)

/-- What a slot keeps as it stops for a reason. -/
def stoppedFor (x : Slot) (reason : Nat) : Slot :=
  { x with st := 2, reason := reason, inFrame := false, dropFrame := false, lines := [], decoding := false, reading := false, reads := []
           timedOut := false, starting := false }

/-- The slot is STOPPED and its leaf set; its contexts and its Laster have not heard of it. -/
def stoppedState (s : State) (n reason : Nat) : State :=
  raise ((dropReads s n).setSlot n (stoppedFor ((dropReads s n).slot n) reason)) (stopLeaf n reason) (stopArg n reason) 0

theorem stopSlot_eq (s : State) (n reason : Nat) : let u := reviewBatches (stoppedState s n reason) n
    stopSlot s n reason = sendNotice u (slotGroup u n % 4) (streamSrc n) (.slotStopped n) := rfl

theorem stoppedState_only (s : State) (n reason : Nat) :
    OnlyCauses ((dropReads s n).setSlot n (stoppedFor (s.slot n) reason)) (stoppedState s n reason) := by
  rw [← dropReads_slot s n n]
  exact raise_onlyCauses _ _ _ _

theorem stoppedState_slot (s : State) (n reason : Nat) : (stoppedState s n reason).slot n = stoppedFor (s.slot n) reason :=
  ((stoppedState_only s n reason).slot n).trans (setSlot_slot _ _ _)

theorem stoppedState_slot_other (s : State) (n reason : Nat) {m : Nat} (h : m ≠ n) : (stoppedState s n reason).slot m = s.slot m :=
  ((stoppedState_only s n reason).slot m).trans ((setSlot_slot_other _ _ _ h).trans (dropReads_slot s n m))

theorem stoppedState_bus (s : State) (n reason b : Nat) : (stoppedState s n reason).bus b = (dropReads s n).bus b :=
  ((stoppedState_only s n reason).bus b).trans (setSlot_bus _ _ _ _)

theorem leafIsSet_stoppedState (s : State) {n : Nat} (h : n < 32) (reason : Nat) :
    leafIsSet (stoppedState s n reason).causes (stopLeaf n reason) = true := leafIsSet_raise _ (stopLeaf_inRegister h reason) _ _

/-- No context is bound to the slot, so none looks at its open batch. -/
theorem reviewBatches_unbound {s : State} {n : Nat} (h : boundCtxs s n = []) : reviewBatches s n = s := by
  unfold reviewBatches
  rw [h]
  rfl

theorem stopSlot_unbound {s : State} {n reason : Nat} (h : boundCtxs s n = []) :
    stopSlot s n reason = sendNotice (stoppedState s n reason) (slotGroup s n % 4) (streamSrc n) (.slotStopped n) := by
  have bound : boundCtxs (stoppedState s n reason) n = [] := by
    obtain ⟨t, e, -⟩ := dropReads_only s n
    rw [← h]
    unfold boundCtxs loadedCtxs
    rw [(stoppedState_only s n reason).ctxs, setSlot_ctxs, e]
  have group : slotGroup (stoppedState s n reason) n = slotGroup s n := by
    unfold slotGroup
    rw [stoppedState_slot]
    rfl
  rw [stopSlot_eq, reviewBatches_unbound bound]
  simp only [group]

/-! ### A read of a slot's memory that is asked for (R168, R169) -/

/-- The slot with one thing more that its reads are for. -/
def askedSlot (x : Slot) (why : Nat) : Slot :=
  if x.reads.contains why then x else { x with reading := true, reads := x.reads ++ [why] }

/-- The read of slot n joins the transfers of its bus, once for each thing it is for. -/
def ReadAsked (n why : Nat) (x : Slot) (s t : State) : Prop :=
  (∀ b, b ≠ slotBus x → t.bus b = s.bus b) ∧
  (x.reads.contains why = true → t.bus (slotBus x) = s.bus (slotBus x) ∧ (t.slot n).reads = x.reads) ∧
  (x.reads.contains why = false → t.bus (slotBus x) = { s.bus (slotBus x) with
      waiting := (s.bus (slotBus x)).waiting ++ [.gcmd n (gcmdAddress x) x.gcmdWidth] } ∧
    (t.slot n).reads = x.reads ++ [why] ∧ (t.slot n).reading = true)

/-- Nothing but slot n and the buses is written. -/
def OnlySlotAndBuses (n : Nat) (s t : State) : Prop :=
  t = { s with streams := { s.streams with slot := t.streams.slot, bus := t.streams.bus } } ∧ ∀ m, m ≠ n → t.slot m = s.slot m

theorem onlySlot_beforeBuses {n : Nat} {s t u : State} (a : OnlySlot n s t) (b : OnlySlotAndBuses n t u) : OnlySlotAndBuses n s u := by
  refine ⟨?_, fun m e => (b.2 m e).trans (a.2 m e)⟩
  rw [b.1, a.1]

theorem OnlySlotAndBuses.beforeSlot {n : Nat} {s t u : State} (a : OnlySlotAndBuses n s t) (b : OnlySlot n t u) : OnlySlotAndBuses n s u := by
  refine ⟨?_, fun m e => (b.2 m e).trans (a.2 m e)⟩
  rw [b.1, a.1]

theorem onlySlot_bus {n : Nat} {s t : State} (h : OnlySlot n s t) (b : Nat) : t.bus b = s.bus b := by rw [h.1]; rfl

theorem askGcmd_known {s : State} {n why : Nat} (h : (s.slot n).reads.contains why = true) : askGcmd s n why = s := if_pos h

theorem askGcmd_new {s : State} {n why : Nat} (h : (s.slot n).reads.contains why = false) : askGcmd s n why =
    (s.setSlot n { s.slot n with reading := true, reads := (s.slot n).reads ++ [why] }).setBus (slotBus (s.slot n))
      { s.bus (slotBus (s.slot n)) with waiting := (s.bus (slotBus (s.slot n))).waiting ++
          [.gcmd n (gcmdAddress (s.slot n)) (s.slot n).gcmdWidth] } := if_neg (by rw [h]; exact Bool.false_ne_true)

theorem askGcmd_only (s : State) (n why : Nat) : OnlySlotAndBuses n s (askGcmd s n why) := by
  cases h : (s.slot n).reads.contains why with
  | true => rw [askGcmd_known h]; exact ⟨rfl, fun _ _ => rfl⟩
  | false => rw [askGcmd_new h]; exact ⟨rfl, fun m e => setSlot_slot_other _ _ _ e⟩

theorem askGcmd_slot (s : State) (n why : Nat) : (askGcmd s n why).slot n = askedSlot (s.slot n) why := by
  unfold askedSlot
  cases h : (s.slot n).reads.contains why with
  | true => rw [askGcmd_known h]; rfl
  | false => rw [askGcmd_new h, setBus_slot, setSlot_slot]; rfl

theorem askGcmd_asks (s : State) (n why : Nat) : ReadAsked n why (s.slot n) s (askGcmd s n why) := by
  unfold ReadAsked
  rw [askGcmd_slot]
  unfold askedSlot
  cases h : (s.slot n).reads.contains why with
  | true =>
    rw [askGcmd_known h]
    exact ⟨fun _ _ => rfl, fun _ => ⟨rfl, rfl⟩, fun e => absurd e (by decide)⟩
  | false =>
    rw [askGcmd_new h]
    exact ⟨fun b e => setBus_bus_other _ _ _ e, fun e => absurd e (by decide), fun _ => ⟨setBus_bus _ _ _, rfl, rfl⟩⟩

/-- Everything but what its reads are for stands in the slot as before. -/
theorem askedSlot_keeps (x : Slot) (why : Nat) :
    askedSlot x why = { x with reading := (askedSlot x why).reading, reads := (askedSlot x why).reads } := by
  unfold askedSlot
  split <;> rfl

/-- What comes after the asking leaves the buses and what the slot reads for. -/
theorem ReadAsked.before {n why : Nat} {x : Slot} {s t u : State} (h : ReadAsked n why x s t) (hb : ∀ b, u.bus b = t.bus b)
    (hr : (u.slot n).reads = (t.slot n).reads) (hg : (u.slot n).reading = (t.slot n).reading) : ReadAsked n why x s u := by
  unfold ReadAsked at *
  simpa only [hb, hr, hg] using h

/-! ### A shadow that takes effect (R171, R193) -/

theorem applyShadow_none {s : State} {n : Nat} (h : ∀ d, (s.slot n).shadow ≠ some (d, true)) : applyShadow s n = s := by
  rcases e : (s.slot n).shadow with _ | ⟨d, _ | _⟩
  · simp [applyShadow, e]
  · simp [applyShadow, e]
  · exact absurd e (h d)

theorem applyShadow_ready_slot {s : State} {n : Nat} {d : Mem} (h : (s.slot n).shadow = some (d, true)) :
    (applyShadow s n).slot n = shadowApplied (s.slot n) d := ((applyShadow_ready h).slot n).trans (setSlot_slot _ _ _)

/-- A shadow takes nothing from the receiver and from the reads of a slot. -/
theorem applyShadow_keeps (s : State) (n : Nat) : let x := s.slot n
    let y := (applyShadow s n).slot n
    y.timedOut = x.timedOut ∧ y.dropped = x.dropped ∧ y.seenAt = x.seenAt ∧ y.reads = x.reads ∧ y.reading = x.reading := by
  by_cases h : ∃ d, (s.slot n).shadow = some (d, true)
  · obtain ⟨d, hd⟩ := h
    rw [applyShadow_ready_slot hd]
    exact ⟨rfl, rfl, rfl, rfl, rfl⟩
  · rw [applyShadow_none (not_exists.1 h)]
    exact ⟨rfl, rfl, rfl, rfl, rfl⟩

/-- The image read becomes useless under the new descriptor: CAL_HOST_ONLY. -/
theorem applyShadow_raises {s : State} {n : Nat} {d : Mem} (h : (s.slot n).shadow = some (d, true)) (hx : (s.slot n).gcmdStatus < 3)
    (hd : 3 ≤ statusUnder (s.slot n) d) : leafIsSet (applyShadow s n).causes (.slot n 1) = true := by
  have worse : 3 ≤ statusUnder (s.slot n) d ∧ (s.slot n).gcmdStatus < 3 := ⟨hd, hx⟩
  unfold applyShadow
  simp only [h, worse, and_self, if_true]
  exact leafIsSet_raise _ (l := .slot n 1) (by decide : 1 < 64) _ _

theorem applyShadow_quiet {s : State} {n : Nat} {d : Mem} (h : (s.slot n).shadow = some (d, true))
    (hd : statusUnder (s.slot n) d < 3 ∨ 3 ≤ (s.slot n).gcmdStatus) : (applyShadow s n).causes = s.causes := by
  have same : ¬ (3 ≤ statusUnder (s.slot n) d ∧ (s.slot n).gcmdStatus < 3) := by omega
  unfold applyShadow
  simp only [h, same, if_false]
  rfl

theorem applyShadow_only (s : State) (n : Nat) : OnlySlot n s { applyShadow s n with causes := s.causes } := by
  by_cases h : ∃ d, (s.slot n).shadow = some (d, true)
  · obtain ⟨d, hd⟩ := h
    exact onlySlot_onlyCauses (onlySlot_setSlot s n _) (applyShadow_ready hd)
  · rw [applyShadow_none (not_exists.1 h)]
    exact onlySlot_refl n s

end Sys2Proof.Machine

/-! SUPPORT. Camera frames: what each packet of a virtual channel does to the slot that it feeds, the frame that the image
pipeline takes, and frames that stay away (spec/07 R164, R166, R187, R188, R190, R193). -/

namespace Sys2Proof.Machine

open Sys2Proof.Safety

section
variable {s : State} {n p vc : Nat} {act : State → Nat → State}

theorem onSlot_unfed (h : slotOf s p vc = none) : onSlot s p vc act = s := by simp [onSlot, h]

theorem onSlot_fed (h : slotOf s p vc = some n) : onSlot s p vc act = act s n := by simp [onSlot, h]

end

/-! ### Frame Start (R166, R188, R190, R193) -/

/-- The slot has seen a Frame Start outside a frame; one that timed out reads its memory again. -/
def frameSeen (s : State) (n : Nat) : State :=
  let u := s.setSlot n { s.slot n with seenAt := s.now, waiting := false }
  if (s.slot n).timedOut then askGcmd u n 2 else u

/-- A frame begins; it is dropped where frames are still being waited for or the frame before it is not taken. -/
def openFrame (x : Slot) : Slot :=
  if x.timedOut || x.buffered.isSome then { dropOne x with inFrame := true, dropFrame := true, lines := [] }
  else { x with inFrame := true, dropFrame := false, lines := [] }

/-- A frame begins under the shadow that was ready. -/
def frameOpened (u : State) (n : Nat) : State := (applyShadow u n).setSlot n (openFrame ((applyShadow u n).slot n))

theorem openFrame_taken {x : Slot} (ht : x.timedOut = false) (hb : x.buffered = none) :
    openFrame x = { x with inFrame := true, dropFrame := false, lines := [] } := by simp [openFrame, ht, hb]

theorem openFrame_dropped {x : Slot} (h : x.timedOut = true ∨ x.buffered ≠ none) :
    openFrame x = { dropOne x with inFrame := true, dropFrame := true, lines := [] } :=
  if_pos (by simpa [Option.isSome_iff_ne_none] using h)

/-- Whether a frame is dropped or not, the slot is inside it and keeps what its descriptor gave it. -/
theorem openFrame_keeps (x : Slot) : (openFrame x).inFrame = true ∧ (openFrame x).desc = x.desc ∧ (openFrame x).tabs = x.tabs ∧
    (openFrame x).shadow = x.shadow ∧ (openFrame x).gcmdStatus = x.gcmdStatus := by
  unfold openFrame
  split <;> exact ⟨rfl, rfl, rfl, rfl, rfl⟩

theorem frameStart_stopped {s : State} {n : Nat} (h : (s.slot n).st = 2) : frameStart s n = s.setSlot n (dropOne (s.slot n)) := if_pos h

theorem frameStart_inside {s : State} {n : Nat} (h : (s.slot n).st = 1) (hf : (s.slot n).inFrame = true) (hw : (s.slot n).waiting = false) :
    frameStart s n = stopSlot s n rCsiFrame := by simp [frameStart, h, hf, hw]

theorem frameStart_outside {s : State} {n : Nat} (h : (s.slot n).st = 1) (hf : (s.slot n).inFrame = false ∨ (s.slot n).waiting = true) :
    frameStart s n = frameOpened (frameSeen s n) n := by
  unfold frameStart
  simp only
  rw [if_neg (by omega), if_neg (by rcases hf with hf | hf <;> simp [hf])]
  exact (apply_ite (State.setSlot _ n) _ _ _).symm

theorem frameSeen_inTime {s : State} {n : Nat} (h : (s.slot n).timedOut = false) :
    frameSeen s n = s.setSlot n { s.slot n with seenAt := s.now, waiting := false } := by simp [frameSeen, h]

theorem frameSeen_returned {s : State} {n : Nat} (h : (s.slot n).timedOut = true) :
    frameSeen s n = askGcmd (s.setSlot n { s.slot n with seenAt := s.now, waiting := false }) n 2 := by simp [frameSeen, h]

theorem frameOpened_only (u : State) (n : Nat) : OnlySlot n u { frameOpened u n with causes := u.causes } :=
  onlySlot_besideCauses (applyShadow_only u n) (onlySlot_setSlot _ _ _)

theorem frameOpened_slot (u : State) (n : Nat) : (frameOpened u n).slot n = openFrame ((applyShadow u n).slot n) := setSlot_slot _ _ _

/-- A frame of a slot that sees its frames, with no shadow ready: the frame is taken, or dropped while the one before it waits. -/
theorem frameStart_begins {s : State} {n : Nat} (h : (s.slot n).st = 1) (hf : (s.slot n).inFrame = false ∨ (s.slot n).waiting = true)
    (ht : (s.slot n).timedOut = false) (hd : ∀ d, (s.slot n).shadow ≠ some (d, true)) :
    frameStart s n = (frameSeen s n).setSlot n (openFrame { s.slot n with seenAt := s.now, waiting := false }) := by
  have seen : (frameSeen s n).slot n = { s.slot n with seenAt := s.now, waiting := false } := by
    rw [frameSeen_inTime ht]
    exact setSlot_slot _ _ _
  have unchanged : applyShadow (frameSeen s n) n = frameSeen s n := applyShadow_none (by rw [seen]; exact hd)
  rw [frameStart_outside h hf]
  unfold frameOpened
  rw [unchanged, seen]

/-- A frame of a slot whose shadow is ready runs under it (R193). -/
theorem frameStart_shadow {s : State} {n : Nat} {d : Mem} (h : (s.slot n).st = 1)
    (hf : (s.slot n).inFrame = false ∨ (s.slot n).waiting = true) (ht : (s.slot n).timedOut = false)
    (hd : (s.slot n).shadow = some (d, true)) : let x := s.slot n
    let t := frameStart s n
    OnlySlot n s { t with causes := s.causes } ∧ (t.slot n).desc = d ∧ (t.slot n).tabs = x.shadowTabs ∧ (t.slot n).shadow = none ∧
    (t.slot n).inFrame = true ∧ (t.slot n).gcmdStatus = statusUnder x d ∧
    (statusUnder x d < 3 ∨ 3 ≤ x.gcmdStatus → t.causes = s.causes) ∧
    (x.gcmdStatus < 3 → 3 ≤ statusUnder x d → leafIsSet t.causes (.slot n 1) = true) := by
  have seen : (frameSeen s n).slot n = { s.slot n with seenAt := s.now, waiting := false } := by
    rw [frameSeen_inTime ht]
    exact setSlot_slot _ _ _
  have ready : ((frameSeen s n).slot n).shadow = some (d, true) := by rw [seen]; exact hd
  have causes : (frameSeen s n).causes = s.causes := by rw [frameSeen_inTime ht]; rfl
  have first : OnlySlot n s (frameSeen s n) := by rw [frameSeen_inTime ht]; exact onlySlot_setSlot _ _ _
  obtain ⟨inside, desc, tabs, shadow, status⟩ := openFrame_keeps ((applyShadow (frameSeen s n) n).slot n)
  rw [applyShadow_ready_slot ready, seen] at inside desc tabs shadow status
  simp only
  rw [frameStart_outside h hf, frameOpened_slot, applyShadow_ready_slot ready, seen]
  refine ⟨?_, desc, tabs, shadow, inside, status, fun hq => ?_, fun hx hs => ?_⟩
  · have opened := frameOpened_only (frameSeen s n) n
    rw [causes] at opened
    exact onlySlot_trans first opened
  · exact (applyShadow_quiet ready (by rw [seen]; exact hq)).trans causes
  · exact applyShadow_raises ready (by rw [seen]; exact hx) (by rw [seen]; exact hs)

/-- A slot that still waits for its frames drops the one that begins, and keeps what it asked for. -/
theorem frameOpened_late {u : State} {n : Nat} (h : (u.slot n).timedOut = true) : let x := u.slot n
    let y := (frameOpened u n).slot n
    y.dropFrame = true ∧ y.dropped = satAdd 32 x.dropped 1 ∧ y.seenAt = x.seenAt ∧ y.timedOut = true ∧ y.reads = x.reads ∧
    y.reading = x.reading ∧ ∀ d, x.shadow = some (d, true) → y.desc = d ∧ y.gcmdStatus = statusUnder x d := by
  obtain ⟨late, dropped, seenAt, reads, reading⟩ := applyShadow_keeps u n
  simp only
  rw [frameOpened_slot, openFrame_dropped (.inl (late.trans h))]
  refine ⟨rfl, congrArg (satAdd 32 · 1) dropped, seenAt, late.trans h, reads, reading, fun d hd => ?_⟩
  rw [applyShadow_ready_slot hd]
  exact ⟨rfl, rfl⟩

/-- The slot and its bus once a frame has returned after a timeout. -/
theorem frameSeen_asks {s : State} {n : Nat} (h : (s.slot n).timedOut = true) :
    OnlySlotAndBuses n s (frameSeen s n) ∧ ReadAsked n 2 (s.slot n) s (frameSeen s n) ∧
    (frameSeen s n).slot n = askedSlot { s.slot n with seenAt := s.now, waiting := false } 2 := by
  have asks := askGcmd_asks (s.setSlot n { s.slot n with seenAt := s.now, waiting := false }) n 2
  have slot := askGcmd_slot (s.setSlot n { s.slot n with seenAt := s.now, waiting := false }) n 2
  rw [setSlot_slot] at asks slot
  rw [frameSeen_returned h]
  exact ⟨onlySlot_beforeBuses (onlySlot_setSlot s n _) (askGcmd_only _ n 2), asks, slot⟩

/-- A frame that returns after a timeout: it is dropped, and the slot's memory is read again before any is taken (R190). -/
theorem frameStart_returned {s : State} {n : Nat} (h : (s.slot n).st = 1) (hf : (s.slot n).inFrame = false ∨ (s.slot n).waiting = true)
    (ht : (s.slot n).timedOut = true) : let x := s.slot n
    let t := frameStart s n
    OnlySlotAndBuses n s { t with causes := s.causes } ∧ ReadAsked n 2 x s t ∧ (t.slot n).dropFrame = true ∧
    (t.slot n).dropped = satAdd 32 x.dropped 1 ∧ (t.slot n).seenAt = s.now ∧ (t.slot n).timedOut = true ∧
    ∀ d, x.shadow = some (d, true) → (t.slot n).desc = d ∧ (t.slot n).gcmdStatus = statusUnder x d := by
  obtain ⟨only, asks, slot⟩ := frameSeen_asks ht
  have kept := slot.trans (askedSlot_keeps _ _)
  have opened := frameOpened_only (frameSeen s n) n
  have causes : (frameSeen s n).causes = s.causes := by rw [only.1]
  have late : ((frameSeen s n).slot n).timedOut = true := by rw [kept]; exact ht
  obtain ⟨dropFrame, dropped, seenAt, timedOut, reads, reading, shadow⟩ := frameOpened_late late
  simp only
  rw [frameStart_outside h hf]
  refine ⟨?_, asks.before (fun b => onlySlot_bus opened b) reads reading, dropFrame, ?_, ?_, timedOut, fun d hd => ?_⟩
  · rw [causes] at opened
    exact only.beforeSlot opened
  · rw [dropped, kept]
  · rw [seenAt, kept]
  · obtain ⟨desc, status⟩ := shadow d (by rw [kept]; exact hd)
    rw [desc, status, kept]
    exact ⟨rfl, rfl⟩

/-! ### Long packets (R164, R187) -/

/-- The slot takes in the packets of its frame. -/
def Listens (k : LongPacket) (x : Slot) : Prop := k.vcx = false ∧ x.st = 1 ∧ x.waiting = false ∧ x.dropFrame = false

section
variable {k : LongPacket} {s : State} {n : Nat}

theorem longPacket_unheard (h : ¬ Listens k (s.slot n)) : longPacket k s n = s := by
  refine if_pos ?_
  simp only [Listens, ← Bool.not_eq_true] at h
  simp only [Bool.or_eq_true, bne_iff_ne]
  tauto

/-- A packet that the slot takes in goes through the checks of R187. -/
theorem longPacket_heard (h : Listens k (s.slot n)) : longPacket k s n =
    (if k.ecc = 2 then stopSlot s n rCsiEcc
     else if k.dataType.toNat ≠ dType (s.slot n).desc then stopSlot s n rCsiType
     else if !k.crcOk then stopSlot s n rCsiCrc
     else if k.pixels.length ≠ dWidth (s.slot n).desc then stopSlot s n rCsiShape
     else if (s.slot n).inFrame then s.setSlot n { s.slot n with lines := (s.slot n).lines ++ [k.pixels] } else s) := by
  obtain ⟨hv, hr, hw, hd⟩ := h
  exact if_neg (by simp [hv, hr, hw, hd])

variable (h : Listens k (s.slot n))
include h

theorem longPacket_ecc (he : k.ecc = 2) : longPacket k s n = stopSlot s n rCsiEcc := by
  rw [longPacket_heard h, if_pos he]

variable (he : k.ecc ≠ 2)
include he

theorem longPacket_type (ht : k.dataType.toNat ≠ dType (s.slot n).desc) : longPacket k s n = stopSlot s n rCsiType := by
  rw [longPacket_heard h, if_neg he, if_pos ht]

variable (ht : k.dataType.toNat = dType (s.slot n).desc)
include ht

theorem longPacket_crc (hc : k.crcOk = false) : longPacket k s n = stopSlot s n rCsiCrc := by
  rw [longPacket_heard h, if_neg he, if_neg (not_not.2 ht), if_pos (by simp [hc])]

variable (hc : k.crcOk = true)
include hc

theorem longPacket_shape (hp : k.pixels.length ≠ dWidth (s.slot n).desc) : longPacket k s n = stopSlot s n rCsiShape := by
  rw [longPacket_heard h, if_neg he, if_neg (not_not.2 ht), if_neg (by simp [hc]), if_pos hp]

theorem longPacket_line (hp : k.pixels.length = dWidth (s.slot n).desc) (hf : (s.slot n).inFrame = true) :
    longPacket k s n = s.setSlot n { s.slot n with lines := (s.slot n).lines ++ [k.pixels] } := by
  rw [longPacket_heard h, if_neg he, if_neg (not_not.2 ht), if_neg (by simp [hc]), if_neg (not_not.2 hp), if_pos hf]

end

/-! ### Frame End (R166) -/

section
variable {s : State} {n : Nat}

theorem frameEnd_unheard (h : (s.slot n).st ≠ 1 ∨ (s.slot n).waiting = true) : frameEnd s n = s := if_pos h

variable (h : (s.slot n).st = 1) (hw : (s.slot n).waiting = false)
include h hw

theorem frameEnd_outside (hf : (s.slot n).inFrame = false) : frameEnd s n = stopSlot s n rCsiFrame := by
  simp [frameEnd, h, hw, hf]

variable (hf : (s.slot n).inFrame = true)
include hf

theorem frameEnd_dropped (hd : (s.slot n).dropFrame = true) :
    frameEnd s n = s.setSlot n { s.slot n with inFrame := false, dropFrame := false, lines := [] } := by
  simp [frameEnd, h, hw, hf, hd]

theorem frameEnd_short (hd : (s.slot n).dropFrame = false) (hl : (s.slot n).lines.length ≠ dHeight (s.slot n).desc) :
    frameEnd s n = stopSlot s n rCsiShape := by
  simp [frameEnd, h, hw, hf, hd, hl]

theorem frameEnd_accepted (hd : (s.slot n).dropFrame = false) (hl : (s.slot n).lines.length = dHeight (s.slot n).desc) :
    frameEnd s n = s.setSlot n { s.slot n with
      inFrame := false, lines := [], accepted := satAdd 32 (s.slot n).accepted 1
      buffered := some ⟨(s.slot n).lines, s.now, (s.slot n).desc, (s.slot n).tabs⟩ } := by
  simp [frameEnd, h, hw, hf, hd, hl]

end

/-! ### Frames that are taken, and frames that stay away (R166, R174, R190) -/

theorem takeFrame_none {s : State} {n : Nat} (h : (s.slot n).buffered = none) : takeFrame s n = s := by simp [takeFrame, h]

/-- The slot whose buffered frame has gone into the pipeline, with the filters' new states (R174). -/
def frameGone (s : State) (n : Nat) (f : Frame) : Slot :=
  let x := s.slot n
  let t := temporal f.desc x.tf (cameraImage f s.free)
  let e := exposure f.desc x.smooth t.1 f.tInput s.free
  { x with
    buffered := none
    tf := if dFlag f.desc 2 then some t.1.px else none
    smooth := if dFlag f.desc 3 then some e.2 else none
    expo := if dFlag f.desc 3 then e.1 else x.expo }

theorem takeFrame_some {s : State} {n : Nat} {f : Frame} (h : (s.slot n).buffered = some f) :
    let m := temporal f.desc (s.slot n).tf (cameraImage f s.free)
    takeFrame s n = (clickFrame (s.setSlot n (frameGone s n f)) n f.desc f.tabs m.1 f.tInput m.2).draw := by
  unfold takeFrame
  simp only
  rw [h]
  rfl

/-- Four frame periods have passed since a Frame Start or the start of the slot. -/
def FrameDue (s : State) (x : Slot) : Prop :=
  x.st = 1 ∧ dSource x.desc = 1 ∧ x.timedOut = false ∧ x.seenAt + ceilDiv 64000000000 (dRate x.desc) ≤ s.now

theorem frameTimeout_cond (s : State) (n : Nat) : FrameDue s (s.slot n) ↔ ¬ ((s.slot n).st ≠ 1 ∨ dSource (s.slot n).desc ≠ 1 ∨
    (s.slot n).timedOut = true ∨ s.now < (s.slot n).seenAt + ceilDiv 64000000000 (dRate (s.slot n).desc)) := by
  simp only [FrameDue, not_or, not_not, not_lt, Bool.not_eq_true]

theorem frameTimeout_early {s : State} {n : Nat} (h : ¬ FrameDue s (s.slot n)) : frameTimeout s n = s :=
  if_pos (not_not.1 ((frameTimeout_cond s n).not.1 h))

theorem frameTimeout_due {s : State} {n : Nat} (h : FrameDue s (s.slot n)) : frameTimeout s n =
    raise (s.setSlot n { s.slot n with timedOut := true, timeouts := satAdd 32 (s.slot n).timeouts 1 }) (.slot n 2) n 0 :=
  if_neg ((frameTimeout_cond s n).1 h)

/-- A slot whose frames stay away counts it and raises its cause, and nothing else is written. -/
theorem frameTimeout_leaves {s : State} {n : Nat} (h : FrameDue s (s.slot n)) : let x := s.slot n
    let t := frameTimeout s n
    leafIsSet t.causes (.slot n 2) = true ∧ t.slot n = { x with timedOut := true, timeouts := satAdd 32 x.timeouts 1 } ∧
    (∀ m, m ≠ n → t.slot m = s.slot m) ∧ t = { s with streams := t.streams, causes := t.causes } := by
  have only := raise_onlyCauses (s.setSlot n { s.slot n with timedOut := true, timeouts := satAdd 32 (s.slot n).timeouts 1 }) (.slot n 2) n 0
  simp only
  rw [frameTimeout_due h]
  refine ⟨leafIsSet_raise _ (l := .slot n 2) (by decide : 2 < 64) _ _, (only.slot n).trans (setSlot_slot _ _ _),
    fun m e => (only.slot m).trans (setSlot_slot_other _ _ _ e), ?_⟩
  rw [only.1]
  rfl

/-! ### The statement -/

/-- Settles O30: a packet is one branch of its check, and a stop is told of by its parts. -/
theorem cameraFramesAndStops : Obligations.CameraFramesAndStops := by
  unfold Obligations.CameraFramesAndStops
  refine ⟨⟨fun p vc k s => ⟨rfl, rfl, fun h => ⟨?unfedStart, ?unfedPacket, ?unfedEnd⟩⟩, fun p vc k s n h => ?fed, ?noFrame, ?taken, ?timeout⟩, ?stop⟩
  case unfedStart => exact congrArg Host.Outcome.next (onSlot_unfed h)
  case unfedPacket => exact congrArg Host.Outcome.next (onSlot_unfed h)
  case unfedEnd => exact congrArg Host.Outcome.next (onSlot_unfed h)
  case fed =>
    have starts {t} (e : frameStart s n = t) : exec (.frameStart p vc) s = .next t := congrArg Host.Outcome.next ((onSlot_fed h).trans e)
    have packet {t} (e : longPacket k s n = t) : exec (.longPacket p vc k) s = .next t := congrArg Host.Outcome.next ((onSlot_fed h).trans e)
    have ends {t} (e : frameEnd s n = t) : exec (.frameEnd p vc) s = .next t := congrArg Host.Outcome.next ((onSlot_fed h).trans e)
    refine ⟨?dropped, ?inside, ?begins, ?returned, ?shadow, fun ho => packet (longPacket_unheard ho), fun ho he => packet (longPacket_ecc ho he),
      fun ho he ht => packet (longPacket_type ho he ht), fun ho he ht hc => packet (longPacket_crc ho he ht hc),
      fun ho he ht hc hp => packet (longPacket_shape ho he ht hc hp), ?line, fun hx => ends (frameEnd_unheard hx),
      fun hx hw hf => ends (frameEnd_outside hx hw hf), fun hx hw hf hd hl => ends (frameEnd_short hx hw hf hd hl), ?endDropped, ?accepted⟩
    case dropped => exact fun hx => ⟨_, starts (frameStart_stopped hx), onlySlot_setSlot _ _ _, setSlot_slot _ _ _⟩
    case inside => exact fun hx hf hw => starts (frameStart_inside hx hf hw)
    case begins =>
      intro hx hf ht hd
      have seen : OnlySlot n s (frameSeen s n) := by rw [frameSeen_inTime ht]; exact onlySlot_setSlot _ _ _
      exact ⟨_, starts (frameStart_begins hx hf ht hd), onlySlot_trans seen (onlySlot_setSlot _ _ _),
        fun hb => (setSlot_slot _ _ _).trans (openFrame_taken ht hb), fun hb => (setSlot_slot _ _ _).trans (openFrame_dropped (.inr hb))⟩
    case returned =>
      intro hx hf ht
      obtain ⟨⟨only, others⟩, ⟨buses, known, new⟩, dropFrame, dropped, seenAt, timedOut, shadow⟩ := frameStart_returned hx hf ht
      refine ⟨_, starts rfl, ?_, others, buses, known, new, dropFrame, dropped, seenAt, timedOut, shadow⟩
      exact congrArg (fun t : State => { t with causes := (frameStart s n).causes }) only
    case shadow => exact fun d hx hf ht hd => ⟨_, starts rfl, frameStart_shadow hx hf ht hd⟩
    case line =>
      exact fun ho he ht hc hp hf => ⟨_, packet (longPacket_line ho he ht hc hp hf), onlySlot_setSlot _ _ _, setSlot_slot _ _ _⟩
    case endDropped => exact fun hx hw hf hd => ⟨_, ends (frameEnd_dropped hx hw hf hd), onlySlot_setSlot _ _ _, setSlot_slot _ _ _⟩
    case accepted => exact fun hx hw hf hd hl => ⟨_, ends (frameEnd_accepted hx hw hf hd hl), onlySlot_setSlot _ _ _, setSlot_slot _ _ _⟩
  case noFrame => exact fun n s h => congrArg Host.Outcome.next (takeFrame_none h)
  case taken =>
    refine fun n s f h => ⟨s.setSlot n.val (frameGone s n.val f), congrArg Host.Outcome.next (takeFrame_some h), onlySlot_setSlot _ _ _, ?_⟩
    rw [setSlot_slot]
    exact ⟨rfl, rfl⟩
  case timeout => exact fun n s => ⟨fun h => congrArg Host.Outcome.next (frameTimeout_early h), fun h => ⟨_, rfl, frameTimeout_leaves h⟩⟩
  case stop =>
    intro n reason s hn hb
    have only := stoppedState_only s n reason
    refine ⟨stoppedState s n reason, stopSlot_unbound hb, ?_⟩
    rw [stoppedState_slot]
    refine ⟨rfl, rfl, rfl, rfl, rfl, rfl, fun b h => ?_, leafIsSet_stoppedState s hn reason,
      fun m e => stoppedState_slot_other s n reason e, ?_, ?_, ?_⟩
    · rw [stoppedState_bus, dropReads_bus s n h]
    all_goals obtain ⟨t, e, -⟩ := dropReads_only s n
    · rw [only.ctxs, setSlot_ctxs, e]
    · rw [only.cells, setSlot_cells, e]
    · rw [only.lasters, setSlot_lasters, e]

end Sys2Proof.Machine

/-! SUPPORT. The commands of a stream slot: START with its checks, STOP, RESUME and REREAD_CAL (spec/07 R161, R162, R171, R172, R189). -/

namespace Sys2Proof.Machine

open Sys2Proof.Safety

/-! ### Which command a write is (R162) -/

theorem slotCommand_asleep {s : State} (h : runtimeState s = false) (n v : Nat) : slotCommand s n v = answer s wrongState :=
  if_pos (by simp [h])

section
variable {s : State} (h : runtimeState s = true) (n : Nat)
include h

theorem slotCommand_start : slotCommand s n 1 = startSlot s n := if_neg (by simp [h])
theorem slotCommand_stop : slotCommand s n 2 = stopCommand s n := if_neg (by simp [h])
theorem slotCommand_resume : slotCommand s n 3 = resumeSlot s n := if_neg (by simp [h])
theorem slotCommand_reread : slotCommand s n 4 = rereadSlot s n := if_neg (by simp [h])

end

@[simp] theorem answer_slot (s : State) (c n : Nat) : (answer s c).slot n = s.slot n := rfl

/-- A command that fails a check leaves its reason in the slot and answers REFUSED. -/
def SlotRefused (s : State) (n reason : Nat) (t : State) : Prop :=
  t.slot n = { s.slot n with reason := reason } ∧ OnlySlot n s { t with dev := s.dev } ∧ t.dev = { s.dev with answer := 0x08000020 }

theorem refuseSlot_refused (s : State) (n reason : Nat) : SlotRefused s n reason (refuseSlot s n reason) := by
  obtain ⟨only, dev⟩ := onlySlot_answer (onlySlot_setSlot s n { s.slot n with reason := reason }) refusedCode
  exact ⟨setSlot_slot _ _ _, only, dev⟩

/-! ### The checks of START (R161) -/

/-- The slot with the pipeline, the decoder and the pages that its START takes. -/
def claimed (x : Slot) (i : Nat) (k : Option Nat) (p : List Nat) : Slot :=
  { x with starting := true, instance_ := some i, decoder := k, page := p, pages := if dSource x.desc == 1 then 0 else dStage x.desc }

theorem startSlot_notIdle {s : State} {n : Nat} (h : (s.slot n).st ≠ 0 ∨ (s.slot n).starting = true) :
    startSlot s n = answer s wrongState := if_pos h

section
variable {s : State} {n : Nat} (h0 : (s.slot n).st = 0) (hs : (s.slot n).starting = false)
include h0 hs

theorem startSlot_idle : startSlot s n =
    (if !streamDescOk s n (s.slot n).desc then refuseSlot s n rDescInvalid
     else if portBusy s n (s.slot n).desc then refuseSlot s n rPortBusy
     else match capacity s n (s.slot n).desc with
       | none => refuseSlot s n rNoCapacity
       | some (i, k, p) =>
         if !(dSource (s.slot n).desc == 1) && needsCal (s.slot n).desc && (s.slot n).hostCal.isEmpty then refuseSlot s n rNoCal
         else if dSource (s.slot n).desc == 1 then askGcmd (s.setSlot n (claimed (s.slot n) i k p)) n 0
         else startTables (s.setSlot n (claimed (s.slot n) i k p)) n) :=
  if_neg (by simp [h0, hs])

theorem startSlot_invalid (hd : streamDescOk s n (s.slot n).desc = false) : startSlot s n = refuseSlot s n rDescInvalid := by
  rw [startSlot_idle h0 hs, if_pos (by simp [hd])]

variable (hd : streamDescOk s n (s.slot n).desc = true)
include hd

theorem startSlot_portBusy (hp : portBusy s n (s.slot n).desc = true) : startSlot s n = refuseSlot s n rPortBusy := by
  rw [startSlot_idle h0 hs, if_neg (by simp [hd]), if_pos hp]

variable (hp : portBusy s n (s.slot n).desc = false)
include hp

theorem startSlot_noCapacity (hc : capacity s n (s.slot n).desc = none) : startSlot s n = refuseSlot s n rNoCapacity := by
  rw [startSlot_idle h0 hs, if_neg (by simp [hd]), if_neg (by simp [hp]), hc]

variable {i : Nat} {k : Option Nat} {p : List Nat} (hc : capacity s n (s.slot n).desc = some (i, k, p))
include hc

theorem startSlot_camera (hcam : dSource (s.slot n).desc = 1) :
    startSlot s n = askGcmd (s.setSlot n (claimed (s.slot n) i k p)) n 0 := by
  rw [startSlot_idle h0 hs, if_neg (by simp [hd]), if_neg (by simp [hp]), hc]
  simp [hcam]

variable (hhost : dSource (s.slot n).desc ≠ 1)
include hhost

theorem startSlot_uncalibrated (hn : needsCal (s.slot n).desc = true) (hl : (s.slot n).hostCal = []) :
    startSlot s n = refuseSlot s n rNoCal := by
  rw [startSlot_idle h0 hs, if_neg (by simp [hd]), if_neg (by simp [hp]), hc]
  simp [hhost, hn, hl]

theorem startSlot_host (hn : needsCal (s.slot n).desc = false ∨ (s.slot n).hostCal ≠ []) :
    startSlot s n = startTables (s.setSlot n (claimed (s.slot n) i k p)) n := by
  rw [startSlot_idle h0 hs, if_neg (by simp [hd]), if_neg (by simp [hp]), hc]
  rcases hn with hn | hn <;> simp [hhost, hn]

end

/-! ### Tables and meshes of a slot that starts (R162, R172, R178) -/

theorem calibOf_hostCal {x : Slot} (h : x.hostCal ≠ []) : calibOf x = 2 := by simp [calibOf, h]

theorem builtViews_nil {d : Mem} (h : needsCal d = false) : builtViews d = [] := by
  simpa [needsCal, builtViews, List.filter_eq_nil_iff] using h

theorem builtViews_ne_nil {d : Mem} (h : needsCal d = true) : builtViews d ≠ [] := by
  simpa [needsCal, builtViews, List.filter_eq_nil_iff, or_iff_not_imp_left] using h

/-- The slot's tables are copied and its meshes asked for. -/
def withTables (s : State) (n : Nat) : Slot :=
  let x := s.slot n
  { x with starting := true, tabs := copyTables s x.desc, meshWait := builtViews x.desc }
def tablesTaken (s : State) (n : Nat) : State := s.setSlot n (withTables s n)

theorem beginTables_range {s : State} {n : Nat} (h : meshRange (s.slot n).desc = true) :
    beginTables s n = stopSlot (s.setSlot n { s.slot n with tabs := {} }) n rMeshRange := if_pos h

theorem beginTables_runs {s : State} {n : Nat} (h : meshRange (s.slot n).desc = false) (hn : needsCal (s.slot n).desc = false) :
    beginTables s n = enterRunning (tablesTaken s n) n := by
  simp [beginTables, h, builtViews_nil hn, tablesTaken, withTables]

theorem beginTables_waits {s : State} {n : Nat} (h : meshRange (s.slot n).desc = false) (hn : needsCal (s.slot n).desc = true) :
    beginTables s n = tablesTaken s n := by
  simp [beginTables, h, builtViews_ne_nil hn, tablesTaken, withTables]

/-- The slot as it becomes RUNNING at a time (R162, R189). -/
def nowRunning (x : Slot) (now : Nat) : Slot :=
  { x with st := 1, reason := 0, starting := false, waiting := decide (dSource x.desc = 1 ∨ (x.st = 2 ∧ dSource x.desc = 2))
           tf := none, smooth := none, seenAt := now, timedOut := false, calib := calibOf x
           moduleId := if imageReadable x then moduleOf x.gcmd else [] }

theorem enterRunning_nowRunning (s : State) (n : Nat) : (enterRunning s n).slot n = nowRunning (s.slot n) s.now := setSlot_slot _ _ _

theorem runs_only (s : State) (n : Nat) : OnlySlot n s (enterRunning (tablesTaken s n) n) :=
  onlySlot_trans (onlySlot_setSlot _ _ _) (enterRunning_only _ _)

theorem runs_slot (s : State) (n : Nat) : (enterRunning (tablesTaken s n) n).slot n = nowRunning (withTables s n) s.now := by
  rw [enterRunning_nowRunning, tablesTaken, setSlot_slot]
  rfl

/-- The slot of a host source that has passed the checks of START: its resources are taken and its counters cleared. -/
def hostClaimed (s : State) (n i : Nat) (k : Option Nat) (p : List Nat) : State :=
  (s.setSlot n (claimed (s.slot n) i k p)).setSlot n (clearSlot (claimed (s.slot n) i k p))

theorem hostClaimed_slot (s : State) (n i : Nat) (k : Option Nat) (p : List Nat) :
    (hostClaimed s n i k p).slot n = clearSlot (claimed (s.slot n) i k p) := setSlot_slot _ _ _

theorem hostClaimed_only (s : State) (n i : Nat) (k : Option Nat) (p : List Nat) : OnlySlot n s (hostClaimed s n i k p) :=
  onlySlot_trans (onlySlot_setSlot _ _ _) (onlySlot_setSlot _ _ _)

/-- A host source has its calibration, where it needs one, from the host alone. -/
theorem startTables_host {s : State} {n : Nat} (i : Nat) (k : Option Nat) (p : List Nat)
    (h : needsCal (s.slot n).desc = false ∨ (s.slot n).hostCal ≠ []) :
    startTables (s.setSlot n (claimed (s.slot n) i k p)) n = answer (beginTables (hostClaimed s n i k p) n) okCode := by
  have known : ¬ (needsCal (s.slot n).desc && calibOf (claimed (s.slot n) i k p) == 0) = true := by
    rcases h with h | h
    · simp [h]
    · rw [calibOf_hostCal (x := claimed (s.slot n) i k p) h]
      simp
  unfold startTables
  simp only [setSlot_slot]
  exact if_neg known

/-! ### The outcomes of START -/

section
variable {s : State} {n i : Nat} {k : Option Nat} {p : List Nat}

/-- A camera's memory is read before its START is answered. -/
theorem startCamera_asks (s : State) (n i : Nat) (k : Option Nat) (p : List Nat) (h0 : (s.slot n).st = 0) :
    let t := askGcmd (s.setSlot n (claimed (s.slot n) i k p)) n 0
    OnlySlotAndBuses n s t ∧ ReadAsked n 0 (s.slot n) s t ∧ t.dev = s.dev ∧ (t.slot n).starting = true ∧ (t.slot n).st = 0 ∧
    (t.slot n).instance_ = some i ∧ (t.slot n).desc = (s.slot n).desc := by
  have asks := askGcmd_asks (s.setSlot n (claimed (s.slot n) i k p)) n 0
  have slot := (askGcmd_slot (s.setSlot n (claimed (s.slot n) i k p)) n 0).trans (askedSlot_keeps _ _)
  have only := onlySlot_beforeBuses (onlySlot_setSlot s n _) (askGcmd_only (s.setSlot n (claimed (s.slot n) i k p)) n 0)
  rw [setSlot_slot] at asks slot
  refine ⟨only, asks, ?_, ?_⟩
  · rw [only.1]
  · rw [slot]
    exact ⟨rfl, h0, rfl, rfl⟩

theorem startHost_runs (hn : needsCal (s.slot n).desc = false) (hm : meshRange (s.slot n).desc = false)
    (hcam : dSource (s.slot n).desc ≠ 1) : let x := s.slot n
    let t := answer (beginTables (hostClaimed s n i k p) n) okCode
    OnlySlot n s { t with dev := s.dev } ∧ t.dev = { s.dev with answer := 0 } ∧ (t.slot n).st = 1 ∧ (t.slot n).starting = false ∧
    (t.slot n).reason = 0 ∧ (t.slot n).instance_ = some i ∧ (t.slot n).decoder = k ∧ (t.slot n).page = p ∧
    (t.slot n).pages = dStage x.desc ∧ (t.slot n).seenAt = s.now ∧ (t.slot n).accepted = 0 ∧ (t.slot n).desc = x.desc := by
  have slot := hostClaimed_slot s n i k p
  have desc : ((hostClaimed s n i k p).slot n).desc = (s.slot n).desc := by rw [slot]; rfl
  have runs : beginTables (hostClaimed s n i k p) n = _ := beginTables_runs (by rw [desc]; exact hm) (by rw [desc]; exact hn)
  have running := runs_slot (hostClaimed s n i k p) n
  unfold withTables at running
  rw [slot] at running
  obtain ⟨only, dev⟩ := onlySlot_answer (onlySlot_trans (hostClaimed_only s n i k p) (runs_only (hostClaimed s n i k p) n)) okCode
  have pages : (claimed (s.slot n) i k p).pages = dStage (s.slot n).desc := if_neg (by simp [hcam])
  simp only
  rw [runs]
  refine ⟨only, dev, ?_⟩
  rw [answer_slot, running]
  exact ⟨rfl, rfl, rfl, rfl, rfl, rfl, pages, rfl, rfl, rfl⟩

theorem startHost_waits (hn : needsCal (s.slot n).desc = true) (hm : meshRange (s.slot n).desc = false) (h0 : (s.slot n).st = 0) :
    let x := s.slot n
    let t := answer (beginTables (hostClaimed s n i k p) n) okCode
    OnlySlot n s { t with dev := s.dev } ∧ t.dev = { s.dev with answer := 0 } ∧ (t.slot n).st = 0 ∧ (t.slot n).starting = true ∧
    (t.slot n).meshWait = builtViews x.desc ∧ (t.slot n).tabs = copyTables s x.desc := by
  have slot := hostClaimed_slot s n i k p
  have desc : ((hostClaimed s n i k p).slot n).desc = (s.slot n).desc := by rw [slot]; rfl
  have waits : beginTables (hostClaimed s n i k p) n = _ := beginTables_waits (by rw [desc]; exact hm) (by rw [desc]; exact hn)
  have taken : (tablesTaken (hostClaimed s n i k p) n).slot n = withTables (hostClaimed s n i k p) n := setSlot_slot _ _ _
  unfold withTables at taken
  rw [slot] at taken
  obtain ⟨only, dev⟩ := onlySlot_answer (onlySlot_trans (hostClaimed_only s n i k p)
    (onlySlot_setSlot _ n (withTables (hostClaimed s n i k p) n))) okCode
  simp only
  rw [waits]
  refine ⟨only, dev, ?_⟩
  rw [answer_slot, taken]
  exact ⟨h0, rfl, rfl, copyTables_onlySlot (hostClaimed_only s n i k p) _⟩

/-- A table out of range stops the slot that was starting (R172). -/
theorem startHost_stops (hm : meshRange (s.slot n).desc = true) : ∃ u,
    answer (beginTables (hostClaimed s n i k p) n) okCode = answer (stopSlot u n rMeshRange) okCode ∧ OnlySlot n s u ∧
    (u.slot n).desc = (s.slot n).desc ∧ (u.slot n).instance_ = some i ∧ (u.slot n).tabs = {} := by
  have slot := hostClaimed_slot s n i k p
  have range : meshRange ((hostClaimed s n i k p).slot n).desc = true := by rw [slot]; exact hm
  refine ⟨_, congrArg (answer · okCode) (beginTables_range range), onlySlot_trans (hostClaimed_only s n i k p) (onlySlot_setSlot _ _ _), ?_⟩
  rw [setSlot_slot, slot]
  exact ⟨rfl, rfl, rfl⟩

end

/-! ### STOP (R162) -/

theorem stopCommand_idle {s : State} {n : Nat} (h : (s.slot n).st = 0) : stopCommand s n = answer s wrongState := if_pos h

/-- The slot is IDLE, its reads are given up and its reason is the host's STOP. -/
def hostStopped (s : State) (n : Nat) : State := dropReads (s.setSlot n { (s.slot n).idle with reason := rHostStop }) n

theorem stopCommand_held {s : State} {n : Nat} (h : (s.slot n).st ≠ 0) :
    stopCommand s n = answer (reviewBatches (hostStopped s n) n) okCode := if_neg h

theorem hostStopped_slot (s : State) (n : Nat) : (hostStopped s n).slot n = { (s.slot n).idle with reason := rHostStop } :=
  (dropReads_slot _ _ _).trans (setSlot_slot _ _ _)

theorem hostStopped_slot_other (s : State) (n : Nat) {m : Nat} (h : m ≠ n) : (hostStopped s n).slot m = s.slot m :=
  (dropReads_slot _ _ _).trans (setSlot_slot_other _ _ _ h)

theorem hostStopped_only (s : State) (n : Nat) : hostStopped s n =
    { s with streams := { s.streams with slot := (hostStopped s n).streams.slot, bus := (hostStopped s n).streams.bus } } := by
  obtain ⟨t, e, -⟩ := dropReads_only (s.setSlot n { (s.slot n).idle with reason := rHostStop }) n
  unfold hostStopped
  rw [e]
  rfl

/-! ### RESUME (R171, R189, R193) -/

/-- The slot's pipeline has room for it (R175). -/
def InstanceRoom (s : State) (n : Nat) : Prop := ∃ i, (s.slot n).instance_ = some i ∧ instanceFits s n (s.slot n).desc i = true

theorem resumeSlot_notStopped {s : State} {n : Nat} (h : (s.slot n).st ≠ 2 ∨ (s.slot n).starting = true) :
    resumeSlot s n = answer s wrongState := if_pos h

section
variable {s : State} {n : Nat} (h2 : (s.slot n).st = 2) (hs : (s.slot n).starting = false)
include h2 hs

theorem resumeSlot_noCal (hn : needsCal (s.slot n).desc = true) (hc : calibOf (s.slot n) = 0) :
    resumeSlot s n = refuseSlot s n rNoCal := by
  simp [resumeSlot, h2, hs, hn, hc]

variable (hn : needsCal (s.slot n).desc = false ∨ calibOf (s.slot n) ≠ 0)
include hn

theorem resumeSlot_noRoom (hi : ¬ InstanceRoom s n) : resumeSlot s n = refuseSlot s n rNoCapacity := by
  have known : ¬ (needsCal (s.slot n).desc && calibOf (s.slot n) == 0) = true := by rcases hn with hn | hn <;> simp [hn]
  unfold resumeSlot
  simp only
  rw [if_neg (by simp [h2, hs]), if_neg known]
  rcases e : (s.slot n).instance_ with _ | i
  · rfl
  · exact if_pos (by simpa using fun f => hi ⟨i, e, f⟩)

variable (hi : InstanceRoom s n)
include hi

/-- A slot with calibration and room runs, where its meshes are in staging, or takes those of its shadow. -/
theorem resumeSlot_room : resumeSlot s n =
    (if meshMissing (s.slot n) then
       (match (s.slot n).shadow with
        | some (_, true) => answer (enterRunning (applyShadow s n) n) okCode
        | some (_, false) => if (s.slot n).meshWait.isEmpty then refuseSlot s n rMeshRange
                             else answer (s.setSlot n { s.slot n with starting := true }) okCode
        | none => refuseSlot s n rMeshRange)
     else answer (enterRunning s n) okCode) := by
  obtain ⟨i, hi, fits⟩ := hi
  have known : ¬ (needsCal (s.slot n).desc && calibOf (s.slot n) == 0) = true := by rcases hn with hn | hn <;> simp [hn]
  unfold resumeSlot
  simp only
  rw [if_neg (by simp [h2, hs]), if_neg known, hi]
  exact if_neg (by simp [fits])

theorem resumeSlot_meshes (hm : meshMissing (s.slot n) = false) : resumeSlot s n = answer (enterRunning s n) okCode := by
  rw [resumeSlot_room h2 hs hn hi, if_neg (by simp [hm])]

variable (hm : meshMissing (s.slot n) = true)
include hm

theorem resumeSlot_shadow {d : Mem} (hd : (s.slot n).shadow = some (d, true)) :
    resumeSlot s n = answer (enterRunning (applyShadow s n) n) okCode := by
  rw [resumeSlot_room h2 hs hn hi, if_pos hm, hd]

theorem resumeSlot_outOfRange {d : Mem} (hd : (s.slot n).shadow = some (d, false)) (hw : (s.slot n).meshWait = []) :
    resumeSlot s n = refuseSlot s n rMeshRange := by
  rw [resumeSlot_room h2 hs hn hi, if_pos hm, hd]
  simp [hw]

theorem resumeSlot_waits {d : Mem} (hd : (s.slot n).shadow = some (d, false)) (hw : (s.slot n).meshWait ≠ []) :
    resumeSlot s n = answer (s.setSlot n { s.slot n with starting := true }) okCode := by
  rw [resumeSlot_room h2 hs hn hi, if_pos hm, hd]
  simp [hw]

theorem resumeSlot_noShadow (hd : (s.slot n).shadow = none) : resumeSlot s n = refuseSlot s n rMeshRange := by
  rw [resumeSlot_room h2 hs hn hi, if_pos hm, hd]

end

/-- A slot that takes its shadow as it resumes runs under it. -/
theorem shadowResumed_leaves {s : State} {n : Nat} {d : Mem} (hd : (s.slot n).shadow = some (d, true)) :
    let t := answer (enterRunning (applyShadow s n) n) okCode
    OnlySlot n s { t with dev := s.dev, causes := s.causes } ∧ t.dev = { s.dev with answer := 0 } ∧ (t.slot n).st = 1 ∧
    (t.slot n).desc = d ∧ (t.slot n).tabs = (s.slot n).shadowTabs := by
  obtain ⟨only, dev⟩ := onlySlot_answer (onlySlot_besideCauses (applyShadow_only s n) (enterRunning_only (applyShadow s n) n)) okCode
  refine ⟨only, dev, ?_⟩
  rw [answer_slot, enterRunning_nowRunning, applyShadow_ready_slot hd]
  exact ⟨rfl, rfl, rfl⟩

/-- A slot that resumes waits for its first Frame Start or IRAP picture (R189). -/
theorem resumed_leaves {s : State} {n : Nat} (h2 : (s.slot n).st = 2) : let t := answer (enterRunning s n) okCode
    OnlySlot n s { t with dev := s.dev } ∧ t.dev = { s.dev with answer := 0 } ∧ (t.slot n).st = 1 ∧ (t.slot n).reason = 0 ∧
    (t.slot n).tf = none ∧ (t.slot n).seenAt = s.now ∧
    ((t.slot n).waiting = true ↔ dSource (s.slot n).desc = 1 ∨ dSource (s.slot n).desc = 2) := by
  obtain ⟨only, dev⟩ := onlySlot_answer (enterRunning_only s n) okCode
  refine ⟨only, dev, ?_⟩
  rw [answer_slot, enterRunning_nowRunning]
  refine ⟨rfl, rfl, rfl, rfl, ?_⟩
  simp [nowRunning, h2]

/-! ### REREAD_CAL (R162) -/

section
variable {s : State} {n : Nat}

theorem rereadSlot_notRunning (h : (s.slot n).st ≠ 1) : rereadSlot s n = answer s wrongState := if_pos h

theorem rereadSlot_host (h : (s.slot n).st = 1) (hc : dSource (s.slot n).desc ≠ 1) : rereadSlot s n = answer s okCode := by
  simp [rereadSlot, h, hc]

theorem rereadSlot_camera (h : (s.slot n).st = 1) (hc : dSource (s.slot n).desc = 1) :
    rereadSlot s n = answer (askGcmd s n 1) okCode := by
  simp [rereadSlot, h, hc]

end

/-! ### The statement -/

/-- Settles O31: each command is one branch of its checks, and writes its slot and, where it reads the memory, its bus. -/
theorem slotCommands : Obligations.SlotCommands := by
  unfold Obligations.SlotCommands
  intro n s x cam asks okIn refused
  have refuses {i : Instr} {r : Nat} (e : exec i s = .next (refuseSlot s n.val r)) : Completes i s (refused r) :=
    ⟨_, e, refuseSlot_refused s n.val r⟩
  have asleep (h : runtimeState s = false) (v : Nat) : (.next (slotCommand s n.val v) : Host.Outcome State Fault Refusal) =
      .next (answer s wrongState) := congrArg Host.Outcome.next (slotCommand_asleep h n.val v)
  refine ⟨fun h => ⟨asleep h 1, asleep h 2, asleep h 3, asleep h 4⟩, fun h => ?_⟩
  have start {t} (e : startSlot s n.val = t) : exec (.slotStart n) s = .next t := congrArg Host.Outcome.next ((slotCommand_start h n.val).trans e)
  have stop {t} (e : stopCommand s n.val = t) : exec (.stop n) s = .next t := congrArg Host.Outcome.next ((slotCommand_stop h n.val).trans e)
  have resume {t} (e : resumeSlot s n.val = t) : exec (.resume n) s = .next t := congrArg Host.Outcome.next ((slotCommand_resume h n.val).trans e)
  have reread {t} (e : rereadSlot s n.val = t) : exec (.rereadCal n) s = .next t := congrArg Host.Outcome.next ((slotCommand_reread h n.val).trans e)
  have host {i k p} (h0 hs hd hp) (hc : capacity s n.val x.desc = some (i, k, p)) (hcam : ¬ cam) (hn : needsCal x.desc = false ∨ x.hostCal ≠ []) :=
    start ((startSlot_host h0 hs hd hp hc hcam hn).trans (startTables_host i k p hn))
  refine ⟨fun hx => start (startSlot_notIdle hx), fun h0 hs hd => refuses (start (startSlot_invalid h0 hs hd)),
    fun h0 hs hd hp => refuses (start (startSlot_portBusy h0 hs hd hp)),
    fun h0 hs hd hp hc => refuses (start (startSlot_noCapacity h0 hs hd hp hc)), ?camera, ?runs, ?waits, ?stops,
    fun i k p h0 hs hd hp hc hcam hn hl => refuses (start (startSlot_uncalibrated h0 hs hd hp hc hcam hn hl)),
    fun hx => stop (stopCommand_idle hx), ?stop, fun hx => resume (resumeSlot_notStopped hx),
    fun h2 hs hn hc => refuses (resume (resumeSlot_noCal h2 hs hn hc)), fun h2 hs hn hi => refuses (resume (resumeSlot_noRoom h2 hs hn hi)),
    fun d h2 hs hn hi hm hd => ⟨_, resume (resumeSlot_shadow h2 hs hn hi hm hd), shadowResumed_leaves hd⟩,
    fun d h2 hs hn hi hm hd => ⟨fun hw => refuses (resume (resumeSlot_outOfRange h2 hs hn hi hm hd hw)),
      fun hw => resume (resumeSlot_waits h2 hs hn hi hm hd hw)⟩,
    fun h2 hs hn hi hm hd => refuses (resume (resumeSlot_noShadow h2 hs hn hi hm hd)),
    fun h2 hs hn hi hm => ⟨_, resume (resumeSlot_meshes h2 hs hn hi hm), resumed_leaves h2⟩,
    fun hx => reread (rereadSlot_notRunning hx), ?reread, fun hx hc => reread (rereadSlot_host hx hc)⟩
  case camera =>
    intro i k p h0 hs hd hp hc hcam
    obtain ⟨⟨only, others⟩, ⟨buses, known, new⟩, dev, rest⟩ := startCamera_asks s n.val i k p h0
    refine ⟨_, start (startSlot_camera h0 hs hd hp hc hcam), ⟨?_, others, buses, known, new⟩, dev, rest⟩
    rw [dev]
    exact only
  case runs => exact fun i k p h0 hs hd hp hc hcam hn hm => ⟨_, host h0 hs hd hp hc hcam (.inl hn), startHost_runs hn hm hcam⟩
  case waits => exact fun i k p h0 hs hd hp hc hcam hn hl hm => ⟨_, host h0 hs hd hp hc hcam (.inr hl), startHost_waits hn hm h0⟩
  case stops =>
    intro i k p h0 hs hd hp hc hcam hn hm
    obtain ⟨u, e, rest⟩ := startHost_stops (s := s) (n := n.val) (i := i) (k := k) (p := p) hm
    exact ⟨u, (host h0 hs hd hp hc hcam hn).trans (congrArg Host.Outcome.next e), rest⟩
  case stop =>
    intro hx
    refine ⟨hostStopped s n.val, stop (stopCommand_held hx), hostStopped_only s n.val, fun m e => hostStopped_slot_other s n.val e,
      fun b hb => congrArg Bus.waiting (dropReads_bus _ n.val hb), ?_⟩
    rw [hostStopped_slot]
    exact ⟨rfl, rfl, rfl, rfl, rfl, rfl⟩
  case reread =>
    intro hx hcam
    obtain ⟨only, others⟩ := askGcmd_only s n.val 1
    obtain ⟨buses, known, new⟩ := askGcmd_asks s n.val 1
    have dev : (answer (askGcmd s n.val 1) okCode).dev = { s.dev with answer := 0 } := by
      rw [answer, only]
      rfl
    refine ⟨_, reread (rereadSlot_camera hx hcam), ⟨?_, others, buses, known, new⟩, dev, ?_⟩
    · rw [dev]
      exact congrArg (answer · okCode) only
    · exact (askGcmd_slot s n.val 1).trans ((askedSlot_keeps _ _).trans (by rw [answer_slot, askGcmd_slot]))

end Sys2Proof.Machine

/-! SUPPORT. Camera ports, triggers and buses: lane settings, the edges of a trigger, transfers and interrupts of a bus (spec/07 R165,
R167, R168). -/

namespace Sys2Proof.Machine

open Sys2Proof.Safety

/-! ### Lanes (R165) -/

section
variable {s : State} {p v : Nat} (hs : setupState s = true)
include hs

theorem writeLanes_range (h : (v ≠ 2 ∧ v ≠ 4) ∨ (v = 4 ∧ p % 2 = 1)) : writeLanes s p v = answer s outOfRange := by
  rw [writeLanes, if_neg (by simp [hs]), if_pos h]

variable (h : v = 2 ∨ (v = 4 ∧ p % 2 = 0))
include h

theorem writeLanes_inRange : writeLanes s p v =
    if namesPort s [p / 2 * 2, p / 2 * 2 + 1] then answer s wrongState else answer (s.setPort p { s.port p with lanes := v }) okCode := by
  rw [writeLanes, if_neg (by simp [hs]), if_neg (by omega)]

theorem writeLanes_named (hn : namesPort s [p / 2 * 2, p / 2 * 2 + 1] = true) : writeLanes s p v = answer s wrongState := by
  rw [writeLanes_inRange hs h, if_pos hn]

theorem writeLanes_free (hn : namesPort s [p / 2 * 2, p / 2 * 2 + 1] = false) :
    writeLanes s p v = answer (s.setPort p { s.port p with lanes := v }) okCode := by
  rw [writeLanes_inRange hs h, if_neg (by simp [hn])]

end

/-! ### Triggers (R167) -/

theorem settled_none {x : Trig} (h : x.pend = none) : x.settled = x := by simp [Trig.settled, h]

theorem settled_some {x : Trig} {t p w pol : Nat} (h : x.pend = some (t, p, w, pol)) :
    x.settled = { x with t0 := t, period := p, width := w, polarity := pol, pend := none } := by simp [Trig.settled, h]

/-- The edge is there and has come. -/
def EdgeDue (s : State) (x : Trig) (e : Nat) : Prop := x.nextEdge = some e ∧ x.enable = true ∧ e ≤ s.now

/-- A pulse begins at e, under the configuration that waited or under that in force. -/
def pulseBegun (x : Trig) (e : Nat) : Trig :=
  let y := x.settled
  { y with pulseUntil := some (e + y.width)
           nextEdge := if x.pend.isSome then firstEdge (e + 1) y.t0 y.period
             else if y.period = 0 then none else firstEdge (e + 1) y.t0 y.period }

theorem pulseBegun_inForce {x : Trig} (h : x.pend = none) (e : Nat) : pulseBegun x e =
    { x with pulseUntil := some (e + x.width), nextEdge := if x.period = 0 then none else firstEdge (e + 1) x.t0 x.period } := by
  simp [pulseBegun, settled_none h, h]

theorem pulseBegun_waiting {x : Trig} {t0 p w pol : Nat} (h : x.pend = some (t0, p, w, pol)) (e : Nat) : pulseBegun x e =
    { x with t0 := t0, period := p, width := w, polarity := pol, pend := none, pulseUntil := some (e + w)
             nextEdge := firstEdge (e + 1) t0 p } := by
  simp [pulseBegun, settled_some h, h]

section
variable {s : State} {n e : Nat}

theorem trigEdge_due (h : EdgeDue s (s.trig n) e) : trigEdge s n = s.setTrig n (pulseBegun (s.trig n) e) := by
  obtain ⟨next, on, come⟩ := h
  unfold trigEdge
  simp only
  rw [next]
  exact if_neg (by simp [on, come])

theorem trigEdge_notDue (h : (s.trig n).nextEdge = none ∨ (s.trig n).enable = false ∨ ∃ e, (s.trig n).nextEdge = some e ∧ s.now < e) :
    trigEdge s n = s := by
  unfold trigEdge
  simp only
  rcases next : (s.trig n).nextEdge with _ | e
  · rfl
  · refine if_pos ?_
    rw [next] at h
    rcases h with h | h | ⟨f, h, late⟩
    · exact absurd h (by simp)
    · simp [h]
    · obtain rfl := Option.some.inj h
      exact .inr late

end

/-- Edges are k periods after T0, each placed on the tick of 10 ns at or after it. -/
theorem firstEdge_later {now t0 p e : Nat} (hp : 0 < p) (ht : t0 < now) (h : firstEdge now t0 p = some e) :
    e % 10 = 0 ∧ ∃ k, now < t0 + k * p ∧ t0 + k * p ≤ now + p ∧ t0 + k * p ≤ e ∧ e < t0 + k * p + 10 := by
  have late : ¬ now ≤ t0 := by omega
  have moving : p ≠ 0 := by omega
  rw [firstEdge, if_neg late, if_neg moving] at h
  obtain rfl := Option.some.inj h
  have whole := Nat.div_add_mod (now - t0) p
  have part := Nat.mod_lt (now - t0) hp
  have next : ((now - t0) / p + 1) * p = p * ((now - t0) / p) + p := by ring
  refine ⟨by simp [tickAt], (now - t0) / p + 1, ?_⟩
  unfold tickAt ceilDiv
  omega

theorem OnlyCauses.trig {s t : State} (h : OnlyCauses s t) (n : Nat) : t.trig n = s.trig n := by rw [h.1]; rfl

/-- A trigger that is enabled without an edge to come is reported. -/
def lateReported (s : State) (n : Nat) (e : Option Nat) : State := if e.isNone then raise s (.main gStream (32 + n)) 0 0 else s

theorem lateReported_only (s : State) (n : Nat) (e : Option Nat) : OnlyCauses s (lateReported s n e) := by
  cases e with
  | none => exact raise_onlyCauses _ _ _ _
  | some e => exact onlyCauses_refl s

section
variable {s : State} {n : Nat} (hs : setupState s = true)
include hs

theorem writeTrigEnable_off (hp : (s.trig n).pend = none) :
    writeTrigEnable s n false = answer (s.setTrig n { s.trig n with enable := false, nextEdge := none }) okCode := by
  simp [writeTrigEnable, hs, settled_none hp]

theorem writeTrigEnable_on (hp : (s.trig n).pend = none) : writeTrigEnable s n true =
    answer (lateReported (s.setTrig n { s.trig n with enable := true, nextEdge := firstEdge s.now (s.trig n).t0 (s.trig n).period }) n
      (firstEdge s.now (s.trig n).t0 (s.trig n).period)) okCode := by
  simp [writeTrigEnable, hs, settled_none hp, lateReported]

/-- Enabling begins the edges anew; a T0 without a later edge is reported. -/
theorem writeTrigEnable_leaves (hn : n < 16) (hp : (s.trig n).pend = none) (on : Bool) : let x := s.trig n
    let t := writeTrigEnable s n on
    t.dev = { s.dev with answer := 0 } ∧ (∀ m, m ≠ n → t.trig m = s.trig m) ∧
    t.trig n = { x with enable := on, nextEdge := if on then firstEdge s.now x.t0 x.period else none } ∧
    (on = true → firstEdge s.now x.t0 x.period = none → leafIsSet t.causes (.main gStream (32 + n)) = true) ∧
    (on = false → t.causes = s.causes) := by
  cases on with
  | false =>
    simp only [writeTrigEnable_off hs hp]
    exact ⟨rfl, fun m e => setTrig_trig_other _ _ _ e, setTrig_trig _ _ _, fun h => absurd h (by decide), fun _ => rfl⟩
  | true =>
    have only := lateReported_only (s.setTrig n { s.trig n with enable := true, nextEdge := firstEdge s.now (s.trig n).t0 (s.trig n).period }) n
      (firstEdge s.now (s.trig n).t0 (s.trig n).period)
    simp only [writeTrigEnable_on hs hp]
    refine ⟨?_, fun m e => (only.trig m).trans (setTrig_trig_other _ _ _ e), (only.trig n).trans (setTrig_trig _ _ _), fun _ h => ?_,
      fun h => absurd h (by decide)⟩
    · rw [answer, only.dev]
      rfl
    · rw [h]
      exact leafIsSet_raise_main _ gStream (by omega) _ _

theorem writeTrigConfig_range {t0 p w pol : Nat} (h : trigOk p w pol = false) : writeTrigConfig s n t0 p w pol = answer s outOfRange := by
  rw [writeTrigConfig, if_neg (by simp [hs]), if_pos (by simp [h])]

theorem writeTrigConfig_inRange {t0 p w pol : Nat} (h : trigOk p w pol = true) : writeTrigConfig s n t0 p w pol =
    answer (s.setTrig n (if (s.trig n).enable then { s.trig n with pend := some (t0, p, w, pol) }
      else { s.trig n with t0 := t0, period := p, width := w, polarity := pol })) okCode := by
  rw [writeTrigConfig, if_neg (by simp [hs]), if_neg (by simp [h])]

end

/-! ### Buses (R168) -/

theorem busNotice_i2c {s : State} {b : Nat} (h : (s.bus b).mode = 2) (join : Bool) : busNotice s b join = s := if_pos h

theorem busNotice_heard {s : State} {b m : Nat} (h : (s.bus b).mode ≠ 2) (hm : busSlot s b = some m) (join : Bool) :
    busNotice s b join = sendNotice s (slotGroup s m % 4) (streamSrc m) (.streamBus b join) := by
  simp [busNotice, h, hm]

section
variable {s : State} {b : Nat} {l : List Byte}

theorem writeBusTransfer_length (hs : setupState s = true) (h : 260 < l.length) : writeBusTransfer s b l = answer s 0x06070010 := by
  rw [writeBusTransfer, if_neg (by simp [hs]), if_pos h]

theorem writeBusTransfer_joins (hs : setupState s = true) (h : l.length ≤ 260) : writeBusTransfer s b l =
    answer (s.setBus b { s.bus b with waiting := (s.bus b).waiting ++ [.host l] }) okCode := by
  rw [writeBusTransfer, if_neg (by simp [hs]), if_neg (by omega)]

theorem busDone_idle (h : (s.bus b).waiting = []) : busDone s b l = s := by simp [busDone, h]

theorem busDone_gcmd {k a w : Nat} {rest : List BusReq} (h : (s.bus b).waiting = .gcmd k a w :: rest) : busDone s b l = s := by
  simp [busDone, h]

theorem busDone_host {q : List Byte} {rest : List BusReq} (h : (s.bus b).waiting = .host q :: rest) :
    busDone s b l = s.setBus b { s.bus b with waiting := rest, result := l.take 260 } := by
  simp [busDone, h]

end

/-! ### The statement -/

/-- Settles O33: each write is one branch of its checks, and an edge lies on its tick by division with rest. -/
theorem portsTriggersAndBuses : Obligations.PortsTriggersAndBuses := by
  unfold Obligations.PortsTriggersAndBuses
  refine ⟨fun p v s => ⟨?lanesState, ?lanesRange, ?named, ?lanes⟩, fun p b s => ⟨rfl, rfl⟩, fun n s =>
    ⟨?edge, ?edgeWaiting, ?noEdge, ?trigState, ?enable, fun hs t0 pd w pol => ⟨?trigRange, ?config, ?configWaits⟩⟩,
    fun now t0 p e hp ht h => firstEdge_later hp ht h, fun b s => ⟨?i2c, ?heard⟩, fun b l s =>
    ⟨?busState, ?busLength, ?joins, ?busIdle, ?gcmd, ?busDone⟩⟩
  case lanesState => exact fun hs => congrArg Host.Outcome.next (if_pos (by simp [hs]))
  case lanesRange =>
    refine fun hs h => congrArg Host.Outcome.next (writeLanes_range hs ?_)
    simp only [ne_eq, BitVec.toNat_eq] at h
    exact h
  case named =>
    refine fun hs h hn => congrArg Host.Outcome.next (writeLanes_named hs ?_ hn)
    simp only [BitVec.toNat_eq] at h
    exact h
  case lanes =>
    refine fun hs h hn => congrArg Host.Outcome.next (writeLanes_free hs ?_ hn)
    simp only [BitVec.toNat_eq] at h
    exact h
  case edge =>
    intro e next on come hp
    exact ⟨_, congrArg Host.Outcome.next (trigEdge_due ⟨next, on, come⟩), rfl, fun m h => setTrig_trig_other _ _ _ h,
      (setTrig_trig _ _ _).trans (pulseBegun_inForce hp e)⟩
  case edgeWaiting =>
    intro e t0 pd w pol next on come hp
    exact ⟨_, congrArg Host.Outcome.next (trigEdge_due ⟨next, on, come⟩), (setTrig_trig _ _ _).trans (pulseBegun_waiting hp e)⟩
  case noEdge => exact fun h => congrArg Host.Outcome.next (trigEdge_notDue h)
  case trigState =>
    intro hs on t0 pd w pol
    exact ⟨congrArg Host.Outcome.next (if_pos (by simp [hs])), congrArg Host.Outcome.next (if_pos (by simp [hs]))⟩
  case enable => exact fun hs hp on => ⟨_, rfl, writeTrigEnable_leaves hs n.isLt hp on⟩
  case trigRange => exact fun h => congrArg Host.Outcome.next (writeTrigConfig_range hs h)
  case config =>
    intro h off
    refine congrArg Host.Outcome.next ((writeTrigConfig_inRange hs h).trans ?_)
    rw [if_neg (by simp [off])]
  case configWaits =>
    intro h on
    refine congrArg Host.Outcome.next ((writeTrigConfig_inRange hs h).trans ?_)
    rw [if_pos on]
  case i2c => exact fun h => ⟨congrArg Host.Outcome.next (busNotice_i2c h _), congrArg Host.Outcome.next (busNotice_i2c h _)⟩
  case heard => exact fun m h hm => ⟨congrArg Host.Outcome.next (busNotice_heard h hm _), congrArg Host.Outcome.next (busNotice_heard h hm _)⟩
  case busState => exact fun hs => congrArg Host.Outcome.next (if_pos (by simp [hs]))
  case busLength => exact fun hs h => congrArg Host.Outcome.next (writeBusTransfer_length hs h)
  case joins => exact fun hs h => congrArg Host.Outcome.next (writeBusTransfer_joins hs h)
  case busIdle => exact fun h => congrArg Host.Outcome.next (busDone_idle h)
  case gcmd => exact fun k a w rest h => congrArg Host.Outcome.next (busDone_gcmd h)
  case busDone => exact fun q rest h => congrArg Host.Outcome.next (busDone_host h)

end Sys2Proof.Machine

/-! SUPPORT. Host frames: stream doorbells, the entry that a decoder takes and the frame that it passes on (spec/11 R283, spec/07 R181,
R184, R185, R187, R189). -/

namespace Sys2Proof.Machine

open Sys2Proof.Safety

/-! ### Stream doorbells (spec/11 R283) -/

/-- The word of a doorbell has its upper half for an index. -/
theorem ringIndex (w : Word) : bits (w ||| 0x80000000).toNat 63 32 = w.toNat / 2 ^ 32 := by
  have low : (0x80000000 : Word).toNat / 2 ^ 32 = 0 := by decide
  have short : w.toNat / 2 ^ 32 < 2 ^ 32 := by have := w.isLt; omega
  rw [bits, BitVec.toNat_or, ← Nat.shiftRight_eq_div_pow, Nat.shiftRight_or_distrib, Nat.shiftRight_eq_div_pow, Nat.shiftRight_eq_div_pow, low,
    Nat.or_zero]
  exact Nat.mod_eq_of_lt short

theorem ringValid (w : Word) : (w ||| 0x80000000).getLsbD 31 = true := by
  rw [BitVec.getLsbD_or]
  exact Bool.or_eq_true_iff.2 (.inr (by decide))

/-- The slot takes no producer index like this one: it is none of a host source that runs, or it leaves the range of its ring. -/
def RingOutOfRange (x : Slot) (i : BitVec 32) : Prop :=
  x.st = 0 ∨ hostSlot x = false ∨ 128 < (i - x.cons).toNat ∨ (i - x.cons).toNat < (x.prod - x.cons).toNat

section
variable {s : State} {ch k : Nat} {w : Word}

theorem streamRing_unset (h : w.getLsbD 31 = false) : streamRing s ch k w = s := if_pos (by rw [h]; rfl)

theorem streamRing_valid (h : w.getLsbD 31 = true) : let n := 2 * k + ch
    let x := s.slot n
    let i := BitVec.ofNat 32 (bits w.toNat 63 32)
    streamRing s ch k w =
      if x.st = 0 || !hostSlot x || decide (128 < (i - x.cons).toNat) || decide ((i - x.cons).toNat < (x.prod - x.cons).toNat) then
        raise s (.main gHmp 4) (at_ ch 8) (0x4100 + 8 * k)
      else if i = x.prod then s else s.setSlot n { x with prod := i, rings := x.rings ++ [(i, s.now)] } := if_neg (by simp [h])

theorem ringOutOfRange_iff (x : Slot) (i : BitVec 32) : (x.st = 0 || !hostSlot x || decide (128 < (i - x.cons).toNat) ||
    decide ((i - x.cons).toNat < (x.prod - x.cons).toNat)) = true ↔ RingOutOfRange x i := by
  simp only [RingOutOfRange, Bool.or_eq_true, decide_eq_true_eq, Bool.not_eq_true', or_assoc]

variable (i : BitVec 32) (hi : i = BitVec.ofNat 32 (bits w.toNat 63 32)) (h : w.getLsbD 31 = true)
include hi h

theorem streamRing_outOfRange (hb : RingOutOfRange (s.slot (2 * k + ch)) i) :
    streamRing s ch k w = raise s (.main gHmp 4) (at_ ch 8) (0x4100 + 8 * k) := by
  subst hi
  exact (streamRing_valid h).trans (if_pos ((ringOutOfRange_iff _ _).2 hb))

variable (hb : ¬ RingOutOfRange (s.slot (2 * k + ch)) i)
include hb

theorem streamRing_again (hp : i = (s.slot (2 * k + ch)).prod) : streamRing s ch k w = s := by
  subst hi
  exact (streamRing_valid h).trans ((if_neg ((ringOutOfRange_iff _ _).not.2 hb)).trans (if_pos hp))

theorem streamRing_moves (hp : i ≠ (s.slot (2 * k + ch)).prod) : streamRing s ch k w = s.setSlot (2 * k + ch)
    { s.slot (2 * k + ch) with prod := i, rings := (s.slot (2 * k + ch)).rings ++ [(i, s.now)] } := by
  subst hi
  exact (streamRing_valid h).trans ((if_neg ((ringOutOfRange_iff _ _).not.2 hb)).trans (if_neg hp))

end

/-! ### The entry that a decoder takes (R181, R185) -/

/-- A decoder of a running slot is free, and there is an entry of its codec that no full context keeps back. -/
def EntryReady (s : State) (n : Nat) (d : Declared) : Prop :=
  let x := s.slot n
  x.st = 1 ∧ x.decoding = false ∧ x.prod ≠ x.cons ∧ slotBlocked s n = false ∧ declaredFits x d = true

/-- Offset or length of an entry outside the bitstream area of a slot. -/
def EntryBad (x : Slot) (e : Nat × Nat) : Prop := e.2 = 0 ∨ x.pages * 65536 ≤ e.1 ∨ x.pages * 65536 < e.2

/-- The frame is decoded where its declared size passes (R185). -/
def sizeChecked (s : State) (n : Nat) (d : Declared) : State :=
  match declaredCheck (s.slot n) d with
  | some r => stopEntry s n r
  | none => s.setSlot n { s.slot n with decoding := true }

theorem streamBad_clean {c : Chan} (h : c.bad = []) (a n : Nat) : streamBad c a n = false := by simp [streamBad, h]

theorem areaBad_clean {c : Chan} (h : c.bad = []) (x : Slot) (o n : Nat) : areaBad c x o n = false := by simp [areaBad, h]

section
variable {s : State} {n : Nat} {d : Declared}

theorem entryReady_iff (s : State) (n : Nat) (d : Declared) : EntryReady s n d ↔
    ¬ ((s.slot n).st ≠ 1 || (s.slot n).decoding || (s.slot n).prod == (s.slot n).cons || slotBlocked s n || !declaredFits (s.slot n) d) = true := by
  simp [EntryReady, and_assoc]

theorem takeEntry_unready (h : ¬ EntryReady s n d) : takeEntry s n d = s := if_pos (not_not.1 ((entryReady_iff s n d).not.1 h))

variable (h : EntryReady s n d) (hs : (s.slot n).shadow = none)
include h hs

/-- An entry of a slot without a shadow goes through its checks. -/
theorem takeEntry_ready : takeEntry s n d =
    (if streamBad (s.chan (n % 2)) (entryBase n + 32 * ((s.slot n).cons.toNat % 128)) 32 then stopEntry s n rBitstream
     else if (frameEntry s n).2 = 0 ∨ (s.slot n).pages * 65536 ≤ (frameEntry s n).1 ∨ (s.slot n).pages * 65536 < (frameEntry s n).2 then
       stopEntry s n rFrameEntry
     else if areaBad (s.chan (n % 2)) (s.slot n) (frameEntry s n).1 (frameEntry s n).2 then stopEntry s n rBitstream
     else sizeChecked s n d) := by
  have same : applyShadow s n = s := applyShadow_none (by simp [hs])
  unfold takeEntry
  simp only
  rw [if_neg ((entryReady_iff s n d).1 h), same]
  rfl

theorem takeEntry_ringBad (hb : streamBad (s.chan (n % 2)) (entryBase n + 32 * ((s.slot n).cons.toNat % 128)) 32 = true) :
    takeEntry s n d = stopEntry s n rBitstream := by
  rw [takeEntry_ready h hs, if_pos hb]

variable (hc : (s.chan (n % 2)).bad = [])
include hc

theorem takeEntry_badEntry (he : EntryBad (s.slot n) (frameEntry s n)) : takeEntry s n d = stopEntry s n rFrameEntry :=
  (takeEntry_ready h hs).trans ((if_neg (by simp [streamBad_clean hc])).trans (if_pos he))

variable (he : ¬ EntryBad (s.slot n) (frameEntry s n))
include he

theorem takeEntry_declared : takeEntry s n d = sizeChecked s n d :=
  (takeEntry_ready h hs).trans ((if_neg (by simp [streamBad_clean hc])).trans ((if_neg he).trans (if_neg (by simp [areaBad_clean hc]))))

theorem takeEntry_overclaims {r : Nat} (hr : declaredCheck (s.slot n) d = some r) : takeEntry s n d = stopEntry s n r := by
  rw [takeEntry_declared h hs hc he, sizeChecked, hr]

theorem takeEntry_decodes (hr : declaredCheck (s.slot n) d = none) :
    takeEntry s n d = s.setSlot n { s.slot n with decoding := true } := by
  rw [takeEntry_declared h hs hc he, sizeChecked, hr]

end

/-! ### Frames that are decoded (R184, R189) -/

section
variable {s : State} {n : Nat}

theorem decodeDone_idle {r : Decoded} (h : (s.slot n).st ≠ 1 ∨ (s.slot n).decoding = false) : decodeDone s n r = s :=
  if_pos (by simpa using h)

/-- The slot whose entry has passed with its frame. -/
def frameDecoded (x : Slot) : Slot := { passEntry x with waiting := false, accepted := satAdd 32 x.accepted 1 }

variable (h : (s.slot n).st = 1) (hd : (s.slot n).decoding = true)
include h hd

/-- What the decoder's outcome does to a slot that awaits it. -/
theorem decodeDone_running (r : Decoded) : decodeDone s n r =
    match r with
    | .bitstreamError => stopEntry s n rBitstream
    | .unsupported => stopEntry s n rUnsupported
    | .frame vui ten w h px irap =>
      if (s.slot n).waiting && !irap then s.setSlot n (dropOne (passEntry (s.slot n)))
      else match decodedMatrix (s.slot n) vui with
      | none => stopEntry s n rUnsupported
      | some m => clickFrame (s.setSlot n (frameDecoded (s.slot n))) n (s.slot n).desc (s.slot n).tabs (decodedImage m ten w h px)
          (entryTime (s.slot n)) false := by
  unfold decodeDone
  simp only
  refine (if_neg (by simp [h, hd])).trans ?_
  cases r <;> rfl

variable {vui : Option (Nat × Bool)} {ten : Bool} {w ht : Nat} {px : List (Nat × Nat × Nat)}

/-- Before the next IRAP picture a frame is skipped (R189). -/
theorem decodeDone_skipped (hw : (s.slot n).waiting = true) :
    decodeDone s n (.frame vui ten w ht px false) = s.setSlot n (dropOne (passEntry (s.slot n))) := by
  rw [decodeDone_running h hd]
  exact if_pos (by simp [hw])

variable {i : Bool} (hw : (s.slot n).waiting = false ∨ i = true)
include hw

theorem decodeDone_matrix : decodeDone s n (.frame vui ten w ht px i) =
    match decodedMatrix (s.slot n) vui with
    | none => stopEntry s n rUnsupported
    | some m => clickFrame (s.setSlot n (frameDecoded (s.slot n))) n (s.slot n).desc (s.slot n).tabs (decodedImage m ten w ht px)
        (entryTime (s.slot n)) false := by
  rw [decodeDone_running h hd]
  exact if_neg (by rcases hw with hw | hw <;> simp [hw])

theorem decodeDone_unsupported (hm : decodedMatrix (s.slot n) vui = none) :
    decodeDone s n (.frame vui ten w ht px i) = stopEntry s n rUnsupported := by
  rw [decodeDone_matrix h hd hw, hm]

theorem decodeDone_passed {m : Nat × Bool} (hm : decodedMatrix (s.slot n) vui = some m) : decodeDone s n (.frame vui ten w ht px i) =
    clickFrame (s.setSlot n (frameDecoded (s.slot n))) n (s.slot n).desc (s.slot n).tabs (decodedImage m ten w ht px)
      (entryTime (s.slot n)) false := by
  rw [decodeDone_matrix h hd hw, hm]

end

theorem decodedMatrix_jpeg {x : Slot} (h : dSource x.desc = 3) (vui : Option (Nat × Bool)) : decodedMatrix x vui = some (0, true) := if_pos h

theorem decodedMatrix_noVui {x : Slot} (h : dSource x.desc = 2) : decodedMatrix x none = some (1, false) := if_neg (by omega)

theorem decodedMatrix_vui {x : Slot} (h : dSource x.desc = 2) (m : Nat) (full : Bool) :
    decodedMatrix x (some (m, full)) = if m = 1 then some (1, full) else if m = 5 ∨ m = 6 then some (0, full) else none := if_neg (by omega)

end Sys2Proof.Machine

/-! SUPPORT. Samples and batches: a sample that a context takes, its place in a batch buffer, and a batch that closes (spec/07 R191, R192,
spec/12 R313); the statement on host frames, samples and batches. -/

namespace Sys2Proof.Machine

open Sys2Proof.Safety

/-! ### Bytes that are written into LPDDR6 (spec/10 R256) -/

theorem rewritten_only (s : State) (space a n : Nat) : let t := rewritten s space a n
    t = { s with fabric := t.fabric } ∧ t.fabric.lpddr = s.fabric.lpddr ∧ t.fabric.tags = s.fabric.tags := by
  unfold rewritten
  simp only
  split <;> exact ⟨rfl, rfl, rfl⟩

theorem lpddrWrite_only (s : State) (a : Nat) (l : List Byte) : let t := spaceWrite s 0 0 0 a l
    t = { s with fabric := t.fabric } ∧ t.fabric.lpddr = writeBytes s.fabric.lpddr a l ∧ t.fabric.tags = s.fabric.tags ∧
    t.fabric.lost = s.fabric.lost := by
  obtain ⟨only, lpddr, tags⟩ := rewritten_only { s with fabric := { s.fabric with lpddr := writeBytes s.fabric.lpddr a l } } 0 a l.length
  refine ⟨?_, lpddr, tags, rewritten_lost _ _ _ _⟩
  exact only

/-- Nothing but the quarter fabric is written. -/
def OnlyFabric (s t : State) : Prop := t = { s with fabric := t.fabric }

theorem onlyFabric_trans {s t u : State} (a : OnlyFabric s t) (b : OnlyFabric t u) : OnlyFabric s u := by
  unfold OnlyFabric at *
  rw [b, a]

theorem OnlyFabric.ctx {s t : State} (h : OnlyFabric s t) (c : Nat) : t.ctx c = s.ctx c := by rw [h]; rfl

/-! ### The place of a sample (R191) -/

section
variable {s : State} {c p : Nat} {buf : Option Nat} {data : List Byte}

theorem writeSample_only (s : State) (c : Nat) (buf : Option Nat) (p : Nat) (data : List Byte) :
    OnlyFabric s (writeSample s c buf p data) := by
  unfold writeSample
  simp only
  split
  · split
    · split
      · exact (lpddrWrite_only _ _ _).1
      · rfl
    · rfl
  · rfl

theorem writeSample_placed {k o : Nat} {g : Package} (hb : buf = some k) (hg : (s.ctx c).pkg = some g)
    (ho : (g.batchAt.getD k [])[p]? = some o) (hl : o + data.length ≤ g.allocBytes) :
    writeSample s c buf p data = spaceWrite s 0 0 0 ((s.ctx c).allocAt + o) data := by
  subst hb
  unfold writeSample
  simp only [hg, ho, hl, if_true]

theorem writeSample_in (s : State) (c : Nat) (buf : Option Nat) (p : Nat) (data : List Byte) :
    SampleIn s (writeSample s c buf p data) c buf p data := by
  refine ⟨fun k g o hb hg ho hl => ?_, fun hb => ?_⟩
  · obtain ⟨-, lpddr, -, -⟩ := lpddrWrite_only s ((s.ctx c).allocAt + o) data
    rw [writeSample_placed hb hg ho hl, lpddr]
    refine ⟨fun i hi => ?_, fun a ha => ?_⟩
    · rw [readByte_writeBytes, if_pos (by omega), Nat.add_sub_cancel_left]
    · rw [readByte_writeBytes, if_neg (by omega)]
  · subst hb
    rfl

end

/-! ### Samples that a context takes (R191, R313) -/

section
variable {s : State} {c p : Nat}

theorem takeSample_none (h : (s.ctx c).loaded = false ∨ (s.ctx c).npos ≤ p ∨ nextSample s (s.ctx c) p = none) : takeSample s c p = s := by
  unfold takeSample
  simp only
  split
  · rfl
  · next taking =>
    rw [Bool.or_eq_true, not_or] at taking
    obtain ⟨loaded, inside⟩ := taking
    rcases h with h | h | h
    · exact absurd h (by simpa using loaded)
    · exact absurd h (by simpa using inside)
    · rw [h]

/-- The context counts the sample as taken. -/
def sampleSeen (s : State) (c p : Nat) (v : Sample) : State :=
  s.setCtx c { s.ctx c with taken := put 0 (s.ctx c).taken p v.seq }

variable {v : Sample} (hl : (s.ctx c).loaded = true) (hp : p < (s.ctx c).npos) (hv : nextSample s (s.ctx c) p = some v)
include hl hp hv

theorem takeSample_some : takeSample s c p =
    pruneView (if forms (s.ctx c) && decide ((s.ctx c).launched ≤ v.tInput) then addSample (sampleSeen s c p v) c p v else sampleSeen s c p v)
      ((s.ctx c).pos p).1 ((s.ctx c).pos p).2 := by
  unfold takeSample
  simp only
  rw [if_neg (by simp [hl, hp]), hv]
  rfl

theorem takeSample_passed (h : forms (s.ctx c) = false ∨ v.tInput < (s.ctx c).launched) :
    takeSample s c p = pruneView (sampleSeen s c p v) ((s.ctx c).pos p).1 ((s.ctx c).pos p).2 := by
  rw [takeSample_some hl hp hv, if_neg (by rcases h with h | h <;> simp [h])]

theorem takeSample_added (hf : forms (s.ctx c) = true) (ht : (s.ctx c).launched ≤ v.tInput) :
    takeSample s c p = pruneView (addSample (sampleSeen s c p v) c p v) ((s.ctx c).pos p).1 ((s.ctx c).pos p).2 := by
  rw [takeSample_some hl hp hv, if_pos (by simp [hf, ht])]

end

/-! ### Samples that join a batch (R191) -/

/-- A batch that opens now. -/
def newBatch (s : State) (c : Nat) : Batch := { samples := [], opened := s.now, tInput := 0, voidPos := [], buf := freeBuffer s c }

def withSample (b : Batch) (p : Nat) (v : Sample) : Batch := { b with samples := insertKey (erase b.samples p) p v }

/-- The open batch of the context is b with a sample more, and the sample lies in the batch's buffer. -/
def sampleJoined (s : State) (c p : Nat) (v : Sample) (b : Batch) : State :=
  writeSample (s.modCtx c (fun x => { x with openBatch := some (withSample b p v) })) c b.buf p v.data

theorem mem_withSample (b : Batch) (p : Nat) (v : Sample) : (p, v) ∈ (withSample b p v).samples := (mem_insertKey _ _ _ _).2 (.inl rfl)

section
variable {s : State} {c p : Nat} {v : Sample} {b : Batch}

theorem addSample_opens (h : (s.ctx c).openBatch = none) : addSample s c p v = tryClose (sampleJoined s c p v (newBatch s c)) c := by
  unfold addSample
  rw [h]
  simp only
  rw [h]
  rfl

theorem addSample_joins (h : (s.ctx c).openBatch = some b) (hp : (b.samples.any (fun q => q.1 == p)) = false) :
    addSample s c p v = tryClose (sampleJoined s c p v b) c := by
  unfold addSample
  rw [h]
  simp only [hp, Bool.false_eq_true, if_false]
  rw [h]
  rfl

/-- What the joining of a sample leaves: the open batch, the sample in its place, and everything else of the state. -/
theorem sampleJoined_leaves (s : State) (c p : Nat) (v : Sample) (b : Batch) : let u := sampleJoined s c p v b
    (u.ctx c).openBatch = some (withSample b p v) ∧ SampleIn s u c b.buf p v.data ∧ u = { s with ctxs := u.ctxs, fabric := u.fabric } := by
  let x : Ctx := { s.ctx c with openBatch := some (withSample b p v) }
  have ctx : (s.setCtx c x).ctx c = x := setCtx_ctx _ _ _
  have only : OnlyFabric (s.setCtx c x) (sampleJoined s c p v b) := writeSample_only _ _ _ _ _
  have placed : SampleIn (s.setCtx c x) (sampleJoined s c p v b) c b.buf p v.data := writeSample_in _ _ _ _ _
  unfold SampleIn at placed
  rw [ctx] at placed
  refine ⟨?_, placed, ?_⟩
  · rw [only.ctx, ctx]
  · rw [only]
    rfl

end

/-! ### Batches that close (R191, R192, spec/08 R210) -/

theorem writeVoids_only (s : State) (c : Nat) (b : Batch) : OnlyFabric s (writeVoids s c b) :=
  List.foldlRecOn (motive := OnlyFabric s) _ _ rfl fun _ ht _ _ => onlyFabric_trans ht (writeSample_only _ _ _ _ _)

theorem writeVoids_whole (s : State) (c : Nat) {b : Batch} (h : b.voidPos = []) : writeVoids s c b = s := by
  unfold writeVoids
  rw [h]
  rfl

section
variable {s : State} {c : Nat} {b : Batch}

theorem windowEnd_none (h : (s.ctx c).openBatch = none) : windowEnd s c = s := by simp [windowEnd, h]

theorem windowEnd_early (h : (s.ctx c).openBatch = some b) (ht : s.now < b.opened + (s.ctx c).window) : windowEnd s c = s := by
  have early := Nat.not_le.2 ht
  simp [windowEnd, h, early]

theorem windowEnd_due (h : (s.ctx c).openBatch = some b) (ht : b.opened + (s.ctx c).window ≤ s.now) : windowEnd s c = closeBatch s c := by
  simp [windowEnd, h, ht]

/-- The context with its open batch behind the closed ones. -/
def batchQueued (x y : Ctx) (d : Batch) : Ctx :=
  { y with openBatch := none, batches := x.batches ++ [d], lowArmed := y.lowArmed || decide (x.lowWater < (x.batches ++ [d]).length) }

variable (h : (s.ctx c).openBatch = some b) (ha : activeCtx (s.ctx c) = false) (hd : (s.ctx c).batches.length < (s.ctx c).depth)
include h ha hd

/-- A batch that closes into a queue with room loses no other, and a context without jobs hears of none. -/
theorem closeBatch_room : closeBatch s c =
    (writeVoids s c (closeOf s (s.ctx c) b)).modCtx c (fun y => batchQueued (s.ctx c) y (closeOf s (s.ctx c) b)) := by
  have room : ¬ (s.ctx c).depth ≤ (s.ctx c).batches.length := by omega
  unfold closeBatch
  simp only
  rw [h]
  simp only [ha, room, decide_false, Bool.false_and, Bool.false_eq_true, if_false]
  unfold batchQueued
  cases (s.ctx c).batches <;> rfl

/-- What the close of a batch leaves: no open batch, the batch behind the others with its empty positions VOID, and nothing else but its
bytes in LPDDR6. -/
theorem closeBatch_leaves : let t := closeBatch s c
    (t.ctx c).openBatch = none ∧ (t.ctx c).batches = (s.ctx c).batches ++ [closeOf s (s.ctx c) b] ∧
    (closeOf s (s.ctx c) b).voidPos = emptyPos (s.ctx c) b ∧ t = { s with ctxs := t.ctxs, fabric := t.fabric } ∧
    (emptyPos (s.ctx c) b = [] → t.fabric = s.fabric) := by
  have only := writeVoids_only s c (closeOf s (s.ctx c) b)
  simp only
  rw [closeBatch_room h ha hd, modCtx_same]
  refine ⟨rfl, rfl, rfl, ?_, fun whole => ?_⟩
  · rw [only]
    rfl
  · rw [modCtx_fabric, writeVoids_whole s c whole]

end

/-! ### The statement -/

/-- Settles O34: a doorbell, an entry, a decoded frame, a sample and a window are each one branch of their checks; a sample lies where it
was written. -/
theorem hostFramesSamplesAndBatches : Obligations.HostFramesSamplesAndBatches := by
  unfold Obligations.HostFramesSamplesAndBatches
  refine ⟨⟨fun ch k w s => ?doorbell, fun n d s => ?entry, fun n r s => ?decoded⟩, fun c p s => ?sample, fun c p v s => ?added, fun c s => ?window,
    fun c s b h ha hd => closeBatch_leaves h ha hd⟩
  case doorbell =>
    have index := (congrArg (BitVec.ofNat 32) (ringIndex w)).symm
    refine ⟨fun hb hi => streamRing_moves _ index (ringValid w) hb hi, fun hb hi => streamRing_again _ index (ringValid w) hb hi,
      fun hb => ?_, fun v hv => streamRing_unset hv⟩
    have out := streamRing_outOfRange _ index (ringValid w) hb
    rw [out]
    refine ⟨leafIsSet_raise_main _ gHmp (by decide) _ _, ?_⟩
    rw [(raise_onlyCauses _ _ _ _).1]
  case entry =>
    refine ⟨fun h => congrArg Host.Outcome.next (takeEntry_unready h), fun h hs hb => congrArg Host.Outcome.next (takeEntry_ringBad h hs hb),
      fun h hs hc he => congrArg Host.Outcome.next (takeEntry_badEntry h hs hc he),
      fun r h hs hc he hr => congrArg Host.Outcome.next (takeEntry_overclaims h hs hc he hr), fun h hs hc he hr => ?_⟩
    exact ⟨_, congrArg Host.Outcome.next (takeEntry_decodes h hs hc he hr), onlySlot_setSlot _ _ _, setSlot_slot _ _ _⟩
  case decoded =>
    refine ⟨fun h => congrArg Host.Outcome.next (decodeDone_idle h), ?bitstream, ?unsupported, ?skipped, ?matrix, fun h vui => decodedMatrix_jpeg h vui,
      fun h => ⟨decodedMatrix_noVui h, fun m full => ?vui⟩, ?passed⟩
    case bitstream =>
      rintro h hd rfl
      exact congrArg Host.Outcome.next (decodeDone_running h hd _)
    case unsupported =>
      rintro h hd rfl
      exact congrArg Host.Outcome.next (decodeDone_running h hd _)
    case skipped =>
      rintro vui ten w ht px h hd rfl hw
      refine ⟨_, congrArg Host.Outcome.next (decodeDone_skipped h hd hw), onlySlot_setSlot _ _ _, ?_⟩
      rw [setSlot_slot]
      exact ⟨rfl, rfl, rfl, rfl⟩
    case matrix =>
      rintro vui ten w ht px i h hd rfl hw hm
      exact congrArg Host.Outcome.next (decodeDone_unsupported h hd hw hm)
    case vui =>
      rw [decodedMatrix_vui h]
      exact ⟨fun e => by simp [e], fun e => by rcases e with e | e <;> simp [e], fun e1 e5 e6 => by simp [e1, e5, e6]⟩
    case passed =>
      rintro vui ten w ht px i m h hd rfl hw hm
      refine ⟨_, congrArg Host.Outcome.next (decodeDone_passed h hd hw hm), onlySlot_setSlot _ _ _, ?_⟩
      rw [setSlot_slot]
      exact ⟨rfl, rfl, rfl, rfl⟩
  case sample =>
    exact ⟨fun h => congrArg Host.Outcome.next (takeSample_none h), fun v hl hp hv =>
      ⟨fun h => congrArg Host.Outcome.next (takeSample_passed hl hp hv h),
       fun hf ht => congrArg Host.Outcome.next (takeSample_added hl hp hv hf ht)⟩⟩
  case added =>
    refine ⟨fun h => ?_, fun b h hp => ?_⟩
    · obtain ⟨opened, placed, only⟩ := sampleJoined_leaves s c p v (newBatch s c)
      exact ⟨_, _, addSample_opens h, opened, rfl, rfl, rfl, placed, only⟩
    · obtain ⟨opened, placed, only⟩ := sampleJoined_leaves s c p v b
      exact ⟨_, _, addSample_joins h hp, opened, mem_withSample b p v, rfl, rfl, placed, only⟩
  case window =>
    exact ⟨fun h => congrArg Host.Outcome.next (windowEnd_none h), fun b h ht => congrArg Host.Outcome.next (windowEnd_early h ht),
      fun b h ht => congrArg Host.Outcome.next (windowEnd_due h ht)⟩

end Sys2Proof.Machine

/-! SUPPORT. Recording: the bytes of a picture in the ring, the room that older groups of pictures give up, and the settings of a recording
(spec/07 R186, spec/11 R288). -/

namespace Sys2Proof.Machine

open Sys2Proof.Safety

theorem hostMayWrite_congr {s t : State} {a c : Nat} (ht : ownerTag t c = ownerTag s a) (hc : t.ctxs = s.ctxs) :
    hostMayWrite t c = hostMayWrite s a := by
  unfold hostMayWrite currentTag State.ctx
  simp only [ht, hc]

theorem lostAddr_congr {s t : State} (h : t.fabric.lost = s.fabric.lost) (a : Nat) : lostAddr t a = lostAddr s a := by
  unfold lostAddr
  rw [h]

/-! ### A byte of the ring (spec/01 R25, spec/11 R288) -/

/-- The host's byte lands at the address. -/
def Lands (s : State) (a : Nat) : Prop := hostMayWrite s a = true ∧ a < lpddrSize ∧ lostAddr s a = false

theorem lands_iff (s : State) (a : Nat) : Lands s a ↔ (hostMayWrite s a && decide (a < lpddrSize) && !lostAddr s a) = true := by
  simp [Lands, and_assoc]

section
variable {s : State} {a : Nat} {b : Byte}

theorem hostByte_misses (h : ¬ Lands s a) : hostByte s a b = s := if_neg ((lands_iff s a).not.1 h)

/-- The line of the byte goes under the host owner's tag. -/
theorem hostByte_lands (h : Lands s a) : let t := hostByte s a b
    OnlyFabric s t ∧ t.fabric.lpddr = writeByte s.fabric.lpddr a b ∧ t.fabric.tags = put 0 s.fabric.tags (a / 32) 0xFFFE ∧
    t.fabric.lost = s.fabric.lost := by
  obtain ⟨only, lpddr, tags, lost⟩ := lpddrWrite_only s a [b]
  have written : hostByte s a b = { spaceWrite s 0 0 0 a [b] with
      fabric := { (spaceWrite s 0 0 0 a [b]).fabric with tags := put 0 (spaceWrite s 0 0 0 a [b]).fabric.tags (a / 32) 0xFFFE } } :=
    if_pos ((lands_iff s a).1 h)
  simp only
  rw [written]
  refine ⟨?_, lpddr, ?_, lost⟩
  · unfold OnlyFabric
    conv_lhs => rw [only]
  · simp only [tags]

/-- What a byte leaves, whether it lands or not: the state but for the fabric, the lost quarters, and where the host may write. -/
theorem hostByte_leaves (s : State) (a : Nat) (b : Byte) : let t := hostByte s a b
    OnlyFabric s t ∧ t.fabric.lost = s.fabric.lost ∧ (∀ c, hostMayWrite t c = hostMayWrite s c) ∧
    ∀ c, ownerTag s c = 0xFFFE → ownerTag t c = 0xFFFE := by
  by_cases h : Lands s a
  · obtain ⟨only, -, tags, lost⟩ := hostByte_lands (b := b) h
    have tag (c : Nat) : ownerTag (hostByte s a b) c = if c / 32 = a / 32 then 0xFFFE else ownerTag s c := by
      unfold ownerTag
      rw [tags, lookup_put]
    refine ⟨only, lost, fun c => ?_, fun c hc => ?_⟩
    · by_cases line : c / 32 = a / 32
      · have same : ownerTag s c = ownerTag s a := by unfold ownerTag; rw [line]
        rw [hostMayWrite_congr (t := s) (s := s) same rfl, h.1]
        unfold hostMayWrite
        rw [tag, if_pos line]
        rfl
      · exact hostMayWrite_congr ((tag c).trans (if_neg line)) (by rw [only])
    · rw [tag, hc, ite_self]
  · rw [hostByte_misses h]
    exact ⟨rfl, rfl, fun _ => rfl, fun _ hc => hc⟩

theorem hostByte_same (h : Lands s a) : readByte (hostByte s a b).fabric.lpddr a = b ∧ ownerTag (hostByte s a b) a = 0xFFFE := by
  obtain ⟨-, lpddr, tags, -⟩ := hostByte_lands (b := b) h
  unfold ownerTag
  rw [lpddr, tags]
  exact ⟨readByte_writeByte_same _ _ _, lookup_put_same _ _ _ _⟩

theorem hostByte_other {c : Nat} (h : a ≠ c ∨ ¬ Lands s c) :
    readByte (hostByte s a b).fabric.lpddr c = readByte s.fabric.lpddr c := by
  by_cases hl : Lands s a
  · obtain ⟨-, lpddr, -, -⟩ := hostByte_lands (b := b) hl
    rw [lpddr]
    refine readByte_writeByte_other _ _ fun e => ?_
    subst e
    exact h.elim (fun h => h rfl) (fun h => h hl)
  · rw [hostByte_misses hl]

end

/-! ### The bytes of a picture (R186) -/

/-- Where byte i of the next picture lies. -/
def ringPlace (x : Rec) (i : Nat) : Nat := x.addr + (x.prod.toNat + i) % 2 ^ 32 % x.size

/-- The bytes of a picture written one after the other. -/
def ringWritten (s : State) (place : Nat → Nat) (data : List Byte) : State :=
  (indexed data).foldl (fun s p => hostByte s (place p.1) p.2) s

theorem ringWritten_snoc (s : State) (place : Nat → Nat) (data : List Byte) (b : Byte) :
    ringWritten s place (data ++ [b]) = hostByte (ringWritten s place data) (place data.length) b := by
  simp [ringWritten, indexed, List.mapIdx_concat]

section
variable (s : State) (place : Nat → Nat) (data : List Byte)

theorem ringWritten_leaves : let t := ringWritten s place data
    OnlyFabric s t ∧ t.fabric.lost = s.fabric.lost ∧ ∀ c, hostMayWrite t c = hostMayWrite s c := by
  induction data using List.reverseRecOn with
  | nil => exact ⟨rfl, rfl, fun _ => rfl⟩
  | append_singleton data b ih =>
    obtain ⟨only, lost, may⟩ := ih
    obtain ⟨only', lost', may', -⟩ := hostByte_leaves (ringWritten s place data) (place data.length) b
    rw [ringWritten_snoc]
    exact ⟨onlyFabric_trans only only', lost'.trans lost, fun c => (may' c).trans (may c)⟩

theorem ringWritten_lands (c : Nat) : Lands (ringWritten s place data) c ↔ Lands s c := by
  obtain ⟨-, lost, may⟩ := ringWritten_leaves s place data
  unfold Lands
  rw [may, lostAddr_congr lost]

/-- A byte that no later one of its picture covers reads as written, under the host owner's tag. -/
theorem ringWritten_byte {i : Nat} (hi : i < data.length) (hlast : ∀ j, i < j → j < data.length → place j ≠ place i)
    (h : Lands s (place i)) : readByte (ringWritten s place data).fabric.lpddr (place i) = data.getD i 0 ∧
      ownerTag (ringWritten s place data) (place i) = 0xFFFE := by
  induction data using List.reverseRecOn with
  | nil => exact absurd hi (Nat.not_lt_zero i)
  | append_singleton data b ih =>
    rw [List.length_append, List.length_singleton] at hi hlast
    rw [ringWritten_snoc]
    by_cases e : i = data.length
    · subst e
      rw [List.getD_append_right _ _ _ _ (le_refl _), Nat.sub_self]
      exact hostByte_same ((ringWritten_lands s place data _).2 h)
    · obtain ⟨byte, tag⟩ := ih (by omega) fun j hj hl => hlast j hj (by omega)
      obtain ⟨-, -, -, keeps⟩ := hostByte_leaves (ringWritten s place data) (place data.length) b
      rw [List.getD_append _ _ _ _ (by omega), hostByte_other (.inl (hlast _ (by omega) (by omega)))]
      exact ⟨byte, keeps _ tag⟩

/-- Every byte that is none of the picture's places, or where the host's bytes do not land, reads as before. -/
theorem ringWritten_other {a : Nat} (h : (∀ i, i < data.length → place i ≠ a) ∨ ¬ Lands s a) :
    readByte (ringWritten s place data).fabric.lpddr a = readByte s.fabric.lpddr a := by
  induction data using List.reverseRecOn with
  | nil => rfl
  | append_singleton data b ih =>
    rw [List.length_append, List.length_singleton] at h
    rw [ringWritten_snoc, hostByte_other, ih]
    · exact h.imp_left fun h i hi => h i (by omega)
    · exact h.imp (fun h => h _ (by omega)) (fun h => (ringWritten_lands s place data a).not.2 h)

end

/-! ### Room for a picture (R186) -/

/-- Nothing but recording e's groups of pictures, their count and the cause tree is written. -/
def OnlyGops (e : Nat) (s t : State) : Prop :=
  t = { s with streams := { s.streams with rec_ := t.streams.rec_ }, causes := t.causes } ∧ (∀ k, k ≠ e → t.record k = s.record k) ∧
  t.record e = { s.record e with
    gops := (t.record e).gops, oldest := (t.record e).oldest, overwritten := (t.record e).overwritten }

theorem onlyGops_refl (e : Nat) (s : State) : OnlyGops e s s := ⟨rfl, fun _ _ => rfl, rfl⟩

theorem onlyGops_trans {e : Nat} {s t u : State} (a : OnlyGops e s t) (b : OnlyGops e t u) : OnlyGops e s u := by
  obtain ⟨onlya, othersa, reca⟩ := a
  obtain ⟨onlyb, othersb, recb⟩ := b
  refine ⟨?_, fun k h => (othersb k h).trans (othersa k h), ?_⟩
  · rw [onlyb, onlya]
  · rw [recb, reca]

theorem OnlyCauses.record {s t : State} (h : OnlyCauses s t) (e : Nat) : t.record e = s.record e := by rw [h.1]; rfl

/-- The recording without its oldest complete group, b being the one behind it. -/
def gopDropped (x : Rec) (b : BitVec 32) (l : List (BitVec 32)) : Rec :=
  { x with gops := b :: l, oldest := b, overwritten := satAdd 32 x.overwritten 1 }

section
variable {s : State} {e : Nat}

theorem dropGop_some {a b : BitVec 32} {l : List (BitVec 32)} (h : (s.record e).gops = a :: b :: l) :
    dropGop s e = raise (s.setRec e (gopDropped (s.record e) b l)) (.main gCodec (32 + e)) 0 0 := by
  unfold dropGop
  simp only
  rw [h]
  rfl

/-- The group being written is never given up. -/
theorem dropGop_none (h : (s.record e).gops.length ≤ 1) : dropGop s e = s := by
  unfold dropGop
  simp only
  match hg : (s.record e).gops with
  | [] => rfl
  | [_] => rfl
  | _ :: _ :: _ => simp [hg] at h

theorem dropGop_only (s : State) (e : Nat) : OnlyGops e s (dropGop s e) := by
  match hg : (s.record e).gops with
  | [] => rw [dropGop_none (by simp [hg])]; exact onlyGops_refl e s
  | [_] => rw [dropGop_none (by simp [hg])]; exact onlyGops_refl e s
  | a :: b :: l =>
    have only := raise_onlyCauses (s.setRec e (gopDropped (s.record e) b l)) (.main gCodec (32 + e)) 0 0
    rw [dropGop_some hg]
    refine ⟨?_, fun k h => (only.record k).trans (setRec_record_other _ _ _ h), ?_⟩
    · rw [only.1]
      rfl
    · rw [only.record, setRec_record]
      rfl

/-- One group is given up where n bytes have no room. -/
def roomStep (e n : Nat) (s : State) : State := if (s.record e).size < recUsed (s.record e) + n then dropGop s e else s

theorem makeRoom_eq (s : State) (e n : Nat) :
    makeRoom s e n = (List.range (s.record e).gops.length).foldl (fun s _ => roomStep e n s) s := rfl

/-- Where a step gives up nothing, none after it does. -/
theorem foldl_roomStep {n : Nat} (h : roomStep e n s = s) (l : List Nat) : l.foldl (fun s _ => roomStep e n s) s = s :=
  List.foldlRecOn (motive := fun t => t = s) _ _ rfl fun t ht _ _ => by rw [ht, h]

theorem makeRoom_only (s : State) (e n : Nat) : OnlyGops e s (makeRoom s e n) := by
  rw [makeRoom_eq]
  refine List.foldlRecOn (motive := OnlyGops e s) _ _ (onlyGops_refl e s) fun t ht _ _ => onlyGops_trans ht ?_
  unfold roomStep
  split
  · exact dropGop_only t e
  · exact onlyGops_refl e t

theorem roomStep_fits {n : Nat} (h : recUsed (s.record e) + n ≤ (s.record e).size) : roomStep e n s = s := if_neg (by omega)

/-- A picture that fits, or one before which no group is complete, takes no room from others. -/
theorem makeRoom_none {n : Nat} (h : recUsed (s.record e) + n ≤ (s.record e).size ∨ (s.record e).gops.length ≤ 1) :
    makeRoom s e n = s := by
  refine foldl_roomStep ?_ _
  rcases h with h | h
  · exact roomStep_fits h
  · unfold roomStep
    rw [dropGop_none h, ite_self]

/-- A picture for which one group makes room takes that of the oldest alone. -/
theorem makeRoom_one {n : Nat} {a b : BitVec 32} {l : List (BitVec 32)} (hg : (s.record e).gops = a :: b :: l)
    (hn : (s.record e).size < recUsed (s.record e) + n) (hb : recUsed { s.record e with oldest := b } + n ≤ (s.record e).size) :
    makeRoom s e n = dropGop s e := by
  have dropped : (dropGop s e).record e = gopDropped (s.record e) b l := by
    rw [dropGop_some hg, (raise_onlyCauses _ _ _ _).record, setRec_record]
  have first : roomStep e n s = dropGop s e := if_pos hn
  rw [makeRoom_eq, hg, List.length_cons, List.range_succ_eq_map, List.foldl_cons, first]
  refine foldl_roomStep (roomStep_fits ?_) _
  rw [dropped]
  exact hb

end

/-! ### A picture (R186) -/

/-- The recording as a picture begins: an IDR picture begins a group under the settings then in force. -/
def pictureBegun (x : Rec) (idr : Bool) : Rec :=
  if idr then { x with gops := x.gops ++ [x.prod], inForce := (x.gop, x.rate, x.qp, x.bitrate), inGop := 1 }
  else { x with inGop := x.inGop + 1 }

theorem pictureBegun_keeps (x : Rec) (idr : Bool) : pictureBegun x idr = { x with
    gops := if idr then x.gops ++ [x.prod] else x.gops, inForce := if idr then (x.gop, x.rate, x.qp, x.bitrate) else x.inForce
    inGop := if idr then 1 else x.inGop + 1 } := by
  cases idr <;> rfl

theorem trimGops_keeps (x : Rec) : trimGops x = { x with gops := (trimGops x).gops, oldest := (trimGops x).oldest } := rfl

/-- Where the ring has gone round over no group, all of them stay. -/
theorem trimGops_all {x : Rec} (h : ∀ b ∈ x.gops, (x.prod - b).toNat ≤ x.size) :
    (trimGops x).gops = x.gops ∧ (trimGops x).oldest = x.gops.headD x.oldest := by
  have all : x.gops.filter (fun b => decide ((x.prod - b).toNat ≤ x.size)) = x.gops := List.filter_eq_self.2 fun b hb => decide_eq_true (h b hb)
  unfold trimGops
  simp only [all]
  cases x.gops <;> exact ⟨rfl, rfl⟩

theorem gopDue_iff (x : Rec) : gopDue x = true ↔ x.inGop = 0 ∨ x.inForce.1 ≤ x.inGop := decide_eq_true_iff

section
variable {s : State} {e : Nat} {idr : Bool} {data : List Byte}

theorem encodePicture_off (h : (s.record e).source.getLsbD 15 = false) : encodePicture s e idr data = s :=
  if_pos (.inl (by rw [recEnabled, h]; rfl))

theorem encodePicture_wrongKind (h : idr ≠ gopDue (s.record e)) : encodePicture s e idr data = s := if_pos (.inr h)

/-- The recording with room for the picture that begins. -/
def roomMade (s : State) (e : Nat) (idr : Bool) (n : Nat) : State := makeRoom (s.setRec e (pictureBegun (s.record e) idr)) e n

/-- The picture's bytes are in the ring. -/
def pictureWritten (s : State) (e : Nat) (idr : Bool) (data : List Byte) : State :=
  ringWritten (roomMade s e idr data.length) (ringPlace ((roomMade s e idr data.length).record e)) data

/-- The producer index passes the picture. -/
def pictureDone (s : State) (e : Nat) (idr : Bool) (data : List Byte) : Rec :=
  trimGops { (pictureWritten s e idr data).record e with
    prod := ((roomMade s e idr data.length).record e).prod + BitVec.ofNat 32 data.length }

theorem encodePicture_runs (h : (s.record e).source.getLsbD 15 = true) (hi : idr = gopDue (s.record e)) :
    encodePicture s e idr data = (pictureWritten s e idr data).setRec e (pictureDone s e idr data) :=
  if_neg (by simp [recEnabled, h, hi])

end

theorem OnlyFabric.record {s t : State} (h : OnlyFabric s t) (e : Nat) : t.record e = s.record e := by rw [h]; rfl

section
variable (s : State) (e : Nat) (idr : Bool) (data : List Byte)

/-- The recording while its picture is written: as it began, but for the groups that gave up room. -/
theorem roomMade_record (n : Nat) : let z := (roomMade s e idr n).record e
    z = { pictureBegun (s.record e) idr with gops := z.gops, oldest := z.oldest, overwritten := z.overwritten } := by
  obtain ⟨-, -, begun⟩ := makeRoom_only (s.setRec e (pictureBegun (s.record e) idr)) e n
  rw [setRec_record] at begun
  exact begun

theorem roomMade_only (n : Nat) : let u := roomMade s e idr n
    u = { s with streams := { s.streams with rec_ := u.streams.rec_ }, causes := u.causes } ∧ ∀ k, k ≠ e → u.record k = s.record k := by
  obtain ⟨only, others, -⟩ := makeRoom_only (s.setRec e (pictureBegun (s.record e) idr)) e n
  exact ⟨only, fun k h => (others k h).trans (setRec_record_other _ _ _ h)⟩

theorem pictureWritten_only : OnlyFabric (roomMade s e idr data.length) (pictureWritten s e idr data) := (ringWritten_leaves _ _ _).1

/-- The recording after its picture. -/
theorem pictureDone_eq : let z := (roomMade s e idr data.length).record e
    pictureDone s e idr data = trimGops { pictureBegun (s.record e) idr with
      gops := z.gops, oldest := z.oldest, overwritten := z.overwritten, prod := (s.record e).prod + BitVec.ofNat 32 data.length } := by
  have room := roomMade_record s e idr data.length
  simp only at room ⊢
  unfold pictureDone
  rw [(pictureWritten_only s e idr data).record e, room, pictureBegun_keeps]

/-- What a picture changes of its recording, but for the groups, and what it keeps. -/
theorem pictureDone_fields : let x := s.record e
    let y := pictureDone s e idr data
    y.prod = x.prod + BitVec.ofNat 32 data.length ∧ y.inGop = (if idr then 1 else x.inGop + 1) ∧
    y.inForce = (if idr then (x.gop, x.rate, x.qp, x.bitrate) else x.inForce) ∧ y.source = x.source ∧ y.cons = x.cons ∧
    y.addr = x.addr ∧ y.size = x.size := by
  have after := pictureDone_eq s e idr data
  simp only at after ⊢
  rw [after, trimGops_keeps, pictureBegun_keeps]
  exact ⟨rfl, rfl, rfl, rfl, rfl, rfl, rfl⟩

theorem encoded_only : let t := (pictureWritten s e idr data).setRec e (pictureDone s e idr data)
    t = { s with streams := { s.streams with rec_ := t.streams.rec_ }, fabric := t.fabric, causes := t.causes } ∧
    ∀ k, k ≠ e → t.record k = s.record k := by
  have written := pictureWritten_only s e idr data
  obtain ⟨room, others⟩ := roomMade_only s e idr data.length
  refine ⟨?_, fun k h => (setRec_record_other _ _ _ h).trans ((written.record k).trans (others k h))⟩
  rw [written, room]
  rfl

/-- The picture's bytes lie in the ring as it stood at the picture's beginning. -/
theorem pictureWritten_eq : pictureWritten s e idr data = ringWritten (roomMade s e idr data.length) (ringPlace (s.record e)) data := by
  have place : ringPlace ((roomMade s e idr data.length).record e) = ringPlace (s.record e) := by
    rw [roomMade_record s e idr data.length, pictureBegun_keeps]
    rfl
  unfold pictureWritten
  rw [place]

theorem roomMade_fabric (n : Nat) : (roomMade s e idr n).fabric = s.fabric := by rw [(roomMade_only s e idr n).1]

theorem roomMade_lands (n a : Nat) : Lands (roomMade s e idr n) a ↔ Lands s a := by
  have fabric := roomMade_fabric s e idr n
  have tag : ownerTag (roomMade s e idr n) a = ownerTag s a := by unfold ownerTag; rw [fabric]
  unfold Lands
  rw [hostMayWrite_congr tag (by rw [(roomMade_only s e idr n).1]), lostAddr_congr (congrArg Fabric.lost fabric)]

/-- The ring's bytes in LPDDR6, under the host owner's tag. -/
theorem encoded_bytes : let t := (pictureWritten s e idr data).setRec e (pictureDone s e idr data)
    let place := ringPlace (s.record e)
    (∀ i, i < data.length → (∀ j, i < j → j < data.length → place j ≠ place i) → Lands s (place i) →
      readByte t.fabric.lpddr (place i) = data.getD i 0 ∧ ownerTag t (place i) = 0xFFFE) ∧
    ∀ a, (∀ i, i < data.length → place i ≠ a) ∨ ¬ Lands s a → readByte t.fabric.lpddr a = readByte s.fabric.lpddr a := by
  refine ⟨fun i hi hlast h => ?_, fun a h => ?_⟩
  · have byte := ringWritten_byte (roomMade s e idr data.length) (ringPlace (s.record e)) data hi hlast
      ((roomMade_lands s e idr data.length _).2 h)
    rw [← pictureWritten_eq] at byte
    exact byte
  · have other := ringWritten_other (roomMade s e idr data.length) (ringPlace (s.record e)) data (a := a)
      (h.imp_right (roomMade_lands s e idr data.length a).not.2)
    rw [← pictureWritten_eq, roomMade_fabric] at other
    exact other

/-- The groups of pictures as a picture begins. -/
def gopsBegun (x : Rec) (idr : Bool) : List (BitVec 32) := if idr then x.gops ++ [x.prod] else x.gops

theorem pictureBegun_gops (x : Rec) : (pictureBegun x idr).gops = gopsBegun x idr := by rw [pictureBegun_keeps]; rfl

theorem pictureBegun_used (x : Rec) : recUsed (pictureBegun x idr) = recUsed x ∧ (pictureBegun x idr).size = x.size ∧
    (pictureBegun x idr).overwritten = x.overwritten ∧ (pictureBegun x idr).oldest = x.oldest ∧
    ∀ b, recUsed { pictureBegun x idr with oldest := b } = recUsed { x with oldest := b } := by
  rw [pictureBegun_keeps]
  exact ⟨rfl, rfl, rfl, rfl, fun _ => rfl⟩

theorem pictureWritten_causes : (pictureWritten s e idr data).causes = (roomMade s e idr data.length).causes := by
  rw [pictureWritten_only s e idr data]

variable {s e idr data}

/-- A picture that fits, or one with no complete group to give up, overwrites none. -/
theorem encoded_keeps (h : recUsed (s.record e) + data.length ≤ (s.record e).size ∨ (gopsBegun (s.record e) idr).length ≤ 1) :
    let x := s.record e
    let y := pictureDone s e idr data
    (pictureWritten s e idr data).causes = s.causes ∧ y.overwritten = x.overwritten ∧
    ((∀ b ∈ gopsBegun x idr, (x.prod + BitVec.ofNat 32 data.length - b).toNat ≤ x.size) →
      y.gops = gopsBegun x idr ∧ y.oldest = (gopsBegun x idr).headD x.oldest) := by
  obtain ⟨used, size, overwritten, oldest, -⟩ := pictureBegun_used idr (s.record e)
  have kept : roomMade s e idr data.length = s.setRec e (pictureBegun (s.record e) idr) := by
    refine makeRoom_none ?_
    rw [setRec_record, used, size, pictureBegun_gops]
    exact h
  have begun : (roomMade s e idr data.length).record e = pictureBegun (s.record e) idr := by rw [kept, setRec_record]
  have after := pictureDone_eq s e idr data
  simp only at after ⊢
  rw [after, begun]
  refine ⟨by rw [pictureWritten_causes, kept]; rfl, overwritten, fun inRing => ?_⟩
  rw [← pictureBegun_gops, ← size] at inRing
  rw [← pictureBegun_gops, ← oldest]
  exact trimGops_all (x := { pictureBegun (s.record e) idr with prod := (s.record e).prod + BitVec.ofNat 32 data.length }) inRing

/-- A picture for which the oldest complete group makes room overwrites, counts and reports it alone. -/
theorem encoded_overwrites {a b : BitVec 32} {l : List (BitVec 32)} (he : e < 4) (hg : gopsBegun (s.record e) idr = a :: b :: l)
    (hn : (s.record e).size < recUsed (s.record e) + data.length)
    (hb : recUsed { s.record e with oldest := b } + data.length ≤ (s.record e).size) : let x := s.record e
    let y := pictureDone s e idr data
    leafIsSet (pictureWritten s e idr data).causes (.main gCodec (32 + e)) = true ∧ y.overwritten = satAdd 32 x.overwritten 1 ∧
    ((∀ g ∈ b :: l, (x.prod + BitVec.ofNat 32 data.length - g).toNat ≤ x.size) → y.gops = b :: l ∧ y.oldest = b) := by
  obtain ⟨used, size, overwritten, -, behind⟩ := pictureBegun_used idr (s.record e)
  have gops : ((s.setRec e (pictureBegun (s.record e) idr)).record e).gops = a :: b :: l := by
    rw [setRec_record, pictureBegun_gops, hg]
  have one : roomMade s e idr data.length = dropGop (s.setRec e (pictureBegun (s.record e) idr)) e := by
    refine makeRoom_one gops ?_ ?_
    · rw [setRec_record, used, size]
      exact hn
    · rw [setRec_record, behind, size]
      exact hb
  rw [dropGop_some gops, setRec_record] at one
  have begun : (roomMade s e idr data.length).record e = gopDropped (pictureBegun (s.record e) idr) b l := by
    rw [one, (raise_onlyCauses _ _ _ _).record, setRec_record]
  have after := pictureDone_eq s e idr data
  simp only at after ⊢
  rw [after, begun]
  refine ⟨?_, congrArg (satAdd 32 · 1) overwritten, fun inRing => ?_⟩
  · rw [pictureWritten_causes, one]
    exact leafIsSet_raise_main _ gCodec (by omega) _ _
  · rw [← size] at inRing
    exact trimGops_all (x := { gopDropped (pictureBegun (s.record e) idr) b l with prod := (s.record e).prod + BitVec.ofNat 32 data.length }) inRing

end

/-! ### The settings of a recording (R186, spec/00 R8) -/

/-- The slot that a recording names, or named, is not IDLE. -/
def RecBusy (s : State) (x : Rec) (v : BitVec 16) : Prop :=
  (v.getLsbD 15 = true ∧ (s.slot (v.toNat % 32)).held = true) ∨ (x.source.getLsbD 15 = true ∧ (s.slot (x.source.toNat % 32)).held = true)

theorem recBusy_iff (s : State) (e : Nat) (v : BitVec 16) : RecBusy s (s.record e) v ↔ ((v.getLsbD 15 && (s.slot (v.toNat % 32)).held) ||
    (recEnabled (s.record e) && (s.slot (recSlot (s.record e).source)).held)) = true := by
  simp only [RecBusy, recEnabled, recSlot, Bool.or_eq_true, Bool.and_eq_true]

/-- The recording under its new source; one that is enabled begins its ring anew. -/
def sourceChosen (x : Rec) (v : BitVec 16) : Rec :=
  if v.getLsbD 15 && !recEnabled x then { x with source := v &&& 0x831F, prod := 0, cons := 0, oldest := 0, gops := [], inGop := 0 }
  else { x with source := v &&& 0x831F }

theorem sourceChosen_keeps (x : Rec) (v : BitVec 16) : (sourceChosen x v).source = v &&& 0x831F ∧ (sourceChosen x v).addr = x.addr ∧
    (sourceChosen x v).size = x.size := by
  unfold sourceChosen
  split <;> exact ⟨rfl, rfl, rfl⟩

theorem sourceChosen_enables {x : Rec} {v : BitVec 16} (on : v.getLsbD 15 = true) (off : x.source.getLsbD 15 = false) :
    (sourceChosen x v).prod = 0 ∧ (sourceChosen x v).cons = 0 := by
  unfold sourceChosen recEnabled
  rw [on, off]
  exact ⟨rfl, rfl⟩

theorem source_bits (v : BitVec 16) : (v &&& 0x831F).getLsbD 15 = v.getLsbD 15 ∧ recSlot (v &&& 0x831F) = v.toNat % 32 := by
  have low : (0x831F : BitVec 16).toNat % 2 ^ 5 = 2 ^ 5 - 1 := by decide
  have top : (0x831F : BitVec 16).getLsbD 15 = true := by decide
  refine ⟨by rw [BitVec.getLsbD_and, top, Bool.and_true], ?_⟩
  have part : (v.toNat &&& (0x831F : BitVec 16).toNat) % 2 ^ 5 = v.toNat % 2 ^ 5 := by
    rw [Nat.and_mod_two_pow, low, Nat.and_two_pow_sub_one_eq_mod, Nat.mod_mod]
  rw [recSlot, BitVec.toNat_and]
  exact part

theorem answer_record (s : State) (c e : Nat) : (answer s c).record e = s.record e := rfl

section
variable {s : State} {e : Nat} {v : BitVec 16} (hs : setupState s = true)
include hs

/-- A source that is written in a set-up state goes through its checks without its reserved bits. -/
theorem writeRecSource_setup : writeRecSource s e v.toNat =
    (if (v.getLsbD 15 && (s.slot (v.toNat % 32)).held) || (recEnabled (s.record e) && (s.slot (recSlot (s.record e).source)).held) then
       answer s wrongState
     else if v.getLsbD 15 ∧ (s.record e).size = 0 then answer s refusedCode
     else answer (s.setRec e (sourceChosen (s.record e) v)) okCode) := by
  obtain ⟨top, slot⟩ := source_bits v
  unfold writeRecSource
  simp only [BitVec.ofNat_toNat, BitVec.setWidth_eq, top, slot]
  exact if_neg (by simp [hs])

theorem writeRecSource_busy (h : RecBusy s (s.record e) v) : writeRecSource s e v.toNat = answer s wrongState :=
  (writeRecSource_setup hs).trans (if_pos ((recBusy_iff s e v).1 h))

variable (h : ¬ RecBusy s (s.record e) v)
include h

theorem writeRecSource_noRing (on : v.getLsbD 15 = true) (h0 : (s.record e).size = 0) :
    writeRecSource s e v.toNat = answer s refusedCode :=
  (writeRecSource_setup hs).trans ((if_neg ((recBusy_iff s e v).not.1 h)).trans (if_pos ⟨on, h0⟩))

theorem writeRecSource_done (hr : ¬ v.getLsbD 15 = true ∨ (s.record e).size ≠ 0) : writeRecSource s e v.toNat =
    answer (s.setRec e (sourceChosen (s.record e) v)) okCode :=
  (writeRecSource_setup hs).trans ((if_neg ((recBusy_iff s e v).not.1 h)).trans (if_neg (by tauto)))

end

/-! ### The statement -/

/-- Settles O35: a picture is written byte by byte after as many groups as it needs have gone, and a setting is one branch of its checks. -/
theorem recording : Obligations.Recording := by
  unfold Obligations.Recording
  refine ⟨fun e idr data s => ⟨fun off => congrArg Host.Outcome.next (encodePicture_off off),
    fun _ wrong => congrArg Host.Outcome.next (encodePicture_wrongKind wrong), gopDue_iff _, fun on due => ?picture⟩, fun e v s => ?source, fun e v s => ?consumer⟩
  case picture =>
    obtain ⟨prod, inGop, inForce, source, cons, addr, size⟩ := pictureDone_fields s e.val idr data
    obtain ⟨only, others⟩ := encoded_only s e.val idr data
    obtain ⟨bytes, elsewhere⟩ := encoded_bytes s e.val idr data
    refine ⟨_, congrArg Host.Outcome.next (encodePicture_runs on due), ?_⟩
    simp only [setRec_record]
    refine ⟨prod, inGop, inForce, source, cons, addr, size, only, others, fun i hi hlast may inside there => bytes i hi hlast ⟨may, inside, there⟩,
      fun a h => elsewhere a (h.imp_right ?_), fun h => encoded_keeps h, fun a b l hg hn hb => encoded_overwrites e.isLt hg hn hb⟩
    rintro (h | h) ⟨may, -, there⟩
    · exact absurd may (by simp [h])
    · exact absurd there (by simp [h])
  case source =>
    refine ⟨fun hs => congrArg Host.Outcome.next (if_pos (by simp [hs])), fun hs h => congrArg Host.Outcome.next (writeRecSource_busy hs h),
      fun hs h on h0 => congrArg Host.Outcome.next (writeRecSource_noRing hs h on h0), fun hs h hr => ?_⟩
    obtain ⟨source, addr, size⟩ := sourceChosen_keeps (s.record e.val) v
    refine ⟨_, congrArg Host.Outcome.next (writeRecSource_done hs h hr), ?_⟩
    simp only [answer_record, setRec_record]
    exact ⟨source, rfl, fun k hk => setRec_record_other _ _ _ hk, addr, size, fun on off => sourceChosen_enables on off⟩
  case consumer =>
    refine ⟨fun hs => congrArg Host.Outcome.next (if_neg (by simp [hs])), fun hs => congrArg Host.Outcome.next ?_⟩
    rw [writeConsumer, if_pos hs, BitVec.ofNat_toNat, BitVec.setWidth_eq]

end Sys2Proof.Machine

/-! SUPPORT. Queues: what is read of the table of queues after a write of one (spec/08 R200 to R203). -/

namespace Sys2Proof.Machine

open Sys2Proof.Safety

/-! ### The entry of a key -/

theorem find?_insertKey_same {α : Type} {t : Tab α} {k : Nat} (v : α) (h : ∀ p ∈ t, p.1 ≠ k) :
    (insertKey t k v).find? (fun p => p.1 == k) = some (k, v) := by
  induction t with
  | nil => simp [insertKey]
  | cons p t ih =>
    have hp : p.1 ≠ k := h p (by simp)
    unfold insertKey
    split
    · simp
    · rw [List.find?_cons_of_neg (by simpa using hp)]
      exact ih fun q hq => h q (by simp [hq])

theorem find?_insertKey_other {α : Type} (t : Tab α) {k j : Nat} (v : α) (h : j ≠ k) :
    (insertKey t k v).find? (fun p => p.1 == j) = t.find? (fun p => p.1 == j) := by
  induction t with
  | nil => simp [insertKey, h.symm]
  | cons p t ih =>
    unfold insertKey
    split
    · rw [List.find?_cons_of_neg (by simpa using h.symm)]
    · simp only [List.find?_cons, ih]

theorem find?_erase_same {α : Type} (t : Tab α) (k : Nat) : (erase t k).find? (fun p => p.1 == k) = none :=
  List.find?_eq_none.2 fun p hp => by simpa using erase_keys t k p hp

theorem find?_erase_other {α : Type} (t : Tab α) {k j : Nat} (h : j ≠ k) :
    (erase t k).find? (fun p => p.1 == j) = t.find? (fun p => p.1 == j) := by
  rw [erase, List.find?_filter]
  refine congrArg (List.find? · t) (funext fun p => Bool.eq_iff_iff.2 ?_)
  simp only [Bool.not_eq_true', beq_eq_false_iff_ne, beq_iff_eq, decide_eq_true_eq]
  exact ⟨fun e => e.2, fun e => ⟨e ▸ h, e⟩⟩

/-! ### Reads of a queue -/

@[simp] theorem setQueue_queue? (s : State) (q : Nat) (x : Queue) : (s.setQueue q x).queue? q = some x := by
  unfold State.queue? State.setQueue
  rw [find?_insertKey_same x (erase_keys _ _), Option.map_some]

theorem setQueue_queue?_other (s : State) {q p : Nat} (x : Queue) (h : p ≠ q) : (s.setQueue q x).queue? p = s.queue? p := by
  unfold State.queue? State.setQueue
  rw [find?_insertKey_other _ x h, find?_erase_other _ h]

@[simp] theorem dropQueue_queue? (s : State) (q : Nat) : (s.dropQueue q).queue? q = none := by
  unfold State.queue? State.dropQueue
  rw [find?_erase_same, Option.map_none]

theorem dropQueue_queue?_other (s : State) {q p : Nat} (h : p ≠ q) : (s.dropQueue q).queue? p = s.queue? p := by
  unfold State.queue? State.dropQueue
  rw [find?_erase_other _ h]

/-- Writes of the ring pool leave the table of queues, so a queue whose status line is written reads as it was stored. -/
@[simp] theorem commitQueue_queue? (s : State) (q : Nat) (x : Queue) : (commitQueue s q x).queue? q = some x := setQueue_queue? s q x

theorem commitQueue_queue?_other (s : State) {q p : Nat} (x : Queue) (h : p ≠ q) : (commitQueue s q x).queue? p = s.queue? p :=
  setQueue_queue?_other s x h

end Sys2Proof.Machine

/-! SUPPORT. Submission records: the record at the consumer index of a SUBMIT queue, by the row that takes it (spec/08 R204, R220, R221;
spec/10 R265; spec/12 R313). -/

namespace Sys2Proof.Machine

open Sys2Proof.Safety

/-- Queue x has a record to take: it is a SUBMIT queue with an entry, of a context that takes work, whose Laster runs. -/
def Offers (s : State) (x : Queue) : Prop :=
  x.typ = .submit ∧ x.cons < x.prod ∧ activeCtx (s.ctx x.ctx) = true ∧ (s.laster (ctxLaster s x.ctx)).state = 0

theorem offers_iff (s : State) (x : Queue) : Offers s x ↔ ¬ (x.typ ≠ .submit ∨ x.prod ≤ x.cons ∨ (!activeCtx (s.ctx x.ctx)) = true ∨
    (s.laster (ctxLaster s x.ctx)).state ≠ 0) := by
  simp only [Offers, not_or, not_not, not_le, Bool.not_eq_true', Bool.not_eq_false]

theorem submitOne_none {s : State} {q : Nat} (h : s.queue? q = none) (kinds : List Nat) : submitOne s q kinds = none := by
  unfold submitOne
  rw [h]

section
variable {s : State} {q : Nat} {x : Queue} {kinds : List Nat} (hx : s.queue? q = some x)
include hx

theorem submitOne_waits (h : ¬ Offers s x) : submitOne s q kinds = none := by
  unfold submitOne
  rw [hx]
  exact if_pos (not_not.1 ((offers_iff s x).not.1 h))

variable (h : Offers s x)
include h

/-- A record rung before the launch goes unread, with the row of its type. -/
theorem submitOne_unread (early : ringTime x x.cons < (s.ctx x.ctx).launched) : submitOne s q kinds =
    if kinds.contains (if field (submitBytes s x) 0 1 = 0x40 then 4 else 3) then some (consume s q x) else none := by
  unfold submitOne
  rw [hx]
  exact (if_neg ((offers_iff s x).1 h)).trans (if_pos early)

variable {r : List Byte} (hr : r = submitBytes s x) (launched : (s.ctx x.ctx).launched ≤ ringTime x x.cons)
include hr launched

theorem submitOne_bad (bad : submitBad s x r = true) (takes : kinds.contains 3 = true) : submitOne s q kinds =
    some (postRecord (consume s q x) x.ctx ⟨stFault, 0, 9, 0, field r 6 4,
      if field r 22 8 = 0 then ringTime x x.cons else field r 22 8, 0, s.free, s.now⟩) := by
  subst hr
  unfold submitOne
  rw [hx]
  exact (if_neg ((offers_iff s x).1 h)).trans ((if_neg launched.not_gt).trans ((if_pos bad).trans (if_pos (.inl takes))))

variable (good : submitBad s x r = false)
include good

theorem submitOne_cancel (ty : field r 0 1 = 0x40) : submitOne s q kinds =
    if kinds.contains 4 then some (cancelJob (consume s q x) x.ctx (field r 6 4)) else none := by
  subst hr
  unfold submitOne
  rw [hx]
  exact (if_neg ((offers_iff s x).1 h)).trans ((if_neg launched.not_gt).trans ((if_neg (by simp [good])).trans (if_pos ty)))

variable (ty : field r 0 1 ≠ 0x40)
include ty

theorem submitOne_job_passed (passes : kinds.contains 3 = false) : submitOne s q kinds = none := by
  subst hr
  unfold submitOne
  rw [hx]
  exact (if_neg ((offers_iff s x).1 h)).trans ((if_neg launched.not_gt).trans ((if_neg (by simp [good])).trans ((if_neg ty).trans
    (if_pos (by simp only [passes, Bool.not_false])))))

variable (takes : kinds.contains 3 = true)
include takes

/-- A JOB on host input names its bytes and its argument itself. -/
theorem submitOne_host (host : field r 1 1 = 1) : submitOne s q kinds = some (formJob (consume s q x) x.ctx
    { tag := field r 6 4, tInput := if field r 22 8 = 0 then ringTime x x.cons else field r 22 8, src := 1, inAddr := field r 10 8
      inLen := field r 18 4, arg := (r.drop 30).take 32, voidPos := [], buffers := [], buf := none, cold := false, late := false
      closedAt := s.now }) := by
  subst hr
  unfold submitOne
  rw [hx]
  exact (if_neg ((offers_iff s x).1 h)).trans ((if_neg launched.not_gt).trans ((if_neg (by simp [good])).trans ((if_neg ty).trans
    ((if_neg (by simp only [takes, Bool.not_true, Bool.false_eq_true, not_false_eq_true])).trans (if_pos host)))))

/-- A JOB on a batch takes the oldest closed one, and waits where there is none. -/
theorem submitOne_batch (host : field r 1 1 ≠ 1) : submitOne s q kinds = (s.ctx x.ctx).batches.head?.map fun b =>
    formJob (tookBatch ((consume s q x).modCtx x.ctx (fun d => { d with batches := (s.ctx x.ctx).batches.tail })) x.ctx) x.ctx
      { batchJob b (s.ctx x.ctx).npos (field r 6 4) ((r.drop 30).take 32) with late := false } := by
  subst hr
  unfold submitOne
  rw [hx]
  refine (if_neg ((offers_iff s x).1 h)).trans ((if_neg launched.not_gt).trans ((if_neg (by simp [good])).trans ((if_neg ty).trans
    ((if_neg (by simp only [takes, Bool.not_true, Bool.false_eq_true, not_false_eq_true])).trans ((if_neg host).trans ?_)))))
  dsimp only
  cases (s.ctx x.ctx).batches <;> rfl

end

theorem exec_job_none {q : QueueNo} {s : State} (h : submitOne s q.val [3] = none) : exec (.job q) s = .next s :=
  congrArg Host.Outcome.next (by rw [h])
theorem exec_job_some {q : QueueNo} {s t : State} (h : submitOne s q.val [3] = some t) : exec (.job q) s = .next (dispatchAll t) :=
  congrArg Host.Outcome.next (by rw [h])
theorem exec_cancel_none {q : QueueNo} {s : State} (h : submitOne s q.val [4] = none) : exec (.cancel q) s = .next s :=
  congrArg Host.Outcome.next (by rw [h])
theorem exec_cancel_some {q : QueueNo} {s t : State} (h : submitOne s q.val [4] = some t) : exec (.cancel q) s = .next (dispatchAll t) :=
  congrArg Host.Outcome.next (by rw [h])

/-- Settles O42: a queue offers no record or one, and each record is one branch of its checks. -/
theorem submitRecords : Obligations.SubmitRecords := by
  unfold Obligations.SubmitRecords
  refine fun q s => ⟨?waits, fun x hx typ more active up => ?record⟩
  case waits =>
    rintro (h | ⟨x, hx, h⟩)
    · exact ⟨exec_job_none (submitOne_none h _), exec_cancel_none (submitOne_none h _)⟩
    · have none_ : ¬ Offers s x := by
        rintro ⟨typ, more, active, up⟩
        rcases h with h | h | h | h
        · exact h typ
        · exact absurd more (by omega)
        · exact absurd active (by simp [h])
        · exact h up
      exact ⟨exec_job_none (submitOne_waits hx none_), exec_cancel_none (submitOne_waits hx none_)⟩
  case record =>
    have offers : Offers s x := ⟨typ, more, active, up⟩
    have unread {k} (h) := submitOne_unread (kinds := k) hx offers (not_le.1 h)
    refine ⟨fun early ty => ⟨?_, ?_⟩, fun early ty => ⟨?_, ?_⟩, fun late bad => exec_job_some (submitOne_bad hx offers rfl late bad rfl),
      fun late good ty => ⟨exec_cancel_some (submitOne_cancel hx offers rfl late good ty), exec_job_none (submitOne_cancel hx offers rfl late good ty)⟩,
      fun late good ty => exec_cancel_none (submitOne_job_passed hx offers rfl late good (by simp [ty]) rfl),
      fun late good ty host => exec_job_some (submitOne_host hx offers rfl late good (by simp [ty]) rfl host),
      fun late good ty batch none_ => exec_job_none ?_, fun b rest late good ty batch some_ => exec_job_some ?_, commitQueue_queue? _ _ _⟩
    · exact exec_cancel_some (unread early |>.trans (by simp [ty]))
    · exact exec_job_none (unread early |>.trans (by simp [ty]))
    · exact exec_job_some (unread early |>.trans (by simp [ty]))
    · exact exec_cancel_none (unread early |>.trans (by simp [ty]))
    · rw [submitOne_batch hx offers rfl late good (by simp [ty]) rfl (by simp [batch]), none_]
      rfl
    · rw [submitOne_batch hx offers rfl late good (by simp [ty]) rfl (by simp [batch]), some_]
      rfl

end Sys2Proof.Machine

/-! SUPPORT. Queue doorbells and queue commands (spec/08 R200 to R203; spec/11 R283). -/

namespace Sys2Proof.Machine

open Sys2Proof.Safety

/-! ### The word of a doorbell (spec/11 R283) -/

/-- A doorbell that moves an index of queue q to i. -/
def doorbellWord (q i : Nat) : Word := BitVec.ofNat 64 (i * 2 ^ 32 + 2 ^ 31 + q)

section
variable {q i : Nat} (hq : q < 65536) (hi : i < 2 ^ 32)
include hq hi

theorem doorbellWord_toNat : (doorbellWord q i).toNat = i * 2 ^ 32 + 2 ^ 31 + q := by
  rw [doorbellWord, BitVec.toNat_ofNat]
  omega

theorem doorbellWord_queue : bits (doorbellWord q i).toNat 15 0 = q := by
  rw [doorbellWord_toNat hq hi, bits]
  omega

theorem doorbellWord_index : bits (doorbellWord q i).toNat 63 32 = i := by
  rw [doorbellWord_toNat hq hi, bits]
  omega

theorem doorbellWord_valid : (doorbellWord q i).getLsbD 31 = true := by
  rw [BitVec.getLsbD, doorbellWord_toNat hq hi, Nat.testBit_eq_decide_div_mod_eq, decide_eq_true_eq]
  omega

end

/-! ### What a doorbell does (spec/08 R201, R202) -/

theorem hmpLeaf_set (s : State) (ch : Nat) {b : Nat} (hb : b < 64) (off : Nat) :
    leafIsSet (hmpLeaf s ch b off).causes (.main gHmp b) = true ∧ (hmpLeaf s ch b off).queues = s.queues := by
  have only := raise_onlyCauses s (.main gHmp b) (at_ ch 8) off
  exact ⟨leafIsSet_raise_main _ _ hb _ _, by rw [hmpLeaf, only.1]⟩

/-- The first n entries from the consumer index on read 0. -/
def entriesCleared (s : State) (ch : Nat) (x : Queue) (n : Nat) : State :=
  (List.range n).foldl (fun s k => ringWrite s ch (x.entryAt (x.cons + k)) (List.replicate 64 0)) s

theorem entriesCleared_hmp (s : State) (ch : Nat) (x : Queue) (n : Nat) :
    entriesCleared s ch x n = { s with hmp := (entriesCleared s ch x n).hmp } := by
  unfold entriesCleared
  induction List.range n generalizing s with
  | nil => rfl
  | cons k l ih => exact ih _

theorem entriesCleared_lasters (s : State) (ch : Nat) (x : Queue) (n : Nat) : (entriesCleared s ch x n).lasters = s.lasters := by
  rw [entriesCleared_hmp]

theorem entriesCleared_ctxs (s : State) (ch : Nat) (x : Queue) (n : Nat) : (entriesCleared s ch x n).ctxs = s.ctxs := by
  rw [entriesCleared_hmp]

theorem entriesCleared_queue? (s : State) (ch : Nat) (x : Queue) (n q : Nat) : (entriesCleared s ch x n).queue? q = s.queue? q := by
  rw [entriesCleared_hmp]
  rfl

theorem commitQueue_ctxLaster (s : State) (q : Nat) (x : Queue) (c : Nat) : ctxLaster (commitQueue s q x) c = ctxLaster s c := rfl

theorem entriesCleared_ctxLaster (s : State) (ch : Nat) (x : Queue) (n c : Nat) : ctxLaster (entriesCleared s ch x n) c = ctxLaster s c := by
  rw [entriesCleared_hmp]
  rfl

theorem ringQueue_unset {s : State} {ch off : Nat} {w : Word} (h : w.getLsbD 31 = false) : ringQueue s ch off w = s :=
  if_pos (by rw [h]; rfl)

section
variable {s : State} {ch off q i : Nat} (hq : q < 65536) (hi : i < 2 ^ 32)
include hq hi

theorem ringQueue_noQueue (h : s.queue? q = none) : ringQueue s ch off (doorbellWord q i) = hmpLeaf s ch 4 off := by
  unfold ringQueue
  rw [doorbellWord_valid hq hi, doorbellWord_queue hq hi]
  simp only [h]
  rfl

variable {x : Queue} (hx : s.queue? q = some x)
include hx

theorem ringQueue_otherChannel (h : x.ch ≠ ch) : ringQueue s ch off (doorbellWord q i) = hmpLeaf s ch 5 off := by
  unfold ringQueue
  rw [doorbellWord_valid hq hi, doorbellWord_queue hq hi]
  simp only [hx]
  exact if_pos h

variable (hch : x.ch = ch) {n : Nat} (hn : n = (i + 2 ^ 32 - x.cons % 2 ^ 32) % 2 ^ 32)
include hch hn

/-- The host moves the producer index of a SUBMIT queue, n entries ahead of the consumer index; the time of the doorbell is kept with it. -/
theorem ringQueue_producer (typ : x.typ = .submit) : ringQueue s ch off (doorbellWord q i) =
    if n < x.prod - x.cons ∨ x.entries < n then hmpLeaf s ch 4 off
    else if n = x.prod - x.cons then s
    else sendNotice (commitQueue s q { x with prod := x.cons + n, rings := x.rings ++ [(x.cons + n, s.now)] }) (ctxLaster s x.ctx) (hmpSrc ch)
      (.doorbell q) := by
  unfold ringQueue
  simp only [doorbellWord_valid hq hi, doorbellWord_queue hq hi, doorbellWord_index hq hi, hx, hch, typ, ← hn, commitQueue_ctxLaster,
    Bool.not_true, Bool.false_eq_true, if_false, ne_eq, not_true_eq_false]

/-- The host moves the consumer index of a COMPLETE or EVENT queue by n entries; they are cleared. -/
theorem ringQueue_consumer (typ : x.typ ≠ .submit) : ringQueue s ch off (doorbellWord q i) =
    if x.prod - x.cons < n then hmpLeaf s ch 4 off
    else if n = 0 then s
    else sendNotice (commitQueue (entriesCleared s ch x n) q { x with cons := x.cons + n }) (ctxLaster s x.ctx) (hmpSrc ch) (.doorbell q) := by
  rw [← entriesCleared_ctxLaster s ch x n]
  unfold ringQueue
  simp only [doorbellWord_valid hq hi, doorbellWord_queue hq hi, doorbellWord_index hq hi, hx, hch, ← hn, commitQueue_ctxLaster,
    Bool.not_true, Bool.false_eq_true, if_false, ne_eq, not_true_eq_false]
  cases typ' : x.typ with
  | submit => exact absurd typ' typ
  | complete => rfl
  | event => rfl

end

/-! ### Queue commands (spec/08 R203) -/

/-- A queue command is performed. -/
def TakesQueueCommand (s : State) (c : Nat) : Prop :=
  setupState s = true ∧ ((s.ctx c).st = .empty ∨ (s.ctx c).st = .refused ∨ (s.ctx c).st = .suspended)

/-- The state after a queue command of context c, with its result. -/
def queueAnswered (c : Nat) (b : BitVec 128) (r : State × Nat × Nat) : State :=
  answer (r.1.modCtx c (fun x => { x with queueResult := qResult b r.2.1 r.2.2 })) okCode

theorem queueAnswered_result (c : Nat) (b : BitVec 128) (r : State × Nat × Nat) :
    ((queueAnswered c b r).ctx c).queueResult = qResult b r.2.1 r.2.2 :=
  congrArg Ctx.queueResult (modCtx_same r.1 c (fun x => { x with queueResult := qResult b r.2.1 r.2.2 }))

section
variable {s : State} {c : Nat} {b : BitVec 128} {act : State → State × Nat × Nat}

theorem queueCommand_wrongState (h : ¬ TakesQueueCommand s c) : queueCommand s c b act = answer s wrongState := by
  unfold queueCommand
  by_cases setup : setupState s = true
  · refine (if_neg (by simp [setup])).trans (if_pos ?_)
    unfold TakesQueueCommand at h
    tauto
  · exact if_pos (by simpa using setup)

theorem queueCommand_takes (h : TakesQueueCommand s c) : queueCommand s c b act = queueAnswered c b (act s) := by
  obtain ⟨setup, st⟩ := h
  unfold queueCommand
  exact (if_neg (by simp [setup])).trans (if_neg (by tauto))

end

/-- The rows that create a queue: operation, command, type. -/
def createRows : List (Nat × (CtxNo → BitVec 128 → Instr) × QType) :=
  [(1, .createSubmit, .submit), (2, .createComplete, .complete), (3, .createEvent, .event)]

theorem exec_create {p : Nat × (CtxNo → BitVec 128 → Instr) × QType} (hp : p ∈ createRows) (c : CtxNo) (b : BitVec 128) (s : State) :
    exec (p.2.1 c b) s =
      if cmdField b 2 1 = p.1 then .next (queueCommand s c.val b (fun s => createQueue s c.val b p.2.2)) else .refused .illFormed := by
  simp only [createRows, List.mem_cons, List.not_mem_nil, or_false] at hp
  rcases hp with rfl | rfl | rfl <;> rfl

/-- The rows of the queue commands: operation, command. -/
def queueRows : List (Nat × (CtxNo → BitVec 128 → Instr)) :=
  [(0, .queueDestroy), (1, .createSubmit), (2, .createComplete), (3, .createEvent)]

/-- Each row is a queue command of its operation. -/
theorem exec_queueRow {p : Nat × (CtxNo → BitVec 128 → Instr)} (hp : p ∈ queueRows) (c : CtxNo) (b : BitVec 128) (s : State) :
    ∃ act, exec (p.2 c b) s = if cmdField b 2 1 = p.1 then .next (queueCommand s c.val b act) else .refused .illFormed := by
  simp only [queueRows, List.mem_cons, List.not_mem_nil, or_false] at hp
  rcases hp with rfl | rfl | rfl | rfl <;> exact ⟨_, rfl⟩

/-- A parameter of a create command is out of range. -/
def BadCreate (b : BitVec 128) : Prop := reservedSet b = true ∨ cmdField b 3 1 < 4 ∨ 16 < cmdField b 3 1 ∨ cmdField b 4 1 < 1 ∨
  2 < cmdField b 4 1 ∨ 1 < cmdField b 5 1

/-- A create command asks for records of version 2, which the version of the port does not give. -/
def NeedsNewerPort (s : State) (b : BitVec 128) : Prop := cmdField b 4 1 = 2 ∧ (s.hmp.major ≠ 1 ∨ s.hmp.minor < 2)

/-- The queue that a create command of context c asks for, from a page on, with nothing in it. -/
def newQueue (c : Nat) (b : BitVec 128) (t : QType) (page : Nat) : Queue :=
  { ctx := c, typ := t, k := cmdField b 3 1, version := cmdField b 4 1, ch := cmdField b 5 1, page := page
    mask := if t = .event then BitVec.ofNat 32 (cmdField b 8 4) else 0 }

section
variable {s : State} {c : Nat} {b : BitVec 128} {t : QType}

theorem createQueue_bad (bad : BadCreate b) : createQueue s c b t = (s, qBadParam, 0) := if_pos bad

variable (good : ¬ BadCreate b)
include good

theorem createQueue_old (old : NeedsNewerPort s b) : createQueue s c b t = (s, qVersion, 0) := (if_neg good).trans (if_pos old)

variable (new : ¬ NeedsNewerPort s b)
include new

theorem createQueue_inUse (h : s.queue? (cmdField b 0 2) ≠ none) : createQueue s c b t = (s, qInUse, 0) :=
  (if_neg good).trans ((if_neg new).trans (if_pos (Option.isSome_iff_ne_none.2 h)))

variable (h : s.queue? (cmdField b 0 2) = none)
include h

theorem createQueue_noSpace {page : Nat} (full : freePages s (cmdField b 5 1) (newQueue c b t page).pages = none) :
    createQueue s c b t = (s, qNoSpace, 0) := by
  refine (if_neg good).trans ((if_neg new).trans ((if_neg (by rw [h]; simp)).trans ?_))
  simp only [newQueue, Queue.pages, Queue.entries] at full ⊢
  rw [full]

/-- The pages of a created queue read 0, and its status line with them. -/
theorem createQueue_done {page : Nat} (fits : freePages s (cmdField b 5 1) (newQueue c b t page).pages = some page) :
    createQueue s c b t =
      (clearPages (s.setQueue (cmdField b 0 2) (newQueue c b t page)) (newQueue c b t page), qDone, (newQueue c b t page).base) := by
  refine (if_neg good).trans ((if_neg new).trans ((if_neg (by rw [h]; simp)).trans ?_))
  simp only [newQueue, Queue.pages, Queue.entries] at fits ⊢
  rw [fits]

end

theorem clearPages_reads (s : State) (x : Queue) {i : Nat} (hi : i < x.pages * 4096) :
    readByte ((clearPages s x).chan x.ch).ring (x.base + i) = 0 := by
  rw [clearPages, setChan_chan]
  exact readByte_zeroRange _ (by omega)

section
variable {s : State} {c : Nat} {b : BitVec 128} {x : Queue} (hx : s.queue? (cmdField b 0 2) = some x) (own : x.ctx = c)
  (reserved : reservedSet b = false)
include hx own reserved

theorem destroyQueue_busy (h : (s.ctx c).st = .suspended ∧ namesQueue (s.ctx c) (cmdField b 0 2) = true) :
    destroyQueue s c b = (s, qBusy, 0) := by
  unfold destroyQueue
  simp only [hx]
  exact (if_neg (by simp [own, reserved])).trans (if_pos h)

theorem destroyQueue_done (h : ¬ ((s.ctx c).st = .suspended ∧ namesQueue (s.ctx c) (cmdField b 0 2) = true)) :
    destroyQueue s c b = ((clearPages s x).dropQueue (cmdField b 0 2), qDone, 0) := by
  unfold destroyQueue
  simp only [hx]
  exact (if_neg (by simp [own, reserved])).trans (if_neg h)

end

/-! ### The statement -/

/-- Settles O38: a doorbell moves one index or raises one leaf; a queue command is one branch of its checks, with its result. -/
theorem queueDoorbellsAndCommands : Obligations.QueueDoorbellsAndCommands := by
  unfold Obligations.QueueDoorbellsAndCommands
  refine ⟨fun ch q i off s _ hq hi => ⟨fun v => ringQueue_unset, fun none_ => ?noQueue, fun x hx other => ?otherChannel, fun x hx own => ?index⟩,
    fun c b s => ⟨fun p hp => ⟨fun op => ?malformed, fun op no => ?wrongState⟩, fun p hp op apt => ?creates,
      fun op apt x hx own reserved => ?destroys⟩⟩
  case noQueue =>
    have set := hmpLeaf_set s ch (b := 4) (by omega) off
    rw [← ringQueue_noQueue hq hi none_] at set
    exact set
  case otherChannel =>
    have set := hmpLeaf_set s ch (b := 5) (by omega) off
    rw [← ringQueue_otherChannel hq hi hx other] at set
    exact set
  case index =>
    obtain ⟨n, hn⟩ : ∃ n, n = (i + 2 ^ 32 - x.cons % 2 ^ 32) % 2 ^ 32 := ⟨_, rfl⟩
    have producer (typ) := ringQueue_producer (off := off) hq hi hx own hn typ
    have consumer (typ) := ringQueue_consumer (off := off) hq hi hx own hn typ
    simp only [← hn]
    refine ⟨fun typ more most => ⟨_, (producer typ).trans ((if_neg ?_).trans (if_neg more.ne')), rfl, rfl, commitQueue_queue? _ _ _,
        fun p hp => commitQueue_queue?_other _ _ hp⟩,
      fun typ same most => (producer typ).trans ((if_neg ?_).trans (if_pos same)),
      fun typ more most => ⟨_, (consumer typ).trans ((if_neg most.not_gt).trans (if_neg more.ne')), ?_, ?_, commitQueue_queue? _ _ _,
        fun p hp => (commitQueue_queue?_other _ _ hp).trans ?_⟩,
      fun typ none_ => (consumer typ).trans ((if_neg ?_).trans (if_pos none_)), fun out => ?_⟩
    · exact not_or.2 ⟨more.not_gt, most.not_gt⟩
    · exact not_or.2 ⟨same.not_lt, most.not_gt⟩
    · exact entriesCleared_lasters s ch x n
    · exact entriesCleared_ctxs s ch x n
    · exact entriesCleared_queue? s ch x n p
    · omega
    · have leaf : ringQueue s ch off (doorbellWord q i) = hmpLeaf s ch 4 off := by
        rcases out with ⟨typ, out⟩ | ⟨typ, out⟩
        · exact (producer typ).trans (if_pos out)
        · exact (consumer typ).trans (if_pos out)
      have set := hmpLeaf_set s ch (b := 4) (by omega) off
      rw [← leaf] at set
      exact set
  case malformed =>
    obtain ⟨act, row⟩ := exec_queueRow hp c b s
    exact row.trans (if_neg op)
  case wrongState =>
    obtain ⟨act, row⟩ := exec_queueRow hp c b s
    exact row.trans ((if_pos op).trans (congrArg Host.Outcome.next (queueCommand_wrongState no)))
  case creates =>
    have row := (exec_create hp c b s).trans ((if_pos op).trans (congrArg Host.Outcome.next (queueCommand_takes apt)))
    have refused {r} (h : createQueue s c.val b p.2.2 = (s, r, 0)) : Completes (p.2.1 c b) s (fun t =>
        ((t.ctx c.val).queueResult = qResult b r 0 ∧ t.dev = { s.dev with answer := 0 }) ∧ t.queues = s.queues) := by
      rw [h] at row
      exact ⟨_, row, ⟨queueAnswered_result _ _ _, rfl⟩, rfl⟩
    refine ⟨fun bad => refused (createQueue_bad bad), fun good old => refused (createQueue_old good old),
      fun good new used => refused (createQueue_inUse good new used), fun good new free x hx => ?_⟩
    obtain ⟨page, rfl⟩ : ∃ page, x = newQueue c.val b p.2.2 page := ⟨x.page, hx⟩
    refine ⟨fun full => refused (createQueue_noSpace good new free full), fun fits => ?_⟩
    rw [createQueue_done good new free fits] at row
    exact ⟨_, row, ⟨queueAnswered_result _ _ _, rfl⟩, setQueue_queue? _ _ _, fun m hm => setQueue_queue?_other _ _ hm,
      fun i hi => clearPages_reads _ _ hi⟩
  case destroys =>
    have row : exec (.queueDestroy c b) s = .next (queueAnswered c.val b (destroyQueue s c.val b)) :=
      (if_pos op).trans (congrArg Host.Outcome.next (queueCommand_takes apt))
    refine ⟨fun st names => ?_, fun h => ?_⟩
    · rw [destroyQueue_busy hx own reserved ⟨st, names⟩] at row
      exact ⟨_, row, queueAnswered_result _ _ _, rfl⟩
    · have free : ¬ ((s.ctx c.val).st = .suspended ∧ namesQueue (s.ctx c.val) (cmdField b 0 2) = true) := by
        rintro ⟨st, names⟩
        exact h.elim (· st) (fun no => absurd names (by simp [no]))
      rw [destroyQueue_done hx own reserved free] at row
      exact ⟨_, row, queueAnswered_result _ _ _, dropQueue_queue? _ _, fun m hm => dropQueue_queue?_other _ hm⟩

end Sys2Proof.Machine

/-! SUPPORT. The FIFO of a Laster: a notice that arrives, the front entry by the row of its kind, and the notices of the deadline unit
(spec/08 R218, R219, R229 to R231; spec/10 R265). -/

namespace Sys2Proof.Machine

open Sys2Proof.Safety

/-! ### A notice that arrives (R229, R230) -/

theorem setLaster_setLaster (s : State) (n : Nat) (x y : Laster) : (s.setLaster n x).setLaster n y = s.setLaster n y := by
  simp only [State.setLaster, put_put]

theorem queueEmergency_noticeLost (s : State) (m : EmMsg) : (queueEmergency s m).causes.noticeLost = s.causes.noticeLost := by
  unfold queueEmergency
  split <;> rfl

theorem settle_noticeLost (s : State) : (settle s).causes.noticeLost = s.causes.noticeLost := by
  unfold settle
  simp only
  split
  · exact queueEmergency_noticeLost _ _
  · rfl

theorem setLeaf_noticeLost (c : Causes) (l : Leaf) : (setLeaf c l).noticeLost = c.noticeLost := by cases l <;> rfl

/-- A leaf that is raised leaves the counts of lost notices. -/
theorem raise_noticeLost (s : State) (l : Leaf) (arg addr : Nat) : (raise s l arg addr).causes.noticeLost = s.causes.noticeLost := by
  unfold raise raiseWith
  split
  · rfl
  · simp only
    rw [settle_noticeLost]
    split
    · exact (queueEmergency_noticeLost _ _).trans (setLeaf_noticeLost _ _)
    · exact setLeaf_noticeLost _ _

section
variable {s : State} {n : Nat} {x : Notice}

theorem pushNotice_room (h : (s.laster n).fifo.length < 1024) :
    pushNotice s n x = s.setLaster n { s.laster n with fifo := (s.laster n).fifo ++ [x] } := if_pos h

/-- The Laster whose full FIFO loses its oldest entry, with the loss counted. -/
def noticeDropped (s : State) (n : Nat) (x : Notice) : State :=
  let t := s.setLaster n { s.laster n with fifo := (s.laster n).fifo.drop 1 ++ [x], lostSeen := true }
  { t with causes := { t.causes with noticeLost := bump 32 t.causes.noticeLost n 1 } }

theorem pushNotice_full (h : 1024 ≤ (s.laster n).fifo.length) :
    pushNotice s n x = raise (noticeDropped s n x) (.main gNotice n) 0 0 := if_neg (not_lt.2 h)

theorem noticeDropped_laster : (noticeDropped s n x).laster n =
    { s.laster n with fifo := (s.laster n).fifo.drop 1 ++ [x], lostSeen := true } := setLaster_laster _ _ _

theorem noticeDropped_laster_other {m : Nat} (h : m ≠ n) : (noticeDropped s n x).laster m = s.laster m := setLaster_laster_other _ _ _ h

theorem noticeDropped_counted : lookup 0 (noticeDropped s n x).causes.noticeLost n = satAdd 32 (lookup 0 s.causes.noticeLost n) 1 :=
  lookup_put_same _ _ _ _

/-- A notice of a source that finds room joins the FIFO. -/
theorem sendNotice_room (src : NoticeSrc) (k : NoticeKind) (h : (s.laster n).fifo.length < 1024) : ∃ y : Notice, y.src = src ∧ y.kind = k ∧
    ∃ l : Laster, l.fifo = (s.laster n).fifo ++ [y] ∧ sendNotice s n src k = s.setLaster n l :=
  ⟨⟨lookup 0 (s.laster n).sent (srcKey src), src, k, s.now⟩, rfl, rfl, _, congrArg (·.fifo ++ _) (setLaster_laster s n _),
    (pushNotice_room (by rw [setLaster_laster]; exact h)).trans (setLaster_setLaster _ _ _ _)⟩

end

/-! ### The front entry (R231) -/

theorem sameLasters_setLaster (s : State) (n : Nat) : SameLasters s (s.setLaster n (s.laster n)) := by
  refine ⟨rfl, fun m => ?_⟩
  by_cases h : m = n
  · rw [h, setLaster_laster]
  · exact setLaster_laster_other _ _ _ h

section
variable {s : State} {n : Nat} {x : Notice} {rest : List Notice}

theorem skipFront_nil (h : (s.laster n).fifo = []) : skipFront s n = s.setLaster n (s.laster n) := by
  have whole : { s.laster n with fifo := [] } = s.laster n := by rw [← h]
  unfold skipFront
  simp only [h, List.dropWhile_nil, whole]
  rfl

variable (h : (s.laster n).fifo = x :: rest)
include h

theorem skipFront_names (good : isBad x.kind = false) (named : isBus x.kind = false) : skipFront s n = s.setLaster n (s.laster n) := by
  have whole : { s.laster n with fifo := x :: rest } = s.laster n := by rw [← h]
  unfold skipFront
  simp only [h, List.takeWhile_cons, List.dropWhile_cons, good, named, Bool.or_false, Bool.false_eq_true, if_false, whole]
  rfl

/-- A notice of a camera bus goes by. -/
theorem skipFront_bus (good : isBad x.kind = false) (bus : isBus x.kind = true) :
    skipFront s n = skipFront (s.setLaster n { s.laster n with fifo := rest }) n := by
  unfold skipFront
  simp only [h, List.takeWhile_cons, List.dropWhile_cons, good, bus, setLaster_laster, setLaster_setLaster, Bool.or_true, if_true,
    List.any_cons, Bool.false_or]

theorem skipFront_bad (bad : isBad x.kind = true) : skipFront s n = reconcile (s.setLaster n { s.laster n with
    fifo := (s.laster n).fifo.dropWhile (fun y => isBad y.kind || isBus y.kind) }) n := by
  unfold skipFront
  refine if_pos ?_
  simp only [h, List.takeWhile_cons, bad, Bool.true_or, if_true, List.any_cons]

end

/-- The front entry is taken when it is of row r; else the Laster is left as it is. -/
def readFront (r : Nat) (s : State) (n : Nat) : State :=
  match (s.laster n).fifo with
  | [] => s
  | x :: rest => if noticeRow x.kind = r then noticeAct (tookAndSettled s n x rest) n x.kind else s

section
variable {r n : Nat} {s : State} {x : Notice} {rest : List Notice}

theorem readFront_nil (h : (s.laster n).fifo = []) : readFront r s n = s := by
  unfold readFront
  rw [h]

theorem readFront_other (h : (s.laster n).fifo = x :: rest) (hr : noticeRow x.kind ≠ r) : readFront r s n = s := by
  unfold readFront
  rw [h]
  exact if_neg hr

theorem readFront_row (h : (s.laster n).fifo = x :: rest) (hr : noticeRow x.kind = r) :
    readFront r s n = noticeAct (tookAndSettled s n x rest) n x.kind := by
  unfold readFront
  rw [h]
  exact if_pos hr

end

/-- A row picks the notices of its kind and does with one what the Laster does with that kind. -/
theorem takeNotice_row {α : Type} {pick : NoticeKind → Option α} {act : State → α → State} {r : Nat} (s : State) (n : Nat)
    (h : ∀ k u, (pick k).map (act u) = if noticeRow k = r then some (noticeAct u n k) else none) :
    takeNotice s n pick act = if (s.laster n).state ≠ 0 then s else readFront r (skipFront s n) n := by
  unfold takeNotice readFront
  split
  · rfl
  · simp only
    generalize skipFront s n = u
    cases (u.laster n).fifo with
    | nil => rfl
    | cons x rest =>
      have settled : tookAndSettled u n x rest = if (decide (x.seq ≠ lookup 0 (u.laster n).seen (srcKey x.src)) || (u.laster n).lostSeen) = true
          then reconcile (TookFront u n x rest) n else TookFront u n x rest := by
        simp only [tookAndSettled, Bool.or_eq_true, decide_eq_true_eq]
      have row := h x.kind (tookAndSettled u n x rest)
      simp only
      split at row
      · next hr =>
        obtain ⟨a, ha, acted⟩ := Option.map_eq_some_iff.1 row
        rw [ha, if_pos hr, ← acted, settled]
        rfl
      · next hr => rw [Option.map_eq_none_iff.1 row, if_neg hr]

theorem noticeRow_bus {k : NoticeKind} (h : isBus k = true) : noticeRow k = 8 := by
  cases k <;> simp [isBus, noticeRow] at h ⊢

theorem noticeRows_lt {p : Nat × (LasterNo → Instr)} (hp : p ∈ noticeRows) : p.1 < 8 := by
  simp only [noticeRows, List.mem_cons, List.not_mem_nil, or_false] at hp
  rcases hp with rfl | rfl | rfl | rfl | rfl | rfl | rfl | rfl <;> decide

/-- Each row of a Laster's notices reads the front entry, where the Laster runs. -/
theorem exec_noticeRow {p : Nat × (LasterNo → Instr)} (hp : p ∈ noticeRows) (n : LasterNo) (s : State) :
    exec (p.2 n) s = .next (if (s.laster n.val).state ≠ 0 then s else readFront p.1 (skipFront s n.val) n.val) := by
  simp only [noticeRows, List.mem_cons, List.not_mem_nil, or_false] at hp
  rcases hp with rfl | rfl | rfl | rfl | rfl | rfl | rfl | rfl <;>
    exact congrArg Host.Outcome.next (takeNotice_row _ _ fun k _ => by cases k <;> rfl)

section
variable {p : Nat × (LasterNo → Instr)} (hp : p ∈ noticeRows) {n : LasterNo} {s : State} {x : Notice} {rest : List Notice}
include hp

theorem exec_noticeRow_down (down : (s.laster n.val).state ≠ 0) : exec (p.2 n) s = .next s := by
  rw [exec_noticeRow hp, if_pos down]

theorem exec_noticeRow_up (up : (s.laster n.val).state = 0) : exec (p.2 n) s = .next (readFront p.1 (skipFront s n.val) n.val) := by
  rw [exec_noticeRow hp, if_neg (not_not.2 up)]

variable (up : (s.laster n.val).state = 0)
include up

theorem exec_noticeRow_empty (h : (s.laster n.val).fifo = []) : Completes (p.2 n) s (SameLasters s) := by
  refine ⟨_, exec_noticeRow_up hp up, ?_⟩
  rw [skipFront_nil h, readFront_nil (by rw [setLaster_laster]; exact h)]
  exact sameLasters_setLaster s n.val

variable (h : (s.laster n.val).fifo = x :: rest)
include h

theorem exec_noticeRow_bad (bad : isBad x.kind = true) : exec (p.2 n) s = .next (readFront p.1 (reconcile (s.setLaster n.val { s.laster n.val with
    fifo := (s.laster n.val).fifo.dropWhile (fun y => isBad y.kind || isBus y.kind) }) n.val) n.val) := by
  rw [exec_noticeRow_up hp up, skipFront_bad h bad]

variable (good : isBad x.kind = false)
include good

theorem exec_noticeRow_other (named : isBus x.kind = false) (hr : noticeRow x.kind ≠ p.1) : Completes (p.2 n) s (SameLasters s) := by
  refine ⟨_, exec_noticeRow_up hp up, ?_⟩
  rw [skipFront_names h good named, readFront_other (by rw [setLaster_laster]; exact h) hr]
  exact sameLasters_setLaster s n.val

theorem exec_noticeRow_bus (bus : isBus x.kind = true) :
    exec (p.2 n) s = exec (p.2 n) (s.setLaster n.val { s.laster n.val with fifo := rest }) := by
  rw [exec_noticeRow_up hp up, exec_noticeRow_up hp (by rw [setLaster_laster]; exact up), skipFront_bus h good bus]

/-- The Laster reads as before when its record is written back, so what it takes from its front is the same. -/
theorem exec_noticeRow_takes (hr : noticeRow x.kind = p.1) :
    exec (p.2 n) s = .next (noticeAct (tookAndSettled s n.val x rest) n.val x.kind) := by
  have named : isBus x.kind = false := by
    have last := noticeRows_lt hp
    by_contra bus
    rw [← hr, noticeRow_bus (Bool.eq_true_of_not_eq_false bus)] at last
    omega
  rw [exec_noticeRow_up hp up, skipFront_names h good named, readFront_row (by rw [setLaster_laster]; exact h) hr]
  unfold tookAndSettled TookFront
  rw [setLaster_laster, setLaster_setLaster]

end

/-- An entry in sequence, with nothing lost before it, is taken without a reconciliation. -/
theorem exec_noticeRow_front {p : Nat × (LasterNo → Instr)} (hp : p ∈ noticeRows) {n : LasterNo} {s t : State} {x : Notice} {rest : List Notice}
    (front : FrontInSequence s n.val x rest) (good : isBad x.kind = false) {k : NoticeKind} (e : x.kind = k) (hr : noticeRow k = p.1)
    (act : noticeAct (TookFront s n.val x rest) n.val k = t) : exec (p.2 n) s = .next t := by
  obtain ⟨up, h, seq, kept⟩ := front
  have settled : tookAndSettled s n.val x rest = TookFront s n.val x rest := if_neg (by simp [seq, kept])
  rw [exec_noticeRow_takes hp up h good (e ▸ hr), settled, e, act]

/-! ### What the kinds ask (R231) -/

section
variable {u : State} {g id : Nat} {j : Job}

theorem claimResult_gone {ok : Bool} (h : u.job? id = none) (unclaimed : hasClaim u id g = false) : claimResult u g id ok = u := by
  unfold claimResult
  rw [h]
  exact if_neg (by simp [unclaimed])

section
variable (h : u.job? id = some j) (live : j.cancelled = false) (claiming : j.phase = .claiming)
include h live claiming

theorem claimResult_granted : claimResult u g id true =
    if j.cells.all (hasClaim u id) then u.modJob id (fun j => { j with phase := .claimed }) else u := by
  unfold claimResult
  rw [h]
  simp [live, claiming]

theorem claimResult_refused : claimResult u g id false =
    afterFree ((releaseJob u j).modJob id (fun j => { j with phase := .waiting, cells := [], busy := j.busy ++ [g] })) := by
  unfold claimResult
  rw [h]
  simp [live, claiming]

end

theorem jobDone_gone (h : u.job? id = none) : jobDone u id = u := by
  unfold jobDone
  rw [h]

theorem jobDone_retired (h : u.job? id = some j) (retired : j.retire ≠ none) :
    jobDone u id = afterFree (rotate (finishJob u id) j.ctx j.replica) := by
  unfold jobDone
  rw [h]
  simp only [Option.isSome_iff_ne_none.2 retired, if_true]

theorem cellFault_gone (h : u.job? id = none) : cellFault u id = afterFree u := by
  unfold cellFault replayWork
  rw [h]

theorem cellFault_replays (h : u.job? id = some j) (replay : j.needReplay = true) (claiming : j.phase = .claiming) :
    cellFault u id = afterFree (placeReplay u id) := by
  unfold cellFault replayWork
  rw [h]
  simp only [replay, claiming, if_true]

end

/-! ### Deadline moments (R218, R219, R230) -/

/-- Jobs of Laster n that have reached a deadline moment. -/
def dueJobs (s : State) (n : Nat) : List Job := (groupJobs s n).filter (fun j => !(momentsPassed s j).isEmpty)

theorem dueJobs_sublist (s : State) (n : Nat) : (dueJobs s n).Sublist s.jobs := List.filter_sublist.trans List.filter_sublist

/-- Job k without the moments that job j has reached, if it is j. -/
def disarm (s : State) (j k : Job) : Job :=
  if k.id = j.id then { k with armed := k.armed.filter (fun m => !(momentsPassed s j).contains m) } else k

/-- Job k after the moments of each listed job are disarmed. -/
def disarmAll (s : State) (l : List Job) (k : Job) : Job := l.foldl (fun k j => disarm s j k) k

/-- What is planned of a job turns on its context, its phase and its replica; f leaves them. -/
def KeepsPlaces (f : Job → Job) : Prop := ∀ k, (f k).ctx = k.ctx ∧ (f k).phase = k.phase ∧ (f k).replica = k.replica

theorem keepsPlaces_disarm (s : State) (j : Job) {f : Job → Job} (hf : KeepsPlaces f) : KeepsPlaces (fun k => disarm s j (f k)) := by
  intro k
  simp only [disarm]
  split <;> exact hf k

section
variable {s : State} {f : Job → Job} (hf : KeepsPlaces f)
include hf

theorem replicaIdle_rearmed (c r : Nat) : replicaIdle { s with jobs := s.jobs.map f } c r = replicaIdle s c r := by
  unfold replicaIdle
  rw [List.any_map]
  refine congrArg (fun p => !s.jobs.any p) (funext fun k => ?_)
  obtain ⟨ctx, phase, replica⟩ := hf k
  simp only [Function.comp_apply, ctx, phase, replica]

/-- Whether a job has reached its moments does not turn on what other jobs still have armed. -/
theorem momentsPassed_rearmed (j : Job) : momentsPassed { s with jobs := s.jobs.map f } j = momentsPassed s j := by
  have stripe : plannedStripe { s with jobs := s.jobs.map f } j = plannedStripe s j := by
    unfold plannedStripe
    rw [funext (replicaIdle_rearmed (s := s) hf j.ctx)]
    rfl
  unfold momentsPassed jobTime jobPlan
  rw [stripe]
  rfl

end

/-- Jobs disarmed one after the other are all disarmed by what had passed at first. -/
theorem foldl_disarm (s : State) (l : List Job) (f : Job → Job) (hf : KeepsPlaces f) :
    l.foldl (fun s j => s.modJob j.id (fun k => { k with armed := k.armed.filter (fun m => !(momentsPassed s j).contains m) }))
      { s with jobs := s.jobs.map f } = { s with jobs := s.jobs.map (fun k => disarmAll s l (f k)) } := by
  induction l generalizing f with
  | nil => rfl
  | cons j l ih =>
    have one : ({ s with jobs := s.jobs.map f } : State).modJob j.id (fun k => { k with
        armed := k.armed.filter (fun m => !(momentsPassed { s with jobs := s.jobs.map f } j).contains m) }) =
        { s with jobs := s.jobs.map (fun k => disarm s j (f k)) } := by
      rw [momentsPassed_rearmed hf, State.modJob, List.map_map]
      rfl
    rw [List.foldl_cons, one]
    exact ih _ (keepsPlaces_disarm s j hf)

/-- The deadline unit disarms the moments that have passed; it sends a TIMER notice for each job, or decides itself. -/
theorem timerExpiry_eq (s : State) (n : Nat) : timerExpiry s n =
    let u := { s with jobs := s.jobs.map (disarmAll s (dueJobs s n)) }
    if (s.laster n).state = 0 then (dueJobs s n).foldl (fun s j => sendNotice s n .deadline (.timer j.id)) u
    else (groupCtxs s n).foldl lateBatches ((dueJobs s n).foldl (fun s j => lateCheck s j.id) u) := by
  have disarmed := foldl_disarm s (dueJobs s n) id fun _ => ⟨rfl, rfl, rfl⟩
  rw [List.map_id] at disarmed
  unfold timerExpiry
  simp only
  rw [show (groupJobs s n).filter (fun j => !(momentsPassed s j).isEmpty) = dueJobs s n from rfl, disarmed]
  rfl

/-- A job that none of the list has the number of keeps its moments. -/
theorem disarmAll_other (s : State) {l : List Job} {k : Job} (h : ∀ j ∈ l, k.id ≠ j.id) : disarmAll s l k = k := by
  induction l with
  | nil => rfl
  | cons j l ih =>
    rw [disarmAll, List.foldl_cons, disarm, if_neg (h j (by simp))]
    exact ih fun i hi => h i (by simp [hi])

/-- Of jobs with numbers of their own, a job of the list is disarmed once and every other job keeps its moments. -/
theorem disarmAll_nodup (s : State) {l jobs : List Job} (hl : l.Sublist jobs) (nodup : (jobs.map (·.id)).Nodup) {k : Job} (hk : k ∈ jobs) :
    disarmAll s l k = if l.contains k then { k with armed := k.armed.filter (fun m => !(momentsPassed s k).contains m) } else k := by
  have same {j : Job} (hj : j ∈ jobs) (h : k.id = j.id) : k = j := List.inj_on_of_nodup_map nodup hk hj h
  induction l with
  | nil => rfl
  | cons j l ih =>
    have tail := (List.sublist_cons_self j l).trans hl
    by_cases h : k.id = j.id
    · obtain rfl := same (hl.subset (by simp)) h
      have once : ∀ i ∈ l, k.id ≠ i.id := by
        have distinct := (hl.map (·.id)).nodup nodup
        rw [List.map_cons, List.nodup_cons] at distinct
        exact fun i hi e => distinct.1 (e ▸ List.mem_map_of_mem hi)
      rw [disarmAll, List.foldl_cons, disarm, if_pos rfl, if_pos (by simp)]
      exact disarmAll_other s once
    · have differs : (k == j) = false := by
        rw [beq_eq_false_iff_ne]
        exact fun e => h (congrArg Job.id e)
      rw [disarmAll, List.foldl_cons, disarm, if_neg h, List.contains_cons, differs, Bool.false_or]
      exact ih tail

theorem map_disarmAll {s : State} (nodup : (s.jobs.map (·.id)).Nodup) (n : Nat) : s.jobs.map (disarmAll s (dueJobs s n)) =
    s.jobs.map (fun j => if (dueJobs s n).contains j then { j with armed := j.armed.filter (fun m => !(momentsPassed s j).contains m) } else j) :=
  List.map_congr_left fun _ hk => disarmAll_nodup s (dueJobs_sublist s n) nodup hk

/-- The FIFO of Laster n has gained l at its end; no other Laster and nothing beside the Lasters differs. -/
def Appended (s : State) (n : Nat) (l : List Notice) (t : State) : Prop :=
  t = { s with lasters := t.lasters } ∧ (∀ m, m ≠ n → t.laster m = s.laster m) ∧ (t.laster n).fifo = (s.laster n).fifo ++ l

theorem appended_trans {s t u : State} {n : Nat} {l m : List Notice} (a : Appended s n l t) (b : Appended t n m u) : Appended s n (l ++ m) u := by
  obtain ⟨st, others, fifo⟩ := a
  obtain ⟨tu, others', fifo'⟩ := b
  refine ⟨?_, fun k hk => (others' k hk).trans (others k hk), by rw [fifo', fifo, List.append_assoc]⟩
  rw [tu, st]

/-- A TIMER notice for each job of a list joins a FIFO that has room for them. -/
theorem timers_appended (js : List Job) (n : Nat) (s : State) (room : (s.laster n).fifo.length + js.length ≤ 1024) :
    ∃ l, Appended s n l (js.foldl (fun s j => sendNotice s n .deadline (.timer j.id)) s) ∧ l.map (·.kind) = js.map (fun j => .timer j.id) ∧
      ∀ x ∈ l, x.src = .deadline := by
  induction js generalizing s with
  | nil => exact ⟨[], ⟨rfl, fun _ _ => rfl, (List.append_nil _).symm⟩, rfl, by simp⟩
  | cons j js ih =>
    rw [List.length_cons] at room
    obtain ⟨y, src, kind, x, fifo, sent⟩ := sendNotice_room (s := s) (n := n) .deadline (.timer j.id) (by omega)
    have first : Appended s n [y] (s.setLaster n x) := ⟨rfl, fun m hm => setLaster_laster_other _ _ _ hm, by rw [setLaster_laster, fifo]⟩
    obtain ⟨l, more, kinds, srcs⟩ := ih (s.setLaster n x) (by rw [setLaster_laster, fifo, List.length_append, List.length_singleton]; omega)
    refine ⟨y :: l, ?_, ?_, ?_⟩
    · rw [List.foldl_cons, sent]
      exact appended_trans first more
    · rw [List.map_cons, List.map_cons, kind, kinds]
    · rintro z (_ | ⟨_, hz⟩)
      · exact src
      · exact srcs z hz

/-! ### The statement -/

/-- Settles O28: a notice is one push, a row reads the front entry that is left when those that name nothing have gone, and the deadline
unit is a fold of sends, or of decisions, over the jobs due. -/
theorem noticesAndLasters : Obligations.NoticesAndLasters := by
  unfold Obligations.NoticesAndLasters
  refine ⟨fun n x s => ⟨fun room => congrArg Host.Outcome.next (pushNotice_room room), fun full => ?full⟩,
    fun p hp n s => ⟨exec_noticeRow_down hp, exec_noticeRow_empty hp, fun x rest up h =>
      ⟨fun good named hr => exec_noticeRow_other hp up h good named hr,
      exec_noticeRow_takes hp up h, exec_noticeRow_bus hp up h, fun bad => ?bad⟩⟩,
    fun n s x rest front good => ?kinds, fun n s => ⟨fun up none_ => ?idle, fun up nodup room => ?sends, fun down nodup => ?decides⟩⟩
  case full =>
    have only := raise_onlyCauses (noticeDropped s n.val x) (.main gNotice n.val) 0 0
    refine ⟨_, congrArg Host.Outcome.next (pushNotice_full full), ?_⟩
    beta_reduce
    rw [only.laster, noticeDropped_laster, raise_noticeLost, only.cells, only.jobs, only.ctxs, only.fabric]
    exact ⟨rfl, rfl, rfl, noticeDropped_counted, leafIsSet_raise_main _ _ (by omega) _ _,
      fun m hm => (only.laster m).trans (noticeDropped_laster_other hm), rfl, rfl, rfl, rfl⟩
  case bad =>
    have exec_eq := exec_noticeRow_bad hp up h bad
    refine ⟨fun nil => ?_, fun y r hy => ⟨fun hr => ?_, fun hr => ?_⟩⟩
    · rw [exec_eq, readFront_nil nil]
    · rw [exec_eq, readFront_other hy hr]
    · rw [exec_eq, readFront_row hy hr]
  case kinds =>
    have claims : ((0, .claimResult) : Nat × (LasterNo → Instr)) ∈ noticeRows := by simp [noticeRows]
    have ends : ((1, .jobDone) : Nat × (LasterNo → Instr)) ∈ noticeRows := by simp [noticeRows]
    have faults : ((2, .cellFault) : Nat × (LasterNo → Instr)) ∈ noticeRows := by simp [noticeRows]
    exact ⟨fun g id ok e gone unclaimed => exec_noticeRow_front claims front good e rfl (claimResult_gone gone unclaimed),
      fun g id j e h live claiming => exec_noticeRow_front claims front good e rfl (claimResult_granted h live claiming),
      fun g id j e h live claiming => exec_noticeRow_front claims front good e rfl (claimResult_refused h live claiming),
      fun id e gone => exec_noticeRow_front ends front good e rfl (jobDone_gone gone),
      fun id j e h retired => exec_noticeRow_front ends front good e rfl (jobDone_retired h retired),
      fun g id b e gone => exec_noticeRow_front faults front good e rfl (cellFault_gone gone),
      fun g id b j e h replay claiming => exec_noticeRow_front faults front good e rfl (cellFault_replays h replay claiming)⟩
  case idle =>
    refine congrArg Host.Outcome.next ((timerExpiry_eq s n.val).trans ?_)
    rw [dueJobs, none_]
    exact (if_pos up).trans (by rw [List.foldl_nil, show disarmAll s [] = id from rfl, List.map_id])
  case sends =>
    obtain ⟨l, ⟨only, others, fifo⟩, kinds, srcs⟩ := timers_appended (dueJobs s n.val) n.val
      { s with jobs := s.jobs.map (disarmAll s (dueJobs s n.val)) } room
    refine ⟨_, congrArg Host.Outcome.next ((timerExpiry_eq s n.val).trans (if_pos up)), only.trans ?_, others, l, fifo, kinds, srcs⟩
    rw [map_disarmAll nodup]
    rfl
  case decides =>
    refine congrArg Host.Outcome.next ((timerExpiry_eq s n.val).trans ((if_neg down).trans ?_))
    rw [map_disarmAll nodup]
    rfl

end Sys2Proof.Machine

/-! SUPPORT. The commands of a context (spec/08 R196 to R198; spec/12 R313, R329): the check of each, and the launch. -/

namespace Sys2Proof.Machine

open Sys2Proof.Safety

/-! ### The device state (R253, spec/12 R327) -/

theorem setDevState_dev (s : State) (d : DevState) : setDevState s d = { s with dev := (setDevState s d).dev } := by
  unfold setDevState
  split <;> rfl

/-- Settling the device state writes the device's own part alone. -/
theorem settleState_dev (s : State) : settleState s = { s with dev := (settleState s).dev } := by
  unfold settleState
  split
  · split
    · exact setDevState_dev _ _
    · rfl
  · split
    · exact setDevState_dev _ _
    · rfl
  · split
    · rfl
    · exact setDevState_dev _ _
  · rfl

theorem settleState_ctx (s : State) (c : Nat) : (settleState s).ctx c = s.ctx c := by
  rw [settleState_dev]
  rfl

/-! ### LOAD (R196) -/

/-- The context as a LOAD leaves it: LOADING, with the package that was copied and its place. -/
def loading (x : Ctx) (p : Package) (place : Nat) : Ctx := { x with st := .loading, reason := 0, pkg := some p, allocAt := place }

/-- A context takes a LOAD when it holds nothing, or when a LOAD through the dictionary waits for its package. -/
def TakesLoad (x : Ctx) : Prop := x.st = .empty ∨ x.st = .refused ∨ (x.st = .loading ∧ x.pkg = none)

section
variable {s : State} {c : Nat} {p : Package} {place : Nat}

theorem writeLoad_outside (h : setupState s = false) : writeLoad s c p place = answer s wrongState := if_pos (by rw [h]; rfl)

theorem writeLoad_wrongState (h : setupState s = true) (no : ¬ TakesLoad (s.ctx c)) : writeLoad s c p place = answer s wrongState := by
  unfold writeLoad
  refine (if_neg (by simp [h])).trans (if_pos ?_)
  simpa only [TakesLoad, not_or] using no

/-- The state in which a LOAD is judged: the context is LOADING, and the package's digest is in the measurement log. -/
def loadJudged (s : State) (c : Nat) (p : Package) (place : Nat) : State :=
  measure (s.setCtx c (loading (s.ctx c) p place)) 6 p.digest

theorem loadJudged_ctx (s : State) (c : Nat) (p : Package) (place : Nat) : (loadJudged s c p place).ctx c = loading (s.ctx c) p place :=
  setCtx_ctx s c _

theorem loadJudged_ctx_other (s : State) {c d : Nat} (p : Package) (place : Nat) (h : d ≠ c) : (loadJudged s c p place).ctx d = s.ctx d :=
  setCtx_ctx_other s c _ h

/-- A refused context keeps its descriptor and the reason, and holds nothing. -/
def refusedFor (x : Ctx) (why : Nat) : Ctx :=
  { x with st := .refused, reason := why, pkg := none, replicas := [], stripes := [], spill := false }

section
variable (h : setupState s = true) (takes : TakesLoad (s.ctx c))
include h takes

theorem writeLoad_takes : writeLoad s c p place =
    answer (if s.power.valid then admitCtx (loadJudged s c p place) c else loadJudged s c p place) okCode := by
  unfold writeLoad
  refine (if_neg (by simp [h])).trans (if_neg ?_)
  unfold TakesLoad at takes
  tauto

theorem writeLoad_waits (invalid : s.power.valid = false) : writeLoad s c p place = answer (loadJudged s c p place) okCode := by
  rw [writeLoad_takes h takes, invalid]
  rfl

variable (valid : s.power.valid = true)
include valid

theorem writeLoad_refuses {why : Nat} (refused : admission (loadJudged s c p place) c (loading (s.ctx c) p place) = .error why) :
    writeLoad s c p place = answer ((loadJudged s c p place).setCtx c (refusedFor (loading (s.ctx c) p place) why)) okCode := by
  rw [writeLoad_takes h takes, if_pos valid, admitCtx, loadJudged_ctx]
  simp only [loading] at refused ⊢
  simp only [refused, ne_eq, not_true_eq_false, if_false, refusedFor]

theorem writeLoad_admits {choice : Choice} (ok : admission (loadJudged s c p place) c (loading (s.ctx c) p place) = .ok choice) :
    writeLoad s c p place = answer (recheck (holdResources (loadJudged s c p place) c p choice) true) okCode := by
  rw [writeLoad_takes h takes, if_pos valid, admitCtx, loadJudged_ctx]
  simp only [loading] at ok ⊢
  simp only [ok, ne_eq, not_true_eq_false, if_false]

end

end

/-! ### The launch (R197, spec/12 R313) -/

/-- Context c has a launch time that is reached, in a state in which contexts run, with the valid flag TRUE. -/
def LaunchDue (s : State) (c l : Nat) : Prop := (s.ctx c).launchAt = some l ∧ l ≤ s.now ∧ s.power.valid = true ∧ runtimeState s = true ∧
  ((s.ctx c).st = .admitted ∨ (s.ctx c).st = .suspended)

theorem launchDue_iff (s : State) (c : Nat) : launchDue s c = true ↔ ∃ l, LaunchDue s c l := by
  unfold launchDue LaunchDue
  cases (s.ctx c).launchAt with
  | none => simp
  | some l => simp [and_assoc]

theorem doLaunch_due {s : State} {c l : Nat} (h : LaunchDue s c l) : doLaunch s c = launchCtx s c :=
  if_pos ((launchDue_iff s c).2 ⟨l, h⟩)

theorem doLaunch_notDue {s : State} {c : Nat} (h : ∀ l, ¬ LaunchDue s c l) : doLaunch s c = s :=
  if_neg fun due => ((launchDue_iff s c).1 due).elim h

/-- Every sample of the batch was taken at l or later. -/
def heldSince (l : Nat) (b : Batch) : Bool := b.samples.all (fun p => decide (l ≤ p.2.tInput))

/-- The context at its launch time l: active, or unadmitted where its admission was withdrawn, with the batches from l on. -/
def launchedCtx (x : Ctx) (l : Nat) : Ctx :=
  { x with st := if x.withdrawn then .unadmitted else .active, launchAt := none, launched := l
           openBatch := x.openBatch.filter (heldSince l), batches := x.batches.filter (heldSince l) }

/-- The state from which a launched context's work starts. -/
def launchedState (s : State) (c l : Nat) : State :=
  let t := s.setCtx c (launchedCtx (s.ctx c) l)
  settleState { t with resil := { t.resil with observing := true } }

theorem launchCtx_eq {s : State} {c l : Nat} (h : (s.ctx c).launchAt = some l) :
    launchCtx s c = dispatchAll (serveCtx (launchedState s c l) c) := by
  have time : (s.ctx c).launchAt.getD (s.ctx c).launch = l := by rw [h, Option.getD_some]
  unfold launchCtx
  simp only [time]
  rfl

theorem launchedState_ctx (s : State) (c l : Nat) : (launchedState s c l).ctx c = launchedCtx (s.ctx c) l :=
  (settleState_ctx _ _).trans (setCtx_ctx _ _ _)

theorem launchedState_ctx_other (s : State) {c d : Nat} (l : Nat) (h : d ≠ c) : (launchedState s c l).ctx d = s.ctx d :=
  (settleState_ctx _ _).trans (setCtx_ctx_other _ _ _ h)

theorem launchedCtx_batches {x : Ctx} {l : Nat} : ∀ b ∈ (launchedCtx x l).batches, ∀ p ∈ b.samples, l ≤ p.2.tInput := by
  intro b hb p hp
  have held : heldSince l b = true := (List.mem_filter.1 hb).2
  simpa using List.all_eq_true.1 held p hp

/-! ### The other commands -/

section
variable {s : State} {c : Nat}

theorem writeUnload_outside (h : setupState s = false) : writeUnload s c = answer s wrongState := if_pos (by rw [h]; rfl)

theorem writeUnload_wrongState (h : setupState s = true) (no : (s.ctx c).loaded = false) : writeUnload s c = answer s wrongState :=
  (if_neg (by simp [h])).trans (if_pos (by rw [no]; rfl))

theorem writeUnload_loaded (h : setupState s = true) (loaded : (s.ctx c).loaded = true) :
    writeUnload s c = answer (afterFree (recheck (unloadCtx s c 2) true)) okCode :=
  (if_neg (by simp [h])).trans (if_neg (by simp [loaded]))

theorem writeActivate_outside (h : runtimeState s = false) : writeActivate s c = answer s wrongState := if_pos (by rw [h]; rfl)

theorem writeActivate_wrongState (h : runtimeState s = true) (a : (s.ctx c).st ≠ .admitted) (b : (s.ctx c).st ≠ .suspended) :
    writeActivate s c = answer s wrongState := (if_neg (by simp [h])).trans (if_pos ⟨a, b⟩)

theorem writeActivate_takes (h : runtimeState s = true) (takes : (s.ctx c).st = .admitted ∨ (s.ctx c).st = .suspended) :
    writeActivate s c = answer (doLaunch (s.setCtx c { s.ctx c with launchAt := some (s.ctx c).launch }) c) okCode :=
  (if_neg (by simp [h])).trans (if_neg (by tauto))

theorem writeSuspend_outside (h : runtimeState s = false) : writeSuspend s c = answer s wrongState := if_pos (by rw [h]; rfl)

theorem writeSuspend_wrongState (h : runtimeState s = true) (no : activeCtx (s.ctx c) = false) : writeSuspend s c = answer s wrongState :=
  (if_neg (by simp [h])).trans (if_pos (by rw [no]; rfl))

theorem writeSuspend_active (h : runtimeState s = true) (active : activeCtx (s.ctx c) = true) :
    writeSuspend s c = answer (suspendCtx s c) okCode := (if_neg (by simp [h])).trans (if_neg (by simp [active]))

theorem suspendCtx_dev (s : State) (c : Nat) : suspendCtx s c =
    { s.setCtx c { s.ctx c with st := .suspended, launchAt := none } with dev := (suspendCtx s c).dev } := settleState_dev _

theorem writeReseed_outside (h : setupState s = false) : writeReseed s c = answer s wrongState := if_pos (by rw [h]; rfl)

theorem writeReseed_wrongState (h : setupState s = true) (a : (s.ctx c).st ≠ .admitted) (b : (s.ctx c).st ≠ .suspended) :
    writeReseed s c = answer s wrongState := (if_neg (by simp [h])).trans (if_pos ⟨a, b⟩)

theorem writeReseed_takes (h : setupState s = true) (takes : (s.ctx c).st = .admitted ∨ (s.ctx c).st = .suspended) :
    writeReseed s c = answer (s.setCtx c { s.ctx c with hist := [] }) okCode :=
  (if_neg (by simp [h])).trans (if_neg (by tauto))

theorem writeStatsReset_outside {v : Nat} (h : setupState s = false) : writeStatsReset s c v = answer s wrongState := if_pos (by rw [h]; rfl)

theorem writeStatsReset_inRange {v : Nat} (h : setupState s = true) (hv : v ≤ 1) :
    writeStatsReset s c v = answer (if v = 1 then s.modCtx c clearStats else s) okCode :=
  (if_neg (by simp [h])).trans (if_neg (by omega))

theorem writeStatsReset_range {v : Nat} (h : setupState s = true) (hv : 1 < v) : writeStatsReset s c v = answer s outOfRange :=
  (if_neg (by simp [h])).trans (if_pos hv)

end

/-- Settles O43: each command is one branch of its checks, and the launch is one write of the context. -/
theorem contextCommands : Obligations.ContextCommands := by
  unfold Obligations.ContextCommands
  refine fun c s => ⟨fun h => ⟨fun p a => congrArg Host.Outcome.next (writeLoad_outside h), congrArg Host.Outcome.next (writeUnload_outside h),
      congrArg Host.Outcome.next (writeReseed_outside h), fun v => congrArg Host.Outcome.next (writeStatsReset_outside h)⟩,
    fun h => ⟨congrArg Host.Outcome.next (writeActivate_outside h), congrArg Host.Outcome.next (writeSuspend_outside h)⟩,
    fun p a h e r l => congrArg Host.Outcome.next (writeLoad_wrongState h ?loadState), fun p a h takes => ?load,
    fun h no => congrArg Host.Outcome.next (writeUnload_wrongState h no),
    fun h loaded => congrArg Host.Outcome.next (writeUnload_loaded h loaded),
    fun h a b => congrArg Host.Outcome.next (writeActivate_wrongState h a b), fun h takes => ?activate,
    fun h no => congrArg Host.Outcome.next (writeSuspend_wrongState h no), fun h active => ?suspend,
    fun h a b => congrArg Host.Outcome.next (writeReseed_wrongState h a b),
    fun h takes => congrArg Host.Outcome.next (writeReseed_takes h takes),
    fun v h hv => congrArg Host.Outcome.next (writeStatsReset_range h hv),
    fun h => congrArg Host.Outcome.next (writeStatsReset_inRange h (by decide)),
    fun h => congrArg Host.Outcome.next (writeStatsReset_inRange h (by decide)),
    fun no => congrArg Host.Outcome.next (doLaunch_notDue fun l due => ?notDue), fun l time now valid run st => ?launch⟩
  case loadState =>
    rintro (h | h | ⟨h, g⟩)
    · exact e h
    · exact r h
    · exact l.elim (· h) (· g)
  case load =>
    refine ⟨fun invalid => congrArg Host.Outcome.next (writeLoad_waits h takes invalid),
      fun why valid refused => ⟨_, congrArg Host.Outcome.next (writeLoad_refuses h takes valid refused), ?_⟩,
      fun choice valid ok => congrArg Host.Outcome.next (writeLoad_admits h takes valid ok)⟩
    have refused_ctx := setCtx_ctx (loadJudged s c.val p a.toNat) c.val (refusedFor (loading (s.ctx c.val) p a.toNat) why)
    exact ⟨congrArg Ctx.st refused_ctx, congrArg Ctx.reason refused_ctx, congrArg Ctx.pkg refused_ctx, rfl,
      fun d hd => (setCtx_ctx_other _ _ _ hd).trans (loadJudged_ctx_other s _ _ hd), rfl, rfl, rfl⟩
  case activate =>
    have waiting := setCtx_ctx s c.val { s.ctx c.val with launchAt := some (s.ctx c.val).launch }
    refine ⟨fun early => congrArg Host.Outcome.next ((writeActivate_takes h takes).trans
        (congrArg (answer · okCode) (doLaunch_notDue fun l due => ?_))),
      fun now valid => congrArg Host.Outcome.next ((writeActivate_takes h takes).trans
        (congrArg (answer · okCode) (doLaunch_due (l := (s.ctx c.val).launch) ⟨?_, now, valid, h, ?_⟩)))⟩
    · obtain ⟨time, now, valid, -, -⟩ := due
      rw [waiting] at time
      obtain rfl := Option.some.inj time
      rcases early with early | invalid
      · exact absurd now (not_le.2 early)
      · exact absurd valid (by simp [invalid])
    · rw [waiting]
    · rw [waiting]
      exact takes
  case suspend =>
    refine ⟨_, congrArg Host.Outcome.next (writeSuspend_active h active), ?_⟩
    rw [suspendCtx_dev]
    have ctx := setCtx_ctx s c.val { s.ctx c.val with st := .suspended, launchAt := none }
    exact ⟨congrArg Ctx.st ctx, congrArg Ctx.launchAt ctx, fun d hd => setCtx_ctx_other s _ _ hd, rfl, rfl, rfl⟩
  case notDue =>
    obtain ⟨time, now, valid, run, st⟩ := due
    rcases no with no | ⟨k, no, later⟩ | no | no | ⟨a, b⟩
    · exact absurd time (by simp [no])
    · rw [no] at time
      obtain rfl := Option.some.inj time
      exact absurd now (not_le.2 later)
    · exact absurd valid (by simp [no])
    · exact absurd run (by simp [no])
    · exact st.elim a b
  case launch =>
    have due : LaunchDue s c.val l := ⟨time, now, valid, run, st⟩
    refine ⟨launchedState s c.val l, congrArg Host.Outcome.next ((doLaunch_due due).trans (launchCtx_eq time)), ?_⟩
    rw [launchedState_ctx]
    exact ⟨rfl, rfl, rfl, launchedCtx_batches, fun d hd => launchedState_ctx_other s l hd⟩

end Sys2Proof.Machine

/-! SUPPORT. Every step and the power settings, the first part: what the settings are, and that neither sequencer, cell nor Lacer writes the
power part (spec/09 R237, R238, R243, R252). -/

namespace Sys2Proof.Machine

open Sys2Proof.Safety

/-! ### Settings and frames

For a function `f` of the model, `f_power` says that it leaves the power part as it is, `f_settings` that it writes the power part but no
setting, and `f_inRange` that it writes a setting within its range or resets it. -/

/-- The settings among what the power part holds: the cap, the cells' limit, the junction limit, the lower bound and the order. -/
def settings (p : Power) : Nat × Nat × Int × Int × Nat := (p.cap, p.cellLimit, p.tjLimit, p.lowBound, p.order)

/-- A fold of steps that leave the power part as it is leaves it as it is. -/
@[simp] theorem foldl_power {α : Type} {f : State → α → State} (h : ∀ s a, (f s a).power = s.power) (l : List α) (s : State) :
    (l.foldl f s).power = s.power :=
  List.foldlRecOn (motive := fun t => t.power = s.power) l f rfl fun t ht a _ => (h t a).trans ht

@[simp] theorem foldl_settings {α : Type} {f : State → α → State} (h : ∀ s a, settings (f s a).power = settings s.power)
    (l : List α) (s : State) : settings (l.foldl f s).power = settings s.power :=
  List.foldlRecOn (motive := fun t => settings t.power = settings s.power) l f rfl fun t ht a _ => (h t a).trans ht

theorem foldl_fst_power {α β : Type} {f : State × β → α → State × β} (h : ∀ p a, (f p a).1.power = p.1.power) (l : List α) (p : State × β) :
    (l.foldl f p).1.power = p.1.power :=
  List.foldlRecOn (motive := fun q => q.1.power = p.1.power) l f rfl fun q hq a _ => (h q a).trans hq

theorem foldl_fst_settings {α β : Type} {f : State × β → α → State × β} (h : ∀ p a, settings (f p a).1.power = settings p.1.power)
    (l : List α) (p : State × β) : settings (l.foldl f p).1.power = settings p.1.power :=
  List.foldlRecOn (motive := fun q => settings q.1.power = settings p.1.power) l f rfl fun q hq a _ => (h q a).trans hq

@[simp] theorem foldl_modCell_power {α : Type} (k : State → α → Nat) (f : State → α → CellState → CellState) (l : List α) (s : State) :
    (l.foldl (fun t a => t.modCell (k t a) (f t a)) s).power = s.power := foldl_power (fun _ _ => modCell_power _ _ _) l s

@[simp] theorem foldl_modJob_power {α : Type} (k : State → α → Nat) (f : State → α → Job → Job) (l : List α) (s : State) :
    (l.foldl (fun t a => t.modJob (k t a) (f t a)) s).power = s.power := foldl_power (fun _ _ => modJob_power _ _ _) l s

@[simp] theorem setQpower_settings (s : State) (q : Nat) (x : QPower) : settings (s.setQpower q x).power = settings s.power := rfl

@[simp] theorem foldl_setQpower_settings {α : Type} (k : State → α → Nat) (f : State → α → QPower) (l : List α) (s : State) :
    settings (l.foldl (fun t a => t.setQpower (k t a) (f t a)) s).power = settings s.power :=
  foldl_settings (fun _ _ => setQpower_settings _ _ _) l s

theorem power_ite {c : Prop} [Decidable c] {a b : State} {p : Power} (ha : a.power = p) (hb : b.power = p) : (if c then a else b).power = p := by
  split
  · exact ha
  · exact hb

theorem settings_ite {c : Prop} [Decidable c] {a b : State} {p : Power} (ha : settings a.power = settings p)
    (hb : settings b.power = settings p) : settings (if c then a else b).power = settings p := by
  split
  · exact ha
  · exact hb

/-- Where the settings are as before, they are in range as before. -/
theorem inRange_of_settings {s t : State} (h : InRange s) (e : settings t.power = settings s.power) : InRange t := by
  simp only [settings, Prod.mk.injEq] at e
  simpa only [InRange, e] using h

theorem inRange_of_power {s t : State} (h : InRange s) (e : t.power = s.power) : InRange t := inRange_of_settings h (congrArg settings e)

/-- The settings a reset leaves are in range. -/
theorem inRange_of_defaults {s : State} (e : settings s.power = settings {}) : InRange s := inRange_of_settings inRange_reset e

theorem inRange_ite {c : Prop} [Decidable c] {a b : State} (ha : InRange a) (hb : InRange b) : InRange (if c then a else b) := by
  split
  · exact ha
  · exact hb

/-! ### Waiters, signals and updates of a cell -/

@[simp] theorem testWaiter_power (s : State) (g : Nat) : (testWaiter s g).power = s.power := by
  unfold testWaiter
  dsimp only
  split <;> simp [apply_ite State.power]

@[simp] theorem applyUpdate_power (s : State) (k : Nat) (add : Bool) (v : BitVec 32) : (applyUpdate s k add v).power = s.power := by
  simp [applyUpdate, apply_ite State.power]

@[simp] theorem applyUpdates_power (s : State) (l : List Update) : (applyUpdates s l).power = s.power := by simp [applyUpdates]
@[simp] theorem arriveOwn_power (s : State) (g k : Nat) : (arriveOwn s g k).power = s.power := by simp [arriveOwn]

@[simp] theorem bumpSignal_power (s : State) (g sig inc : Nat) : (bumpSignal s g sig inc).power = s.power := by
  simp [bumpSignal, apply_ite State.power]

/-! ### Leaves, emergencies and counters of corrections -/

@[simp] theorem queueEmergency_power (s : State) (m : EmMsg) : (queueEmergency s m).power = s.power := by
  simp [queueEmergency, apply_ite State.power]

@[simp] theorem settle_power (s : State) : (settle s).power = s.power := by simp [settle, apply_ite State.power]

@[simp] theorem raiseWith_power (s : State) (l : Leaf) (arg addr emArg : Nat) : (raiseWith s l arg addr emArg).power = s.power := by
  simp [raiseWith, apply_ite State.power]

@[simp] theorem raise_power (s : State) (l : Leaf) (arg addr : Nat) : (raise s l arg addr).power = s.power := by simp [raise]
@[simp] theorem alRefuse_power (s : State) (code : Nat) : (alRefuse s code).power = s.power := by simp [alRefuse]
@[simp] theorem count2601_power (s : State) (k n : Nat) : (count2601 s k n).power = s.power := rfl
@[simp] theorem correctedCell_power (s : State) : (correctedCell s).power = s.power := rfl

@[simp] theorem correctedLpddr_power (s : State) (tag addr : Nat) : (correctedLpddr s tag addr).power = s.power := by
  simp [correctedLpddr, apply_ite State.power]

@[simp] theorem correctedSram_power (s : State) (addr : Nat) : (correctedSram s addr).power = s.power := by
  simp [correctedSram, apply_ite State.power]

@[simp] theorem raiseCell_power (s : State) (g : Nat) : (raiseCell s g).power = s.power := by simp [raiseCell]

/-! ### Queues and event records -/

@[simp] theorem ringWrite_power (s : State) (ch a : Nat) (l : List Byte) : (ringWrite s ch a l).power = s.power := by simp [ringWrite]
@[simp] theorem commitQueue_power (s : State) (q : Nat) (x : Queue) : (commitQueue s q x).power = s.power := rfl
@[simp] theorem closeLate_power (s : State) (c out tag tInput : Nat) : (closeLate s c out tag tInput).power = s.power := rfl

@[simp] theorem closeSecond_power (s : State) (r : List Byte) : (closeSecond s r).power = s.power := by
  simp [closeSecond, apply_ite State.power]

@[simp] theorem landRaw_power (s : State) (q : Nat) (x : Queue) (r : List Byte) : (landRaw s q x r).power = s.power := by simp [landRaw]

@[simp] theorem postEvent_power (s : State) (c code : Nat) (data : List Byte) : (postEvent s c code data).power = s.power := by
  unfold postEvent
  dsimp only
  split <;> simp [apply_ite State.power]

@[simp] theorem reportDropped_power (s : State) (c : Nat) : (reportDropped s c).power = s.power := by
  unfold reportDropped
  dsimp only
  split <;> simp [apply_ite State.power]

@[simp] theorem updateResults_power (s : State) (c : Nat) (r : RecIn) : (updateResults s c r).power = s.power := by simp [updateResults]
@[simp] theorem noteLate_power (s : State) (c : Nat) : (noteLate s c).power = s.power := by simp [noteLate]

@[simp] theorem postRecord_power (s : State) (c : Nat) (r : RecIn) : (postRecord s c r).power = s.power := by
  unfold postRecord
  dsimp only
  split <;> simp [apply_ite State.power]

@[simp] theorem landHeld_power (s : State) (q : Nat) (x : Nat) : (landHeld s q x).power = s.power := by
  induction x generalizing s with
  | zero => rfl
  | succ n ih =>
    unfold landHeld
    (repeat' split) <;> simp [ih]

@[simp] theorem clipCheck_power (s : State) (id l : Nat) : (clipCheck s id l).power = s.power := by
  unfold clipCheck
  split <;> simp [apply_ite State.power]

@[simp] theorem layerEnd_power (s : State) (g : Nat) : (layerEnd s g).power = s.power := by
  unfold layerEnd
  dsimp only
  split <;> simp [apply_ite State.power]

@[simp] theorem hmpLeaf_power (s : State) (ch b addr : Nat) : (hmpLeaf s ch b addr).power = s.power := by simp [hmpLeaf]

@[simp] theorem stagingLost_power (s : State) (ch o : Nat) : (stagingLost s ch o).power = s.power := by
  unfold stagingLost
  split <;> simp [apply_ite State.power]

@[simp] theorem scrubStaging_power (s : State) (ch a : Nat) : (scrubStaging s ch a).power = s.power := by
  simp [scrubStaging, apply_ite State.power]

/-! ### The sequencer and its operations -/

@[simp] theorem completeStitch_power (s : State) (g : Nat) : (completeStitch s g).power = s.power := by
  unfold completeStitch
  split <;> simp

@[simp] theorem issued_power (s : State) (g i : Nat) : (issued s g i).power = s.power := by simp [issued]

@[simp] theorem holdIssue_power (s : State) (g : Nat) (x : Wait) (causes : BitVec 8) : (holdIssue s g x causes).power = s.power := by
  simp [holdIssue]

@[simp] theorem holdRetry_power (s : State) (g : Nat) (w : BitVec 128) (cause : Nat) : (holdRetry s g w cause).power = s.power := rfl
@[simp] theorem progError_power (s : State) (g : Nat) (why : JobFault) : (progError s g why).power = s.power := rfl
@[simp] theorem opNop_power (s : State) (g : Nat) (_w : BitVec 128) : (opNop s g _w).power = s.power := by simp [opNop]
@[simp] theorem opWaits_power (s : State) (g : Nat) (w : BitVec 128) : (opWaits s g w).power = s.power := by simp [opWaits]
@[simp] theorem opHint_power (s : State) (g : Nat) (w : BitVec 128) : (opHint s g w).power = s.power := by simp [opHint]

@[simp] theorem opLoop_power (s : State) (g : Nat) (w : BitVec 128) : (opLoop s g w).power = s.power := by
  simp [opLoop, apply_ite State.power]

@[simp] theorem opEndloop_power (s : State) (g : Nat) (_w : BitVec 128) : (opEndloop s g _w).power = s.power := by
  unfold opEndloop
  dsimp only
  split <;> simp [apply_ite State.power]

@[simp] theorem opMatrix_power (kind : MatKind) (s : State) (g : Nat) (w : BitVec 128) : (opMatrix kind s g w).power = s.power := by
  unfold opMatrix
  split <;> simp

@[simp] theorem opGap_power (s : State) (g : Nat) (w : BitVec 128) : (opGap s g w).power = s.power := by simp [opGap]
@[simp] theorem opVrun_power (s : State) (g : Nat) (w : BitVec 128) : (opVrun s g w).power = s.power := by simp [opVrun]

@[simp] theorem opAwl_power (s : State) (g : Nat) (w : BitVec 128) : (opAwl s g w).power = s.power := by
  unfold opAwl
  dsimp only
  split <;> simp [apply_ite State.power]

@[simp] theorem opVthr_power (s : State) (g : Nat) (w : BitVec 128) : (opVthr s g w).power = s.power := by
  unfold opVthr
  dsimp only
  split <;> simp [apply_ite State.power]

@[simp] theorem markTransfer_power (x : Transfer) (s : State) (h : Nat) : (markTransfer x s h).power = s.power := rfl

@[simp] theorem opLace_power (s : State) (g : Nat) (w : BitVec 128) : (opLace s g w).power = s.power := by
  unfold opLace
  dsimp only
  (repeat' split) <;> simp [foldl_power (markTransfer_power _)]

@[simp] theorem opTpost_power (s : State) (g : Nat) (w : BitVec 128) : (opTpost s g w).power = s.power := by
  unfold opTpost
  dsimp only
  split <;> simp [apply_ite State.power]

@[simp] theorem opSignal_power (add : Bool) (s : State) (g : Nat) (w : BitVec 128) : (opSignal add s g w).power = s.power := by
  unfold opSignal
  dsimp only
  split <;> simp [apply_ite State.power]

@[simp] theorem opSigwait_power (s : State) (g : Nat) (w : BitVec 128) : (opSigwait s g w).power = s.power := by
  unfold opSigwait
  split <;> simp [apply_ite State.power]

@[simp] theorem releaseBarrier_power (s : State) (n : Nat) : (releaseBarrier s n).power = s.power := by
  simp only [releaseBarrier]
  exact foldl_power (fun _ _ => modCell_power _ _ _) _ _

@[simp] theorem stayRequested_power (s : State) (g : Nat) (c : CellState) (x : Option Wait) (causes : BitVec 8) :
    (stayRequested s g c x causes).power = s.power := by
  simp [stayRequested]

@[simp] theorem arriveAt_power (s : State) (g : Nat) (c : CellState) (n : Nat) : (arriveAt s g c n).power = s.power := by
  simp [arriveAt, apply_ite State.power]

@[simp] theorem opBarrier_power (s : State) (g : Nat) (w : BitVec 128) : (opBarrier s g w).power = s.power := by
  unfold opBarrier
  dsimp only
  split <;> simp [apply_ite State.power]

@[simp] theorem drainDone_power (s : State) (g mask : Nat) (halt : Bool) : (drainDone s g mask halt).power = s.power := by
  simp [drainDone, apply_ite State.power]

@[simp] theorem drainStitch_power (s : State) (g mask until_ : Nat) (halt : Bool) : (drainStitch s g mask until_ halt).power = s.power := by
  simp [drainStitch, apply_ite State.power]

@[simp] theorem opDrain_power (mask : Nat) (halt : Bool) (s : State) (g : Nat) (_w : BitVec 128) : (opDrain mask halt s g _w).power = s.power := by
  simp [opDrain]

@[simp] theorem perform_power (s : State) (g : Nat) (w : BitVec 128) : (perform s g w).power = s.power := by unfold perform; split <;> simp

@[simp] theorem issueWith_power (op : State → Nat → BitVec 128 → State) (s : State) (g : Nat) (w : BitVec 128)
    (h : ∀ t a b, (op t a b).power = t.power) : (issueWith op s g w).power = s.power := by
  unfold issueWith
  dsimp only
  (repeat' split) <;> simp [h]

@[simp] theorem stitchDone_power (s : State) (g : Nat) : (stitchDone s g).power = s.power := by
  unfold stitchDone
  dsimp only
  (repeat' split) <;> simp

/-! ### Registers and errors of a cell -/

@[simp] theorem startCell_power (s : State) (g : Nat) : (startCell s g).power = s.power := by simp [startCell, apply_ite State.power]

@[simp] theorem releaseStarts_power (s : State) (tag : Nat) : (releaseStarts s tag).power = s.power := by
  refine foldl_power (fun s g => ?_) _ _
  dsimp only
  (repeat' split) <;> rfl

@[simp] theorem haltRequest_power (s : State) (g : Nat) : (haltRequest s g).power = s.power := by simp [haltRequest, apply_ite State.power]

@[simp] theorem fenceCell_power (s : State) (g : Nat) : (fenceCell s g).power = s.power := by
  refine foldl_power (fun s n => ?_) _ _
  dsimp only
  split
  · exact foldl_power (fun _ _ => modCell_power _ _ _) _ _
  · rfl

@[simp] theorem unfenceCell_power (s : State) (g : Nat) : (unfenceCell s g).power = s.power := by simp [unfenceCell]

@[simp] theorem writeCtrl_power (s : State) (g : Nat) (v : Word) : (writeCtrl s g v).power = s.power := by
  simp [writeCtrl, apply_ite State.power]

@[simp] theorem writeCell_power (s : State) (g off : Nat) (v : Word) : (writeCell s g off v).power = s.power := by
  simp [writeCell, apply_ite State.power]

@[simp] theorem causeEnds_power (s : State) (g cause : Nat) : (causeEnds s g cause).power = s.power := by
  simp [causeEnds, apply_ite State.power]

@[simp] theorem stitchEvent_power (s : State) (g : Nat) (x : StitchEvent) : (stitchEvent s g x).power = s.power := by
  unfold stitchEvent
  split <;> simp

@[simp] theorem hang_power (s : State) (g : Nat) : (hang s g).power = s.power := by simp [hang]

@[simp] theorem readClear_settings (s : State) (f : RcField) (n : Nat) : settings (readClear s f n).power = settings s.power := by
  have frame : ∀ (c : Tab CellState) (x : Causes) (d : Dev) (h : Nat),
    settings { s with cells := c, causes := x, dev := d, power := { s.power with highest := h } }.power = settings s.power := fun _ _ _ _ => rfl
  cases f <;> exact frame _ _ _ _

@[simp] theorem sentRead_power (s : State) (g e : Nat) (high : Bool) : (sentRead s g e high).power = s.power := by
  simp [sentRead, apply_ite State.power]

/-! ### Lacers and the memories -/

@[simp] theorem rewritten_power (s : State) (space addr len : Nat) : (rewritten s space addr len).power = s.power := by
  simp [rewritten, apply_ite State.power]

@[simp] theorem spaceWrite_power (s : State) (space p sel a : Nat) (l : List Byte) : (spaceWrite s space p sel a l).power = s.power := by
  unfold spaceWrite
  split
  case h_6 => exact foldl_power (fun _ _ => setChan_power _ _ _) _ _
  all_goals simp

@[simp] theorem jobFault_power (s : State) (g : Nat) (why : JobFault) : (jobFault s g why).power = s.power := by simp [jobFault]
@[simp] theorem jobReplay_power (s : State) (g : Nat) : (jobReplay s g).power = s.power := by simp [jobReplay]

@[simp] theorem memUncorrectable_power (s : State) (space addr : Nat) : (memUncorrectable s space addr).power = s.power := by
  simp [memUncorrectable, apply_ite State.power]

@[simp] theorem jobUncorrectable_power (s : State) (g space addr : Nat) : (jobUncorrectable s g space addr).power = s.power := by
  simp [jobUncorrectable, apply_ite State.power]

@[simp] theorem cellWordBad_power (s : State) (space key : Nat) : (cellWordBad s space key).power = s.power := rfl

@[simp] theorem sourceBad_power (s : State) (g : Nat) (same : Bool) (space key : Nat) : (sourceBad s g same space key).power = s.power := by
  simp [sourceBad, apply_ite State.power]

@[simp] theorem remember_power (s : State) (space key : Nat) : (remember s space key).power = s.power := by
  simp [remember, apply_ite State.power]

@[simp] theorem writeBursts_power (s : State) (sb : StartBlock) (space p sel : Nat) (x : List Nat) (y : List Byte) :
    ((writeBursts s sb space p sel x y).1).power = s.power := by
  induction x generalizing s y with
  | nil => rfl
  | cons a l ih =>
    unfold writeBursts
    dsimp only
    (repeat' split) <;> simp [ih]

@[simp] theorem touchSide_power (x : Transfer) (dst : Bool) (s : State) (h : Nat) : (touchSide x dst s h).power = s.power := by
  unfold touchSide
  split <;> rfl

@[simp] theorem moveData_power (s : State) (x : Transfer) (e : TransferErr) : ((moveData s x e).1).power = s.power := by
  unfold moveData
  dsimp only
  (repeat' split) <;> simp

@[simp] theorem writeStatus_power (s : State) (g a status : Nat) : (writeStatus s g a status).power = s.power := by simp [writeStatus]
@[simp] theorem dropTransfer_power (x : Transfer) (s : State) (h : Nat) : (dropTransfer x s h).power = s.power := rfl

@[simp] theorem tellSubmitter_power (s : State) (n g : Nat) (x : Transfer) (status space key : Nat) :
    (tellSubmitter s n g x status space key).power = s.power := by
  unfold tellSubmitter
  dsimp only
  (repeat' split) <;> simp

@[simp] theorem submitLoad_power (s : State) (g : Nat) (p : SlotProg) (sb : StartBlock) (a n : Nat) : (submitLoad s g p sb a n).power = s.power := by
  simp [submitLoad]

@[simp] theorem dropStart_power (s : State) (g : Nat) : (dropStart s g).power = s.power := by simp [dropStart]

@[simp] theorem loadDone_power (s : State) (x : Transfer) (g : Nat) (p : SlotProg) (e : TransferErr) : (loadDone s x g p e).power = s.power := by
  simp [loadDone, apply_ite State.power]

@[simp] theorem dataDone_power (s : State) (n : Nat) (x : Transfer) (e : TransferErr) : (dataDone s n x e).power = s.power := by
  unfold dataDone
  dsimp only
  (repeat' split) <;> simp [foldl_power (dropTransfer_power _)]

@[simp] theorem transferDone_power (s : State) (n : Nat) (x : Transfer) (e : TransferErr) : (transferDone s n x e).power = s.power := by
  refine (releaseStarts_power _ _).trans ?_
  split
  · exact loadDone_power _ _ _ _ _
  · exact dataDone_power _ _ _ _

@[simp] theorem lacerComplete_power (s : State) (n : Nat) (by_ : Submitter) (e : TransferErr) : (lacerComplete s n by_ e).power = s.power := by
  unfold lacerComplete
  split <;> simp

@[simp] theorem awlPerform_power (s : State) (x : AwlCmd) (a : AwlArgs) (ip op : Nat) : (awlPerform s x a ip op).power = s.power := by
  simp [awlPerform, apply_ite State.power]

@[simp] theorem awlFinish_power (s : State) (q : Nat) (x : AwlCmd) (rest : List AwlCmd) (e : TransferErr) :
    (awlFinish s q x rest e).power = s.power := by
  unfold awlFinish
  dsimp only
  (repeat' split) <;> simp

@[simp] theorem awlBegin_power (s : State) (q : Nat) : (awlBegin s q).power = s.power := by
  unfold awlBegin
  split <;> simp [apply_ite State.power]

@[simp] theorem awlComplete_power (s : State) (q : Nat) (e : TransferErr) : (awlComplete s q e).power = s.power := by
  unfold awlComplete
  split <;> simp [apply_ite State.power]

@[simp] theorem postLanded_power (s : State) (g : Nat) : (postLanded s g).power = s.power := by
  unfold postLanded
  dsimp only
  split <;> simp [apply_ite State.power]

@[simp] theorem counterApplied_power (s : State) (q : Nat) : (counterApplied s q).power = s.power := by
  unfold counterApplied
  split <;> simp

@[simp] theorem releasedUpdate_power (s : State) (g : Nat) : (releasedUpdate s g).power = s.power := by
  unfold releasedUpdate
  dsimp only
  split <;> simp [apply_ite State.power]

@[simp] theorem threadExec_power (s : State) (g k : Nat) (w : Word) : (threadExec s g k w).power = s.power := by
  unfold threadExec
  dsimp only
  (repeat' split) <;> simp

@[simp] theorem threadIssue_power (s : State) (g k : Nat) : (threadIssue s g k).power = s.power := by
  simp [threadIssue, apply_ite State.power]

@[simp] theorem momentStep_power (s : State) (g : Nat) (x : MomentStep) : (momentStep s g x).power = s.power := by
  simp [momentStep, apply_ite State.power]

@[simp] theorem threadStep_power (s : State) (g : Nat) : (threadStep s g).power = s.power := by
  unfold threadStep
  dsimp only
  (repeat' split) <;> simp

end Sys2Proof.Machine

/-! SUPPORT. Every step and the power settings, the second part: rates, admission, jobs, Tackers, Lasters and contexts set clocks and paces but no
setting (spec/09 R237, R238, R243, R252). -/

namespace Sys2Proof.Machine

open Sys2Proof.Safety

/-! ### Rates and bounds -/

@[simp] theorem setZone_settings (s : State) (z : Nat) (x : Zone) : settings (State.setZone s z x).power = settings s.power := rfl

/-! ### Admission and placement -/

@[simp] theorem reservePages_power (s : State) (c : Nat) (x : Ctx) : (reservePages s c x).power = s.power := by simp [reservePages]
@[simp] theorem swapCell_power (s : State) (c old new : Nat) : (swapCell s c old new).power = s.power := by simp [swapCell]
@[simp] theorem moveSlot_power (s : State) (c old new : Nat) : (moveSlot s c old new).power = s.power := by simp [moveSlot]

@[simp] theorem replaceLost_power (s : State) (c : Nat) : (replaceLost s c).power = s.power := by
  refine foldl_power (fun s k => foldl_power (fun s i => ?_) _ _) _ _
  dsimp only
  (repeat' split) <;> simp

@[simp] theorem resyncOne_power (s : State) (c k : Nat) : ((resyncOne s c k).1).power = s.power := by
  unfold resyncOne
  dsimp only
  (repeat' split) <;> simp

@[simp] theorem resync_power (s : State) (c : Nat) : ((resync s c).1).power = s.power := by
  refine foldl_fst_power (fun p k => ?_) _ _
  exact resyncOne_power p.1 c k

@[simp] theorem withdraw_power (s : State) (c why : Nat) (host : Bool) : (withdraw s c why host).power = s.power := by
  simp [withdraw, apply_ite State.power]

@[simp] theorem restore_power (s : State) (c : Nat) : (restore s c).power = s.power := by simp [restore, apply_ite State.power]

@[simp] theorem checkOne_power (host : Bool) (s : State) (c : Nat) (before : List Ctx) : ((checkOne host s c before).1).power = s.power := by
  unfold checkOne
  dsimp only
  split <;> simp [apply_ite State.power]

@[simp] theorem setDevState_power (s : State) (d : DevState) : (setDevState s d).power = s.power := by
  simp [setDevState, apply_ite State.power]

@[simp] theorem settleState_power (s : State) : (settleState s).power = s.power := by
  unfold settleState
  split <;> simp [apply_ite State.power]

@[simp] theorem wakeReserved_settings (s : State) : settings (wakeReserved s).power = settings s.power := by
  refine foldl_settings (fun s z => ?_) _ _
  dsimp only
  split <;> rfl

@[simp] theorem recheck_settings (s : State) (host : Bool) : settings (recheck s host).power = settings s.power := by
  unfold recheck
  dsimp only
  rw [settleState_power, wakeReserved_settings]
  refine congrArg settings ((foldl_power (fun t c => ?_) _ _).trans (foldl_fst_power (fun p c => ?_) _ _))
  · exact checkOne_power host t c []
  · dsimp only
    exact checkOne_power host p.1 c p.2

@[simp] theorem publish_settings (s : State) (host : Bool) : settings (publish s host).power = settings s.power := by
  simp [publish, apply_ite State.power, apply_ite settings]
  rfl

/-! ### Jobs and what they hold -/

@[simp] theorem pushNotice_power (s : State) (n : Nat) (x : Notice) : (pushNotice s n x).power = s.power := by
  simp [pushNotice, apply_ite State.power]

@[simp] theorem sendNotice_power (s : State) (n : Nat) (src : NoticeSrc) (k : NoticeKind) : (sendNotice s n src k).power = s.power := by
  simp [sendNotice]

@[simp] theorem postJob_power (s : State) (j : Job) (status flags code : Nat) (withData : Bool) :
    (postJob s j status flags code withData).power = s.power := by
  simp [postJob]

@[simp] theorem postVoids_power (s : State) (c tag tInput moment : Nat) (voidPos : List Nat) :
    (postVoids s c tag tInput moment voidPos).power = s.power := by
  simp [postVoids]

@[simp] theorem releaseCell_power (s : State) (g : Nat) : (releaseCell s g).power = s.power := by simp [releaseCell]

@[simp] theorem enqueueCmd_power (s : State) (t n : Nat) (x : TackCmd) : (enqueueCmd s t n x).power = s.power := by
  simp [enqueueCmd, apply_ite State.power]

theorem sendCmd_power (s : State) (t n : Nat) (x : TackCmd) (act : State → State) (h : ∀ t, (act t).power = t.power) :
    (sendCmd s t n x act).power = s.power := by
  simp [sendCmd, h, apply_ite State.power]

@[simp] theorem haltCellOf_power (s : State) (g id : Nat) : (haltCellOf s g id).power = s.power := by
  simp [haltCellOf, apply_ite State.power]

@[simp] theorem releaseJob_power (s : State) (j : Job) : (releaseJob s j).power = s.power := by
  refine foldl_power (fun s g => ?_) _ _
  split
  · exact releaseCell_power _ _
  · rfl

@[simp] theorem dropJob_power (s : State) (id : Nat) : (dropJob s id).power = s.power := rfl

@[simp] theorem haltJob_power (s : State) (j : Job) : (haltJob s j).power = s.power := by
  refine foldl_power (fun s g => ?_) _ _
  split
  · exact sendCmd_power _ _ _ _ _ fun t => haltCellOf_power _ _ _
  · rfl

@[simp] theorem creditRun_power (s : State) (j : Job) (t : Nat) : (creditRun s j t).power = s.power := rfl

@[simp] theorem settleJob_power (s : State) (id : Nat) : (settleJob s id).power = s.power := by
  unfold settleJob
  split <;> simp [apply_ite State.power]

@[simp] theorem abandonJob_power (s : State) (id : Nat) : (abandonJob s id).power = s.power := by unfold abandonJob; split <;> simp
@[simp] theorem noteWindow_power (s : State) (j : Job) : (noteWindow s j).power = s.power := by simp [noteWindow, apply_ite State.power]
@[simp] theorem openLate_power (s : State) (j : Job) : (openLate s j).power = s.power := by simp [openLate, apply_ite State.power]

@[simp] theorem makeLate_power (s : State) (id : Nat) : (makeLate s id).power = s.power := by
  unfold makeLate
  split <;> simp [apply_ite State.power]

@[simp] theorem lateCheck_power (s : State) (id : Nat) : (lateCheck s id).power = s.power := by
  unfold lateCheck
  split <;> simp [apply_ite State.power]

@[simp] theorem formJob_power (s : State) (c : Nat) (x : NewJob) : (formJob s c x).power = s.power := by
  unfold formJob
  extract_lets d s₁ fast id j s₂ s₃ s₄
  have h₁ : s₁.power = s.power := power_ite rfl (postVoids_power _ _ _ _ _ _)
  have h₄ : s₄.power = s.power := power_ite ((foldl_power (fun _ _ => closeLate_power _ _ _ _ _) _ _).trans h₁) h₁
  exact power_ite h₁ (power_ite ((postEvent_power _ _ _ _).trans h₄) h₁)

@[simp] theorem tookBatch_power (s : State) (c : Nat) : (tookBatch s c).power = s.power := by simp [tookBatch, apply_ite State.power]

@[simp] theorem formBatches_power (s : State) (c : Nat) (x : Nat) : (formBatches s c x).power = s.power := by
  induction x generalizing s with
  | zero => rfl
  | succ n ih =>
    unfold formBatches
    dsimp only
    (repeat' split) <;> simp [ih]

@[simp] theorem assign_power (s : State) (id k : Nat) (cells : List Nat) (stripe : Bool) : (assign s id k cells stripe).power = s.power :=
  rfl

@[simp] theorem evict_power (s : State) (j : Job) : (evict s j).power = s.power := by simp [evict, apply_ite State.power]

@[simp] theorem placeJob_power (s : State) (n : Nat) (j : Job) : (placeJob s n j).power = s.power := by
  refine power_ite rfl ?_
  split
  · split
    · exact assign_power _ _ _ _ _
    · rfl
  · refine power_ite rfl ?_
    split
    · exact assign_power _ _ _ _ _
    · split
      · refine foldl_power (fun t g => ?_) _ _
        split <;> simp
      · split <;> simp
  · split
    · rfl
    · split <;> simp

@[simp] theorem failNoCell_power (s : State) (j : Job) : (failNoCell s j).power = s.power := by simp [failNoCell]

@[simp] theorem dispatchPass_power (s : State) (n : Nat) : (dispatchPass s n).power = s.power := by
  simp [dispatchPass, apply_ite State.power]

@[simp] theorem dispatch_power (s : State) (n : Nat) : (dispatch s n).power = s.power := by simp [dispatch, apply_ite State.power]
@[simp] theorem dispatchAll_power (s : State) : (dispatchAll s).power = s.power := by simp [dispatchAll]

@[simp] theorem answerClaim_power (s : State) (n g id : Nat) (ok : Bool) : (answerClaim s n g id ok).power = s.power := by
  simp [answerClaim]

@[simp] theorem holdClaim_settings (s : State) (x : HeldClaim) : settings (holdClaim s x).power = settings s.power := rfl

@[simp] theorem claimAt_settings (s : State) (n g id : Nat) : settings (claimAt s n g id).power = settings s.power := by
  simp [claimAt, apply_ite State.power, apply_ite settings]

@[simp] theorem claimCell_settings (s : State) (n g id : Nat) : settings (claimCell s n g id).power = settings s.power := by
  unfold claimCell sendCmd
  split
  · exact congrArg settings (enqueueCmd_power _ _ _ _)
  · exact claimAt_settings _ _ _ _

@[simp] theorem refuseQueued_power (s : State) (t : Nat) : (refuseQueued s t).power = s.power := by
  refine (foldl_power (fun s p => foldl_power (fun s x => ?_) _ _) _ _).trans (setTacker_power _ _ _)
  split
  · exact answerClaim_power _ _ _ _ _
  · rfl

@[simp] theorem ensureProgram_power (s : State) (g : Nat) (p : SlotProg) (sb : StartBlock) (r : Nat × Nat) :
    (ensureProgram s g p sb r).power = s.power := by
  simp [ensureProgram, apply_ite State.power]

@[simp] theorem resetSync_power (s : State) (j : Job) : (resetSync s j).power = s.power := by unfold resetSync; dsimp only; split <;> simp

@[simp] theorem startOne_power (s : State) (j : Job) (i g : Nat) : (startOne s j i g).power = s.power := by
  unfold startOne
  dsimp only
  (repeat' split) <;> simp

@[simp] theorem startJob_power (s : State) (t id : Nat) : (startJob s t id).power = s.power := by
  unfold startJob
  dsimp only
  split
  · rfl
  · (repeat' split) <;> simp

@[simp] theorem jobCommand_power (s : State) (t id : Nat) : (jobCommand s t id).power = s.power :=
  sendCmd_power _ _ _ _ _ fun _ => startJob_power _ _ _

@[simp] theorem performCmd_settings (s : State) (n : Nat) (x : TackCmd) : settings (performCmd s n x).power = settings s.power := by
  unfold performCmd
  split <;> simp

@[simp] theorem resendCmd_settings (s : State) (n : Nat) (x : TackCmd) : settings (resendCmd s n x).power = settings s.power := by
  cases x with
  | claim g id => exact claimCell_settings _ _ _ _
  | start t id => simp [resendCmd]
  | halt g id => simp [resendCmd, sendCmd_power _ _ _ _ _ fun t => haltCellOf_power t g id]

@[simp] theorem retryWaiting_settings (s : State) : settings (retryWaiting s).power = settings s.power := by simp [retryWaiting]

@[simp] theorem afterFree_settings (s : State) : settings (afterFree s).power = settings s.power :=
  (congrArg settings (dispatchAll_power _)).trans (retryWaiting_settings s)

@[simp] theorem finishJob_power (s : State) (id : Nat) : (finishJob s id).power = s.power := by
  unfold finishJob
  dsimp only
  (repeat' split) <;> simp

@[simp] theorem beginReplay_power (s : State) (id : Nat) : (beginReplay s id).power = s.power := by
  unfold beginReplay
  split <;> simp [apply_ite State.power]

@[simp] theorem placeReplay_power (s : State) (id : Nat) : (placeReplay s id).power = s.power := by
  unfold placeReplay
  dsimp only
  split
  · rfl
  · refine power_ite rfl (power_ite (failNoCell_power _ _) ?_)
    rename_i j _
    have placed : ∀ (t : State) (p : Nat × Nat), (match t.job? id with
        | none => t
        | some j =>
          if unfenced t p.2 then t else
          match replayCell t j p.1 p.2 with
          | some g => t.modJob id (fun j => { j with cells := j.cells.map (fun h => if h = p.2 then g else h) })
          | none => t).power = t.power := fun t p => by (repeat' split) <;> rfl
    generalize hfold : List.foldl _ s (indexed j.cells) = t
    rw [← (hfold ▸ foldl_power placed _ _ : t.power = s.power)]
    split
    · rfl
    · exact power_ite (power_ite ((modJob_power _ _ _).trans (power_ite (makeLate_power _ _) rfl)) (power_ite (makeLate_power _ _) rfl))
        ((dispatchAll_power _).trans ((modJob_power _ _ _).trans ((releaseJob_power _ _).trans (power_ite (makeLate_power _ _) rfl))))

/-! ### Tackers and claims -/

@[simp] theorem unmapOwner_power (s : State) (owner : Nat) : (unmapOwner s owner).power = s.power := by
  simp [unmapOwner, apply_ite State.power]

@[simp] theorem freeLines_power (s : State) (a n : Nat) : (freeLines s a n).power = s.power := by simp [freeLines]
@[simp] theorem unloadJobs_power (s : State) (c : Nat) : (unloadJobs s c).power = s.power := by simp [unloadJobs, apply_ite State.power]

@[simp] theorem unloadCtx_power (s : State) (c reason : Nat) : (unloadCtx s c reason).power = s.power := by
  unfold unloadCtx
  dsimp only
  split <;> simp

@[simp] theorem cellsChanged_settings (s : State) : settings (cellsChanged s).power = settings s.power :=
  (recheck_settings _ _).trans (publish_settings _ _)

theorem withFence_settings (s : State) (g : Nat) (f : State → State) (h : ∀ t, settings (f t).power = settings t.power) :
    settings (withFence s g f).power = settings s.power := by
  simp [withFence, h, apply_ite State.power, apply_ite settings]

@[simp] theorem replayHere_power (s : State) (n h id : Nat) (src : NoticeSrc) (old : Nat) : (replayHere s n h id src old).power = s.power := by
  simp [replayHere]

@[simp] theorem replayHeld_settings (s : State) (n h id : Nat) (src : NoticeSrc) (old : Nat) :
    settings (replayHeld s n h id src old).power = settings s.power := by
  simp [replayHeld]

@[simp] theorem loseCell_settings (s : State) (g : Nat) (src : NoticeSrc) (byTacker : Bool) :
    settings (loseCell s g src byTacker).power = settings s.power := by
  unfold loseCell
  dsimp only
  (repeat' split) <;> simp

@[simp] theorem recordFailure_power (s : State) (g : Nat) : (recordFailure s g).power = s.power := by simp [recordFailure]

@[simp] theorem beginTest_settings (s : State) (g : Nat) : settings (beginTest s g).power = settings s.power := by
  simp [beginTest, apply_ite State.power, apply_ite settings]

@[simp] theorem forceNext_settings (s : State) (q : Nat) : settings (forceNext s q).power = settings s.power := by
  unfold forceNext
  dsimp only
  (repeat' split) <;> simp

@[simp] theorem testFailed_settings (s : State) (g : Nat) : settings (testFailed s g).power = settings s.power := by
  simp [testFailed, apply_ite State.power]

@[simp] theorem cellFailure_settings (s : State) (g : Nat) : settings (cellFailure s g).power = settings s.power := by
  simp [cellFailure, apply_ite State.power, apply_ite settings]

@[simp] theorem returnCell_settings (s : State) (g : Nat) : settings (returnCell s g).power = settings s.power := by
  simp [returnCell, apply_ite State.power, apply_ite settings]

@[simp] theorem testPassed_settings (s : State) (g : Nat) : settings (testPassed s g).power = settings s.power := by
  simp [testPassed, apply_ite State.power, apply_ite settings]

@[simp] theorem idleTest_settings (s : State) (g : Nat) : settings (idleTest s g).power = settings s.power := by
  simp [idleTest, apply_ite State.power, apply_ite settings]

@[simp] theorem cycleEnd_settings (s : State) : settings (cycleEnd s).power = settings s.power := by
  unfold cycleEnd
  dsimp only
  rw [foldl_settings forceNext_settings, foldl_power fun t g => modCell_power t g _, foldl_settings, foldl_power fun t g => modCell_power t g _,
    foldl_power]
  · intro t g
    split
    · exact raise_power _ _ _ _
    · rfl
  · intro t z
    split <;> rfl

@[simp] theorem retireCell_power (s : State) (g : Nat) : (retireCell s g).power = s.power := by
  unfold retireCell
  dsimp only
  (repeat' split) <;> simp

@[simp] theorem settleCell_settings (s : State) (g : Nat) : settings (settleCell s g).power = settings s.power := by
  unfold settleCell
  (repeat' split) <;> simp

@[simp] theorem restartTacker_power (s : State) (t : Nat) : (restartTacker s t).power = s.power := by simp [restartTacker]

@[simp] theorem pendingActions_settings (s : State) (t : Nat) : settings (pendingActions s t).power = settings s.power := by
  simp [pendingActions, apply_ite State.power, apply_ite settings]

@[simp] theorem serveNext_settings (s : State) (t : Nat) : settings (serveNext s t).power = settings s.power := by
  unfold serveNext
  dsimp only
  (repeat' split) <;> simp

@[simp] theorem serveQueues_settings (s : State) (t : Nat) : settings (serveQueues s t).power = settings s.power :=
  foldl_settings (fun _ _ => serveNext_settings _ _) _ _

@[simp] theorem isolateTacker_settings (s : State) (t : Nat) : settings (isolateTacker s t).power = settings s.power := by
  unfold isolateTacker
  dsimp only
  rw [afterFree_settings, cellsChanged_settings, foldl_settings, raise_power, refuseQueued_power, setTacker_power]
  intro t i
  rw [loseCell_settings, modCell_power]
  split
  · rfl
  · exact congrArg settings (fenceCell_power _ _)

@[simp] theorem tackerBack_settings (s : State) (t : Nat) (ok : Bool) : settings (tackerBack s t ok).power = settings s.power := by
  simp [tackerBack, apply_ite State.power, apply_ite settings]

@[simp] theorem enterFault_settings (s : State) : settings (enterFault s).power = settings s.power := by
  unfold enterFault
  dsimp only
  rw [publish_settings, foldl_settings fun t q => setQpower_settings t q _, setDevState_power, alRefuse_power]
  split <;>
  simp [foldl_power fun t q => raise_power t (.main gQuarter q) 0 0, foldl_power fun t n => setSlot_power t n (t.slot n).idle,
    foldl_power fun t c => unloadCtx_power t c 1, foldl_power fun t g => modCell_power t g _]

@[simp] theorem loseQuarter_settings (s : State) (q : Nat) : settings (loseQuarter s q).power = settings s.power := by
  unfold loseQuarter
  refine settings_ite rfl ?_
  dsimp only
  refine settings_ite (by rw [enterFault_settings, raise_power, setQpower_settings]) ?_
  rw [afterFree_settings, cellsChanged_settings, foldl_power fun t x => (releaseStarts_power _ _).trans (foldl_power (dropTransfer_power x) _ t),
    foldl_settings fun t i => loseCell_settings t _ _ _, foldl_power fun t p => unloadCtx_power t _ _, foldl_power, foldl_power, raise_power,
    setQpower_settings]
  · exact fun t c => (refuseQueued_power _ _).trans (setTacker_power _ _ _)
  · exact fun t i => (modCell_power _ _ _).trans (power_ite rfl (fenceCell_power _ _))

@[simp] theorem linkFail_settings (s : State) (l : Nat) : settings (linkFail s l).power = settings s.power := by
  simp [linkFail, apply_ite State.power, apply_ite settings]

/-! ### Lasters and their notices -/

theorem inState_power (ok : Bool) (s : State) (f : State → State) (h : ∀ t, (f t).power = t.power) : (inState ok s f).power = s.power := by
  simp [inState, h, apply_ite State.power]

@[simp] theorem consume_power (s : State) (q : Nat) (x : Queue) : (consume s q x).power = s.power := rfl

@[simp] theorem cancelJob_settings (s : State) (c tag : Nat) : settings (cancelJob s c tag).power = settings s.power := by
  unfold cancelJob
  split <;> simp

theorem submitOne_settings (s : State) (q : Nat) (kinds : List Nat) : ∀ t, submitOne s q kinds = some t → settings t.power = settings s.power := by
  unfold submitOne
  dsimp only
  (repeat' split) <;> simp

@[simp] theorem takeSubmits_settings (s : State) (q : Nat) (x : Nat) : settings (takeSubmits s q x).power = settings s.power := by
  induction x generalizing s with
  | zero => rfl
  | succ n ih =>
    unfold takeSubmits
    split
    next t ht => exact (ih t).trans (submitOne_settings _ _ _ _ ht)
    next => rfl

@[simp] theorem allSubmits_settings (s : State) (q : Nat) : settings (allSubmits s q).power = settings s.power := by
  unfold allSubmits
  split <;> simp

@[simp] theorem serveQueue_settings (s : State) (q : Nat) : settings (serveQueue s q).power = settings s.power := by
  unfold serveQueue
  (repeat' split) <;> simp

@[simp] theorem serveCtx_settings (s : State) (c : Nat) : settings (serveCtx s c).power = settings s.power := by
  simp [serveCtx, apply_ite State.power, apply_ite settings]

@[simp] theorem claimResult_settings (s : State) (g id : Nat) (ok : Bool) : settings (claimResult s g id ok).power = settings s.power := by
  unfold claimResult
  split <;> simp [apply_ite State.power, apply_ite settings]

@[simp] theorem replayWork_power (s : State) (id : Nat) : (replayWork s id).power = s.power := by
  unfold replayWork
  split <;> simp [apply_ite State.power]

@[simp] theorem reclaim_settings (s : State) (n id : Nat) : settings (reclaim s n id).power = settings s.power := by
  unfold reclaim
  (repeat' split) <;> simp

@[simp] theorem dropStale_power (s : State) (n : Nat) : (dropStale s n).power = s.power := by
  refine foldl_power (fun s g => ?_) _ _
  (repeat' split) <;> simp

@[simp] theorem reconcile_settings (s : State) (n : Nat) : settings (reconcile s n).power = settings s.power := by
  unfold reconcile
  dsimp only
  rw [afterFree_settings, foldl_power fun t j => lateCheck_power t _, foldl_settings fun t c => serveCtx_settings t c,
    foldl_settings fun t p => serveQueue_settings t _, dropStale_power, foldl_settings fun t j => reclaim_settings t n _,
    foldl_power fun t j => replayWork_power t _, foldl_power fun t j => finishJob_power t _, setLaster_power]

@[simp] theorem skipFront_settings (s : State) (n : Nat) : settings (skipFront s n).power = settings s.power := by
  simp [skipFront, apply_ite State.power, apply_ite settings]

@[simp] theorem takeNotice_settings {α : Type} (s : State) (n : Nat) (pick : NoticeKind → Option α) (act : State → α → State)
    (h : ∀ t a, settings (act t a).power = settings t.power) : settings (takeNotice s n pick act).power = settings s.power := by
  unfold takeNotice
  dsimp only
  (repeat' split) <;> simp [h]

@[simp] theorem rotate_settings (s : State) (c k : Nat) : settings (rotate s c k).power = settings s.power := by
  unfold rotate
  dsimp only
  (repeat' split) <;> simp

@[simp] theorem jobDone_settings (s : State) (id : Nat) : settings (jobDone s id).power = settings s.power := by
  unfold jobDone
  split <;> simp [apply_ite State.power, apply_ite settings]

@[simp] theorem cellFault_settings (s : State) (id : Nat) : settings (cellFault s id).power = settings s.power :=
  (afterFree_settings _).trans (congrArg settings (replayWork_power _ _))

@[simp] theorem slotStopped_power (s : State) (n slot : Nat) : (slotStopped s n slot).power = s.power := by
  simp [slotStopped, apply_ite State.power]

@[simp] theorem lateBatches_power (s : State) (c : Nat) : (lateBatches s c).power = s.power := by simp [lateBatches, apply_ite State.power]

@[simp] theorem timerExpiry_power (s : State) (n : Nat) : (timerExpiry s n).power = s.power := by
  unfold timerExpiry
  dsimp only
  split
  · rw [foldl_power, foldl_modJob_power]
    exact fun t j => sendNotice_power _ _ _ _
  · rw [foldl_power lateBatches_power, foldl_power, foldl_modJob_power]
    exact fun t j => lateCheck_power _ _

@[simp] theorem beginReplacement_power (s : State) (n : Nat) : (beginReplacement s n).power = s.power := by simp [beginReplacement]

@[simp] theorem writeReplace_power (s : State) (v : Nat) : (writeReplace s v).power = s.power := by
  simp [writeReplace, apply_ite State.power]

@[simp] theorem replacementDone_settings (s : State) (n : Nat) : settings (replacementDone s n).power = settings s.power := by
  simp [replacementDone, apply_ite State.power, apply_ite settings]

@[simp] theorem activateNext_power (s : State) : (activateNext s).power = s.power := by
  unfold activateNext
  dsimp only
  split <;> simp [apply_ite State.power]

@[simp] theorem activated_power (s : State) (k : Nat) (ok : Bool) : (activated s k ok).power = s.power := by
  simp [activated, apply_ite State.power]

@[simp] theorem writeRestartTacker_power (s : State) (v : Nat) : (writeRestartTacker s v).power = s.power := by
  simp [writeRestartTacker, apply_ite State.power]

/-! ### Contexts and the commands of their queues -/

@[simp] theorem measure_power (s : State) (kind : Nat) (content : List Byte) : (measure s kind content).power = s.power := by simp [measure]

@[simp] theorem residentPrograms_power (s : State) (c : Nat) (x : Ctx) : (residentPrograms s c x).power = s.power := by
  simp [residentPrograms, apply_ite State.power]

@[simp] theorem takeLines_power (s : State) (a n : Nat) (tag : BitVec 16) : (takeLines s a n tag).power = s.power := by simp [takeLines]

@[simp] theorem holdResources_power (s : State) (c : Nat) (p : Package) (h : Choice) : (holdResources s c p h).power = s.power := by
  unfold holdResources
  dsimp only
  rw [residentPrograms_power, modCtx_power, reservePages_power, takeLines_power, modCtx_power]

@[simp] theorem admitCtx_settings (s : State) (c : Nat) : settings (admitCtx s c).power = settings s.power := by
  unfold admitCtx
  dsimp only
  (repeat' split) <;> simp

@[simp] theorem admitLoading_settings (s : State) : settings (admitLoading s).power = settings s.power := by
  simp [admitLoading, apply_ite State.power, apply_ite settings]

@[simp] theorem writeLoad_settings (s : State) (c : Nat) (p : Package) (place : Nat) : settings (writeLoad s c p place).power = settings s.power := by
  simp [writeLoad, apply_ite State.power, apply_ite settings]

@[simp] theorem writeUnload_settings (s : State) (c : Nat) : settings (writeUnload s c).power = settings s.power := by
  simp [writeUnload, apply_ite State.power, apply_ite settings]

@[simp] theorem launchCtx_settings (s : State) (c : Nat) : settings (launchCtx s c).power = settings s.power := by simp [launchCtx]

@[simp] theorem doLaunch_settings (s : State) (c : Nat) : settings (doLaunch s c).power = settings s.power := by
  simp [doLaunch, apply_ite State.power, apply_ite settings]

@[simp] theorem launchHeld_settings (s : State) : settings (launchHeld s).power = settings s.power := by simp [launchHeld]

@[simp] theorem writeActivate_settings (s : State) (c : Nat) : settings (writeActivate s c).power = settings s.power := by
  simp [writeActivate, apply_ite State.power, apply_ite settings]

@[simp] theorem suspendCtx_power (s : State) (c : Nat) : (suspendCtx s c).power = s.power := by simp [suspendCtx]

@[simp] theorem writeSuspend_power (s : State) (c : Nat) : (writeSuspend s c).power = s.power := by
  simp [writeSuspend, apply_ite State.power]

@[simp] theorem suspendAll_power (s : State) : (suspendAll s).power = s.power := by simp [suspendAll]
@[simp] theorem writeReseed_power (s : State) (c : Nat) : (writeReseed s c).power = s.power := by simp [writeReseed, apply_ite State.power]

@[simp] theorem writeStatsReset_power (s : State) (c v : Nat) : (writeStatsReset s c v).power = s.power := by
  simp [writeStatsReset, apply_ite State.power]

@[simp] theorem writeCtxCommand_settings (s : State) (c v : Nat) : settings (writeCtxCommand s c v).power = settings s.power := by
  unfold writeCtxCommand
  split <;> simp [apply_ite State.power]

@[simp] theorem writeDescriptor_power (s : State) (c : Nat) (d : List Byte) : (writeDescriptor s c d).power = s.power := by
  simp [writeDescriptor, apply_ite State.power]

@[simp] theorem writeLaunch_power (s : State) (c v : Nat) : (writeLaunch s c v).power = s.power := by
  simp [writeLaunch, apply_ite State.power]

@[simp] theorem clearPages_power (s : State) (x : Queue) : (clearPages s x).power = s.power := by simp [clearPages]

@[simp] theorem destroyQueue_power (s : State) (c : Nat) (b : BitVec 128) : ((destroyQueue s c b).1).power = s.power := by
  unfold destroyQueue
  dsimp only
  (repeat' split) <;> simp

@[simp] theorem createQueue_power (s : State) (c : Nat) (b : BitVec 128) (t : QType) : ((createQueue s c b t).1).power = s.power := by
  unfold createQueue
  dsimp only
  (repeat' split) <;> simp

theorem queueCommand_power (s : State) (c : Nat) (b : BitVec 128) (act : State → State × Nat × Nat) (h : ∀ t, (act t).1.power = t.power) :
    (queueCommand s c b act).power = s.power := by
  simp [queueCommand, h, apply_ite State.power]

@[simp] theorem writeQueueCommand_power (s : State) (c : Nat) (b : BitVec 128) : (writeQueueCommand s c b).power = s.power := by
  refine queueCommand_power _ _ _ _ fun t => ?_
  split <;> simp

end Sys2Proof.Machine

/-! SUPPORT. Every step and the power settings, the third part: samples, streams, codecs and the host memory port write no setting (spec/09 R237,
R238, R243, R252). -/

namespace Sys2Proof.Machine

open Sys2Proof.Safety

/-! ### Samples and batches -/

@[simp] theorem writeSample_power (s : State) (c : Nat) (buf : Option Nat) (p : Nat) (data : List Byte) :
    (writeSample s c buf p data).power = s.power := by
  unfold writeSample
  dsimp only
  (repeat' split) <;> simp

@[simp] theorem writeVoids_power (s : State) (c : Nat) (b : Batch) : (writeVoids s c b).power = s.power := by simp [writeVoids]

@[simp] theorem closeBatch_power (s : State) (c : Nat) : (closeBatch s c).power = s.power := by
  unfold closeBatch
  dsimp only
  (repeat' split) <;> simp

@[simp] theorem tryClose_power (s : State) (c : Nat) : (tryClose s c).power = s.power := by
  unfold tryClose
  split <;> simp [apply_ite State.power]

@[simp] theorem reviewBatches_power (s : State) (slot : Nat) : (reviewBatches s slot).power = s.power := by simp [reviewBatches]

@[simp] theorem addSample_power (s : State) (c p : Nat) (v : Sample) : (addSample s c p v).power = s.power := by
  unfold addSample
  split <;> simp [apply_ite State.power]

@[simp] theorem pruneView_power (s : State) (slot view : Nat) : (pruneView s slot view).power = s.power := by simp [pruneView]

@[simp] theorem takeSample_power (s : State) (c p : Nat) : (takeSample s c p).power = s.power := by
  unfold takeSample
  dsimp only
  (repeat' split) <;> simp

@[simp] theorem windowEnd_power (s : State) (c : Nat) : (windowEnd s c).power = s.power := by
  unfold windowEnd
  split <;> simp [apply_ite State.power]

@[simp] theorem outView_power (s : State) (slot view : Nat) (tInput : Nat) (cold : Bool) (data : List Byte) :
    (outView s slot view tInput cold data).power = s.power :=
  rfl

@[simp] theorem clickFrame_power (s : State) (slot : Nat) (d : Mem) (tabs : SlotTabs) (m : Img) (tInput : Nat) (cold : Bool) :
    (clickFrame s slot d tabs m tInput cold).power = s.power :=
  (foldl_power (fun t v => by simp) _ _).trans (setSlot_power _ _ _)

@[simp] theorem dropReads_power (s : State) (slot : Nat) : (dropReads s slot).power = s.power := by simp only [dropReads]

@[simp] theorem stopSlot_power (s : State) (slot reason : Nat) : (stopSlot s slot reason).power = s.power := by
  unfold stopSlot
  dsimp only
  rw [sendNotice_power, reviewBatches_power, raise_power, setSlot_power, dropReads_power]

@[simp] theorem stopEntry_power (s : State) (n reason : Nat) : (stopEntry s n reason).power = s.power :=
  (stopSlot_power _ _ _).trans (setSlot_power _ _ _)

@[simp] theorem stagingStop_power (s : State) (ch a : Nat) : (stagingStop s ch a).power = s.power := by
  unfold stagingStop
  split <;> simp [apply_ite State.power]

@[simp] theorem stopOn_power (s : State) (x : TransferErr) : (stopOn s x).power = s.power := by unfold stopOn; split <;> simp

/-! ### Camera slots and their descriptors -/

@[simp] theorem askGcmd_power (s : State) (n why : Nat) : (askGcmd s n why).power = s.power := by simp [askGcmd, apply_ite State.power]
@[simp] theorem refuseSlot_power (s : State) (slot reason : Nat) : (refuseSlot s slot reason).power = s.power := rfl
@[simp] theorem enterRunning_power (s : State) (slot : Nat) : (enterRunning s slot).power = s.power := by simp [enterRunning]

@[simp] theorem beginTables_power (s : State) (slot : Nat) : (beginTables s slot).power = s.power := by
  simp [beginTables, apply_ite State.power]

@[simp] theorem startTables_power (s : State) (slot : Nat) : (startTables s slot).power = s.power := by
  simp [startTables, apply_ite State.power]

@[simp] theorem startSlot_power (s : State) (slot : Nat) : (startSlot s slot).power = s.power := by
  unfold startSlot
  dsimp only
  (repeat' split) <;> simp

@[simp] theorem stopCommand_power (s : State) (slot : Nat) : (stopCommand s slot).power = s.power := by
  simp [stopCommand, apply_ite State.power]

@[simp] theorem applyShadow_power (s : State) (slot : Nat) : (applyShadow s slot).power = s.power := by
  unfold applyShadow
  dsimp only
  split <;> simp [apply_ite State.power]

@[simp] theorem resumeSlot_power (s : State) (slot : Nat) : (resumeSlot s slot).power = s.power := by
  unfold resumeSlot
  dsimp only
  (repeat' split) <;> simp

@[simp] theorem rereadSlot_power (s : State) (slot : Nat) : (rereadSlot s slot).power = s.power := by
  simp [rereadSlot, apply_ite State.power]

@[simp] theorem slotCommand_power (s : State) (slot v : Nat) : (slotCommand s slot v).power = s.power := by
  unfold slotCommand
  (repeat' split) <;> simp

@[simp] theorem holdTabs_power (s : State) (slot : Nat) (d : Mem) (t : SlotTabs) : (holdTabs s slot d t).power = s.power := rfl

@[simp] theorem holdShadow_power (s : State) (slot : Nat) (d : Mem) : (holdShadow s slot d).power = s.power := by
  simp [holdShadow, apply_ite State.power]

@[simp] theorem writeStreamDesc_power (s : State) (slot : Nat) (l : List Byte) : (writeStreamDesc s slot l).power = s.power := by
  simp [writeStreamDesc, apply_ite State.power]

@[simp] theorem meshDone_power (s : State) (slot v : Nat) : (meshDone s slot v).power = s.power := by
  unfold meshDone
  dsimp only
  (repeat' split) <;> simp

@[simp] theorem storeGcmd_power (s : State) (slot : Nat) (r : GcmdRead) : (storeGcmd s slot r).power = s.power := by
  simp [storeGcmd, apply_ite State.power]

@[simp] theorem gcmdDone_power (s : State) (slot : Nat) (r : GcmdRead) : (gcmdDone s slot r).power = s.power := by
  unfold gcmdDone
  dsimp only
  (repeat' split) <;> simp

@[simp] theorem writeHostCal_power (s : State) (slot : Nat) (l : List Byte) : (writeHostCal s slot l).power = s.power := by
  simp [writeHostCal, apply_ite State.power]

@[simp] theorem writeGroup_power (s : State) (slot g : Nat) : (writeGroup s slot g).power = s.power := by
  simp [writeGroup, apply_ite State.power]

/-! ### Frames and packets of the ports -/

@[simp] theorem onSlot_power (s : State) (p vc : Nat) (act : State → Nat → State) (h : ∀ t a, (act t a).power = t.power) :
    (onSlot s p vc act).power = s.power := by
  unfold onSlot
  split <;> simp [h]

@[simp] theorem frameStart_power (s : State) (n : Nat) : (frameStart s n).power = s.power := by simp [frameStart, apply_ite State.power]

@[simp] theorem longPacket_power (k : LongPacket) (s : State) (n : Nat) : (longPacket k s n).power = s.power := by
  simp [longPacket, apply_ite State.power]

@[simp] theorem frameEnd_power (s : State) (n : Nat) : (frameEnd s n).power = s.power := by simp [frameEnd, apply_ite State.power]
@[simp] theorem takeFrame_power (s : State) (n : Nat) : (takeFrame s n).power = s.power := by unfold takeFrame; dsimp only; split <;> simp

@[simp] theorem frameTimeout_power (s : State) (n : Nat) : (frameTimeout s n).power = s.power := by
  simp [frameTimeout, apply_ite State.power]

@[simp] theorem writeLanes_power (s : State) (p v : Nat) : (writeLanes s p v).power = s.power := by simp [writeLanes, apply_ite State.power]

@[simp] theorem writeLaneRate_power (s : State) (p v : Nat) : (writeLaneRate s p v).power = s.power := by
  simp [writeLaneRate, apply_ite State.power]

@[simp] theorem writeTrigEnable_power (s : State) (n : Nat) (on : Bool) : (writeTrigEnable s n on).power = s.power := by
  simp [writeTrigEnable, apply_ite State.power]

@[simp] theorem writeTrigConfig_power (s : State) (n t0 p w pol : Nat) : (writeTrigConfig s n t0 p w pol).power = s.power := by
  simp [writeTrigConfig, apply_ite State.power]

@[simp] theorem trigEdge_power (s : State) (n : Nat) : (trigEdge s n).power = s.power := by
  unfold trigEdge
  dsimp only
  split <;> simp [apply_ite State.power]

@[simp] theorem busNotice_power (s : State) (b : Nat) (join : Bool) : (busNotice s b join).power = s.power := by
  refine power_ite rfl ?_
  split
  · rfl
  · exact sendNotice_power _ _ _ _

@[simp] theorem writeBusTransfer_power (s : State) (b : Nat) (l : List Byte) : (writeBusTransfer s b l).power = s.power := by
  simp [writeBusTransfer, apply_ite State.power]

@[simp] theorem busDone_power (s : State) (b : Nat) (r : List Byte) : (busDone s b r).power = s.power := by
  unfold busDone
  dsimp only
  split <;> simp

/-! ### Decoders and recorders -/

@[simp] theorem streamRing_power (s : State) (ch k : Nat) (w : Word) : (streamRing s ch k w).power = s.power := by
  simp [streamRing, apply_ite State.power]

@[simp] theorem takeEntry_power (s : State) (n : Nat) (d : Declared) : (takeEntry s n d).power = s.power := by
  unfold takeEntry
  dsimp only
  (repeat' split) <;> simp

@[simp] theorem decodeDone_power (s : State) (n : Nat) (r : Decoded) : (decodeDone s n r).power = s.power := by
  unfold decodeDone
  dsimp only
  (repeat' split) <;> simp

@[simp] theorem dropGop_power (s : State) (e : Nat) : (dropGop s e).power = s.power := by unfold dropGop; dsimp only; split <;> simp
@[simp] theorem makeRoom_power (s : State) (e n : Nat) : (makeRoom s e n).power = s.power := by simp [makeRoom, apply_ite State.power]

@[simp] theorem hostByte_power (s : State) (a : Nat) (b : Byte) : (hostByte s a b).power = s.power := by
  simp [hostByte, apply_ite State.power]

@[simp] theorem encodePicture_power (s : State) (e : Nat) (idr : Bool) (data : List Byte) : (encodePicture s e idr data).power = s.power := by
  simp [encodePicture, apply_ite State.power]

@[simp] theorem writeRecSource_power (s : State) (e v : Nat) : (writeRecSource s e v).power = s.power := by
  simp [writeRecSource, apply_ite State.power]

@[simp] theorem writeConsumer_power (s : State) (e v : Nat) : (writeConsumer s e v).power = s.power := by
  simp [writeConsumer, apply_ite State.power]

@[simp] theorem writeRecEntry_power (s : State) (e sub v : Nat) : (writeRecEntry s e sub v).power = s.power := by
  unfold writeRecEntry
  dsimp only
  (repeat' split) <;> simp

/-! ### The host memory port -/

@[simp] theorem clearLeaf_settings (s : State) (r : LeafReg) (v setting : Word) : settings (clearLeaf s r v setting).power = settings s.power := by
  unfold clearLeaf
  dsimp only
  split <;> simp [apply_ite State.power, apply_ite settings]

@[simp] theorem ackAll_power (s : State) : (ackAll s).power = s.power := by simp [ackAll]
@[simp] theorem setMask_power (s : State) (f : Causes → Causes) : (setMask s f).power = s.power := by simp [setMask]

@[simp] theorem writeCause_settings (s : State) (w : Nat) (v : Word) : settings (writeCause s w v).power = settings s.power := by
  simp [writeCause, apply_ite State.power, apply_ite settings]

@[simp] theorem bulkTag_power (s : State) (ch addr n : Nat) : (bulkTag s ch addr n).power = s.power := by
  simp [bulkTag, apply_ite State.power]

@[simp] theorem landBulk_power (s : State) (ch : Nat) (p : Posted) : (landBulk s ch p).power = s.power := by
  unfold landBulk
  dsimp only
  refine power_ite (hmpLeaf_power _ _ _ _) (power_ite (hmpLeaf_power _ _ _ _) ?_)
  refine (bulkTag_power _ _ _ _).trans (foldl_fst_power (fun r q => ?_) _ _)
  (repeat' split) <;> simp

@[simp] theorem armWriteByte_power (s : State) (ch w : Nat) (b : Byte) : (armWriteByte s ch w b).power = s.power := by
  simp [armWriteByte, apply_ite State.power]

@[simp] theorem stageWrite_power (s : State) (ch : Nat) (p : Posted) : (stageWrite s ch p).power = s.power := by
  simp [stageWrite, apply_ite State.power]

@[simp] theorem performMap_power (s : State) (ch : Nat) (v : Word) : (performMap s ch v).power = s.power := rfl
@[simp] theorem performArm_power (s : State) (ch k : Nat) (v : Word) : (performArm s ch k v).power = s.power := by simp [performArm]

@[simp] theorem fillDone_power (s : State) (ch k : Nat) : (fillDone s ch k).power = s.power := by
  unfold fillDone
  refine power_ite rfl ?_
  dsimp only
  split
  · rw [foldl_power, setChan_power, bulkTag_power]
    exact fun t p => power_ite (stageWrite_power _ _ _) rfl
  · rw [memUncorrectable_power, setChan_power, bulkTag_power]

@[simp] theorem ringQueue_power (s : State) (ch off : Nat) (w : Word) : (ringQueue s ch off w).power = s.power := by
  unfold ringQueue
  refine power_ite rfl ?_
  split
  · rw [hmpLeaf_power]
  · refine power_ite (hmpLeaf_power _ _ _ _) ?_
    dsimp only
    split
    · refine power_ite (hmpLeaf_power _ _ _ _) (power_ite rfl ?_)
      rw [sendNotice_power, commitQueue_power]
    · refine power_ite (hmpLeaf_power _ _ _ _) (power_ite rfl ?_)
      rw [sendNotice_power, commitQueue_power, foldl_power]
      exact fun t k => ringWrite_power _ _ _ _

@[simp] theorem negotiate_power (s : State) (ch : Nat) (v : Word) : (negotiate s ch v).power = s.power := by
  simp [negotiate, apply_ite State.power]

@[simp] theorem mailboxGo_power (s : State) (ch : Nat) (v : Word) : (mailboxGo s ch v).power = s.power := by
  simp [mailboxGo, apply_ite State.power]

@[simp] theorem performWrite_settings (s : State) (ch w : Nat) (v : Word) : settings (performWrite s ch w v).power = settings s.power := by
  simp [performWrite, apply_ite State.power, apply_ite settings]

@[simp] theorem windowByte_power (s : State) (ch a : Nat) (b : Byte) : ((windowByte s ch a b).1).power = s.power := by
  unfold windowByte
  split
  · split
    · rfl
    · split
      · exact ringWrite_power _ _ _ _
      · rfl
  · split
    · split <;> rfl
    · rfl

@[simp] theorem writeWindows_power (s : State) (ch off : Nat) (data : List Byte) (mask : List Bool) :
    (writeWindows s ch off data mask).power = s.power := by
  refine (foldl_power (fun t z => ?_) _ _).trans (foldl_fst_power (fun r p => ?_) _ _)
  · exact hmpLeaf_power _ _ _ _
  · dsimp only
    split
    · rfl
    · exact windowByte_power _ _ _ _

@[simp] theorem postControl_settings (s : State) (ch w : Nat) (v : Word) : settings (postControl s ch w v).power = settings s.power := by
  simp [postControl, apply_ite State.power, apply_ite settings]

@[simp] theorem performPosted_settings (s : State) (ch : Nat) (p : Posted) : settings (performPosted s ch p).power = settings s.power := by
  simp [performPosted, apply_ite State.power, apply_ite settings]

@[simp] theorem postWindows_power (s : State) (ch off : Nat) (data : List Byte) (mask : List Bool) :
    (postWindows s ch off data mask).power = s.power := by
  simp [postWindows, apply_ite State.power]

@[simp] theorem drainControl_settings (s : State) (ch : Nat) (x : Nat) : settings (drainControl s ch x).power = settings s.power := by
  induction x generalizing s with
  | zero => rfl
  | succ n ih =>
    unfold drainControl
    split
    · exact settings_ite rfl ((ih _).trans ((performPosted_settings _ _ _).trans (congrArg settings (setChan_power _ _ _))))
    · rfl

@[simp] theorem landFront_settings (s : State) (ch : Nat) : settings (landFront s ch).power = settings s.power := by
  unfold landFront
  split <;> simp

@[simp] theorem clearRead_power (s : State) (w : Nat) : (clearRead s w).power = s.power := by simp [clearRead, apply_ite State.power]

@[simp] theorem portRead_power (s : State) (ch off n : Nat) : (portRead s ch off n).power = s.power := by
  unfold portRead
  dsimp only
  split <;> simp

@[simp] theorem earlyWrite_power (s : State) (ch off : Nat) (data : List Byte) (mask : List Bool) :
    (earlyWrite s ch off data mask).power = s.power := by
  unfold earlyWrite
  dsimp only
  (repeat' split) <;> simp

@[simp] theorem writeRegs_settings (s : State) (ch off : Nat) (data : List Byte) (mask : List Bool) :
    settings (writeRegs s ch off data mask).power = settings s.power := by
  simp [writeRegs, apply_ite State.power, apply_ite settings]

@[simp] theorem writeBulk_power (s : State) (ch off : Nat) (data : List Byte) (mask : List Bool) :
    (writeBulk s ch off data mask).power = s.power := by
  simp [writeBulk, apply_ite State.power]

@[simp] theorem portWrite_settings (s : State) (ch off : Nat) (data : List Byte) (mask : List Bool) :
    settings (portWrite s ch off data mask).power = settings s.power := by
  simp [portWrite, apply_ite State.power, apply_ite settings]

end Sys2Proof.Machine

/-! SUPPORT. Every step and the power settings, the fourth part: a setting is written within its range, and a reset leaves the defaults (spec/09
R237, R238, R243, R252). -/

namespace Sys2Proof.Machine

open Sys2Proof.Safety

/-! ### Power, heat and the regulators -/

@[simp] theorem settleQuarter_settings (s : State) (q : Nat) : settings (settleQuarter s q).power = settings s.power := by
  unfold settleQuarter
  dsimp only
  (repeat' split) <;> simp <;> rfl

@[simp] theorem boundCheck_power (s : State) : (boundCheck s).power = s.power := by unfold boundCheck; split <;> simp

@[simp] theorem reviewThermal_settings (s : State) (host : Bool) : settings (reviewThermal s host).power = settings s.power := by
  have floor : ∀ (t : State) (o : Option Nat), settings { t with power := { t.power with overFloor := o } }.power = settings t.power := fun _ _ => rfl
  have cool : ∀ (t : State) (o : Option Nat), settings { t with power := { t.power with coolSince := o } }.power = settings t.power := fun _ _ => rfl
  unfold reviewThermal
  dsimp only
  rw [cool]
  split <;> simp [floor, foldl_settings settleQuarter_settings]

@[simp] theorem applySettings_settings (s : State) : settings (applySettings s).power = settings s.power :=
  settings_ite rfl ((foldl_settings forceNext_settings _ _).trans ((afterFree_settings _).trans (reviewThermal_settings _ _)))

theorem writeSetting_inRange {s : State} (h : InRange s) {ok : Bool} {f : Power → Power} (hf : ok = true → InRange { s with power := f s.power }) :
    InRange (writeSetting s ok f) := by
  unfold writeSetting
  split
  · exact h
  · split
    · exact h
    · next hok => exact hf (by simpa using hok)

theorem writeCap_inRange {s : State} (h : InRange s) (v : Nat) : InRange (writeCap s v) := by
  refine writeSetting_inRange h fun hok => ?_
  obtain ⟨low, high⟩ := of_decide_eq_true hok
  exact ⟨low, high, h.2.2⟩

theorem writeLinkReserve_inRange {s : State} (h : InRange s) (v : Nat) : InRange (writeLinkReserve s v) := writeSetting_inRange h fun _ => h
theorem writeMemReserve_inRange {s : State} (h : InRange s) (v : Nat) : InRange (writeMemReserve s v) := writeSetting_inRange h fun _ => h

theorem writeCellLimit_inRange {s : State} (h : InRange s) (v : Nat) : InRange (writeCellLimit s v) := by
  refine writeSetting_inRange h fun hok => ?_
  obtain ⟨low, high, -⟩ := of_decide_eq_true hok
  obtain ⟨cap, cap', -, -, rest⟩ := h
  exact ⟨cap, cap', low, high, rest⟩

theorem writeTjLimit_inRange {s : State} (h : InRange s) (v : Nat) : InRange (writeTjLimit s v) := by
  refine writeSetting_inRange h fun hok => ?_
  obtain ⟨low, high⟩ := of_decide_eq_true hok
  obtain ⟨cap, cap', cells, cells', -, -, rest⟩ := h
  exact ⟨cap, cap', cells, cells', low, high, rest⟩

theorem writeLowBound_inRange {s : State} (h : InRange s) (v : Nat) : InRange (writeLowBound s v) := by
  refine writeSetting_inRange h fun hok => ?_
  obtain ⟨low, high⟩ := of_decide_eq_true hok
  obtain ⟨cap, cap', cells, cells', tj, tj', -, -, order⟩ := h
  exact ⟨cap, cap', cells, cells', tj, tj', low, high, order⟩

theorem writeOrder_inRange {s : State} (h : InRange s) (v : Nat) : InRange (writeOrder s v) := by
  unfold writeOrder
  split
  · exact h
  · split
    · exact h
    · next hv =>
      obtain ⟨cap, cap', cells, cells', tj, tj', low, low', -⟩ := h
      exact ⟨cap, cap', cells, cells', tj, tj', low, low', not_lt.mp hv⟩

@[simp] theorem sendSetpoint_settings (s : State) (q v : Nat) : settings (sendSetpoint s q v).power = settings s.power := by
  simp [sendSetpoint, apply_ite State.power, apply_ite settings]

@[simp] theorem notePace_settings (s : State) (before : Bool) : settings (notePace s before).power = settings s.power := by
  have pacings : ∀ (t : State) (n : Nat), settings { t with power := { t.power with pacings := n } }.power = settings t.power := fun _ _ => rfl
  unfold notePace
  extract_lets s₁ after
  have h₁ : settings s₁.power = settings s.power := foldl_setQpower_settings _ _ _ _
  exact settings_ite ((pacings _ _).trans h₁) h₁

@[simp] theorem setPace_settings (s : State) (f : Nat → CellState → Nat) : settings (setPace s f).power = settings s.power := by
  simp [setPace, apply_ite State.power]

@[simp] theorem raisePace_settings (s : State) : settings (raisePace s).power = settings s.power := by
  simp only [raisePace, setPace_settings]

@[simp] theorem releasePace_settings (s : State) : settings (releasePace s).power = settings s.power := by
  simp only [releasePace, setPace_settings]

@[simp] theorem trimPace_settings (s : State) : settings (trimPace s).power = settings s.power := by simp only [trimPace, setPace_settings]

@[simp] theorem moveSetpoint_settings (s : State) (q v : Nat) : settings (moveSetpoint s q v).power = settings s.power := by
  simp [moveSetpoint, apply_ite State.power, apply_ite settings]

@[simp] theorem chooseSetpoint_settings (s : State) (q : Nat) : settings (chooseSetpoint s q).power = settings s.power := by
  simp [chooseSetpoint, apply_ite State.power, apply_ite settings]

@[simp] theorem clampSetpoint_settings (s : State) (q : Nat) : settings (clampSetpoint s q).power = settings s.power := by
  simp [clampSetpoint, apply_ite State.power, apply_ite settings]

@[simp] theorem throttle_settings (s : State) (q : Nat) : settings (throttle s q).power = settings s.power :=
  settings_ite rfl (moveSetpoint_settings _ _ _)

@[simp] theorem hintPhase_settings (s : State) (g : Nat) : settings (hintPhase s g).power = settings s.power := by
  unfold hintPhase
  dsimp only
  (repeat' split) <;> simp

@[simp] theorem give_settings (s : State) (d : Nat) : settings (give s d).power = settings s.power := by
  unfold give
  dsimp only
  (repeat' split) <;> simp <;> rfl

@[simp] theorem capExceeded_settings (s : State) : settings (capExceeded s).power = settings s.power :=
  settings_ite rfl ((congrArg settings (raise_power _ _ _ _)).trans rfl)

@[simp] theorem overCap_settings (s : State) : settings (overCap s).power = settings s.power := by
  unfold overCap
  dsimp only
  split <;> simp [apply_ite State.power, apply_ite settings]

@[simp] theorem underCap_settings (s : State) : settings (underCap s).power = settings s.power := by
  unfold underCap
  dsimp only
  split <;> simp <;> rfl

@[simp] theorem estimateQuarter_settings (a : Activity) (s : State) (q : Nat) : settings (estimateQuarter a s q).power = settings s.power := by
  simp [estimateQuarter]
  rfl

@[simp] theorem estimateInterval_settings (s : State) (a : Activity) : settings (estimateInterval s a).power = settings s.power := by
  unfold estimateInterval
  extract_lets s₁ s₂ e w hard start p s₃ s₄ p' s₅
  have h₃ : settings s₃.power = settings s.power := (foldl_settings (estimateQuarter_settings a) _ _).trans (applySettings_settings s)
  have h₄ : settings s₄.power = settings s.power := settings_ite ((congrArg settings (raise_power _ _ _ _)).trans h₃) h₃
  have h₅ : settings s₅.power = settings s.power :=
    settings_ite ((overCap_settings _).trans h₄) (settings_ite h₄ ((underCap_settings _).trans h₄))
  exact settings_ite ((setPace_settings _ _).trans h₅) ((trimPace_settings _).trans h₅)

@[simp] theorem correct_settings (s : State) (q mw : Nat) : settings (correct s q mw).power = settings s.power := by
  simp [correct, apply_ite State.power, apply_ite settings]

@[simp] theorem checkQuarter_settings (s : State) (q : Nat) (r : RegulatorRead) : settings (checkQuarter s q r).power = settings s.power := by
  simp [checkQuarter, apply_ite State.power, apply_ite settings]

@[simp] theorem enterFaultOnce_settings (s : State) : settings (enterFaultOnce s).power = settings s.power := by
  simp [enterFaultOnce, apply_ite State.power, apply_ite settings]

@[simp] theorem checkFixed_settings (s : State) (i : Nat) (r : RegulatorRead) : settings (checkFixed s i r).power = settings s.power := by
  simp [checkFixed, apply_ite State.power, apply_ite settings]
  rfl

@[simp] theorem enterStandby_settings (s : State) : settings (enterStandby s).power = settings s.power := by simp [enterStandby]; rfl

@[simp] theorem requestStandby_settings (s : State) : settings (requestStandby s).power = settings s.power := by
  simp [requestStandby, apply_ite State.power, apply_ite settings]

@[simp] theorem requestSleep_settings (s : State) : settings (requestSleep s).power = settings s.power := settings_ite rfl rfl

@[simp] theorem sleepAbandoned_settings (s : State) : settings (sleepAbandoned s).power = settings s.power := by
  unfold sleepAbandoned
  split
  · rfl
  · exact settings_ite rfl ((congrArg settings (raise_power _ _ _ _)).trans rfl)

@[simp] theorem tripInBoot_power (s : State) : (tripInBoot s).power = s.power := by simp [tripInBoot, apply_ite State.power]

@[simp] theorem doTrip_settings (s : State) (i : Nat) : settings (doTrip s i).power = settings s.power := by
  unfold doTrip
  dsimp only
  (repeat' split) <;> simp <;> rfl

@[simp] theorem becomeValid_settings (s : State) : settings (becomeValid s).power = settings s.power :=
  settings_ite rfl ((launchHeld_settings _).trans ((admitLoading_settings _).trans (reviewThermal_settings _ _)))

@[simp] theorem takeReport_settings (s : State) (i : Nat) (t : Int) : settings (takeReport s i t).power = settings s.power := by
  simp [takeReport]
  rfl

@[simp] theorem sensorReport_settings (s : State) (i : Nat) (t : Int) : settings (sensorReport s i t).power = settings s.power := by
  simp [sensorReport, apply_ite State.power, apply_ite settings]

@[simp] theorem holdEnd_settings (s : State) : settings (holdEnd s).power = settings s.power := by
  unfold holdEnd
  split
  · exact settings_ite rfl (publish_settings _ _)
  · rfl

@[simp] theorem predict_settings (s : State) : settings (predict s).power = settings s.power := by simp [predict]; rfl

@[simp] theorem gateZone_settings (s : State) (z : Nat) : settings (gateZone s z).power = settings s.power := by
  simp [gateZone, apply_ite State.power, apply_ite settings]

@[simp] theorem powerGoodClaim_settings (s : State) (x : HeldClaim) : settings (powerGoodClaim s x).power = settings s.power := by
  refine settings_ite (claimAt_settings _ _ _ _) ?_
  split
  · rfl
  · exact settings_ite rfl (settings_ite (congrArg settings (sendNotice_power _ _ _ _))
      (congrArg settings ((jobCommand_power _ _ _).trans ((modJob_power _ _ _).trans (modCell_power _ _ _)))))

@[simp] theorem zoneGood_settings (s : State) (z : Nat) : settings (zoneGood s z).power = settings s.power := by
  refine settings_ite rfl (settings_ite rfl ?_)
  rw [foldl_settings powerGoodClaim_settings, foldl_modCell_power, foldl_modCell_power, setZone_settings]

@[simp] theorem zoneFail_settings (s : State) (z : Nat) : settings (zoneFail s z).power = settings s.power := by
  simp [zoneFail, apply_ite State.power, apply_ite settings]

/-! ### Restarts, the flash and the stitch controller -/

theorem coldReset_inRange (s : State) : InRange (coldReset s) := inRange_of_defaults rfl
@[simp] theorem leaveCold_power (s : State) : (leaveCold s).power = s.power := by simp [leaveCold, apply_ite State.power]
theorem porAssert_inRange (s : State) : InRange (porAssert s) := coldReset_inRange _
@[simp] theorem porRelease_power (s : State) : (porRelease s).power = s.power := by simp [porRelease, apply_ite State.power]
theorem resetAssert_inRange {s : State} (h : InRange s) : InRange (resetAssert s) := inRange_ite h (inRange_of_defaults rfl)
@[simp] theorem resetRelease_power (s : State) : (resetRelease s).power = s.power := rfl
@[simp] theorem supplyBack_power (s : State) (r : Rail) : (supplyBack s r).power = s.power := by simp [supplyBack, apply_ite State.power]

theorem restartState_inRange (s : State) (reason : Nat) : InRange (restartState s reason) :=
  inRange_of_defaults (congrArg settings (alRefuse_power _ _))

theorem startRestart_inRange {s : State} (h : InRange s) (reason : Nat) : InRange (startRestart s reason) :=
  inRange_ite h (inRange_ite h (restartState_inRange s reason))

theorem writeWarm_inRange {s : State} (h : InRange s) (v : Nat) : InRange (writeWarm s v) :=
  inRange_ite h (inRange_ite h (inRange_ite h (startRestart_inRange (inRange_of_power h (answer_power s okCode)) 5)))

theorem releaseTrip_inRange {s : State} (h : InRange s) : InRange (releaseTrip s) := by
  unfold releaseTrip
  refine inRange_ite h (inRange_ite h (startRestart_inRange ?_ _))
  exact inRange_of_power h rfl

theorem enterSleep_inRange (s : State) : InRange (enterSleep s) := inRange_of_defaults rfl
theorem sleepEntry_inRange {s : State} (h : InRange s) : InRange (sleepEntry s) := inRange_ite (enterSleep_inRange s) h

theorem requestRun_inRange {s : State} (h : InRange s) : InRange (requestRun s) := by
  refine inRange_ite (restartState_inRange s 0) (inRange_ite h (inRange_ite ?_ h))
  exact inRange_of_settings h ((congrArg settings (answer_power _ _)).trans (foldl_settings clampSetpoint_settings _ _))

theorem writePowerState_inRange {s : State} (h : InRange s) (v : Nat) : InRange (writePowerState s v) := by
  unfold writePowerState
  split
  · exact requestRun_inRange h
  · exact inRange_of_settings h (requestStandby_settings s)
  · exact inRange_of_settings h (requestSleep_settings s)
  · exact inRange_ite h h

@[simp] theorem flashWrite_power (s : State) (a : Nat) (l : List Byte) : (flashWrite s a l).power = s.power := by simp [flashWrite]
@[simp] theorem flashErase_power (s : State) (a n : Nat) : (flashErase s a n).power = s.power := by simp [flashErase]

@[simp] theorem appendRecord_power (s : State) (kind slot seq : Nat) (dig : List Byte) : (appendRecord s kind slot seq dig).power = s.power := by
  unfold appendRecord
  dsimp only
  split
  · exact flashWrite_power _ _ _
  · rw [flashWrite_power, flashErase_power, foldl_power fun t p => flashWrite_power t _ _, flashErase_power]

@[simp] theorem runImage_power (s : State) (k : Nat) : (runImage s k).power = s.power := rfl

@[simp] theorem measureBoot_power (s : State) : (measureBoot s).power = s.power := by
  unfold measureBoot
  dsimp only
  simp only [measure_power]

@[simp] theorem runChecked_power (s : State) (k : Nat) (fast : Bool) : (runChecked s k fast).power = s.power := by simp [runChecked]

@[simp] theorem runUnverified_power (s : State) (judged : List (Nat × Nat)) : (runUnverified s judged).power = s.power := by
  unfold runUnverified
  split <;> simp

@[simp] theorem stage0_power (s : State) (goldenLow : Bool) (readOk : List Bool) : (stage0 s goldenLow readOk).power = s.power := by
  unfold stage0
  refine power_ite rfl ?_
  extract_lets _ _ s₁ l fast judged reasonOf _ s₂ s₃ s₄
  have h₃ : s₃.power = s.power := power_ite (raise_power _ _ _ _) rfl
  have h₄ : s₄.power = s.power := by
    unfold s₄
    split
    · exact (runChecked_power _ _ _).trans h₃
    · exact (runUnverified_power _ _).trans h₃
  exact power_ite h₄ ((measureBoot_power _).trans (power_ite ((raise_power _ _ _ _).trans h₄) h₄))

@[simp] theorem carryHeld_power (s : State) : (carryHeld s).power = s.power := by unfold carryHeld; split <;> simp

@[simp] theorem fixedRailOut_settings (s : State) : settings (fixedRailOut s).power = settings s.power := by
  unfold fixedRailOut
  split <;> simp

@[simp] theorem bootComplete_settings (s : State) : settings (bootComplete s).power = settings s.power := by
  simp [bootComplete, apply_ite State.power, apply_ite settings]

@[simp] theorem updateFailed_power (s : State) (why : Nat) : (updateFailed s why).power = s.power := rfl
@[simp] theorem slotRejected_power (s : State) : (slotRejected s).power = s.power := by simp [slotRejected]

@[simp] theorem beginUpdate_power (s : State) (image : List Byte) (whole foe : Bool) : (beginUpdate s image whole foe).power = s.power := by
  simp [beginUpdate, apply_ite State.power]

@[simp] theorem writeUpdate_power (s : State) (v : Nat) : (writeUpdate s v).power = s.power := by simp [writeUpdate, apply_ite State.power]
@[simp] theorem refreshSlots_power (s : State) : (refreshSlots s).power = s.power := by simp [refreshSlots]

@[simp] theorem flashDone_power (s : State) (ok : Bool) : (flashDone s ok).power = s.power := by
  unfold flashDone
  dsimp only
  (repeat' split) <;> simp

@[simp] theorem foeEnd_power (s0 s : State) : (foeEnd s0 s).power = s.power := by
  unfold foeEnd
  (repeat' split) <;> rfl

@[simp] theorem writeActivation_power (s : State) (v : Nat) : (writeActivation s v).power = s.power := by
  unfold writeActivation
  dsimp only
  (repeat' split) <;> simp

@[simp] theorem writeNonce_power (s : State) (l : List Byte) : (writeNonce s l).power = s.power := by
  simp [writeNonce, apply_ite State.power]

@[simp] theorem readQuote_power (s : State) : ((readQuote s).1).power = s.power := by
  unfold readQuote
  split
  · rfl
  · split <;> rfl

@[simp] theorem sticky_power (s : State) (p : ScrubPlace) : (sticky s p).power = s.power := by simp [sticky, apply_ite State.power]

@[simp] theorem scrubFixed_power (s : State) (p : ScrubPlace) : (scrubFixed s p).power = s.power := by
  unfold scrubFixed
  rw [sticky_power]
  split
  · exact stitchEvent_power _ _ _
  · exact correctedLpddr_power _ _ _
  · exact (modChan_power _ _ _).trans (correctedSram_power _ _)
  · exact correctedSram_power _ _

theorem scrubBad_inRange {s : State} (h : InRange s) (p : ScrubPlace) : InRange (scrubBad s p) := by
  unfold scrubBad
  split
  · exact inRange_of_power h (stitchEvent_power _ _ _)
  · exact inRange_ite h (inRange_of_power h (by rw [memUncorrectable_power]))
  · exact inRange_ite h (inRange_of_power h (by rw [memUncorrectable_power]))
  · exact inRange_ite h (inRange_of_power h (by rw [stagingStop_power, scrubStaging_power]))
  · exact startRestart_inRange (inRange_of_power h (by rw [count2601_power])) 3
  · exact startRestart_inRange (inRange_of_power h (by rw [count2601_power])) 3

theorem scrub_inRange {s : State} (h : InRange s) (p : ScrubPlace) (r : ScrubResult) : InRange (scrub s p r) := by
  cases r
  · exact h
  · exact inRange_of_power h (scrubFixed_power _ _)
  · exact scrubBad_inRange h p

end Sys2Proof.Machine

/-! SUPPORT. Every step and the power settings, the fifth part: the field bus and the object dictionary reach the settings through their entries
alone (spec/09 R237, R238, R243, R252). -/

namespace Sys2Proof.Machine

open Sys2Proof.Safety

/-! ### The field bus -/

@[simp] theorem writePdo_power (s : State) (i sub v : Nat) : (writePdo s i sub v).power = s.power := by
  simp [writePdo, apply_ite State.power]

@[simp] theorem writeSync_power (s : State) (i sub v : Nat) : (writeSync s i sub v).power = s.power := by
  simp [writeSync, apply_ite State.power]

@[simp] theorem writeResultBinding_power (s : State) (k v : Nat) : (writeResultBinding s k v).power = s.power := by
  simp [writeResultBinding, apply_ite State.power]

@[simp] theorem writeArgBinding_power (s : State) (k v : Nat) : (writeArgBinding s k v).power = s.power := by
  simp [writeArgBinding, apply_ite State.power]

@[simp] theorem setArg_power (s : State) (k sub : Nat) (l : List Byte) : (setArg s k sub l).power = s.power := rfl

@[simp] theorem writeArg_power (s : State) (k sub : Nat) (l : List Byte) : (writeArg s k sub l).power = s.power := by
  simp [writeArg, apply_ite State.power]

@[simp] theorem enterConfig_power (s : State) : (enterConfig s).power = s.power := by simp [enterConfig, apply_ite State.power]

@[simp] theorem enterWork_settings (s : State) : settings (enterWork s).power = settings s.power := by
  simp [enterWork, apply_ite State.power]

@[simp] theorem hostMove_settings (s : State) (v : Nat) : settings (hostMove s v).power = settings s.power := by
  simp [hostMove, apply_ite State.power, apply_ite settings]

theorem controlWord_inRange {s : State} (h : InRange s) (v : BitVec 16) : InRange (controlWord s v) := by
  unfold controlWord
  extract_lets old v' d s₁ s₂ s₃
  have h₃ : InRange s₃ := inRange_of_settings h ((hostMove_settings _ _).trans (congrArg settings (power_ite (ackAll_power _) rfl)))
  exact inRange_ite (startRestart_inRange h₃ 5) h₃

theorem writeControl_inRange {s : State} (h : InRange s) (v : Nat) : InRange (writeControl s v) :=
  inRange_ite (controlWord_inRange (inRange_of_power h (answer_power s okCode)) _) h

theorem applyControl_inRange {s : State} (h : InRange s) (v : BitVec 16) : InRange (applyControl s v) :=
  inRange_ite h (controlWord_inRange h v)

@[simp] theorem writeHostControl_power (s : State) (v : Nat) : (writeHostControl s v).power = s.power := by
  simp [writeHostControl, apply_ite State.power]

@[simp] theorem holdAl_power (s : State) (a : AlAsk) : (holdAl s a).power = s.power := rfl
@[simp] theorem alDown_power (s : State) (al : AlState) : (alDown s al).power = s.power := by simp [alDown, apply_ite State.power]

@[simp] theorem enterSafeop_settings (s : State) (e : EscConfig) : settings (enterSafeop s e).power = settings s.power := by
  simp [enterSafeop]

@[simp] theorem safeopRequest_settings (s : State) (e : EscConfig) : settings (safeopRequest s e).power = settings s.power := by
  unfold safeopRequest
  dsimp only
  (repeat' split) <;> simp

@[simp] theorem opRequest_settings (s : State) : settings (opRequest s).power = settings s.power := by
  unfold opRequest
  dsimp only
  (repeat' split) <;> simp

@[simp] theorem sm2Expired_settings (s : State) : settings (sm2Expired s).power = settings s.power := by
  simp [sm2Expired, apply_ite State.power, apply_ite settings]

@[simp] theorem inputLatch_power (s : State) : (inputLatch s).power = s.power := by simp [inputLatch, apply_ite State.power]

theorem applyEntry_inRange {s : State} (h : InRange s) (v : Nat) (l : List Byte) : InRange (applyEntry s v l) :=
  inRange_ite (applyControl_inRange h _) (inRange_ite (inRange_of_power h (setArg_power _ _ _ _)) h)

theorem applyAll_inRange {s : State} (h : InRange s) (vs : List Nat) (l : List Byte) : InRange (applyAll s vs l) := by
  induction vs generalizing s l with
  | nil => exact h
  | cons v vs ih => exact ih (applyEntry_inRange h v _) _

@[simp] theorem sm2Exchange_power (s : State) (data : List Byte) : (sm2Exchange s data).power = s.power := rfl
@[simp] theorem argTie_power (s : State) : (argTie s).power = s.power := rfl

theorem outputApply_inRange {s : State} (h : InRange s) (data : List Byte) : InRange (outputApply s data) := by
  have h₁ : InRange (sm2Exchange s data) := inRange_of_power h (sm2Exchange_power s data)
  unfold outputApply
  refine inRange_ite h (inRange_ite h₁ ?_)
  refine inRange_of_power (applyAll_inRange (s := { sm2Exchange s data with field := _ }) ?_ _ _) (argTie_power _)
  exact inRange_of_power h₁ rfl

@[simp] theorem syncEdge_power (s : State) (i : Nat) : (syncEdge s i).power = s.power := by simp [syncEdge, apply_ite State.power]
@[simp] theorem settleSync_power (s : State) : (settleSync s).power = s.power := by simp [settleSync, apply_ite State.power]
@[simp] theorem drifted_power (s : State) (d : BitVec 32) : (drifted s d).power = s.power := by simp [drifted, apply_ite State.power]
@[simp] theorem moveTimes_settings (old : Nat) (s : State) : settings (moveTimes old s).power = settings s.power := by simp [moveTimes]; rfl

@[simp] theorem stepTime_settings (s : State) (w : TimeWrite) : settings (stepTime s w).power = settings s.power := by
  simp [stepTime, apply_ite State.power, apply_ite settings]

@[simp] theorem latched_power (s : State) (k : Nat) : (latched s k).power = s.power := by simp [latched, apply_ite State.power]
@[simp] theorem linkLost_power (s : State) (p : Nat) : (linkLost s p).power = s.power := by simp [linkLost, apply_ite State.power]
@[simp] theorem linkGained_power (s : State) (p : Nat) : (linkGained s p).power = s.power := by simp [linkGained, apply_ite State.power]
@[simp] theorem setBypass_power (s : State) (v : Nat) (on : Bool) : (setBypass s v on).power = s.power := rfl

@[simp] theorem writeReengage_power (s : State) (v : Nat) : (writeReengage s v).power = s.power := by
  simp [writeReengage, apply_ite State.power]

@[simp] theorem sendEmergency_power (s : State) : (sendEmergency s).power = s.power := by
  unfold sendEmergency
  split <;> simp [apply_ite State.power]

@[simp] theorem reply_power (s : State) (code : Nat) (data : List Byte) : (reply s code data).power = s.power := rfl
@[simp] theorem replyOpen_power (s : State) : (replyOpen s).power = s.power := rfl
@[simp] theorem replyBusy_power (s : State) : (replyBusy s).power = s.power := rfl

/-! ### The object dictionary and its mailboxes -/

@[simp] theorem resilPut_power (s : State) (f : Resil → Resil) : (resilPut s f).power = s.power := rfl

@[simp] theorem writeHang_power (s : State) (v : Nat) : (writeHang s v).power = s.power := by
  unfold writeHang
  rw [resilPut_power, foldl_modCell_power]

@[simp] theorem putComm_power (s : State) (i sub v : Nat) : (putComm s i sub v).power = s.power := by simp [putComm, apply_ite State.power]

theorem putDevice_inRange {s : State} (h : InRange s) (i sub v : Nat) : InRange (putDevice s i sub v) := by
  refine inRange_ite (writeControl_inRange h v) ?_
  split
  · exact inRange_of_power h (writeHostControl_power _ _)
  · exact h
  · exact inRange_of_power h (writeReengage_power _ _)

theorem putPower_inRange {s : State} (h : InRange s) (i sub v : Nat) : InRange (putPower s i sub v) := by
  refine inRange_ite (writePowerState_inRange h v) (inRange_ite (inRange_ite (writeTjLimit_inRange h v) (writeLowBound_inRange h v)) ?_)
  split
  · exact writeCap_inRange h v
  · exact writeOrder_inRange h v
  · exact writeLinkReserve_inRange h v
  · exact writeMemReserve_inRange h v
  · exact writeCellLimit_inRange h v

@[simp] theorem putTrigger_power (s : State) (n sub v : Nat) : (putTrigger s n sub v).power = s.power := by
  unfold putTrigger
  split <;> simp

@[simp] theorem putBus_power (s : State) (b sub v : Nat) : (putBus s b sub v).power = s.power := by simp [putBus, apply_ite State.power]

@[simp] theorem putStream_power (s : State) (i sub v : Nat) (l : List Byte) : (putStream s i sub v l).power = s.power := by
  unfold putStream
  dsimp only
  (repeat' split) <;> simp

theorem putResil_inRange {s : State} (h : InRange s) (i sub v : Nat) : InRange (putResil s i sub v) := by
  have put : ∀ f, InRange (resilPut s f) := fun f => inRange_of_power h (resilPut_power s f)
  refine inRange_ite ?_ (inRange_ite (inRange_ite (inRange_of_power h (writeHang_power _ _)) h) ?_)
  · split
    · exact inRange_ite (put _) h
    · exact put _
    · exact inRange_ite (put _) h
  · split
    · exact inRange_of_power h (writeRestartTacker_power _ _)
    · exact inRange_of_power h (writeReplace_power _ _)
    · exact writeWarm_inRange h v

@[simp] theorem putBoot_power (s : State) (i sub v : Nat) (l : List Byte) : (putBoot s i sub v l).power = s.power := by
  unfold putBoot
  dsimp only
  (repeat' split) <;> simp

@[simp] theorem putCtx_settings (s : State) (c sub v : Nat) (l : List Byte) : settings (putCtx s c sub v l).power = settings s.power := by
  unfold putCtx
  split <;> simp [apply_ite State.power]

theorem odPut_inRange {s : State} (h : InRange s) (i sub : Nat) (l : List Byte) : InRange (odPut s i sub l) := by
  unfold odPut
  dsimp only
  refine inRange_ite (inRange_of_power h (putComm_power _ _ _ _)) (inRange_ite (putDevice_inRange h _ _ _) ?_)
  refine inRange_ite (inRange_of_settings h (writeCause_settings _ _ _)) (inRange_ite (putPower_inRange h _ _ _) ?_)
  refine inRange_ite (inRange_of_power h (putStream_power _ _ _ _ _)) (inRange_ite (putResil_inRange h _ _ _) ?_)
  refine inRange_ite (inRange_of_power h (putBoot_power _ _ _ _ _)) (inRange_ite (inRange_of_settings h (putCtx_settings _ _ _ _ _)) ?_)
  refine inRange_ite (inRange_of_power h (writeResultBinding_power _ _ _)) (inRange_ite (inRange_of_power h (writeArgBinding_power _ _ _)) ?_)
  exact inRange_of_power h (writeArg_power _ _ _ _)

theorem odWrite_inRange {s : State} (h : InRange s) (i sub : Nat) (l : List Byte) : InRange (odWrite s i sub l) :=
  inRange_ite h (inRange_ite h (inRange_ite h (odPut_inRange h i sub l)))

@[simp] theorem readEffect_settings (s : State) (i sub : Nat) : settings (readEffect s i sub).power = settings s.power :=
  settings_ite rfl (settings_ite (settings_ite rfl (settings_ite rfl rfl)) rfl)

@[simp] theorem odRead_settings (s : State) (i sub : Nat) : settings ((odRead s i sub).1).power = settings s.power := by
  unfold odRead
  dsimp only
  (repeat' split) <;> simp

@[simp] theorem mbFinish_power (s : State) (ch i sub code : Nat) (data : List Byte) : (mbFinish s ch i sub code data).power = s.power := by
  simp [mbFinish, apply_ite State.power]

@[simp] theorem setPart_power (s : State) (ch : Nat) (p : Option (Nat × Nat × List Byte)) : (setPart s ch p).power = s.power := rfl

@[simp] theorem mbRead_settings (s : State) (ch : Nat) : settings (mbRead s ch).power = settings s.power := by
  unfold mbRead
  dsimp only
  (repeat' split) <;> simp

theorem mbWrite_inRange {s : State} (h : InRange s) (ch : Nat) : InRange (mbWrite s ch) := by
  have finish : ∀ {t : State} (i sub e : Nat) (l : List Byte), InRange t → InRange (mbFinish t ch i sub e l) := fun i sub e l ht =>
    inRange_of_power ht (mbFinish_power _ _ _ _ _ _)
  have part : ∀ p, InRange (setPart s ch p) := fun p => inRange_of_power h (setPart_power _ _ _)
  unfold mbWrite
  dsimp only
  refine inRange_ite (finish _ _ _ _ (part _)) (inRange_ite (finish _ _ _ _ (part _)) (inRange_ite ?_ (inRange_ite (finish _ _ _ _ (part _)) ?_)))
  · exact finish _ _ _ _ (odWrite_inRange (part none) _ _ _)
  · split
    · exact finish _ _ _ _ (part _)
    · exact inRange_ite (finish _ _ _ _ (part _)) (finish _ _ _ _ (part _))

theorem mailbox_inRange {s : State} (h : InRange s) (ch : Nat) (write : Bool) : InRange (mailbox s ch write) := by
  have finish : ∀ {t : State} (i sub e : Nat) (l : List Byte), InRange t → InRange (mbFinish t ch i sub e l) := fun i sub e l ht =>
    inRange_of_power ht (mbFinish_power _ _ _ _ _ _)
  unfold mailbox
  dsimp only
  refine inRange_ite h (inRange_ite (finish _ _ _ _ (inRange_of_power h (setPart_power _ _ _))) (inRange_ite (finish _ _ _ _ h) ?_))
  exact inRange_ite (mbWrite_inRange h ch) (inRange_of_settings h (mbRead_settings s ch))

@[simp] theorem endSdo_power (s : State) (x : Option SdoSeg) : (endSdo s x).power = s.power := rfl

@[simp] theorem sdoAnswer_power (s : State) (i sub : Nat) (l : List Byte) : (sdoAnswer s i sub l).power = s.power := by
  simp [sdoAnswer, apply_ite State.power]

@[simp] theorem sdoUpload_settings (s : State) (i sub : Nat) : settings (sdoUpload s i sub).power = settings s.power := by
  simp [sdoUpload, apply_ite State.power, apply_ite settings]

theorem sdoPerform_inRange {s : State} (h : InRange s) (i sub : Nat) (l : List Byte) : InRange (sdoPerform s i sub l) :=
  inRange_of_power (odWrite_inRange h i sub l) (reply_power _ _ _)

theorem sdoDownload_inRange {s : State} (h : InRange s) (i sub total : Nat) (l : List Byte) : InRange (sdoDownload s i sub total l) := by
  have ended : ∀ x, InRange (endSdo s x) := fun x => inRange_of_power h (endSdo_power s x)
  refine inRange_ite h (inRange_ite (sdoPerform_inRange (ended none) _ _ _) (inRange_ite (inRange_of_power (ended none) (reply_power _ _ _)) ?_))
  split
  · exact inRange_of_power (ended none) (reply_power _ _ _)
  · exact inRange_ite (inRange_of_power (ended none) (reply_power _ _ _)) (inRange_of_power (ended _) (reply_power _ _ _))

theorem sdoSegment_inRange {s : State} (h : InRange s) (toggle last : Bool) (l : List Byte) : InRange (sdoSegment s toggle last l) := by
  have told : ∀ x e l, InRange (reply (endSdo s x) e l) := fun x e l =>
    inRange_of_power h ((reply_power _ _ _).trans (endSdo_power s x))
  refine inRange_ite h ?_
  split
  · exact inRange_of_power h (reply_power _ _ _)
  · refine inRange_ite (told _ _ _) (inRange_ite (told _ _ _) (inRange_ite (inRange_ite ?_ (told _ _ _)) (inRange_ite (told _ _ _) (told _ _ _))))
    exact sdoPerform_inRange (inRange_of_power h (endSdo_power s none)) _ _ _

@[simp] theorem sdoTimeout_power (s : State) : (sdoTimeout s).power = s.power := by
  unfold sdoTimeout
  split <;> simp [apply_ite State.power]

@[simp] theorem caRead_settings (s : State) (i sub : Nat) : settings ((caRead s i sub).1).power = settings s.power := by
  refine foldl_fst_settings (fun p k => ?_) _ _
  dsimp only
  (repeat' split) <;> simp

theorem caAll_inRange {s : State} (h : InRange s) (i : Nat) (l : List (Nat × List Byte)) : InRange (caAll s i l) :=
  List.foldlRecOn _ _ (inRange_of_power h (answer_power s okCode)) fun _ ht p _ => inRange_ite ht (odWrite_inRange ht i p.1 p.2)

theorem caWrite_inRange {s : State} (h : InRange s) (i sub : Nat) (l : List Byte) : InRange (caWrite s i sub l) := by
  unfold caWrite
  extract_lets body pdo parts t
  have ht : InRange t := inRange_ite h (inRange_ite h (caAll_inRange h i parts))
  exact inRange_ite ht (inRange_of_power h (answer_power _ _))

theorem completeAccess_inRange {s : State} (h : InRange s) (write : Bool) (i sub : Nat) (l : List Byte) :
    InRange (completeAccess s write i sub l) := by
  have ended : InRange (endSdo s none) := inRange_of_power h (endSdo_power s none)
  have told : ∀ {t : State} e l, InRange t → InRange (reply t e l) := fun e l ht => inRange_of_power ht (reply_power _ _ _)
  refine inRange_ite h (inRange_ite (told _ _ ended) (inRange_ite (told _ _ ended) (inRange_ite (inRange_ite ?_ (told _ _ ended)) ?_)))
  · exact told _ _ (caWrite_inRange ended i sub l)
  · refine inRange_ite (told _ _ ended) (inRange_ite (told _ _ ended) (inRange_of_settings ended ?_))
    exact (congrArg settings (sdoAnswer_power _ _ _ _)).trans (caRead_settings _ _ _)

@[simp] theorem inform_power (s : State) (x : OdInfo) : (inform s x).power = s.power := rfl
@[simp] theorem setFoe_power (s : State) (x : Option FoeSt) : (setFoe s x).power = s.power := rfl

theorem foeRequest_power (s : State) (password : BitVec 32) (f : State → State) (h : ∀ t, (f t).power = t.power) :
    (foeRequest s password f).power = s.power := by
  simp [foeRequest, h, apply_ite State.power]

@[simp] theorem foeFirmware_power (s : State) : (foeFirmware s).power = s.power := by simp [foeFirmware, apply_ite State.power]

@[simp] theorem plmFile_power (s : State) (name : List Byte) (f : Nat → State) (h : ∀ a, (f a).power = s.power) :
    (plmFile s name f).power = s.power := by
  unfold plmFile
  (repeat' split) <;> simp [h]

@[simp] theorem plmSend_power (s : State) (x : FoeSt) : (plmSend s x).power = s.power := by simp [plmSend, apply_ite State.power]

@[simp] theorem plmLand_power (s : State) (a : Nat) (l : List Byte) : ((plmLand s a l).1).power = s.power := by
  induction l generalizing s a with
  | nil => rfl
  | cons b l ih =>
    unfold plmLand
    split
    · rw [ih, hostByte_power]
    · rfl

@[simp] theorem foeImage_power (s : State) (image : List Byte) : (foeImage s image).power = s.power := by
  simp [foeImage, apply_ite State.power]

@[simp] theorem foeTake_power (s : State) (x : FoeSt) (l : List Byte) : (foeTake s x l).power = s.power := by
  unfold foeTake
  split <;> simp [apply_ite State.power]

@[simp] theorem foeData_power (s : State) (packet : Nat) (l : List Byte) : (foeData s packet l).power = s.power := by
  unfold foeData
  (repeat' split) <;> simp

/-! ### Instructions of tile programs and threads -/

@[simp] theorem tileExec_power (s : State) (g : Nat) (w : Word) : (tileExec s g w).power = s.power := by
  unfold tileExec
  dsimp only
  (repeat' split) <;> simp

/-! ### The idle tick -/

@[simp] theorem countService_power (s : State) : (countService s).power = s.power := by simp [countService, apply_ite State.power]
@[simp] theorem sramCycleEnd_power (s : State) : (sramCycleEnd s).power = s.power := rfl
@[simp] theorem lpddrCycleEnd_power (s : State) : (lpddrCycleEnd s).power = s.power := rfl

@[simp] theorem repairChannel_power (s : State) (ch : Nat) : (repairChannel s ch).power = s.power := by
  refine foldl_power (fun t w => ?_) _ _
  split
  · exact power_ite (commitQueue_power _ _ _) rfl
  · rfl

@[simp] theorem gridWork_settings (s : State) : settings (gridWork s).power = settings s.power := by
  simp [gridWork, apply_ite State.power, apply_ite settings]

@[simp] theorem idle_settings (s : State) : settings (idle s).power = settings s.power := by
  unfold idle
  refine settings_ite rfl (settings_ite rfl ?_)
  rw [gridWork_settings, settleSync_power, countService_power, foldl_modCell_power]

/-! ### Every entry that a command writes -/

@[simp] theorem tick_settings (s : State) : settings (tick s).power = settings s.power := by simp [tick]

end Sys2Proof.Machine

/-! SUPPORT. Every step keeps the power settings in the ranges of their entries (spec/09 R237, R238, R243, R252). -/

namespace Sys2Proof.Machine

open Sys2Proof.Safety

/-! ### Every command -/

/-- What a command answers has its settings in range, if it answers a state. -/
def NextInRange : Host.Outcome State Fault Refusal → Prop
  | .next t => InRange t
  | .fault _ => True
  | .refused _ => True

theorem nextInRange_ite {c : Prop} [Decidable c] {a b : Host.Outcome State Fault Refusal} (ha : NextInRange a) (hb : NextInRange b) :
    NextInRange (if c then a else b) := by
  split
  · exact ha
  · exact hb

theorem nextInRange_macroOp {s : State} (h : InRange s) {op : State → Nat → BitVec 128 → State} (hop : ∀ t a b, (op t a b).power = t.power)
    {code : Nat} {g : CellNo} {w : BitVec 128} : NextInRange (macroOp code op g w s) :=
  nextInRange_ite trivial (inRange_ite (inRange_of_power h (issueWith_power _ _ _ _ hop)) h)

theorem nextInRange_vectorOp {s : State} (h : InRange s) {code : Nat} {g : CellNo} {m : VWhere} {w : Word} : NextInRange (vectorOp code g m w s) := by
  refine nextInRange_ite trivial ?_
  cases m with
  | tile => exact inRange_of_power h (tileExec_power _ _ _)
  | thread t => exact inRange_ite (inRange_of_power h (threadExec_power _ _ _ _)) h

theorem nextInRange_onChan {s : State} (h : InRange s) {ch : ChanNo} {wake : Nat} {f : State → State} (hf : InRange (f s)) :
    NextInRange (onChan s ch wake f) :=
  nextInRange_ite h (nextInRange_ite trivial (nextInRange_ite hf h))

theorem nextInRange_hostWord {s : State} (h : InRange s) (ch : ChanNo) (off : Nat) (w : Word) : NextInRange (hostWord s ch off w) :=
  nextInRange_onChan h (inRange_of_settings h (portWrite_settings _ _ _ _ _))

theorem registerWrite_nextInRange {s : State} (h : InRange s) (r : RegRef) : NextInRange (execRegisterWrite r s) := by
  cases r with
  | cell g off v => exact inRange_of_settings h (withFence_settings _ _ _ fun t => congrArg settings (writeCell_power _ _ _ _))
  | port ch off v => exact nextInRange_hostWord h _ _ _
  | entry index sub data => exact odWrite_inRange h _ _ _

theorem threadStep_nextInRange {s : State} (h : InRange s) (x : ThreadTick) : NextInRange (execThreadStep x s) := by
  unfold execThreadStep
  split
  · exact inRange_of_power h (threadStep_power _ _)
  · exact inRange_of_power h (momentStep_power _ _ _)

theorem istCycleEnd_nextInRange {s : State} (h : InRange s) : NextInRange (execIstCycleEnd s) := by
  have onward : ∀ {t : State} (r : Resil), InRange t → InRange { t with resil := r } := fun _ ht => ht
  unfold execIstCycleEnd
  split
  · exact h
  · exact onward _ (inRange_of_settings h (cycleEnd_settings s))

theorem submitted_inRange {s : State} (h : InRange s) (q : Nat) (ops : List Nat) :
    InRange (match submitOne s q ops with | some t => dispatchAll t | none => s) := by
  split
  · next t ht => exact inRange_of_settings h ((congrArg settings (dispatchAll_power t)).trans (submitOne_settings s q ops t ht))
  · exact h

theorem getEntryDescription_nextInRange {s : State} (h : InRange s) (index : BitVec 16) (sub : Byte) :
    NextInRange (execGetEntryDescription index sub s) := by
  refine inRange_ite h ?_
  split
  · exact inRange_of_power h (reply_power _ _ _)
  · exact inRange_of_power h (inform_power _ _)

theorem exec_nextInRange (i : Instr) {s : State} (h : InRange s) : NextInRange (exec i s) := by
  cases i with
  | nop => exact nextInRange_macroOp h opNop_power
  | halt => exact nextInRange_macroOp h (opDrain_power _ _)
  | waits => exact nextInRange_macroOp h opWaits_power
  | drain => exact nextInRange_macroOp h (opDrain_power _ _)
  | hint => exact nextInRange_macroOp h opHint_power
  | loop => exact nextInRange_macroOp h opLoop_power
  | endloop => exact nextInRange_macroOp h opEndloop_power
  | mma | mmat | conv | dwc => exact nextInRange_macroOp h (opMatrix_power _)
  | gap => exact nextInRange_macroOp h opGap_power
  | awl => exact nextInRange_macroOp h opAwl_power
  | vrun => exact nextInRange_macroOp h opVrun_power
  | vthr => exact nextInRange_macroOp h opVthr_power
  | lace => exact nextInRange_macroOp h opLace_power
  | tpost => exact nextInRange_macroOp h opTpost_power
  | sigset | sigadd => exact nextInRange_macroOp h (opSignal_power _)
  | sigwait => exact nextInRange_macroOp h opSigwait_power
  | barrier => exact nextInRange_macroOp h opBarrier_power
  | unassignedOpcode =>
    exact nextInRange_ite trivial (inRange_ite (inRange_of_power h (issueWith_power _ _ _ _ fun t a _ => progError_power t a .illegalOp)) h)
  | stitch => exact inRange_of_power h (stitchEvent_power _ _ _)
  | stitchHang => exact inRange_of_power h (hang_power _ _)
  | haltObeyed => exact inRange_of_settings h ((settleCell_settings _ _).trans (congrArg settings (power_ite rfl rfl)))
  | start => exact inRange_of_power h (startCell_power _ _)
  | haltReq => exact inRange_of_power h (haltRequest_power _ _)
  | fence => exact inRange_of_settings h (withFence_settings _ _ _ fun t => congrArg settings (power_ite rfl (fenceCell_power _ _)))
  | fenceClear => exact inRange_of_settings h (withFence_settings _ _ _ fun t => congrArg settings (unfenceCell_power _ _))
  | cntClr => exact inRange_of_power h (modCell_power _ _ _)
  | registerWrite r => exact registerWrite_nextInRange h r
  | readClear => exact inRange_of_settings h (readClear_settings _ _ _)
  | sentLogRead => exact inRange_of_power h (sentRead_power _ _ _ _)
  | lacerTransferComplete =>
    exact inRange_ite (inRange_of_settings h (loseQuarter_settings _ _)) (inRange_of_power h ((stopOn_power _ _).trans (lacerComplete_power _ _ _ _)))
  | awlCommandBegin => exact inRange_of_power h (awlBegin_power _ _)
  | awlCommandComplete => exact inRange_ite (inRange_of_settings h (loseQuarter_settings _ _)) (inRange_of_power h (awlComplete_power _ _ _))
  | tpostLanded => exact inRange_of_power h (postLanded_power _ _)
  | counterUpdateApplied => exact inRange_of_power h (counterApplied_power _ _)
  | releasedUpdate => exact inRange_of_power h (releasedUpdate_power _ _)
  | threadStep x => exact threadStep_nextInRange h x
  | vnop | vend | vzero | vmov | vsplat | vadd | vsub | vmul | vfma | vmax | vmin | vdiv | vsqrt | vabs | vexp | vlog | vrsqrt | vsigm | vtanh |
    vcmp | vsel | vcvt | vqnt | vdeq | vamax | vscale | vldd | vlds | vstd | vld | vst | vldc | vsts | vgath | vscat | vscadd | vhget | vhput |
    vrsrst | vrnorm =>
    exact nextInRange_vectorOp h
  | tackerCellFailure => exact inRange_of_settings h (cellFailure_settings _ _)
  | cellRestartDone => exact inRange_ite h h
  | inServiceTestDone =>
    exact inRange_ite h (inRange_ite (inRange_of_settings h (testPassed_settings _ _)) (inRange_of_settings h (testFailed_settings _ _)))
  | istIdleStart => exact inRange_of_settings h (idleTest_settings _ _)
  | istCycleEnd => exact istCycleEnd_nextInRange h
  | claim => exact inRange_of_settings h (claimCell_settings _ _ _ _)
  | jobCommand => exact inRange_of_power h (jobCommand_power _ _ _)
  | jobRetirement => exact inRange_of_settings h ((settleCell_settings _ _).trans (congrArg settings (retireCell_power _ _)))
  | noticeWrite => exact inRange_of_power h (pushNotice_power _ _ _)
  | claimResult => exact inRange_of_settings h (takeNotice_settings _ _ _ _ fun t a => claimResult_settings _ _ _ _)
  | jobDone => exact inRange_of_settings h (takeNotice_settings _ _ _ _ fun t a => jobDone_settings _ _)
  | cellFault => exact inRange_of_settings h (takeNotice_settings _ _ _ _ fun t a => cellFault_settings _ _)
  | batchClosed =>
    exact inRange_of_settings h (takeNotice_settings _ _ _ _ fun t a => (congrArg settings (dispatchAll_power _)).trans (serveCtx_settings _ _))
  | slotStopped => exact inRange_of_settings h (takeNotice_settings _ _ _ _ fun t a => congrArg settings (slotStopped_power _ _ _))
  | doorbell =>
    exact inRange_of_settings h (takeNotice_settings _ _ _ _ fun t a => (congrArg settings (dispatchAll_power _)).trans (serveQueue_settings _ _))
  | timer =>
    exact inRange_of_settings h (takeNotice_settings _ _ _ _ fun t a => (afterFree_settings _).trans (congrArg settings (lateCheck_power _ _)))
  | control => exact inRange_of_settings h (takeNotice_settings _ _ _ _ fun t a => rfl)
  | deadlineTimerExpiry => exact inRange_of_power h (timerExpiry_power _ _)
  | lasterWatchdog => exact inRange_ite (inRange_of_power h (beginReplacement_power _ _)) (inRange_of_power h (activated_power _ _ _))
  | replaceLaster => exact inRange_of_power h (writeReplace_power _ _)
  | lasterReplacementDone =>
    exact inRange_ite h (inRange_of_settings h ((congrArg settings (activated_power _ _ _)).trans (replacementDone_settings _ _)))
  | tackerWatchdog => exact inRange_ite (inRange_of_power h (restartTacker_power _ _)) h
  | restartTacker => exact inRange_of_power h (writeRestartTacker_power _ _)
  | tackerRestartDone => exact inRange_ite h (inRange_of_settings h ((congrArg settings (activated_power _ _ _)).trans (tackerBack_settings _ _ _)))
  | tackerComplexTimeout => exact inRange_of_settings h (loseQuarter_settings _ _)
  | quarterLinkFail => exact inRange_of_settings h (linkFail_settings _ _)
  | linkTrained => exact inRange_ite h (inRange_ite h h)
  | frameStart => exact inRange_of_power h (onSlot_power _ _ _ _ fun t n => frameStart_power t n)
  | longPacket p vc k => exact inRange_of_power h (onSlot_power _ _ _ _ fun t n => longPacket_power _ t n)
  | lineStart | lineEnd => exact h
  | frameEnd => exact inRange_of_power h (onSlot_power _ _ _ _ fun t n => frameEnd_power t n)
  | frameTaken => exact inRange_of_power h (takeFrame_power _ _)
  | sampleArrival => exact inRange_of_power h (takeSample_power _ _ _)
  | batchWindow => exact inRange_of_power h (windowEnd_power _ _)
  | frameTimeout => exact inRange_of_power h (frameTimeout_power _ _)
  | gcmdReadDone => exact inRange_of_power h (gcmdDone_power _ _ _)
  | meshBuilt => exact inRange_of_power h (meshDone_power _ _ _)
  | triggerEdge => exact inRange_of_power h (trigEdge_power _ _)
  | triggerEnable => exact inRange_of_power h (writeTrigEnable_power _ _ _)
  | triggerConfig => exact inRange_of_power h (writeTrigConfig_power _ _ _ _ _ _)
  | inBandInterrupt | hotJoin => exact inRange_of_power h (busNotice_power _ _ _)
  | busTransfer => exact inRange_of_power h (writeBusTransfer_power _ _ _)
  | busTransferDone => exact inRange_of_power h (busDone_power _ _ _)
  | slotStart | stop | resume | rereadCal => exact inRange_of_power h (slotCommand_power _ _ _)
  | rearm => exact inRange_of_power h (writeStreamDesc_power _ _ _)
  | hostCalibration => exact inRange_of_power h (writeHostCal_power _ _ _)
  | streamGroup => exact inRange_of_power h (writeGroup_power _ _ _)
  | lanes => exact inRange_of_power h (writeLanes_power _ _ _)
  | streamDoorbell => exact nextInRange_hostWord h _ _ _
  | frameEntryTaken => exact inRange_of_power h (takeEntry_power _ _ _)
  | decodeDone => exact inRange_of_power h (decodeDone_power _ _ _)
  | encodedPicture => exact inRange_of_power h (encodePicture_power _ _ _ _)
  | recordingSource => exact inRange_of_power h (writeRecSource_power _ _ _)
  | consumerIndex => exact inRange_of_power h (writeConsumer_power _ _ _)
  | act | pre => exact nextInRange_onChan h h
  | rd =>
    unfold exec
    refine nextInRange_onChan h ?_
    exact inRange_of_power h (portRead_power _ _ _ _)
  | wr | mwr =>
    unfold exec
    refine nextInRange_onChan h ?_
    exact inRange_of_settings h (portWrite_settings _ _ _ _ _)
  | cas | ref =>
    unfold exec
    refine nextInRange_onChan h ?_
    exact inRange_of_power h (modChan_power _ _ _)
  | rfm => exact nextInRange_onChan h h
  | sre | srx | pde | pdx | mrw | mrr | commandBusTraining | wck2ckLevelling | readDqCalibration | wff =>
    unfold exec
    refine nextInRange_onChan h ?_
    exact inRange_of_power h (modChan_power _ _ _)
  | rff =>
    unfold exec
    refine nextInRange_onChan h ?_
    exact inRange_of_power h ((draw_power _).trans (setChan_power _ _ _))
  | zqCalibrationStart | zqCalibrationLatch => exact nextInRange_onChan h h
  | unsupportedCommand =>
    unfold exec
    refine nextInRange_onChan h ?_
    exact inRange_of_power h (modChan_power _ _ _)
  | hmpResetN => exact inRange_of_power h (modChan_power _ _ _)
  | queueDoorbell => exact nextInRange_hostWord h _ _ _
  | multiQueueDoorbell =>
    refine nextInRange_ite (nextInRange_onChan h ?_) trivial
    exact inRange_of_settings h (portWrite_settings _ _ _ _ _)
  | negSelect | bulkMap | arm => exact nextInRange_hostWord h _ _ _
  | disarm => exact nextInRange_ite (nextInRange_hostWord h _ _ _) trivial
  | armFillDone => exact inRange_of_power h (fillDone_power _ _ _)
  | bulkWriteLand => exact inRange_of_settings h (landFront_settings _ _)
  | mailboxRead | mailboxWrite => exact mailbox_inRange h _ _
  | leafClear => exact inRange_ite (inRange_of_settings h (clearLeaf_settings _ _ _ _)) (inRange_of_power h (answer_power _ _))
  | queueDestroy => exact nextInRange_ite (inRange_of_power h (queueCommand_power _ _ _ _ fun t => destroyQueue_power _ _ _)) trivial
  | createSubmit | createComplete | createEvent =>
    exact nextInRange_ite (inRange_of_power h (queueCommand_power _ _ _ _ fun t => createQueue_power _ _ _ _)) trivial
  | job q => exact submitted_inRange h q.val _
  | cancel q => exact submitted_inRange h q.val _
  | load => exact inRange_of_settings h (writeLoad_settings _ _ _ _)
  | unload => exact inRange_of_settings h (writeUnload_settings _ _)
  | activate => exact inRange_of_settings h (writeActivate_settings _ _)
  | suspend => exact inRange_of_power h (writeSuspend_power _ _)
  | reseed => exact inRange_of_power h (writeReseed_power _ _)
  | statisticsReset => exact inRange_of_power h (writeStatsReset_power _ _ _)
  | launch => exact inRange_of_settings h (doLaunch_settings _ _)
  | cap => exact writeCap_inRange h _
  | priorityOrder => exact writeOrder_inRange h _
  | linkReserve => exact writeLinkReserve_inRange h _
  | memoryReserve => exact writeMemReserve_inRange h _
  | activeCellLimit => exact writeCellLimit_inRange h _
  | tjLimit => exact writeTjLimit_inRange h _
  | lowBound => exact writeLowBound_inRange h _
  | runRequest => exact requestRun_inRange h
  | standby => exact inRange_of_settings h (requestStandby_settings _)
  | deepSleep => exact inRange_of_settings h (requestSleep_settings _)
  | deepSleepEntry => exact sleepEntry_inRange h
  | sleepAbandoned => exact inRange_of_settings h (sleepAbandoned_settings _)
  | estimateInterval => exact inRange_of_settings h (estimateInterval_settings _ _)
  | telemetryCheck =>
    exact inRange_of_settings h
      ((foldl_settings (fun t p => checkFixed_settings _ _ _) _ _).trans (foldl_settings (fun t p => checkQuarter_settings _ _ _) _ _))
  | setpointChoice => exact inRange_of_settings h (chooseSetpoint_settings _ _)
  | slowThrottle => exact inRange_ite (inRange_of_settings h (throttle_settings _ _)) h
  | pmbAlertN => exact inRange_of_settings h (raisePace_settings _)
  | hintPhase => exact inRange_of_settings h (hintPhase_settings _ _)
  | sensorReport => exact inRange_of_settings h (sensorReport_settings _ _ _)
  | sensorFail =>
    exact inRange_ite h (inRange_of_settings h ((reviewThermal_settings _ _).trans ((congrArg settings (raise_power _ _ _ _)).trans rfl)))
  | floorHoldEnd => exact inRange_of_settings h (holdEnd_settings _)
  | thermalPrediction => exact inRange_of_settings h (predict_settings _)
  | trip => exact inRange_ite (inRange_of_settings h ((doTrip_settings _ _).trans (takeReport_settings _ _ _))) h
  | tripRelease => exact releaseTrip_inRange h
  | zoneGate => exact inRange_of_settings h (gateZone_settings _ _)
  | zonePowerGood => exact inRange_of_settings h (zoneGood_settings _ _)
  | zoneFail => exact inRange_of_settings h (zoneFail_settings _ _)
  | scrubRead => exact scrub_inRange h _ _
  | initRequest | preopRequest => exact inRange_ite h (inRange_ite (inRange_of_power h (holdAl_power _ _)) (inRange_of_power h (alDown_power _ _)))
  | safeopRequest => exact inRange_of_settings h (safeopRequest_settings _ _)
  | opRequest => exact inRange_of_settings h (opRequest_settings _)
  | bootstrapRequest => exact inRange_ite h (inRange_ite (inRange_of_power h (holdAl_power _ _)) (inRange_of_power h (alRefuse_power _ _)))
  | sm2Watchdog => exact inRange_of_settings h (sm2Expired_settings _)
  | inputLatch => exact inRange_of_power h (inputLatch_power _)
  | outputApply => exact outputApply_inRange h _
  | sdoUpload => exact inRange_of_settings h (sdoUpload_settings _ _ _)
  | sdoDownload => exact nextInRange_ite (sdoDownload_inRange h _ _ _ _) trivial
  | sdoSegment => exact nextInRange_ite (sdoSegment_inRange h _ _ _) trivial
  | sdoSegmentTimeout => exact inRange_of_power h (sdoTimeout_power _)
  | completeAccess => exact completeAccess_inRange h _ _ _ _
  | getOdList => exact inRange_ite h (inRange_of_power h (inform_power _ _))
  | getObjectDescription => exact inRange_ite h (inRange_ite (inRange_of_power h (inform_power _ _)) (inRange_of_power h (reply_power _ _ _)))
  | getEntryDescription index sub => exact getEntryDescription_nextInRange h index sub
  | foeWriteFirmware => exact inRange_of_power h (foeRequest_power _ _ _ foeFirmware_power)
  | foeReadFirmware => exact inRange_ite (inRange_of_power h (reply_power _ _ _)) h
  | foeReadPlm =>
    exact inRange_of_power h (foeRequest_power _ _ _ fun t => power_ite (reply_power _ _ _) (plmFile_power _ _ _ fun a => plmSend_power _ _))
  | foeWritePlm =>
    exact inRange_of_power h (foeRequest_power _ _ _ fun t =>
      power_ite (foeFirmware_power _) (plmFile_power _ _ _ fun a => (reply_power _ _ _).trans (setFoe_power _ _)))
  | foeData => exact nextInRange_ite (inRange_of_power h (foeData_power _ _ _)) trivial
  | mbxError => exact inRange_ite h (inRange_of_power h ((replyOpen_power _).trans (raise_power _ _ _ _)))
  | emergency => exact inRange_of_power h (sendEmergency_power _)
  | driftCompensation => exact inRange_of_power h (drifted_power _ _)
  | systemTimeOffset => exact inRange_of_settings h (stepTime_settings _ _)
  | latchEdge => exact inRange_of_power h (latched_power _ _)
  | syncLost => exact inRange_of_power h (settleSync_power _)
  | linkLost => exact inRange_of_power h (linkLost_power _ _)
  | bypassEngage => exact inRange_ite (inRange_of_power h (setBypass_power _ _ _)) h
  | bypassOverCurrent | bypassOpenLoad => exact inRange_ite (inRange_of_power h ((raise_power _ _ _ _).trans (setBypass_power _ _ _))) h
  | bypassReengage => exact inRange_of_power h (writeReengage_power _ _)
  | ack => exact inRange_of_power h (inState_power _ _ _ fun t => (ackAll_power _).trans rfl)
  | restart => exact inRange_ite (startRestart_inRange (inRange_of_power h (by rw [answer_power])) 5) (inRange_of_power h (answer_power _ _))
  | hostState => exact writeControl_inRange h _
  | resultBinding => exact inRange_of_power h (writeResultBinding_power _ _ _)
  | argumentBinding => exact inRange_of_power h (writeArgBinding_power _ _ _)
  | pdoMapping => exact nextInRange_ite (inRange_ite (inRange_of_power h (answer_power _ _)) (inRange_of_power h (writePdo_power _ _ _ _))) trivial
  | porNAssert => exact porAssert_inRange _
  | porNRelease => exact inRange_of_power h (porRelease_power _)
  | resetNAssert => exact resetAssert_inRange h
  | resetNRelease => exact inRange_of_power h (resetRelease_power _)
  | supplyOutOfLimits | refclkStop => exact coldReset_inRange _
  | stage0Entry => exact inRange_of_power h (stage0_power _ _ _)
  | bootComplete => exact inRange_of_settings h (bootComplete_settings _)
  | lockstepMismatch | cobblerWatchdog => exact startRestart_inRange h _
  | warmRestart => exact writeWarm_inRange h _
  | update => exact inRange_of_power h (writeUpdate_power _ _)
  | flashOperationDone => exact inRange_of_power h ((foeEnd_power _ _).trans (flashDone_power _ _))
  | liveActivation => exact inRange_of_power h (writeActivation_power _ _)
  | nonce => exact inRange_of_power h (writeNonce_power _ _)
  | quote => exact inRange_ite (inRange_of_power h (answer_power _ _)) (inRange_of_power h (readQuote_power s))
  | linkUp => exact inRange_of_power h (linkGained_power _ _)
  | syncEdge => exact inRange_of_power h (syncEdge_power _ _)
  | siiWrite => exact inRange_ite h h
  | tapInstruction => exact h
  | threadLoadReturn => exact inRange_of_power h (modCell_power _ _ _)
  | deskewCalibration | ulps => exact inRange_of_power h (setPort_power _ _ _)
  | refclkStart => exact inRange_ite h (inRange_of_power h ((leaveCold_power _).trans rfl))
  | supplyInLimits => exact inRange_ite (inRange_of_power h (supplyBack_power _ _)) h

/-- Settles O7: what is written is in range, a reset leaves the defaults, and everything else leaves the settings as they are. -/
theorem powerSettingsStayInRange : Obligations.PowerSettingsStayInRange := by
  unfold Obligations.PowerSettingsStayInRange
  intro s t h ht
  unfold step at ht
  split at ht
  · cases ht
    exact inRange_of_settings h (tick_settings s)
  · next c rest _ =>
    have next := exec_nextInRange c (s := { s with pending := rest }) h
    rwa [ht] at next

end Sys2Proof.Machine

/-! SUPPORT. The power settings as their entries write them (spec/09 R237, R238, R243). -/

namespace Sys2Proof.Machine

open Sys2Proof.Safety

/-! ### A setting's write -/

/-- The model's reading of a signed byte is the two's complement one. -/
theorem signed_eq_toInt (b : Byte) : signed 8 b.toNat = b.toInt := by
  have small := b.isLt
  rw [BitVec.toInt_eq_toNat_cond]
  simp only [signed, Nat.mod_eq_of_lt small, Int.ofNat_eq_natCast]
  split <;> split <;> omega

/-- Three cases make a setting's rule: the class, the range, the effect. -/
theorem settingRule_of_ite {i : Instr} {ok : Prop} {f : Power → Power} {s t : State} (run : exec i s = .next t)
    (wrong : setupState s = false → t = answer s wrongState) (outside : setupState s = true → ¬ ok → t = answer s outOfRange)
    (inside : setupState s = true → ok → t = answer { s with power := f s.power } 0) : SettingRule i ok f s :=
  ⟨fun h => run.trans (congrArg _ (wrong h)), fun h n => run.trans (congrArg _ (outside h n)), fun h y => run.trans (congrArg _ (inside h y))⟩

/-- A write through `writeSetting` follows the rule, and leaves the heat forecast to be formed again. -/
theorem settingRule_writeSetting {i : Instr} {ok : Prop} [Decidable ok] {f g : Power → Power} {s : State}
    (run : exec i s = .next (writeSetting s (decide ok) f)) (dirty : ∀ p, { f p with dirty := true } = g p) : SettingRule i ok g s := by
  refine settingRule_of_ite run (fun h => ?_) (fun h n => ?_) fun h y => ?_
  · simp [writeSetting, h]
  · simp [writeSetting, h, n]
  · simp [writeSetting, h, y, okCode, dirty]

theorem settingRule_writeOrder {i : Instr} {v : Nat} {s : State} (run : exec i s = .next (writeOrder s v)) :
    SettingRule i (v ≤ 5) (fun p => { p with order := v }) s := by
  refine settingRule_of_ite run (fun h => ?_) (fun h n => ?_) fun h y => ?_
  · simp [writeOrder, h]
  · simp [writeOrder, h, not_le.mp n]
  · simp [writeOrder, h, not_lt.mpr y, okCode]

theorem exec_tjLimit (b : Byte) (s : State) : exec (.tjLimit b) s =
    .next (writeSetting s (decide (60 ≤ signed 8 b.toNat ∧ signed 8 b.toNat ≤ 105))
      (fun p => { p with tjLimit := signed 8 b.toNat, recheckDue := p.recheckDue || signed 8 b.toNat != p.tjLimit })) :=
  rfl

theorem exec_lowBound (b : Byte) (s : State) : exec (.lowBound b) s =
    .next (writeSetting s (decide (-40 ≤ signed 8 b.toNat ∧ signed 8 b.toNat ≤ 25)) (fun p => { p with lowBound := signed 8 b.toNat })) :=
  rfl

/-- Settles O44: every setting but the order is one `writeSetting` with its range; the order has no figure that waits. -/
theorem powerSettings : Obligations.PowerSettings := by
  unfold Obligations.PowerSettings
  intro s v b
  rw [← signed_eq_toInt]
  refine ⟨?cap, ?linkReserve, ?memoryReserve, ?activeCellLimit, ?tjLimit, ?lowBound, ?priorityOrder⟩
  case tjLimit => exact settingRule_writeSetting (exec_tjLimit b s) fun _ => rfl
  case lowBound => exact settingRule_writeSetting (exec_lowBound b s) fun _ => rfl
  case priorityOrder => exact settingRule_writeOrder rfl
  all_goals exact settingRule_writeSetting rfl fun _ => rfl

end Sys2Proof.Machine

/-! SUPPORT. Paces and setpoints: what a pace or a setpoint that moves writes, and the bounds that it leaves as they are (spec/09 R239,
R245 to R249). -/

namespace Sys2Proof.Machine

open Sys2Proof.Safety

/-! ### Paces and rails alone -/

/-- Cells, rails and the count of pacing episodes are written, and of a cell its pace alone. -/
def OnlyRails (s t : State) : Prop :=
  t = { s with cells := t.cells, power := { s.power with quarter := t.power.quarter, pacings := t.power.pacings } } ∧
  ∀ g, t.cell g = { s.cell g with pace := (t.cell g).pace }

theorem onlyRails_refl (s : State) : OnlyRails s s := ⟨rfl, fun _ => rfl⟩

theorem onlyRails_trans {s t u : State} (a : OnlyRails s t) (b : OnlyRails t u) : OnlyRails s u := by
  obtain ⟨a, ac⟩ := a
  obtain ⟨b, bc⟩ := b
  refine ⟨?_, fun g => ?_⟩
  · rw [b, a]
  · rw [bc, ac]

theorem onlyRails_foldl {α : Type} {f : State → α → State} (h : ∀ s a, OnlyRails s (f s a)) (l : List α) (s : State) :
    OnlyRails s (l.foldl f s) :=
  List.foldlRecOn (motive := OnlyRails s) l f (onlyRails_refl s) fun t ht a _ => onlyRails_trans ht (h t a)

theorem onlyRails_setQpower (s : State) (q : Nat) (x : QPower) : OnlyRails s (s.setQpower q x) := ⟨rfl, fun _ => rfl⟩

theorem onlyRails_ite {c : Prop} [Decidable c] {s a b : State} (ha : OnlyRails s a) (hb : OnlyRails s b) : OnlyRails s (if c then a else b) := by
  split
  · exact ha
  · exact hb

section
variable {s t : State} (h : OnlyRails s t)
include h

theorem OnlyRails.causes : t.causes = s.causes := by rw [h.1]
theorem OnlyRails.fabric : t.fabric = s.fabric := by rw [h.1]
theorem OnlyRails.tackers : t.tackers = s.tackers := by rw [h.1]
theorem OnlyRails.ctxs : t.ctxs = s.ctxs := by rw [h.1]
theorem OnlyRails.dev : t.dev = s.dev := by rw [h.1]
theorem OnlyRails.power : t.power = { s.power with quarter := t.power.quarter, pacings := t.power.pacings } := by rw [h.1]

theorem OnlyRails.unfencedCount : unfencedCount t = unfencedCount s := by
  have same : unfenced t = unfenced s := by
    funext g
    unfold unfenced State.tacker
    rw [h.2 g, h.fabric, h.tackers]
  unfold Machine.unfencedCount
  rw [same]

theorem OnlyRails.floorFig : floorFig t = floorFig s := by
  unfold Machine.floorFig lowInForce
  rw [h.unfencedCount, h.causes, h.power]
  rfl

theorem OnlyRails.quarterTemp (q : Nat) : quarterTemp t q = quarterTemp s q := by
  have same : sensorRead t = sensorRead s := by
    funext i
    unfold sensorRead State.sensor
    rw [h.power]
  unfold Machine.quarterTemp
  rw [same]

theorem OnlyRails.upperBound (q : Nat) : upperBound t q = upperBound s q := by
  unfold Machine.upperBound
  rw [h.floorFig, h.quarterTemp, h.power]

end

/-! ### A pace that is set (R245) -/

/-- What `setPace` does to one cell. -/
def paceCell (f : Nat → CellState → Nat) (s : State) (g : Nat) : State :=
  if f g (s.cell g) = (s.cell g).pace then s else s.setCell g { s.cell g with pace := f g (s.cell g) }

theorem paceCell_same (f : Nat → CellState → Nat) (s : State) (g : Nat) :
    (paceCell f s g).cell g = { s.cell g with pace := f g (s.cell g) } := by
  unfold paceCell
  split
  · next h => rw [h]
  · exact setCell_cell _ _ _

theorem paceCell_other (f : Nat → CellState → Nat) (s : State) {g h : Nat} (e : h ≠ g) : (paceCell f s g).cell h = s.cell h := by
  unfold paceCell
  split
  · rfl
  · exact setCell_cell_other _ _ _ e

theorem paceCell_only (f : Nat → CellState → Nat) (s : State) (g : Nat) : OnlyRails s (paceCell f s g) := by
  refine ⟨?_, fun h => ?_⟩
  · unfold paceCell
    split <;> rfl
  · by_cases e : h = g
    · subst e
      rw [paceCell_same]
    · rw [paceCell_other f s e]

/-- Each cell of a list without repetitions takes its pace once. -/
theorem foldl_paceCell_cell (f : Nat → CellState → Nat) {l : List Nat} (hl : l.Nodup) (s : State) (h : Nat) :
    (l.foldl (paceCell f) s).cell h = if h ∈ l then { s.cell h with pace := f h (s.cell h) } else s.cell h := by
  induction l generalizing s with
  | nil => simp
  | cons g l ih =>
    obtain ⟨fresh, hl⟩ := List.nodup_cons.1 hl
    rw [List.foldl_cons, ih hl]
    by_cases e : h = g
    · subst e
      rw [if_neg fresh, if_pos (by simp), paceCell_same]
    · rw [paceCell_other f s e]
      simp [e]

/-- What `notePace` writes of a quarter: its highest level and since when it paces. -/
def noteQuarter (s : State) (q : Nat) : State :=
  let m := ((List.range 16).map (fun i => (s.cell (16 * q + i)).pace)).foldl max 0
  s.setQpower q { s.qpower q with paceLevel := m, paceSince := if m = 0 then none else some ((s.qpower q).paceSince.getD s.now) }

/-- The rail of quarter k but for its pacing. -/
def SameRail (s t : State) (k : Nat) : Prop :=
  t.qpower k = { s.qpower k with paceLevel := (t.qpower k).paceLevel, paceSince := (t.qpower k).paceSince }

theorem sameRail_trans {s t u : State} {k : Nat} (a : SameRail s t k) (b : SameRail t u k) : SameRail s u k := by
  unfold SameRail at *
  rw [b, a]

theorem SameRail.setpoint {s t : State} {k : Nat} (h : SameRail s t k) : (t.qpower k).setpoint = (s.qpower k).setpoint := by rw [h]

theorem noteQuarter_sameRail (s : State) (q k : Nat) : SameRail s (noteQuarter s q) k := by
  unfold SameRail noteQuarter
  by_cases e : k = q
  · subst e
    rw [setQpower_qpower]
  · rw [setQpower_qpower_other _ _ _ e]

theorem foldl_noteQuarter (l : List Nat) (s : State) :
    OnlyRails s (l.foldl noteQuarter s) ∧ (l.foldl noteQuarter s).cells = s.cells ∧ ∀ k, SameRail s (l.foldl noteQuarter s) k :=
  List.foldlRecOn (motive := fun t => OnlyRails s t ∧ t.cells = s.cells ∧ ∀ k, SameRail s t k) l noteQuarter
    ⟨onlyRails_refl s, rfl, fun _ => rfl⟩ fun t ⟨only, cells, rail⟩ q _ =>
      ⟨onlyRails_trans only (onlyRails_setQpower _ _ _), cells, fun k => sameRail_trans (rail k) (noteQuarter_sameRail t q k)⟩

/-- The count of pacing episodes is written. -/
def withPacings (s : State) (n : Nat) : State := { s with power := { s.power with pacings := n } }

theorem withPacings_only (s : State) (n : Nat) : OnlyRails s (withPacings s n) := ⟨rfl, fun _ => rfl⟩

theorem withPacings_sameRail (s : State) (n k : Nat) : SameRail s (withPacings s n) k := rfl

theorem counted_eq_withPacings (s : State) (c : Prop) [Decidable c] :
    ∃ n, (if c then withPacings s (satAdd 32 s.power.pacings 1) else s) = withPacings s n := by
  split
  · exact ⟨_, rfl⟩
  · exact ⟨s.power.pacings, rfl⟩

/-- The quarters are noted, and the episode counts or not. -/
theorem notePace_eq (s : State) (before : Bool) : ∃ n, notePace s before = withPacings (allQuarters.foldl noteQuarter s) n :=
  counted_eq_withPacings (allQuarters.foldl noteQuarter s)
    ((allQuarters.any (fun q => decide (0 < ((allQuarters.foldl noteQuarter s).qpower q).paceLevel)) && !before) = true)

theorem notePace_keeps (s : State) (before : Bool) :
    OnlyRails s (notePace s before) ∧ (notePace s before).cells = s.cells ∧ ∀ k, SameRail s (notePace s before) k := by
  obtain ⟨only, cells, rail⟩ := foldl_noteQuarter allQuarters s
  obtain ⟨n, noted⟩ := notePace_eq s before
  rw [noted]
  exact ⟨onlyRails_trans only (withPacings_only _ n), cells, fun k => sameRail_trans (rail k) (withPacings_sameRail _ n k)⟩

theorem setPace_eq (s : State) (f : Nat → CellState → Nat) :
    setPace s f = notePace ((List.range 64).foldl (paceCell f) s) (paced s) := rfl

theorem foldl_paceCell_qpower (f : Nat → CellState → Nat) (l : List Nat) (s : State) (k : Nat) :
    (l.foldl (paceCell f) s).qpower k = s.qpower k := by
  have power : (l.foldl (paceCell f) s).power = s.power :=
    List.foldlRecOn (motive := fun t : State => t.power = s.power) l _ rfl fun t ht g _ => by
      unfold paceCell
      split
      · exact ht
      · exact ht
  unfold State.qpower
  rw [power]

theorem setPace_only (s : State) (f : Nat → CellState → Nat) : OnlyRails s (setPace s f) := by
  rw [setPace_eq]
  exact onlyRails_trans (onlyRails_foldl (paceCell_only f) _ _) (notePace_keeps _ _).1

/-- Every cell takes the level that is set for it. -/
theorem setPace_cell (s : State) (f : Nat → CellState → Nat) {g : Nat} (hg : g < 64) :
    (setPace s f).cell g = { s.cell g with pace := f g (s.cell g) } := by
  obtain ⟨-, cells, -⟩ := notePace_keeps ((List.range 64).foldl (paceCell f) s) (paced s)
  unfold State.cell at *
  rw [setPace_eq, cells]
  exact (foldl_paceCell_cell f List.nodup_range s g).trans (if_pos (List.mem_range.2 hg))

theorem setPace_sameRail (s : State) (f : Nat → CellState → Nat) (k : Nat) : SameRail s (setPace s f) k := by
  obtain ⟨-, -, rail⟩ := notePace_keeps ((List.range 64).foldl (paceCell f) s) (paced s)
  have noted := rail k
  unfold SameRail at *
  rwa [foldl_paceCell_qpower, ← setPace_eq] at noted

/-! ### A setpoint that moves (R246) -/

theorem sendSetpoint_setpoint (s : State) (q v : Nat) : ((sendSetpoint s q v).qpower q).setpoint = v := by
  unfold sendSetpoint
  simp only
  split
  · next h => exact h
  · rw [setQpower_qpower]

theorem sendSetpoint_setAt {s : State} {q v : Nat} (h : v ≠ (s.qpower q).setpoint) : ((sendSetpoint s q v).qpower q).setAt = s.now := by
  unfold sendSetpoint
  simp only
  rw [if_neg (Ne.symm h), setQpower_qpower]

theorem sendSetpoint_other (s : State) {q k : Nat} (v : Nat) (e : k ≠ q) : (sendSetpoint s q v).qpower k = s.qpower k := by
  unfold sendSetpoint
  simp only
  split
  · rfl
  · exact setQpower_qpower_other _ _ _ e

theorem sendSetpoint_keeps (s : State) (q v : Nat) : OnlyRails s (sendSetpoint s q v) ∧ (sendSetpoint s q v).cells = s.cells ∧
    (sendSetpoint s q v).power.hardPower = s.power.hardPower := by
  unfold sendSetpoint
  simp only
  split
  · exact ⟨onlyRails_refl s, rfl, rfl⟩
  · exact ⟨onlyRails_setQpower _ _ _, rfl, rfl⟩

/-- The pace of a quarter's cell that holds its rate as the quarter's rate goes from `old` to `new` (R246). -/
def keptPace (q old new : Nat) (g : Nat) (c : CellState) : Nat :=
  if quarterOf g = q ∧ 0 < c.pace then 16 - min 16 (max 1 (ceilDiv ((16 - c.pace) * old) new)) else c.pace

theorem moveSetpoint_eq (s : State) (q v : Nat) : let old := mst (quarterRate s q)
    let t := sendSetpoint s q v
    let new := mst (quarterRate t q)
    moveSetpoint s q v = if old = 0 ∨ new = 0 ∨ old = new ∨ t.power.hardPower then t else setPace t (keptPace q old new) := rfl

theorem moveSetpoint_only (s : State) (q v : Nat) : OnlyRails s (moveSetpoint s q v) := by
  obtain ⟨sent, -, -⟩ := sendSetpoint_keeps s q v
  rw [moveSetpoint_eq]
  exact onlyRails_ite sent (onlyRails_trans sent (setPace_only _ _))

/-- Apart from its pacing, every quarter's rail is as the command that was sent left it. -/
theorem moveSetpoint_sameRail (s : State) (q v k : Nat) : SameRail (sendSetpoint s q v) (moveSetpoint s q v) k := by
  rw [moveSetpoint_eq]
  split
  · rfl
  · exact setPace_sameRail _ _ _

theorem moveSetpoint_setpoint (s : State) (q v : Nat) : ((moveSetpoint s q v).qpower q).setpoint = v :=
  (moveSetpoint_sameRail s q v q).setpoint.trans (sendSetpoint_setpoint s q v)

theorem moveSetpoint_other (s : State) {q k : Nat} (v : Nat) (e : k ≠ q) : SameRail s (moveSetpoint s q v) k := by
  have rail := moveSetpoint_sameRail s q v k
  unfold SameRail at *
  rwa [sendSetpoint_other s v e] at rail

/-! ### Setpoints brought down to their bound (R249) -/

theorem clampSetpoint_only (s : State) (q : Nat) : OnlyRails s (clampSetpoint s q) :=
  onlyRails_ite (onlyRails_refl s) (moveSetpoint_only _ _ _)

theorem clampSetpoint_same (s : State) (q : Nat) : ((clampSetpoint s q).qpower q).setpoint ≤ upperBound s q := by
  unfold clampSetpoint
  simp only
  split
  · assumption
  · exact (moveSetpoint_setpoint _ _ _).le

theorem clampSetpoint_other (s : State) {q k : Nat} (e : k ≠ q) : ((clampSetpoint s q).qpower k).setpoint = (s.qpower k).setpoint := by
  unfold clampSetpoint
  simp only
  split
  · rfl
  · exact (moveSetpoint_other s _ e).setpoint

/-- A quarter that is named, or that stood within its bound, stands within it afterwards. -/
theorem foldl_clampSetpoint (l : List Nat) (s : State) : OnlyRails s (l.foldl clampSetpoint s) ∧
    ∀ q, q ∈ l ∨ (s.qpower q).setpoint ≤ upperBound s q → ((l.foldl clampSetpoint s).qpower q).setpoint ≤ upperBound s q := by
  refine ⟨onlyRails_foldl clampSetpoint_only l s, ?_⟩
  induction l generalizing s with
  | nil => simp
  | cons k l ih =>
    intro q h
    have within := ih (clampSetpoint s k) q
    rw [(clampSetpoint_only s k).upperBound] at within
    refine within ?_
    by_cases e : q = k
    · subst e
      exact .inr (clampSetpoint_same s q)
    · rw [clampSetpoint_other s e]
      exact h.imp_left fun hq => (List.mem_cons.1 hq).resolve_left e

end Sys2Proof.Machine

/-! SUPPORT. Power states: the cause tree that one raised leaf leaves, what a warm restart keeps, and STANDBY, DEEP SLEEP and RUN (spec/09
R251, spec/10 R266, spec/11 R299, R300). -/

namespace Sys2Proof.Machine

open Sys2Proof.Safety

/-! ### The one leaf that is raised -/

/-- The registers of the leaves. -/
def leaves (c : Causes) : Tab Word × Tab Word × Word × Word := (c.leaf, c.streamSlot, c.istFailed, c.istUntested)

theorem leafIsSet_of_leaves {c d : Causes} (h : leaves c = leaves d) (l : Leaf) : leafIsSet c l = leafIsSet d l := by
  simp only [leaves, Prod.mk.injEq] at h
  obtain ⟨leaf, slot, failed, untested⟩ := h
  cases l <;> simp only [leafIsSet, leaf, slot, failed, untested]

theorem queueEmergency_leaves (s : State) (m : EmMsg) : leaves (queueEmergency s m).causes = leaves s.causes := by
  unfold queueEmergency
  split <;> rfl

theorem settle_leaves (s : State) : leaves (settle s).causes = leaves s.causes := by
  unfold settle
  simp only
  split
  · exact (queueEmergency_leaves _ _).trans rfl
  · rfl

/-- A leaf that was clear is set, and no other leaf changes. -/
theorem raise_leaves {s : State} {l : Leaf} (h : leafIsSet s.causes l = false) (arg addr : Nat) :
    leaves (raise s l arg addr).causes = leaves (setLeaf s.causes l) := by
  unfold raise raiseWith
  rw [if_neg (by simp [h])]
  refine (settle_leaves _).trans ?_
  split
  · refine (queueEmergency_leaves _ _).trans ?_
    cases l <;> rfl
  · cases l <;> rfl

theorem leafIsSet_raise_iff {s : State} {l m : Leaf} (h : leafIsSet s.causes l = false) (arg addr : Nat) :
    leafIsSet (raise s l arg addr).causes m = leafIsSet (setLeaf s.causes l) m := leafIsSet_of_leaves (raise_leaves h arg addr) m

/-- The bits of a register after one more is set. -/
theorem leafIsSet_setLeaf_main (c : Causes) {g b k i : Nat} (hi : i < 64) :
    leafIsSet (setLeaf c (.main g b)) (.main k i) = (leafIsSet c (.main k i) || (decide (k = g) && decide (i = b))) := by
  by_cases e : k = g
  · subst e
    simp only [leafIsSet, setLeaf]
    rw [lookup_put_same, BitVec.getLsbD_or, getLsbD_bit64]
    simp [hi]
  · simp only [leafIsSet, setLeaf]
    rw [lookup_put_other _ _ _ e]
    simp [e]

/-! ### A warm restart (spec/10 R266, spec/11 R300) -/

/-- What a warm restart leaves before its AL error is raised. -/
def restarting (s : State) (reason : Nat) : State :=
  { State.reset with
    pending := s.pending, free := s.free
    dev := { pinsKept s.dev with
      dc := s.dev.dc, dcOffset := s.dev.dcOffset, drift := s.dev.drift, driftAt := s.dev.driftAt, driftBadAt := s.dev.driftBadAt
      dcSynced := s.dev.dcSynced, bypass := s.dev.bypass, bypassPin := s.dev.bypassPin, state := .boot, stateTime := s.now
      restartReason := reason, alError := true, alCode := 0x8002 }
    field := escKept s.field
    hmp := { chan := chansWith s.hmp linkKept }
    resil := { unavailable := s.resil.unavailable, observed := s.resil.observed, count := s.resil.count, observing := s.resil.observing }
    causes := unverifiedKept s
    boot := { bootKept s.boot with retained := s.boot.retained, unverified := s.boot.unverified } }

theorem restartState_eq (s : State) (reason : Nat) : restartState s reason = raise (restarting s reason) (.main gField 2) 0 0 := rfl

/-- Of the leaves, a restart keeps that of an unverified image. -/
theorem leafIsSet_unverifiedKept (s : State) (g b : Nat) (hb : b < 64) :
    leafIsSet (unverifiedKept s) (.main g b) = (s.boot.unverified && (decide (g = gBoot) && decide (b = 0))) := by
  unfold unverifiedKept
  split
  · next h =>
    have one : (1 : Word) = bit64 0 := rfl
    by_cases e : g = gBoot
    · subst e
      simp only [leafIsSet]
      rw [lookup_put_same, one, getLsbD_bit64]
      simp [h, hb]
    · simp only [leafIsSet]
      rw [lookup_put_other _ _ _ e]
      simp [lookup, e]
  · next h =>
    simp only [leafIsSet, lookup]
    simp [h]

theorem unverifiedKept_others (s : State) :
    (unverifiedKept s).streamSlot = [] ∧ (unverifiedKept s).istFailed = 0 ∧ (unverifiedKept s).istUntested = 0 := by
  unfold unverifiedKept
  split <;> exact ⟨rfl, rfl, rfl⟩

theorem restartState_leaf (s : State) (reason g b : Nat) (hb : b < 64) :
    leafIsSet (restartState s reason).causes (.main g b) =
      ((s.boot.unverified && (decide (g = gBoot) && decide (b = 0))) || (decide (g = gField) && decide (b = 2))) := by
  have clear : leafIsSet (restarting s reason).causes (.main gField 2) = false :=
    (leafIsSet_unverifiedKept s gField 2 (by decide)).trans (by simp [gField, gBoot])
  rw [restartState_eq, leafIsSet_raise_iff clear, leafIsSet_setLeaf_main _ hb]
  exact congrArg (· || _) (leafIsSet_unverifiedKept s g b hb)

theorem restartState_others (s : State) (reason : Nat) : (restartState s reason).causes.streamSlot = [] ∧
    (restartState s reason).causes.istFailed = 0 ∧ (restartState s reason).causes.istUntested = 0 := by
  have clear : leafIsSet (restarting s reason).causes (.main gField 2) = false :=
    (leafIsSet_unverifiedKept s gField 2 (by decide)).trans (by simp [gField, gBoot])
  have same := raise_leaves clear 0 0
  rw [← restartState_eq] at same
  simp only [leaves, Prod.mk.injEq] at same
  obtain ⟨-, slot, failed, untested⟩ := same
  obtain ⟨slot', failed', untested'⟩ := unverifiedKept_others s
  exact ⟨slot.trans slot', failed.trans failed', untested.trans untested'⟩

theorem restartState_only (s : State) (reason : Nat) :
    restartState s reason = { restarting s reason with causes := (restartState s reason).causes } := (raise_onlyCauses _ _ _ _).1

theorem warmlyRestarted_restartState (s : State) (reason : Nat) : WarmlyRestarted s (restartState s reason) reason := by
  obtain ⟨slot, failed, untested⟩ := restartState_others s reason
  have leaf := restartState_leaf s reason
  have only := restartState_only s reason
  generalize restartState s reason = t at slot failed untested leaf only
  obtain ⟨causes, rfl⟩ : ∃ c, t = { restarting s reason with causes := c } := ⟨_, only⟩
  refine ⟨rfl, rfl, rfl, rfl, rfl, rfl, rfl, rfl, rfl, rfl, rfl, rfl, rfl, rfl, rfl, rfl, rfl, rfl, rfl, rfl, rfl, rfl, rfl, ?error, slot,
    failed, untested, ?others, ?unverified, rfl⟩
  case error => simp [leaf]
  case others =>
    intro g b hb h
    rw [leaf g b hb] at h
    simp only [Bool.or_eq_true, Bool.and_eq_true, decide_eq_true_eq] at h
    obtain ⟨hu, hg, hb⟩ | h := h
    · exact .inr ⟨hg, hb, hu⟩
    · exact .inl h
  case unverified =>
    intro hu
    simp [leaf, hu]

/-! ### Power states (R251) -/

theorem standbyCell_standbyCell (c : CellState) : standbyCell (standbyCell c) = standbyCell c := rfl

/-- STANDBY, past its cells. -/
def stoodBy (s : State) : State :=
  { s with
    jobs := []
    fabric := { s.fabric with counter := [], updates := [], barrier := [], lacer := [], awl := [], writer := [] }
    resil := { s.resil with lateOpen := [] }
    power := { s.power with pstate := 2, sleepAsked := none, valid := false, cold := true, predictions := 0, reported := [], model := []
                            quarter := mapKeys {} s.power.quarter 4 (fun x => { x with paceLevel := 0, paceSince := none, hintMv := 0 }) } }

theorem enterStandby_eq (s : State) :
    ∃ t, OnlyCells s t ∧ (∀ g, g < 64 → t.cell g = standbyCell (s.cell g)) ∧ enterStandby s = stoodBy t := by
  have only := foldl_modCell_only standbyCell (List.range 64) s
  have cell := foldl_modCell_cell standbyCell_standbyCell (List.range 64) s
  unfold enterStandby
  generalize (List.range 64).foldl (fun s g => s.modCell g standbyCell) s = t at only cell
  exact ⟨t, only, fun g hg => (cell g).trans (if_pos (List.mem_range.2 hg)), rfl⟩

/-- What the device holds in STANDBY. -/
theorem enterStandby_keeps (s : State) : let t := answer (enterStandby s) 0
    t.power.pstate = 2 ∧ t.power.valid = false ∧ t.jobs = [] ∧ t.dev.answer = 0 ∧ t.ctxs = s.ctxs ∧ t.queues = s.queues ∧
    t.fabric.lpddr = s.fabric.lpddr ∧ t.fabric.mapStore = s.fabric.mapStore ∧ t.boot = s.boot ∧
    ∀ g, g < 64 → (t.cell g).store = (s.cell g).store ∧ (t.cell g).st = .idle ∧ (t.cell g).fence = (s.cell g).fence ∧
      (t.cell g).imem = [] ∧ (t.cell g).vreg = [] := by
  obtain ⟨t, only, cell, stood⟩ := enterStandby_eq s
  rw [stood]
  have stored (g : Nat) : (answer (stoodBy t) 0).cell g = t.cell g := rfl
  have kept : t.ctxs = s.ctxs ∧ t.queues = s.queues ∧ t.fabric = s.fabric ∧ t.boot = s.boot := by
    rw [only]
    exact ⟨rfl, rfl, rfl, rfl⟩
  obtain ⟨ctxs, queues, fabric, boot⟩ := kept
  have lpddr := congrArg Fabric.lpddr fabric
  have mapStore := congrArg Fabric.mapStore fabric
  refine ⟨rfl, rfl, rfl, rfl, ctxs, queues, lpddr, mapStore, boot, fun g hg => ?_⟩
  rw [stored, cell g hg]
  exact ⟨rfl, rfl, rfl, rfl, rfl⟩

theorem requestStandby_refused {s : State} (h : runtimeState s = false ∨ anyActive s = true ∨ s.dev.thermTrip = true) :
    requestStandby s = answer s wrongState := by
  rcases h with h | h | h <;> simp [requestStandby, h]

theorem requestSleep_refused {s : State} (h : runtimeState s = false ∨ anyActive s = true ∨ s.dev.thermTrip = true) :
    requestSleep s = answer s wrongState := by
  rcases h with h | h | h <;> simp [requestSleep, h]

theorem requestStandby_taken {s : State} (h : ¬ (runtimeState s = false ∨ anyActive s = true ∨ s.dev.thermTrip = true)) :
    requestStandby s = answer (enterStandby s) 0 := by
  simp only [not_or, Bool.not_eq_false, Bool.not_eq_true] at h
  obtain ⟨hr, ha, ht⟩ := h
  simp [requestStandby, hr, ha, ht, okCode]

theorem requestSleep_taken {s : State} (h : ¬ (runtimeState s = false ∨ anyActive s = true ∨ s.dev.thermTrip = true)) :
    requestSleep s = answer { s with power := { s.power with sleepAsked := some s.now } } 0 := by
  simp only [not_or, Bool.not_eq_false, Bool.not_eq_true] at h
  obtain ⟨hr, ha, ht⟩ := h
  simp [requestSleep, hr, ha, ht, okCode]

theorem bothAsleep_iff (s : State) : bothAsleep s = true ↔ (s.chan 0).power = 1 ∧ (s.chan 1).power = 1 := by simp [bothAsleep]

theorem sleepEntry_unready {s : State} (h : ¬ (s.power.sleepAsked ≠ none ∧ (s.chan 0).power = 1 ∧ (s.chan 1).power = 1)) :
    sleepEntry s = s := by
  refine if_neg fun ready => h ?_
  rwa [Bool.and_eq_true, bothAsleep_iff, Option.isSome_iff_ne_none] at ready

theorem sleepEntry_ready {s : State} (h : s.power.sleepAsked ≠ none ∧ (s.chan 0).power = 1 ∧ (s.chan 1).power = 1) :
    sleepEntry s = enterSleep s := by
  refine if_pos ?_
  rwa [Bool.and_eq_true, bothAsleep_iff, Option.isSome_iff_ne_none]

theorem sleepAbandoned_idle {s : State} (h : s.power.sleepAsked = none ∨ bothAsleep s = true) : sleepAbandoned s = s := by
  unfold sleepAbandoned
  split
  · rfl
  · next t ht =>
    have asleep := h.resolve_left (by simp [ht])
    exact if_pos (.inr asleep)

theorem sleepAbandoned_early {s : State} {t0 : Nat} (ht : s.power.sleepAsked = some t0) (h : s.now < t0 + 100000000) :
    sleepAbandoned s = s := by
  simp [sleepAbandoned, ht, h]

theorem sleepAbandoned_late {s : State} {t0 : Nat} (ht : s.power.sleepAsked = some t0) (h : t0 + 100000000 ≤ s.now) (ha : bothAsleep s = false) :
    sleepAbandoned s = raise { s with power := { s.power with sleepAsked := none } } (.main gHmp 12) 0 0 := by
  simp [sleepAbandoned, ht, not_lt.mpr h, ha]

/-- A device that leaves STANDBY, before its rails come under their bounds: its sensors report again. -/
def awoken (s : State) : State :=
  { s with power := { s.power with pstate := 0, reported := [], valid := false, cold := true, predictions := 0, model := [] } }

theorem requestRun_standby {s : State} (h2 : s.power.pstate = 2) (hr : runtimeState s = true) (ht : s.dev.thermTrip = false) :
    requestRun s = answer (allQuarters.foldl clampSetpoint (awoken s)) 0 := by
  simp [requestRun, h2, hr, ht, okCode, awoken]

theorem requestRun_refused {s : State} (h3 : s.power.pstate ≠ 3) (h : runtimeState s = false ∨ s.dev.thermTrip = true) :
    requestRun s = answer s wrongState := by
  rcases h with h | h <;> simp [requestRun, h3, h]

theorem requestRun_running {s : State} (h2 : s.power.pstate ≠ 2) (h3 : s.power.pstate ≠ 3) (hr : runtimeState s = true)
    (ht : s.dev.thermTrip = false) : requestRun s = answer { s with power := { s.power with sleepAsked := none } } 0 := by
  simp [requestRun, h2, h3, hr, ht, okCode]

theorem upperBound_answer (s : State) (c q : Nat) : upperBound (answer s c) q = upperBound s q := rfl

/-- A device asleep keeps its device and field port, what is committed and the counts. -/
theorem enterSleep_keeps (s : State) : let t := enterSleep s
    t.power.pstate = 3 ∧ t.ctxs = [] ∧ t.queues = [] ∧ t.cells = [] ∧ t.fabric = {} ∧ t.dev = s.dev ∧ t.field = s.field ∧
    t.boot.flash = s.boot.flash ∧ t.boot.rollback = s.boot.rollback ∧ t.boot.leaf = s.boot.leaf ∧ t.boot.latchOpen = s.boot.latchOpen ∧
    t.boot.unverified = s.boot.unverified ∧ t.resil.count = s.resil.count :=
  ⟨rfl, rfl, rfl, rfl, rfl, rfl, rfl, rfl, rfl, rfl, rfl, rfl, rfl⟩

/-- The wake from DEEP SLEEP: a warm restart whose images are verified already. -/
def wokenFast (s : State) : State := { s with boot := { s.boot with fastWake := true } }

theorem warmlyRestarted_wokenFast {s t : State} {reason : Nat} (h : WarmlyRestarted s t reason) : WarmlyRestarted s (wokenFast t) reason := h

theorem requestRun_asleep {s : State} (h : s.power.pstate = 3) : requestRun s = wokenFast (restartState s 0) := if_pos h

/-- RUN in STANDBY: what the device is, and the rails within their bounds. -/
theorem awoken_clamped (s : State) : let t := answer (allQuarters.foldl clampSetpoint (awoken s)) 0
    t.power.pstate = 0 ∧ t.power.reported = [] ∧ t.power.valid = false ∧ t.power.cold = true ∧ t.power.predictions = 0 ∧ t.dev.answer = 0 ∧
    t.ctxs = s.ctxs ∧ (∀ q, q < 4 → (t.qpower q).setpoint ≤ upperBound t q) ∧
    ∀ g, g < 64 → t.cell g = { s.cell g with pace := (t.cell g).pace } := by
  obtain ⟨only, bound⟩ := foldl_clampSetpoint allQuarters (awoken s)
  dsimp only
  generalize allQuarters.foldl clampSetpoint (awoken s) = t at only bound
  rw [answer_power, only.power]
  refine ⟨rfl, rfl, rfl, rfl, rfl, rfl, only.ctxs, fun q hq => ?_, fun g _ => only.2 g⟩
  rw [upperBound_answer, only.upperBound]
  exact bound q (.inl (by simp [allQuarters]; omega))

/-- Settles O47: every rail that is named comes under its bound, and the wake from DEEP SLEEP is a restart of reason 0. -/
theorem powerStates : Obligations.PowerStates := by
  unfold Obligations.PowerStates
  refine ⟨fun s => ⟨?refused, ?standby, ?sleep⟩, fun s => ⟨?unready, ?asleep⟩, fun s => ⟨?idle, ?early, ?late⟩,
    fun s => ⟨?wakes, ?runRefused, ?leavesStandby, ?running⟩⟩
  case refused =>
    exact fun no => ⟨congrArg Host.Outcome.next (requestStandby_refused no), congrArg Host.Outcome.next (requestSleep_refused no)⟩
  case standby => exact fun no => ⟨_, congrArg Host.Outcome.next (requestStandby_taken no), enterStandby_keeps s⟩
  case sleep => exact fun no => congrArg Host.Outcome.next (requestSleep_taken no)
  case unready => exact fun h => congrArg Host.Outcome.next (sleepEntry_unready h)
  case asleep => exact fun h => ⟨_, congrArg Host.Outcome.next (sleepEntry_ready h), enterSleep_keeps s⟩
  case idle => exact fun h => congrArg Host.Outcome.next (sleepAbandoned_idle h)
  case early => exact fun t0 ht h => congrArg Host.Outcome.next (sleepAbandoned_early ht h)
  case late =>
    intro t0 ht h ha
    have only := raise_onlyCauses { s with power := { s.power with sleepAsked := none } } (.main gHmp 12) 0 0
    have leaf := leafIsSet_raise_main { s with power := { s.power with sleepAsked := none } } gHmp (b := 12) (by decide) 0 0
    refine ⟨_, congrArg Host.Outcome.next (sleepAbandoned_late ht h ha), only.power, leaf, ?_⟩
    generalize raise { s with power := { s.power with sleepAsked := none } } (.main gHmp 12) 0 0 = t at only
    rw [only.power]
    exact only.1
  case wakes =>
    exact fun h => ⟨_, congrArg Host.Outcome.next (requestRun_asleep h), warmlyRestarted_wokenFast (warmlyRestarted_restartState s 0), rfl⟩
  case runRefused => exact fun h3 h => congrArg Host.Outcome.next (requestRun_refused h3 h)
  case leavesStandby => exact fun h2 hr ht => ⟨_, congrArg Host.Outcome.next (requestRun_standby h2 hr ht), awoken_clamped s⟩
  case running => exact fun h2 h3 hr ht => congrArg Host.Outcome.next (requestRun_running h2 h3 hr ht)

end Sys2Proof.Machine

/-! SUPPORT. Resets: what a cold reset and RESET_N leave, how the device comes up, and which events restart it warmly (spec/09 R250, spec/10
R266, R270, spec/11 R300, spec/14 R364 to R369). -/

namespace Sys2Proof.Machine

open Sys2Proof.Safety

/-! ### The cold reset (spec/14 R366 to R368) -/

theorem coldlyReset_coldReset (s : State) (d : Dev) : ColdlyReset s (coldReset { s with dev := d }) :=
  ⟨rfl, rfl, rfl, rfl, rfl, rfl, rfl, rfl, rfl, rfl, rfl, rfl, rfl, rfl, rfl, rfl, rfl, rfl⟩

theorem supplied_iff (d : Dev) :
    supplied d = true ↔ Rail.fixed 8 ∉ d.railsOut ∧ d.railReset = false ∧ d.refclk = true ∧ d.porLow = false := by
  simp [supplied, and_assoc]

/-- A rail that goes out of its limits joins those that are out. -/
theorem mem_railsOut (l : List Rail) (r : Rail) : r ∈ (if l.contains r then l else l ++ [r]) ∧
    ∀ q ∈ l, q ∈ (if l.contains r then l else l ++ [r]) := by
  split
  · next h => exact ⟨List.contains_iff_mem.1 h, fun _ hq => hq⟩
  · exact ⟨by simp, fun q hq => List.mem_append_left _ hq⟩

/-! ### The device comes up (spec/14 R364, R369) -/

/-- The device as the end of a cold reset finds it: BOOT with DC time 0. -/
def upFrom (d : Dev) : Dev := { d with state := .boot, dc := 0, thermTrip := false, heldInReset := false }

theorem leaveCold_held {s : State} {d : Dev} (h : supplied d = false) : leaveCold { s with dev := d } = { s with dev := d } := by
  simp [leaveCold, h]

theorem leaveCold_boots {s : State} {d : Dev} (h : supplied d = true) (ht : d.testEn = false) :
    leaveCold { s with dev := d } = { s with dev := upFrom d } := by
  simp [leaveCold, h, ht, upFrom]

theorem leaveCold_test {s : State} {d : Dev} (h : supplied d = true) (ht : d.testEn = true) :
    leaveCold { s with dev := d } = alRefuse { s with dev := upFrom d, boot := { s.boot with noImage := true } } 0x8004 := by
  simp [leaveCold, h, ht, upFrom]

/-- With TEST_EN high the part boots nothing. -/
theorem alRefuse_boots_nothing (s : State) (d : Dev) :
    let t := alRefuse { s with dev := upFrom d, boot := { s.boot with noImage := true } } 0x8004
    t.dev.state = .boot ∧ t.dev.dc = 0 ∧ t.dev.alError = true ∧ t.dev.alCode = 0x8004 ∧ t.boot = { s.boot with noImage := true } ∧
      leafIsSet t.causes (.main gField 2) = true := by
  have only := alRefuse_only { s with dev := upFrom d, boot := { s.boot with noImage := true } } 0x8004
  have leaf : leafIsSet (alRefuse { s with dev := upFrom d, boot := { s.boot with noImage := true } } 0x8004).causes (.main gField 2) = true :=
    leafIsSet_raise_main _ _ (by decide) _ _
  generalize alRefuse { s with dev := upFrom d, boot := { s.boot with noImage := true } } 0x8004 = t at only leaf
  dsimp only
  rw [only.dev, only.boot]
  exact ⟨rfl, rfl, rfl, rfl, rfl, leaf⟩

/-- What a command that runs `leaveCold` on its pins and supplies does. -/
theorem exec_leavesCold {i : Instr} {s : State} {d : Dev} (run : exec i s = .next (leaveCold { s with dev := d })) (same : d.testEn = s.dev.testEn) :
    (supplied d = false → exec i s = .next { s with dev := d }) ∧
    (supplied d = true → s.dev.testEn = false → exec i s = .next { s with dev := upFrom d }) ∧
    (supplied d = true → s.dev.testEn = true → Completes i s (fun t => t.dev.state = .boot ∧ t.dev.dc = 0 ∧ t.dev.alError = true ∧
      t.dev.alCode = 0x8004 ∧ t.boot = { s.boot with noImage := true } ∧ leafIsSet t.causes (.main gField 2) = true)) := by
  refine ⟨fun h => ?_, fun h ht => ?_, fun h ht => ⟨_, run.trans ?_, alRefuse_boots_nothing s d⟩⟩
  · rw [run, leaveCold_held h]
  · rw [run, leaveCold_boots h (same.trans ht)]
  · rw [leaveCold_test h (same.trans ht)]

/-- The device as a rail that comes back leaves it. -/
def railBack (d : Dev) (r : Rail) : Dev :=
  let out := d.railsOut.filter (fun x => decide (x ≠ r))
  { d with railsOut := out, railReset := d.railReset && !out.isEmpty }

theorem supplyBack_eq (s : State) (r : Rail) : supplyBack s r =
    if supplied (railBack s.dev r) && !supplied s.dev then leaveCold { s with dev := railBack s.dev r } else { s with dev := railBack s.dev r } :=
  rfl

theorem supplyBack_supplied {s : State} {r : Rail} (h : supplied s.dev = true) : supplyBack s r = { s with dev := railBack s.dev r } := by
  simp [supplyBack_eq, h]

theorem supplyBack_unsupplied {s : State} {r : Rail} (h : supplied s.dev = false) :
    supplyBack s r = leaveCold { s with dev := railBack s.dev r } := by
  rw [supplyBack_eq, h]
  split
  · rfl
  · next hb => exact (leaveCold_held (by simpa using hb)).symm

theorem exec_supplyInLimits {s : State} {r : Rail} (h : r ∈ s.dev.railsOut) : exec (.supplyInLimits r) s = .next (supplyBack s r) :=
  congrArg Host.Outcome.next (if_pos (List.contains_iff_mem.2 h))

/-! ### RESET_N (spec/14 R367) -/

/-- The device as RESET_N finds it after the cold reset of everything else. -/
def heldByResetN (d e : Dev) (now : Nat) : Dev :=
  { e with
    state := .boot, dc := d.dc, dcOffset := d.dcOffset, drift := d.drift, driftAt := d.driftAt, driftBadAt := d.driftBadAt
    dcSynced := d.dcSynced, thermTrip := d.thermTrip, stateTime := now }

theorem resetAssert_supplied {s : State} (h : supplied s.dev = true) : let c := coldReset { s with dev := { s.dev with resetLow := true } }
    resetAssert s = { c with dev := heldByResetN s.dev c.dev s.now } :=
  if_neg (by simp [h])

/-- RESET_N low: as the cold reset, but for the clock, its settings and the trip latch. -/
theorem resetAssert_keeps {s : State} (h : supplied s.dev = true) : let t := resetAssert s
    t.dev.resetLow = true ∧ t.dev.state = .boot ∧ t.dev.dc = s.dev.dc ∧ t.dev.thermTrip = s.dev.thermTrip ∧ t.dev.bypassPin = false ∧
    t.cells = [] ∧ t.ctxs = [] ∧ t.queues = [] ∧ t.jobs = [] ∧ t.fabric = {} ∧ t.causes = {} ∧ t.power.valid = false ∧ (∀ i, t.sensor i = 0) ∧
    t.boot.flash = s.boot.flash ∧ t.boot.rollback = s.boot.rollback := by
  rw [resetAssert_supplied h]
  exact ⟨rfl, rfl, rfl, rfl, rfl, rfl, rfl, rfl, rfl, rfl, rfl, rfl, fun _ => rfl, rfl, rfl⟩

theorem resetAssert_unsupplied {s : State} (h : supplied s.dev = false) : resetAssert s = { s with dev := { s.dev with resetLow := true } } := by
  simp [resetAssert, h]

/-! ### Warm restarts (spec/09 R250, spec/10 R266, R270, spec/11 R300) -/

theorem startRestart_idle {s : State} {r : Nat} (h : powered s = false ∨ s.power.pstate = 3 ∨ s.boot.noImage = true) : startRestart s r = s := by
  rcases h with h | h | h <;> simp [startRestart, h]

/-- While THERM_TRIP_N is asserted a restart waits; the first reason stands. -/
theorem startRestart_held {s : State} {r : Nat} (hp : powered s = true) (hs : s.power.pstate ≠ 3) (hi : s.boot.noImage = false)
    (ht : s.dev.thermTrip = true) : startRestart s r =
      { s with dev := { s.dev with restartHeld := true, heldReason := if s.dev.restartHeld then s.dev.heldReason else r } } := by
  simp [startRestart, hp, hs, hi, ht]

theorem writeWarm_wrongState {s : State} (h : alwaysState s = false) (v : Nat) : writeWarm s v = answer s wrongState := by simp [writeWarm, h]

theorem writeWarm_outOfRange {s : State} (h : alwaysState s = true) {v : Nat} (hv : 1 < v) : writeWarm s v = answer s outOfRange := by
  simp [writeWarm, h, hv]

theorem writeWarm_zero {s : State} (h : alwaysState s = true) : writeWarm s 0 = answer s 0 := by simp [writeWarm, h, okCode]

theorem writeWarm_one {s : State} (h : alwaysState s = true) : writeWarm s 1 = startRestart (answer s 0) 5 := by
  simp [writeWarm, h, okCode]

/-- Settles O49: every event that ends the cold reset runs `leaveCold`, and every cause of a warm restart runs `startRestart`. -/
theorem coldAndWarmResets : Obligations.ColdAndWarmResets := by
  unfold Obligations.ColdAndWarmResets
  refine ⟨⟨fun s => ⟨_, rfl, coldlyReset_coldReset s _, rfl, rfl, rfl, rfl⟩, fun s => ⟨_, rfl, coldlyReset_coldReset s _, rfl, rfl⟩,
    fun r s => ⟨_, rfl, coldlyReset_coldReset s _, (mem_railsOut _ _).1, rfl, (mem_railsOut _ _).2⟩,
    fun s => ⟨supplied_iff, ?porHigh, ?porLow, ?clockRuns, ?clockStops, ?railIn, ?railOut⟩, fun s => ⟨?resetOff, ?resetOn, rfl⟩⟩,
    fun s r => ⟨startRestart_idle, ?held, ?restarts⟩, fun s => ⟨rfl, rfl⟩, fun v s => ⟨?wrongState, ?outOfRange, ?zero, ?one⟩⟩
  case porHigh => exact fun h => congrArg Host.Outcome.next (if_pos (by simp [h]))
  case porLow => exact fun h => exec_leavesCold (congrArg Host.Outcome.next (if_neg (by simp [h]))) rfl
  case clockRuns => exact fun h => congrArg Host.Outcome.next (if_pos h)
  case clockStops => exact fun h => exec_leavesCold (congrArg Host.Outcome.next (if_neg (by simp [h]))) rfl
  case railIn => exact fun r h => congrArg Host.Outcome.next (if_neg (by simpa using h))
  case railOut =>
    exact fun r h => ⟨fun hs => (exec_supplyInLimits h).trans (congrArg Host.Outcome.next (supplyBack_supplied hs)),
      fun hs => exec_leavesCold ((exec_supplyInLimits h).trans (congrArg Host.Outcome.next (supplyBack_unsupplied hs))) rfl⟩
  case resetOff => exact fun h => congrArg Host.Outcome.next (resetAssert_unsupplied h)
  case resetOn => exact fun h => ⟨_, rfl, resetAssert_keeps h⟩
  case held =>
    intro hp hs hi ht
    rw [startRestart_held hp hs hi ht]
    exact ⟨rfl, rfl, fun hh => if_neg (by simp [hh])⟩
  case restarts =>
    intro hp hs hi ht
    rw [startRestart_restarts hp hs ht hi]
    exact warmlyRestarted_restartState s r
  case wrongState => exact fun h => congrArg Host.Outcome.next (writeWarm_wrongState h _)
  case outOfRange => exact fun h hv => congrArg Host.Outcome.next (writeWarm_outOfRange h hv)
  case zero =>
    rintro h rfl
    exact congrArg Host.Outcome.next (writeWarm_zero h)
  case one =>
    rintro h rfl
    exact congrArg Host.Outcome.next (writeWarm_one h)

end Sys2Proof.Machine

/-! SUPPORT. What is checked again and what is unloaded: a publication writes no cell, no job and, in FAULT, no device state; an unload
clears no fence (spec/08 R196, R216, spec/09 R236, spec/12 R327). -/

namespace Sys2Proof.Machine

open Sys2Proof.Safety

/-! ### Cells, jobs and device state as they were -/

/-- Cells, jobs and the device state are as they were. -/
structure SameWork (s t : State) : Prop where
  cells : t.cells = s.cells
  jobs : t.jobs = s.jobs
  state : t.dev.state = s.dev.state

theorem SameWork.refl (s : State) : SameWork s s := ⟨rfl, rfl, rfl⟩

theorem SameWork.after {s t u : State} (b : SameWork t u) (a : SameWork s t) : SameWork s u :=
  ⟨b.cells.trans a.cells, b.jobs.trans a.jobs, b.state.trans a.state⟩

theorem sameWork_foldl {α : Type} {f : State → α → State} (h : ∀ s a, SameWork s (f s a)) (l : List α) (s : State) : SameWork s (l.foldl f s) :=
  List.foldlRecOn (motive := SameWork s) l f (.refl s) fun t ht a _ => (h t a).after ht

/-- A fold that carries more than the state. -/
theorem sameWork_foldl_fst {α β : Type} {f : State × β → α → State × β} (h : ∀ p a, SameWork p.1 (f p a).1) (l : List α) (p : State × β) :
    SameWork p.1 (l.foldl f p).1 :=
  List.foldlRecOn (motive := fun q => SameWork p.1 q.1) l f (.refl p.1) fun q hq a _ => (h q a).after hq

theorem OnlyCauses.work {s t : State} (h : OnlyCauses s t) : SameWork s t := ⟨h.cells, h.jobs, by rw [h.dev]⟩

theorem sameWork_raise (s : State) (l : Leaf) (arg addr : Nat) : SameWork s (raise s l arg addr) := (raise_onlyCauses _ _ _ _).work

/-! ### Events and records -/

theorem sameWork_ringWrite (s : State) (ch a : Nat) (l : List Byte) : SameWork s (ringWrite s ch a l) := ⟨rfl, rfl, rfl⟩

theorem sameWork_commitQueue (s : State) (q : Nat) (x : Queue) : SameWork s (commitQueue s q x) := ⟨rfl, rfl, rfl⟩

theorem sameWork_landRaw (s : State) (q : Nat) (x : Queue) (r : List Byte) : SameWork s (landRaw s q x r) := by
  have closed : SameWork s (closeSecond s r) := by
    unfold closeSecond
    simp only
    split <;> exact ⟨rfl, rfl, rfl⟩
  exact (sameWork_commitQueue _ _ _).after ((sameWork_ringWrite _ _ _ _).after closed)

theorem sameWork_postEvent (s : State) (c code : Nat) (data : List Byte) : SameWork s (postEvent s c code data) := by
  unfold postEvent
  simp only
  split
  · exact .refl s
  · split
    · exact .refl s
    · split
      · exact sameWork_landRaw _ _ _ _
      · exact sameWork_commitQueue _ _ _

theorem sameWork_reportDropped (s : State) (c : Nat) : SameWork s (reportDropped s c) := by
  unfold reportDropped
  simp only
  split
  · split
    · exact .refl s
    · split
      · exact ⟨rfl, rfl, rfl⟩
      · split
        · exact (sameWork_postEvent _ _ _ _).after ⟨rfl, rfl, rfl⟩
        · exact ⟨rfl, rfl, rfl⟩
  · exact .refl s

theorem sameWork_dropSecond (s : State) (c : Nat) (r : RecIn) : SameWork s (dropSecond s c r) := by
  unfold dropSecond
  split
  · exact ⟨rfl, rfl, rfl⟩
  · exact .refl s

theorem sameWork_queueRecord (s : State) (c cq : Nat) (r : RecIn) : SameWork s (queueRecord s c cq r) := by
  unfold queueRecord
  split
  · exact sameWork_dropSecond s c r
  · split
    · exact sameWork_dropSecond s c r
    · split
      · exact sameWork_landRaw _ _ _ _
      · split
        · exact sameWork_commitQueue _ _ _
        · exact (sameWork_reportDropped _ _).after ((sameWork_raise _ _ _ _).after
            ((sameWork_commitQueue _ _ _).after (sameWork_dropSecond s c r)))

theorem sameWork_postRecord (s : State) (c : Nat) (r : RecIn) : SameWork s (postRecord s c r) := by
  have noted (r : RecIn) : SameWork s (notedRecord s c r) := by
    unfold notedRecord
    split
    · exact (sameWork_raise _ _ _ _).after ⟨rfl, rfl, rfl⟩
    · exact ⟨rfl, rfl, rfl⟩
  rw [postRecord_eq]
  exact (sameWork_queueRecord _ _ _ _).after (noted _)

theorem sameWork_draw (s : State) : SameWork s s.draw := ⟨rfl, rfl, rfl⟩

theorem sameWork_postJob (s : State) (j : Job) (status flags code : Nat) (b : Bool) : SameWork s (postJob s j status flags code b) :=
  (sameWork_draw _).after (sameWork_foldl (fun s _ => sameWork_postRecord s j.ctx _) _ s)

/-! ### A publication (spec/08 R216, spec/09 R236) -/

theorem sameWork_swapCell (s : State) (c old new : Nat) : SameWork s (swapCell s c old new) := by
  have written (x : Ctx) : SameWork s (s.setCtx c x) := ⟨rfl, rfl, rfl⟩
  unfold swapCell
  refine (sameWork_foldl (fun t p => ?_) _ _).after (written _)
  exact sameWork_postEvent _ _ _ _

theorem sameWork_moveSlot (s : State) (c old new : Nat) : SameWork s (moveSlot s c old new) :=
  sameWork_foldl (fun t d => sameWork_swapCell t d old new) _ s

theorem sameWork_replaceLost (s : State) (c : Nat) : SameWork s (replaceLost s c) := by
  refine sameWork_foldl (fun s k => sameWork_foldl (fun s i => ?_) _ s) _ s
  simp only
  split
  · exact .refl s
  · split
    · exact sameWork_moveSlot _ _ _ _
    · exact .refl s

theorem sameWork_resync (s : State) (c : Nat) : SameWork s (resync s c).1 := by
  refine sameWork_foldl_fst (fun p k => ?_) _ (s, true)
  unfold resyncOne
  simp only
  split
  · exact .refl _
  · split <;> exact ⟨rfl, rfl, rfl⟩

theorem sameWork_withdraw (s : State) (c why : Nat) (host : Bool) : SameWork s (withdraw s c why host) := by
  unfold withdraw
  simp only
  split
  · exact ⟨rfl, rfl, rfl⟩
  · exact (sameWork_raise _ _ _ _).after ((sameWork_postEvent _ _ _ _).after ⟨rfl, rfl, rfl⟩)

theorem sameWork_restore (s : State) (c : Nat) : SameWork s (restore s c) := by
  unfold restore
  simp only
  split
  · exact .refl s
  · exact (sameWork_postEvent _ _ _ _).after ⟨rfl, rfl, rfl⟩

theorem sameWork_modCtx (s : State) (c : Nat) (f : Ctx → Ctx) : SameWork s (s.modCtx c f) := ⟨rfl, rfl, rfl⟩

/-- The pages of a context that fits its stores are held. -/
theorem sameWork_reservePages (s : State) (c : Nat) (x : Ctx) (b : Bool) : SameWork s (if b then reservePages s c x else s) := by
  split
  · exact ⟨rfl, rfl, rfl⟩
  · exact .refl s

theorem sameWork_checkOne (host : Bool) (s : State) (c : Nat) (before : List Ctx) : SameWork s (checkOne host s c before).1 := by
  have replaced := sameWork_replaceLost s c
  have synced := (sameWork_resync (replaceLost s c) c).after replaced
  unfold checkOne
  extract_lets s₁ y s₂ s₃ s₄
  have timed : SameWork s s₃ := (sameWork_modCtx s₂ c _).after synced
  have paged : SameWork s s₄ := (sameWork_reservePages s₃ c _ _).after timed
  clear_value s₄
  split
  · exact (sameWork_withdraw _ _ _ _).after paged
  · exact (sameWork_restore _ _).after paged

theorem sameWork_wakeReserved (s : State) : SameWork s (wakeReserved s) := by
  refine sameWork_foldl (fun s z => ?_) _ s
  simp only
  split
  · exact ⟨rfl, rfl, rfl⟩
  · exact .refl s

/-- The check of each context, one class after another. -/
theorem sameWork_checkAll (host : Bool) (l : List Nat) (p : State × List Ctx) : SameWork p.1 (l.foldl (fun a c =>
    let y := checkOne host a.1 c a.2
    (y.1, if y.2 then a.2 ++ [y.1.ctx c] else a.2)) p).1 := by
  refine sameWork_foldl_fst (fun a c => ?_) l p
  dsimp only
  exact sameWork_checkOne host a.1 c a.2

/-- Checking again writes no cell and no job; the device settles last. -/
theorem recheck_settles (s : State) (host : Bool) : ∃ t, SameWork s t ∧ recheck s host = settleState t := by
  unfold recheck
  extract_lets r t
  have first : SameWork s r.1 := sameWork_checkAll host _ (s, [])
  have second : SameWork r.1 t := sameWork_foldl (fun s c => sameWork_checkOne host s c []) _ _
  exact ⟨_, (sameWork_wakeReserved t).after (second.after first), rfl⟩

theorem publish_settles (s : State) (host : Bool) : ∃ t, SameWork s t ∧ (publish s host = t ∨ publish s host = settleState t) := by
  unfold publish
  extract_lets f p q
  split
  · exact ⟨{ s with power := q }, ⟨rfl, rfl, rfl⟩, .inl rfl⟩
  · obtain ⟨t, work, settled⟩ := recheck_settles { s with power := q } (host || p.dirty || p.recheckDue)
    exact ⟨t, work.after ⟨rfl, rfl, rfl⟩, .inr settled⟩

theorem settleState_fault {s : State} (h : s.dev.state = .fault) : settleState s = s := by
  unfold settleState
  rw [h]

/-- In FAULT a publication leaves cells, jobs and the device. -/
theorem publish_fault {s : State} (h : s.dev.state = .fault) (host : Bool) : SameWork s (publish s host) := by
  obtain ⟨t, work, settled⟩ := publish_settles s host
  have state : t.dev.state = .fault := work.state.trans h
  rw [settleState_fault state, or_self] at settled
  rwa [settled]

/-! ### Fences through an unload -/

/-- No cell's fence is set or cleared. -/
def SameFences (s t : State) : Prop := ∀ g, (t.cell g).fence = (s.cell g).fence

theorem SameFences.refl (s : State) : SameFences s s := fun _ => rfl

theorem SameFences.after {s t u : State} (b : SameFences t u) (a : SameFences s t) : SameFences s u := fun g => (b g).trans (a g)

theorem sameFences_foldl {α : Type} {f : State → α → State} (h : ∀ s a, SameFences s (f s a)) (l : List α) (s : State) :
    SameFences s (l.foldl f s) :=
  List.foldlRecOn (motive := SameFences s) l f (.refl s) fun t ht a _ => (h t a).after ht

theorem SameFences.of_cells {s t : State} (h : t.cells = s.cells) : SameFences s t := fun g => by
  unfold State.cell
  rw [h]

theorem SameWork.fences {s t : State} (h : SameWork s t) : SameFences s t := .of_cells h.cells

theorem sameFences_setCell {s : State} {g : Nat} {c : CellState} (h : c.fence = (s.cell g).fence) : SameFences s (s.setCell g c) := by
  intro k
  by_cases e : k = g
  · subst e
    rw [setCell_cell, h]
  · rw [setCell_cell_other _ _ _ e]

theorem sameFences_sendCmd {act : State → State} (h : ∀ s, SameFences s (act s)) (s : State) (t n : Nat) (x : TackCmd) :
    SameFences s (sendCmd s t n x act) := by
  unfold sendCmd
  split
  · unfold enqueueCmd
    simp only
    split <;> exact .of_cells rfl
  · exact (h _).after (.of_cells rfl)

theorem sameFences_haltRequest (s : State) (g : Nat) : SameFences s (haltRequest s g) := by
  unfold haltRequest
  simp only
  split
  · exact .refl s
  · split <;> exact sameFences_setCell rfl

theorem sameFences_haltCellOf (s : State) (g id : Nat) : SameFences s (haltCellOf s g id) := by
  unfold haltCellOf
  split
  · split
    · exact sameFences_setCell rfl
    · exact sameFences_haltRequest s g
  · exact .refl s

theorem sameFences_haltJob (s : State) (j : Job) : SameFences s (haltJob s j) := by
  refine sameFences_foldl (fun s g => ?_) _ s
  split
  · exact sameFences_sendCmd (fun u => sameFences_haltCellOf u g j.id) _ _ _ _
  · exact .refl s

theorem sameFences_releaseJob (s : State) (j : Job) : SameFences s (releaseJob s j) := by
  refine sameFences_foldl (fun s g => ?_) _ s
  split
  · exact sameFences_setCell rfl
  · exact .refl s

theorem sameFences_creditRun (s : State) (j : Job) (t : Nat) : SameFences s (creditRun s j t) := .of_cells rfl
theorem sameFences_dropJob (s : State) (id : Nat) : SameFences s (dropJob s id) := .of_cells rfl
theorem sameFences_modJob (s : State) (id : Nat) (f : Job → Job) : SameFences s (s.modJob id f) := .of_cells rfl

theorem sameFences_credited (s : State) (j : Job) : SameFences s (creditRun (releaseJob s j) j s.now) :=
  (sameFences_creditRun _ _ _).after (sameFences_releaseJob s j)

theorem sameFences_settleJob (s : State) (id : Nat) : SameFences s (settleJob s id) := by
  unfold settleJob
  split
  · exact .refl s
  · split
    · exact .refl s
    · split
      · exact (sameFences_dropJob _ _).after (sameFences_credited _ _)
      · split
        · exact (sameFences_modJob _ _ _).after (sameFences_credited _ _)
        · exact .refl s

theorem sameFences_abandonJob (s : State) (id : Nat) : SameFences s (abandonJob s id) := by
  unfold abandonJob
  split
  · exact .refl s
  · exact (sameFences_settleJob _ _).after ((sameFences_modJob _ _ _).after (sameFences_haltJob _ _))

theorem sameFences_unloadJobs (s : State) (c : Nat) : SameFences s (unloadJobs s c) := by
  refine sameFences_foldl (fun s j => ?_) _ s
  split
  · exact .refl s
  · exact (sameFences_abandonJob _ _).after (sameWork_postJob _ _ _ _ _ _).fences

theorem packageFreed_cells (s : State) (x : Ctx) : (packageFreed s x).cells = s.cells := by
  unfold packageFreed
  split
  · unfold freeLines rewritten
    simp only
    split <;> rfl
  · rfl

theorem unmapOwner_cells (s : State) (owner : Nat) : (unmapOwner s owner).cells = s.cells :=
  List.foldlRecOn (motive := fun t : State => t.cells = s.cells) _ _ rfl fun t ht ch _ => by
    simp only
    split
    · exact ht
    · exact ht

/-- What the maps lose with a context. -/
def mapPagesFreed (s : State) (c : Nat) : State :=
  let s := { s with fabric := { s.fabric with
    mapPages := s.fabric.mapPages.map (fun (q : Nat × List (Nat × Nat)) => (q.1, q.2.filter (fun p => p.1 != c))) } }
  { s with fabric := { s.fabric with mapPages := s.fabric.mapPages.filter (fun q => !q.2.isEmpty) } }

theorem unloadCtx_eq (s : State) (c reason : Nat) : ∃ y, unloadCtx s c reason =
    let t := postEvent (unloadJobs s c) c evUnloaded [BitVec.ofNat 8 reason]
    (unmapOwner (mapPagesFreed (packageFreed t (t.ctx c)) c) c).setCtx c y := ⟨_, rfl⟩

/-- An unload sets and clears no fence. -/
theorem sameFences_unloadCtx (s : State) (c reason : Nat) : SameFences s (unloadCtx s c reason) := by
  obtain ⟨y, unloaded⟩ := unloadCtx_eq s c reason
  have posted := (sameWork_postEvent (unloadJobs s c) c evUnloaded [BitVec.ofNat 8 reason]).fences.after (sameFences_unloadJobs s c)
  rw [unloaded]
  generalize postEvent (unloadJobs s c) c evUnloaded [BitVec.ofNat 8 reason] = t at posted
  have freed : (unmapOwner (mapPagesFreed (packageFreed t (t.ctx c)) c) c).cells = t.cells :=
    (unmapOwner_cells _ _).trans (packageFreed_cells t (t.ctx c))
  exact SameFences.after (.of_cells freed) posted

/-! ### FAULT (spec/12 R327) -/

/-- Every cell that a step of a fold fences is fenced at its end, and every cell that was. -/
theorem foldl_fenced {f : State → Nat → State} (same : ∀ s g, ((f s g).cell g).fence = true)
    (other : ∀ s g h, h ≠ g → (f s g).cell h = s.cell h) (l : List Nat) (s : State) (g : Nat) (h : g ∈ l ∨ (s.cell g).fence = true) :
    ((l.foldl f s).cell g).fence = true := by
  induction l generalizing s with
  | nil => exact h.resolve_left (by simp)
  | cons k l ih =>
    refine ih (f s k) ?_
    by_cases e : g = k
    · subst e
      exact .inr (same s g)
    · rw [other s k g e]
      exact h.imp_left fun hg => (List.mem_cons.1 hg).resolve_left e

theorem faultUnloaded_fenced (s : State) {g : Nat} (hg : g < 64) : ((faultUnloaded s).cell g).fence = true := by
  unfold faultUnloaded
  refine (sameFences_foldl (fun t c => sameFences_unloadCtx t c 1) _ _ g).trans ?_
  refine foldl_fenced (fun t k => ?_) (fun t k h e => ?_) _ _ g (.inl (List.mem_range.2 hg))
  · rw [modCell_same]
  · exact modCell_other _ _ _ e

theorem slotsIdle_cells (l : List Nat) (s : State) : (slotsIdle l s).cells = s.cells :=
  List.foldlRecOn (motive := fun t : State => t.cells = s.cells) l _ rfl fun _ ht _ _ => ht

/-- What FAULT ends after the contexts: jobs, slots and waiting transfers. -/
def faultCleared (s : State) : State := busesFreed (slotsIdle (List.range 32) (faultUnled s))

theorem faultCleared_keeps (s : State) : (faultCleared s).cells = s.cells ∧ (faultCleared s).jobs = [] := by
  have cells := slotsIdle_cells (List.range 32) (faultUnled s)
  obtain ⟨jobs, -, -⟩ := slotsIdle_keeps (List.range 32) (faultUnled s)
  unfold faultCleared busesFreed
  generalize slotsIdle (List.range 32) (faultUnled s) = t at cells jobs
  exact ⟨cells, jobs⟩

/-- In FAULT every cell is fenced and no job is left. -/
theorem enterFault_stops (s : State) : (enterFault s).dev.state = .fault ∧ (enterFault s).jobs = [] ∧
    ∀ g, g < 64 → ((enterFault s).cell g).fence = true := by
  have fenced := fun g (hg : g < 64) => faultUnloaded_fenced s hg
  obtain ⟨clearedCells, clearedJobs⟩ := faultCleared_keeps (faultUnloaded s)
  have entered := faultEntered_faultOf (quarterLeaves (faultCleared (faultUnloaded s)))
  have leaves := quarterLeaves_only (faultCleared (faultUnloaded s))
  rw [enterFault_eq]
  change let u := faultEntered (quarterLeaves (faultCleared (faultUnloaded s)))
    (publish u false).dev.state = .fault ∧ (publish u false).jobs = [] ∧ ∀ g, g < 64 → ((publish u false).cell g).fence = true
  generalize faultEntered (quarterLeaves (faultCleared (faultUnloaded s))) = u at entered
  have enteredCells : u.cells = (faultUnloaded s).cells := by rw [entered.1, leaves.cells, clearedCells]
  have enteredJobs : u.jobs = [] := by rw [entered.1, leaves.jobs, clearedJobs]
  obtain ⟨-, state, -, -⟩ := entered
  obtain ⟨cells, jobs, published⟩ := publish_fault state false
  refine ⟨published.trans state, jobs.trans enteredJobs, fun g hg => ?_⟩
  unfold State.cell at fenced ⊢
  rw [cells, enteredCells]
  exact fenced g hg

end Sys2Proof.Machine

/-! SUPPORT. Sensors, the trip and the regulators' telemetry (spec/09 R234, R241, R242, R249, R250, spec/14 R362, R367). -/

namespace Sys2Proof.Machine

open Sys2Proof.Safety

/-! ### Sensor reports (spec/09 R242, R249) -/

theorem takeReport_sensor (s : State) (i : Nat) (v : Int) : (takeReport s i v).sensor i = v := lookup_put_same _ _ _ _

theorem takeReport_sensor_other (s : State) {i j : Nat} (v : Int) (h : j ≠ i) : (takeReport s i v).sensor j = s.sensor j :=
  lookup_put_other _ _ _ h

theorem takeReport_reported (s : State) (i : Nat) (v : Int) : i ∈ (takeReport s i v).power.reported := by
  unfold takeReport
  simp only
  split
  · next h => exact List.contains_iff_mem.1 h
  · simp

theorem takeReport_failing (s : State) (i : Nat) (v : Int) : i ∉ (takeReport s i v).power.failing := by simp [takeReport]

theorem sensorReport_trips (s : State) (i : Nat) {v : Int} (h : 1150 ≤ v) : sensorReport s i v = doTrip (takeReport s i v) i := if_pos h

theorem sensorReport_asleep {s : State} (i : Nat) {v : Int} (h : v < 1150) (hp : s.power.pstate ≠ 0) : sensorReport s i v = takeReport s i v :=
  (if_neg (not_le.mpr h)).trans (if_pos hp)

theorem foldl_allQuarters (f : State → Nat → State) (s : State) : allQuarters.foldl f s = f (f (f (f s 0) 1) 2) 3 := rfl

theorem sensorReport_awake {s : State} (i : Nat) {v : Int} (h : v < 1150) (hp : s.power.pstate = 0) : sensorReport s i v =
    clampSetpoint (clampSetpoint (clampSetpoint (clampSetpoint (becomeValid (reviewThermal (takeReport s i v) false)) 0) 1) 2) 3 := by
  have awake : (takeReport s i v).power.pstate = 0 := hp
  unfold sensorReport
  simp only
  rw [if_neg (not_le.mpr h), if_neg (not_not.mpr awake), foldl_allQuarters]

theorem exec_trip_trips {s : State} {i : SensorNo} {v : BitVec 16} (h : 1150 ≤ v.toInt) (hs : supplied s.dev = true) :
    exec (.trip i v) s = .next (doTrip (takeReport s i.val v.toInt) i.val) :=
  congrArg Host.Outcome.next (if_pos (by simp [h, hs]))

theorem exec_trip_passes {s : State} {i : SensorNo} {v : BitVec 16} (h : v.toInt < 1150 ∨ supplied s.dev = false) :
    exec (.trip i v) s = .next s := by
  refine congrArg Host.Outcome.next (if_neg ?_)
  simp only [Bool.and_eq_true, decide_eq_true_eq, not_and, not_le]
  exact fun hs => h.resolve_right (by simp [hs])

/-! ### The trip (spec/09 R250, spec/14 R367) -/

/-- THERM_TRIP_N is asserted and the trip counted. -/
def tripped (s : State) : State :=
  { s with dev := { s.dev with thermTrip := true }, power := { s.power with trips := satAdd 32 s.power.trips 1 } }

theorem doTrip_again {s : State} (h : s.dev.thermTrip = true) (i : Nat) : doTrip s i = s := if_pos h

theorem doTrip_boot {s : State} (h : s.dev.thermTrip = false) (hb : s.dev.state = .boot) (i : Nat) :
    doTrip s i = raise (tripped (tripInBoot s)) (.main gThermal 4) i 0 := by
  simp [doTrip, h, hb, tripped]

theorem doTrip_stands {s : State} (h : s.dev.thermTrip = false) (hb : s.dev.state ≠ .boot) (i : Nat) :
    doTrip s i = raise (tripped (enterStandby s)) (.main gThermal 4) i 0 := by
  simp [doTrip, h, hb, tripped]

/-- What the trip holds in BOOT. -/
theorem tripInBoot_keeps (s : State) : (tripped (tripInBoot s)).dev =
      (if s.dev.restartReason = 0 then { s.dev with thermTrip := true, heldInReset := true }
       else { s.dev with thermTrip := true, restartHeld := true, heldReason := s.dev.restartReason }) ∧
    (tripped (tripInBoot s)).boot = s.boot ∧ (tripped (tripInBoot s)).power.trips = satAdd 32 s.power.trips 1 := by
  unfold tripInBoot
  split <;> exact ⟨rfl, rfl, rfl⟩

/-- What the trip leaves of a device that ran. -/
theorem trippedStandby_keeps (s : State) : let t := tripped (enterStandby s)
    t.dev.thermTrip = true ∧ t.power.pstate = 2 ∧ t.jobs = [] ∧ t.power.trips = satAdd 32 s.power.trips 1 ∧
    (∀ g, g < 64 → (t.cell g).st = .idle ∧ (t.cell g).store = (s.cell g).store) ∧ t.ctxs = s.ctxs := by
  obtain ⟨t, only, cell, stood⟩ := enterStandby_eq s
  rw [stood]
  have stored (g : Nat) : (tripped (stoodBy t)).cell g = t.cell g := rfl
  have kept : t.power.trips = s.power.trips ∧ t.ctxs = s.ctxs := by
    rw [only]
    exact ⟨rfl, rfl⟩
  obtain ⟨trips, ctxs⟩ := kept
  refine ⟨rfl, rfl, rfl, congrArg (satAdd 32 · 1) trips, fun g hg => ?_, ctxs⟩
  rw [stored, cell g hg]
  exact ⟨rfl, rfl⟩

/-! ### Failing sensors, the hold of the floor and the thermal model (spec/09 R236, R242, R249) -/

theorem exec_sensorFail_again {i : SensorNo} {s : State} (h : i.val ∈ s.power.failing) : exec (.sensorFail i) s = .next s :=
  congrArg Host.Outcome.next (if_pos (List.contains_iff_mem.2 h))

theorem exec_sensorFail {i : SensorNo} {s : State} (h : i.val ∉ s.power.failing) : exec (.sensorFail i) s =
    .next (reviewThermal (raise { s with power := { s.power with failing := s.power.failing ++ [i.val] } } (.main gThermal 1) i.val 0) false) :=
  congrArg Host.Outcome.next (if_neg (by simpa using h))

theorem holdEnd_idle {s : State} (h : s.power.overFloor = none ∨ s.power.coolSince = none ∨ overLimit s ≠ []) : holdEnd s = s := by
  unfold holdEnd
  split
  · next hr ht =>
    have hot : overLimit s ≠ [] := (h.resolve_left (by simp [hr])).resolve_left (by simp [ht])
    exact if_pos (.inr (by simpa using hot))
  · rfl

theorem holdEnd_early {s : State} {r t : Nat} (hr : s.power.overFloor = some r) (ht : s.power.coolSince = some t) (h : s.now < t + 1000000000) :
    holdEnd s = s := by
  simp [holdEnd, hr, ht, h]

theorem holdEnd_due {s : State} {r t : Nat} (hr : s.power.overFloor = some r) (ht : s.power.coolSince = some t) (h : t + 1000000000 ≤ s.now)
    (cool : overLimit s = []) : holdEnd s = publish { s with power := { s.power with overFloor := none } } false := by
  simp [holdEnd, hr, ht, not_lt.mpr h, cool]

/-- Entries that are put one after another. -/
theorem lookup_foldl_put {α : Type} [DecidableEq α] (d : α) (f : Nat → α) (l : List Nat) (t : Tab α) (i : Nat) :
    lookup d (l.foldl (fun t k => put d t k (f k)) t) i = if i ∈ l then f i else lookup d t i := by
  induction l generalizing t with
  | nil => simp
  | cons k l ih =>
    rw [List.foldl_cons, ih]
    by_cases e : i = k
    · subst e
      simp
    · simp [e, lookup_put_other d t (f k) e]

/-- The clusters whose sensor has reported. -/
def seeded (s : State) : List Nat := (List.range 16).filter (fun i => s.power.reported.contains i)

theorem mem_seeded (s : State) (i : Nat) : i ∈ seeded s ↔ i < 16 ∧ i ∈ s.power.reported := by simp [seeded]

theorem seeded_length_iff (s : State) : (seeded s).length = 16 ↔ ∀ i, i < 16 → i ∈ s.power.reported := by
  have all := List.length_filter_eq_length_iff (l := List.range 16) (p := fun i => s.power.reported.contains i)
  rw [List.length_range] at all
  simpa [seeded] using all

/-- The quarters' rails are written. -/
def withRails (s : State) (t : Tab QPower) : State := { s with power := { s.power with quarter := t } }

theorem foldl_setQpower_eq (f : State → Nat → QPower) (l : List Nat) (s : State) :
    ∃ t, l.foldl (fun u q => u.setQpower q (f u q)) s = withRails s t :=
  List.foldlRecOn (motive := fun u : State => ∃ t, u = withRails s t) l _ ⟨s.power.quarter, rfl⟩ fun u ⟨t, ht⟩ q _ =>
    ⟨put {} t q (f u q), by rw [State.setQpower, ht]; rfl⟩

/-- The thermal model one step ahead, before the quarters' forecasts. -/
def stepped (s : State) : State :=
  let n := if (seeded s).length = 16 then satAdd 32 s.power.predictions 1 else s.power.predictions
  { s with power := { s.power with
    model := (seeded s).foldl (fun t i => put 1050 t i (Config.thermalStep i (lookup 1050 s.power.model i) (lookup 0 s.power.clusterMw i)))
      s.power.model
    predictions := n, cold := decide (n < 2) } }

theorem predict_eq (s : State) : ∃ t, predict s = withRails (stepped s) t := by
  unfold predict
  extract_lets p l m n t
  obtain ⟨q, hq⟩ := foldl_setQpower_eq (fun s q => { s.qpower q with
    derateSoon := (List.range 4).any (fun i => p.reported.contains (4 * q + i) && decide (1000 ≤ lookup 1050 m (4 * q + i))) }) allQuarters t
  exact ⟨q, hq⟩

/-- What a prediction leaves: the count, the COLD flag, the clusters' temperatures. -/
theorem predict_keeps (s : State) : let t := predict s
    ((∀ i, i < 16 → i ∈ s.power.reported) → t.power.predictions = satAdd 32 s.power.predictions 1) ∧
    (∀ i, i < 16 → i ∉ s.power.reported → t.power.predictions = s.power.predictions) ∧
    (t.power.cold = true ↔ t.power.predictions < 2) ∧ t.cells = s.cells ∧ t.ctxs = s.ctxs ∧
    ∀ i, i < 16 → lookup 1050 t.power.model i = if i ∈ s.power.reported then
      Config.thermalStep i (lookup 1050 s.power.model i) (lookup 0 s.power.clusterMw i) else lookup 1050 s.power.model i := by
  obtain ⟨rails, predicted⟩ := predict_eq s
  dsimp only
  rw [predicted]
  refine ⟨fun all => if_pos ((seeded_length_iff s).2 all), fun i hi hr => if_neg fun full => hr ((seeded_length_iff s).1 full i hi),
    decide_eq_true_iff, rfl, rfl, fun i hi => ?_⟩
  refine (lookup_foldl_put 1050 _ (seeded s) s.power.model i).trans ?_
  simp [mem_seeded, hi]

/-! ### The end of the trip (spec/09 R250) -/

/-- THERM_TRIP_N is released, and what it held goes on. -/
def tripOver (s : State) : State := { s with dev := { s.dev with thermTrip := false, heldInReset := false, restartHeld := false } }

/-- Every sensor has reported since the trip and reads below 100 degC. -/
def AllCold (s : State) : Prop := ∀ i, i < 26 → i ∈ s.power.reported ∧ sensorRead s i < 1000

theorem allCold_iff (s : State) :
    (List.range 26).all (fun i => s.power.reported.contains i && decide (sensorRead s i < 1000)) = true ↔ AllCold s := by
  simp [AllCold]

theorem releaseTrip_stays {s : State} (h : s.dev.thermTrip = false ∨ ¬ AllCold s) : releaseTrip s = s := by
  refine if_pos ?_
  rw [Bool.or_eq_true, Bool.not_eq_true', Bool.not_eq_true', ← Bool.not_eq_true ((List.range 26).all _), allCold_iff]
  exact h

theorem releaseTrip_eq {s : State} (ht : s.dev.thermTrip = true) (h : AllCold s) : releaseTrip s =
    if s.dev.heldInReset || s.dev.resetLow then tripOver s else startRestart (tripOver s) (if s.dev.restartHeld then s.dev.heldReason else 4) := by
  refine if_neg ?_
  rw [(allCold_iff s).2 h, ht]
  decide

/-! ### Quarter regulators (spec/09 R234, R241) -/

/-- The rail stands far from its setpoint. -/
def railFar (x : QPower) (r : RegulatorRead) : Bool :=
  if x.setpoint = 0 then decide (r.mv < 600 ∨ 750 < r.mv) else decide (x.setpoint + 30 < r.mv ∨ r.mv + 30 < x.setpoint)

/-- A quarter's rail with an answer, or the want of one, noted. -/
def railRead (s : State) (q : Nat) (r : RegulatorRead) : QPower :=
  { s.qpower q with
    readMv := if r.valid then r.mv else (s.qpower q).readMv, readMa := if r.valid then r.ma else (s.qpower q).readMa
    noAnswer := if r.valid then 0 else (s.qpower q).noAnswer + 1
    bad := if r.valid && decide ((s.qpower q).setAt + 60000 ≤ s.now) && railFar (s.qpower q) r then (s.qpower q).bad + 1 else 0 }

theorem checkQuarter_lost {s : State} {q : Nat} (h : q ∈ s.fabric.lost) (r : RegulatorRead) : checkQuarter s q r = s :=
  if_pos (List.contains_iff_mem.2 h)

theorem checkQuarter_eq {s : State} {q : Nat} (h : q ∉ s.fabric.lost) (r : RegulatorRead) : checkQuarter s q r =
    if (r.valid && (r.fault || decide (930 < r.mv))) || decide (3 ≤ (railRead s q r).noAnswer ∨ 3 ≤ (railRead s q r).bad) then
      loseQuarter (s.setQpower q (railRead s q r)) q
    else if r.valid then correct (s.setQpower q (railRead s q r)) q (r.mv * r.ma / 1000)
    else (s.setQpower q (railRead s q r)).setQpower q { railRead s q r with sum := 0 } :=
  if_neg (by simpa using h)

theorem setQpower_setQpower (s : State) (q : Nat) (x y : QPower) : (s.setQpower q x).setQpower q y = s.setQpower q y := by
  simp only [State.setQpower, put_put]

theorem checkQuarter_fails {s : State} {q : Nat} {r : RegulatorRead} (h : q ∉ s.fabric.lost) (hv : r.valid = true)
    (hf : r.fault = true ∨ 930 < r.mv) : checkQuarter s q r = loseQuarter (s.setQpower q (railRead s q r)) q := by
  rw [checkQuarter_eq h, if_pos]
  simp [hv, hf]

/-- A rail near its setpoint with no estimate since the last answer: the answer is noted, and the correction stays. -/
theorem checkQuarter_near {s : State} {q : Nat} {r : RegulatorRead} (h : q ∉ s.fabric.lost) (hv : r.valid = true) (hf : r.fault = false)
    (hmv : r.mv ≤ 930) (hs : (s.qpower q).sum = 0) (near : railFar (s.qpower q) r = false) :
    checkQuarter s q r = s.setQpower q { s.qpower q with readMv := r.mv, readMa := r.ma, noAnswer := 0, bad := 0, sum := 0 } := by
  have read : railRead s q r = { s.qpower q with readMv := r.mv, readMa := r.ma, noAnswer := 0, bad := 0 } := by simp [railRead, hv, near]
  have stays : ¬ ((r.valid && (r.fault || decide (930 < r.mv))) || decide (3 ≤ (railRead s q r).noAnswer ∨ 3 ≤ (railRead s q r).bad)) = true := by
    simp [read, hf, not_lt.mpr hmv]
  rw [checkQuarter_eq h, if_neg stays, if_pos hv, read]
  unfold correct
  rw [setQpower_qpower, if_pos hs, setQpower_setQpower]

theorem railFar_near {x : QPower} {r : RegulatorRead} (h : (x.setpoint = 0 ∧ 600 ≤ r.mv ∧ r.mv ≤ 750) ∨
    (x.setpoint ≠ 0 ∧ r.mv ≤ x.setpoint + 30 ∧ x.setpoint ≤ r.mv + 30)) : railFar x r = false := by
  unfold railFar
  split
  · exact decide_eq_false (by omega)
  · exact decide_eq_false (by omega)

theorem checkQuarter_silent {s : State} {q : Nat} {r : RegulatorRead} (h : q ∉ s.fabric.lost) (hv : r.valid = false)
    (hn : (s.qpower q).noAnswer + 1 < 3) :
    checkQuarter s q r = s.setQpower q { s.qpower q with noAnswer := (s.qpower q).noAnswer + 1, bad := 0, sum := 0 } := by
  have read : railRead s q r = { s.qpower q with noAnswer := (s.qpower q).noAnswer + 1, bad := 0 } := by simp [railRead, hv]
  have stays : ¬ ((r.valid && (r.fault || decide (930 < r.mv))) || decide (3 ≤ (railRead s q r).noAnswer ∨ 3 ≤ (railRead s q r).bad)) = true := by
    simp [read, hv]
    omega
  rw [checkQuarter_eq h, if_neg stays, if_neg (by simp [hv]), read, setQpower_setQpower]

/-! ### Fixed regulators (spec/14 R362) -/

/-- A fixed rail's answers as one more leaves them. -/
def fixedNoted (s : State) (i silent bad : Nat) : State :=
  { s with power := { s.power with railSilent := put 0 s.power.railSilent i silent, railBad := put 0 s.power.railBad i bad } }

/-- The rail stands outside its limits of 3 %. -/
def fixedFar (i : Nat) (r : RegulatorRead) : Bool :=
  decide (103 * (fixedRails.getD i (0, 0)).2 < 100 * r.mv ∨ 100 * r.mv < 97 * (fixedRails.getD i (0, 0)).2)

theorem checkFixed_eq (s : State) (i : Nat) (r : RegulatorRead) :
    let silent := if r.valid then 0 else lookup 0 s.power.railSilent i + 1
    let bad := if r.valid && fixedFar i r then lookup 0 s.power.railBad i + 1 else 0
    checkFixed s i r = if (r.valid && r.fault) || decide (3 ≤ silent ∨ 3 ≤ bad) then
      enterFaultOnce (raise (fixedNoted s i silent bad) (.main gPower 0) (fixedRails.getD i (0, 0)).1 0) else fixedNoted s i silent bad := rfl

/-- A fixed rail that reports a fault raises the rails' leaf, and FAULT is entered once. -/
theorem checkFixed_fails {s : State} {i : Nat} {r : RegulatorRead} (hv : r.valid = true) (hf : r.fault = true) :
    ∃ u, checkFixed s i r = (if s.dev.state = .fault then u else enterFault u) ∧ leafIsSet u.causes (.main gPower 0) = true ∧ u.cells = s.cells := by
  rw [checkFixed_eq, if_pos (by simp [hv, hf])]
  generalize noted : fixedNoted s i _ _ = t
  have cells : t.cells = s.cells := by rw [← noted]; rfl
  have dev : t.dev = s.dev := by rw [← noted]; rfl
  have only := raise_onlyCauses t (.main gPower 0) (fixedRails.getD i (0, 0)).1 0
  refine ⟨_, ?_, leafIsSet_raise_main t gPower (by decide) _ _, only.cells.trans cells⟩
  rw [enterFaultOnce, only.dev, dev]

theorem checkFixed_within {s : State} {i : Nat} {r : RegulatorRead} (hv : r.valid = true) (hf : r.fault = false)
    (low : 97 * (fixedRails.getD i (0, 0)).2 ≤ 100 * r.mv) (high : 100 * r.mv ≤ 103 * (fixedRails.getD i (0, 0)).2) :
    checkFixed s i r = fixedNoted s i 0 0 := by
  have near : fixedFar i r = false := decide_eq_false (by omega)
  simp [checkFixed_eq, hv, hf, near]

/-- Settles O46: reports, the trip, its end and the regulators' answers, each by the case its reading falls in. -/
theorem sensorsTripAndTelemetry : Obligations.SensorsTripAndTelemetry := by
  unfold Obligations.SensorsTripAndTelemetry
  refine ⟨⟨fun i v s => ⟨takeReport_sensor s _ _, takeReport_reported s _ _, takeReport_failing s _ _, fun j e => takeReport_sensor_other s _ e,
      ?trips, exec_trip_trips, exec_trip_passes, ?asleep, ?awake⟩,
    fun i s => ⟨fun h => doTrip_again h i, ?tripBoot, ?tripStands⟩, fun i s => ⟨exec_sensorFail_again, ?sensorFails⟩,
    fun s => ⟨?holdIdle, ?holdEarly, ?holdDue⟩, fun s => ⟨_, rfl, predict_keeps s⟩, fun s => ⟨?hot, ?heldReset, ?restarts⟩⟩,
    fun s => rfl, fun r0 r1 r2 r3 s => rfl, fun f s => rfl,
    fun q r s => ⟨fun h => checkQuarter_lost h r, ?fails, ?near, checkQuarter_silent⟩, fun i r s _ hv hf => checkFixed_fails hv hf,
    fun i r s _ hv hf low high => checkFixed_within hv hf low high, enterFault_stops⟩
  case trips => exact fun h => congrArg Host.Outcome.next (sensorReport_trips s _ h)
  case asleep => exact fun h hp => congrArg Host.Outcome.next (sensorReport_asleep _ h hp)
  case awake => exact fun h hp => congrArg Host.Outcome.next (sensorReport_awake _ h hp)
  case tripBoot =>
    intro h hb
    obtain ⟨dev, boot, trips⟩ := tripInBoot_keeps s
    have only := raise_onlyCauses (tripped (tripInBoot s)) (.main gThermal 4) i 0
    rw [doTrip_boot h hb]
    exact ⟨only.dev.trans dev, only.boot.trans boot, by rw [only.power]; exact trips, leafIsSet_raise_main _ _ (by decide) _ _⟩
  case tripStands =>
    intro h hb
    have kept := trippedStandby_keeps s
    have only := raise_onlyCauses (tripped (enterStandby s)) (.main gThermal 4) i 0
    have leaf := leafIsSet_raise_main (tripped (enterStandby s)) gThermal (b := 4) (by decide) i 0
    rw [doTrip_stands h hb]
    generalize tripped (enterStandby s) = t at kept only leaf
    obtain ⟨trip, pstate, jobs, trips, cells, ctxs⟩ := kept
    generalize raise t (.main gThermal 4) i 0 = u at only leaf
    refine ⟨?_, ?_, only.jobs.trans jobs, ?_, leaf, fun g hg => ?_, only.ctxs.trans ctxs⟩
    · rw [only.dev, trip]
    · rw [only.power, pstate]
    · rw [only.power, trips]
    · rw [only.cell]
      exact cells g hg
  case sensorFails =>
    intro h
    have only := raise_onlyCauses { s with power := { s.power with failing := s.power.failing ++ [i.val] } } (.main gThermal 1) i.val 0
    have leaf := leafIsSet_raise_main { s with power := { s.power with failing := s.power.failing ++ [i.val] } } gThermal (b := 1) (by decide) i.val 0
    refine ⟨_, exec_sensorFail h, ?_, leaf, only.cells⟩
    rw [only.power]
    exact List.mem_append_right _ (List.mem_singleton.2 rfl)
  case holdIdle => exact fun h => congrArg Host.Outcome.next (holdEnd_idle h)
  case holdEarly => exact fun r t hr ht h => congrArg Host.Outcome.next (holdEnd_early hr ht h)
  case holdDue => exact fun r t hr ht h cool => congrArg Host.Outcome.next (holdEnd_due hr ht h cool)
  case hot => exact fun h => congrArg Host.Outcome.next (releaseTrip_stays h)
  case heldReset =>
    exact fun ht h held => congrArg Host.Outcome.next ((releaseTrip_eq ht h).trans (if_pos (by simpa using held)))
  case restarts =>
    exact fun ht h held low => congrArg Host.Outcome.next ((releaseTrip_eq ht h).trans (if_neg (by simp [held, low])))
  case fails =>
    intro h hv hf
    refine ⟨_, checkQuarter_fails h hv hf, ?_, ?_, rfl⟩
    · rw [setQpower_qpower]
      exact if_pos hv
    · rw [setQpower_qpower]
      exact if_pos hv
  case near =>
    intro h hv hf hmv hs near
    rw [checkQuarter_near h hv hf hmv hs (railFar_near near), setQpower_qpower]
    exact ⟨rfl, rfl, rfl, rfl, fun k e => setQpower_qpower_other _ _ _ e⟩

end Sys2Proof.Machine

/-! SUPPORT. Setpoints between their bounds, throttling and hinted phases (spec/09 R233, R239, R246, R247). -/

namespace Sys2Proof.Machine

open Sys2Proof.Safety

/-! ### The bounds of a setpoint (spec/09 R233, R239) -/

theorem upperBound_ge (s : State) (q : Nat) : 550 ≤ upperBound s q := le_max_left _ _

theorem upperBound_grid (s : State) (q : Nat) : upperBound s q ≤ 900 ∧ upperBound s q % 5 = 0 := by
  unfold upperBound
  extract_lets vf t d
  generalize (if s.power.valid then 900 else max 550 vf) = v
  omega

theorem grid5_ge {v : Nat} (h : v ∈ grid5) : 550 ≤ v := by
  simp only [grid5, List.mem_map, List.mem_range] at h
  omega

theorem lowerBound_ge (s : State) (q : Nat) : 550 ≤ lowerBound s q := by
  have found (p : Nat → Bool) : 550 ≤ (grid5.find? p).getD 900 := by
    cases h : grid5.find? p with
    | none => simp
    | some v => exact grid5_ge (List.mem_of_find?_eq_some h)
  have below (b : Bool) : 550 ≤ if b then 550 else 600 := by
    split <;> omega
  unfold lowerBound
  extract_lets t lo hi need vf v
  have least : 550 ≤ v := by
    unfold v
    split
    · exact found _
    · exact below _
  clear_value v
  split
  · exact least.trans (le_max_left _ _)
  · exact least

/-- A quarter's lower bound on the grid, under its upper bound. -/
def lowestSetpoint (s : State) (q : Nat) : Nat := min (lowerBound s q / 5 * 5) (upperBound s q)

theorem lowestSetpoint_ge (s : State) (q : Nat) : 550 ≤ lowestSetpoint s q := by
  have low := lowerBound_ge s q
  have high := upperBound_ge s q
  unfold lowestSetpoint
  omega

theorem fitVoltage_ge (s : State) (q : Nat) {v : Nat} (room : Int) (h : 550 ≤ v) : 550 ≤ fitVoltage s q v room := by
  unfold fitVoltage
  cases found : grid5.reverse.find? _ with
  | none => exact h
  | some u => exact grid5_ge (List.mem_reverse.1 (List.mem_of_find?_eq_some found))

/-- A value that is put and kept is found whatever the default of the search. -/
theorem lookup_put_kept {α : Type} [DecidableEq α] (d e : α) (t : Tab α) (k j : Nat) {v : α} (h : v ≠ d) :
    lookup e (put d t k v) j = if j = k then v else lookup e t j := by
  unfold put
  rw [if_neg h]
  split
  · next same =>
    subst same
    exact lookup_insertKey_same e _ _ v (erase_keys t _)
  · next other => rw [lookup_insertKey_other e _ v other, lookup_erase_other e t other]

/-- What the headroom gives a quarter is a setpoint of the grid's range. -/
theorem headroomVoltages_ge (s : State) (q : Nat) : 550 ≤ lookup 550 (headroomVoltages s) q := by
  unfold headroomVoltages
  extract_lets live lb rest room
  refine List.foldlRecOn (motive := fun a : Tab Nat × Int => 550 ≤ lookup 550 a.1 q) live _ le_rfl fun a ha k _ => ?_
  have given : 550 ≤ if mixedQuarter s k then fitVoltage s k (lb k) a.2 else lb k := by
    split
    · exact fitVoltage_ge _ _ _ (lowestSetpoint_ge s k)
    · exact lowestSetpoint_ge s k
  dsimp only
  rw [lookup_put_kept 0 550 a.1 k q (by omega)]
  split
  · exact given
  · exact ha

/-! ### A setpoint that moves (spec/09 R246, R248) -/

theorem OnlyRails.quarterRate {s t : State} (h : OnlyRails s t) {q : Nat} (same : (t.qpower q).setpoint = (s.qpower q).setpoint) :
    quarterRate t q = quarterRate s q := by
  unfold Machine.quarterRate
  rw [same, h.quarterTemp]

/-- The quarter's rate once a command to the rail is sent is its rate once the paces have moved too. -/
theorem moveSetpoint_rate (s : State) (q v : Nat) : quarterRate (moveSetpoint s q v) q = quarterRate (sendSetpoint s q v) q := by
  have paced : OnlyRails (sendSetpoint s q v) (moveSetpoint s q v) := by
    rw [moveSetpoint_eq]
    exact onlyRails_ite (onlyRails_refl _) (setPace_only _ _)
  exact paced.quarterRate (moveSetpoint_sameRail s q v q).setpoint

theorem sendSetpoint_cells (s : State) (q v : Nat) : (sendSetpoint s q v).cells = s.cells := by
  obtain ⟨-, cells, -⟩ := sendSetpoint_keeps s q v
  exact cells

theorem sendSetpoint_cell (s : State) (q v g : Nat) : (sendSetpoint s q v).cell g = s.cell g := by
  unfold State.cell
  rw [sendSetpoint_cells]

/-- Whether the paces of the quarter's cells move with its setpoint. -/
def PacesMove (s : State) (q v : Nat) : Prop :=
  mst (quarterRate s q) ≠ 0 ∧ mst (quarterRate (moveSetpoint s q v) q) ≠ 0 ∧
    mst (quarterRate s q) ≠ mst (quarterRate (moveSetpoint s q v) q) ∧ s.power.hardPower = false

theorem moveSetpoint_still {s : State} {q v : Nat} (h : ¬ PacesMove s q v) : moveSetpoint s q v = sendSetpoint s q v := by
  unfold PacesMove at h
  obtain ⟨-, -, hard⟩ := sendSetpoint_keeps s q v
  rw [moveSetpoint_rate] at h
  rw [moveSetpoint_eq]
  refine if_pos ?_
  rw [hard]
  by_contra moves
  simp only [not_or, Bool.not_eq_true] at moves
  exact h moves

theorem moveSetpoint_cell {s : State} {q v : Nat} (h : PacesMove s q v) {g : Nat} (hg : g < 64) : (moveSetpoint s q v).cell g =
    { s.cell g with pace := keptPace q (mst (quarterRate s q)) (mst (quarterRate (moveSetpoint s q v) q)) g (s.cell g) } := by
  obtain ⟨old, new, differ, hard⟩ := h
  obtain ⟨-, -, sentHard⟩ := sendSetpoint_keeps s q v
  rw [moveSetpoint_rate] at new differ ⊢
  rw [moveSetpoint_eq]
  dsimp only
  rw [if_neg (by simp [old, new, differ, sentHard, hard]), setPace_cell _ _ hg, sendSetpoint_cell]

theorem keptPace_other {q old new g : Nat} {c : CellState} (h : quarterOf g ≠ q ∨ c.pace = 0) : keptPace q old new g c = c.pace :=
  if_neg fun ⟨hq, hp⟩ => h.elim (fun e => e hq) (by omega)

theorem keptPace_le (q old new g : Nat) (c : CellState) : keptPace q old new g c ≤ max 15 c.pace := by
  unfold keptPace
  split <;> omega

/-- A cell of another quarter, or one that does not pace, stays as it was. -/
theorem moveSetpoint_cell_other (s : State) {q v g : Nat} (hg : g < 64) (h : quarterOf g ≠ q ∨ (s.cell g).pace = 0) :
    (moveSetpoint s q v).cell g = s.cell g := by
  by_cases moves : PacesMove s q v
  · rw [moveSetpoint_cell moves hg, keptPace_other h]
  · rw [moveSetpoint_still moves, sendSetpoint_cell]

theorem moveSetpoint_pace_le (s : State) (q v : Nat) {g : Nat} (hg : g < 64) :
    ((moveSetpoint s q v).cell g).pace ≤ max 15 (s.cell g).pace := by
  by_cases moves : PacesMove s q v
  · rw [moveSetpoint_cell moves hg]
    exact keptPace_le _ _ _ _ _
  · rw [moveSetpoint_still moves, sendSetpoint_cell]
    exact le_max_right _ _

/-! ### SETPOINT_CHOICE (spec/09 R239) -/

/-- A quarter with what its hinted phases ask for. -/
def hinted (s : State) (q : Nat) : State := s.setQpower q { s.qpower q with hintMv := hintRise s q }

/-- The setpoint that is chosen. -/
def chosen (s : State) (q : Nat) : Nat :=
  min ((lookup 550 (headroomVoltages (hinted s q)) q + hintRise s q) / 5 * 5) (upperBound (hinted s q) q)

theorem chosen_grid (s : State) (q : Nat) : 550 ≤ chosen s q ∧ chosen s q ≤ 900 ∧ chosen s q % 5 = 0 := by
  have given := headroomVoltages_ge (hinted s q) q
  have low := upperBound_ge (hinted s q) q
  obtain ⟨high, grid⟩ := upperBound_grid (hinted s q) q
  unfold chosen
  omega

theorem chooseSetpoint_stays {s : State} {q : Nat} (h : q ∈ s.fabric.lost ∨ s.power.pstate ≠ 0) : chooseSetpoint s q = s :=
  if_pos (h.imp_left List.contains_iff_mem.2)

/-- What follows a setpoint that moved: outside a hard-power event no cell stays paced below the rate it keeps. -/
def trimmed (s : State) : State := if s.power.hardPower then s else trimPace s

theorem trimmed_keeps (s : State) : OnlyRails s (trimmed s) ∧ ∀ k, SameRail s (trimmed s) k := by
  unfold trimmed
  split
  · exact ⟨onlyRails_refl s, fun _ => rfl⟩
  · exact ⟨setPace_only _ _, setPace_sameRail _ _⟩

theorem chooseSetpoint_eq {s : State} {q : Nat} (h : q ∉ s.fabric.lost) (hp : s.power.pstate = 0) :
    chooseSetpoint s q = trimmed (moveSetpoint (hinted s q) q (chosen s q)) :=
  if_neg (by simp [h, hp])

theorem chooseSetpoint_keeps {s : State} {q : Nat} (h : q ∉ s.fabric.lost) (hp : s.power.pstate = 0) : let t := chooseSetpoint s q
    OnlyRails s t ∧ (t.qpower q).setpoint = chosen s q ∧ (chosen s q ≠ (s.qpower q).setpoint → (t.qpower q).setAt = s.now) ∧
    ∀ k, k ≠ q → SameRail s t k := by
  have hints : OnlyRails s (hinted s q) := onlyRails_setQpower _ _ _
  have moved := moveSetpoint_only (hinted s q) q (chosen s q)
  have sent := moveSetpoint_sameRail (hinted s q) q (chosen s q) q
  have others := fun k (e : k ≠ q) => moveSetpoint_other (hinted s q) (chosen s q) e
  have point := moveSetpoint_setpoint (hinted s q) q (chosen s q)
  dsimp only
  rw [chooseSetpoint_eq h hp]
  generalize moveSetpoint (hinted s q) q (chosen s q) = m at moved sent others point
  obtain ⟨only, rail⟩ := trimmed_keeps m
  refine ⟨onlyRails_trans (onlyRails_trans hints moved) only, (rail q).setpoint.trans point, fun differs => ?_, fun k e => ?_⟩
  · have now : ((sendSetpoint (hinted s q) q (chosen s q)).qpower q).setAt = s.now :=
      sendSetpoint_setAt (s := hinted s q) (by rwa [hinted, setQpower_qpower])
    rw [sameRail_trans sent (rail q)]
    exact now
  · have same : SameRail s (hinted s q) k := by
      unfold SameRail hinted
      rw [setQpower_qpower_other _ _ _ e]
    exact sameRail_trans (sameRail_trans same (others k e)) (rail k)

/-! ### SLOW_THROTTLE (spec/09 R246, R249) -/

/-- The quarter has paced for 20 us, or will derate. -/
def ThrottleDue (s : State) (q : Nat) : Prop :=
  (s.qpower q).derateSoon = true ∨ ∃ t, (s.qpower q).paceSince = some t ∧ t + 20000 ≤ s.now

theorem throttleDue_iff (s : State) (q : QuarterNo) : ThrottleDue s q.val ↔ ((s.qpower q.val).derateSoon ||
    (match (s.qpower q.val).paceSince with | some t => decide (t + 20000 ≤ s.now) | none => false)) = true := by
  unfold ThrottleDue
  cases (s.qpower q.val).paceSince <;> simp

theorem aboveLower_iff (s : State) (q : Nat) : aboveLower s q = true ↔ q ∉ s.fabric.lost ∧ lowestSetpoint s q < (s.qpower q).setpoint := by
  simp [aboveLower, lowestSetpoint]

theorem throttle_stays {s : State} {q : Nat} (h : q ∈ s.fabric.lost ∨ (s.qpower q).setpoint ≤ lowestSetpoint s q) : throttle s q = s := by
  refine if_pos ?_
  rw [Bool.not_eq_true', ← Bool.not_eq_true, aboveLower_iff]
  rintro ⟨hl, hv⟩
  exact h.elim hl (by omega)

theorem exec_slowThrottle_stays {s : State} {q : QuarterNo}
    (h : ¬ ThrottleDue s q.val ∨ q.val ∈ s.fabric.lost ∨ (s.qpower q.val).setpoint ≤ lowestSetpoint s q.val) :
    exec (.slowThrottle q) s = .next s := by
  refine congrArg Host.Outcome.next ?_
  by_cases due : ThrottleDue s q.val
  · exact (if_pos ((throttleDue_iff s q).1 due)).trans (throttle_stays (h.resolve_left (not_not.mpr due)))
  · exact if_neg fun now => due ((throttleDue_iff s q).2 now)

/-- One more fall of a quarter's voltage is counted. -/
def throttleCounted (s : State) : State := { s with power := { s.power with throttles := satAdd 32 s.power.throttles 1 } }

theorem throttle_falls {s : State} {q : Nat} (hl : q ∉ s.fabric.lost) (hv : lowestSetpoint s q < (s.qpower q).setpoint) :
    throttle s q = moveSetpoint (throttleCounted s) q (lowestSetpoint s q) := by
  have above := (aboveLower_iff s q).2 ⟨hl, hv⟩
  exact if_neg (by simp [above])

theorem exec_slowThrottle_falls {s : State} {q : QuarterNo} (due : ThrottleDue s q.val) (hl : q.val ∉ s.fabric.lost)
    (hv : lowestSetpoint s q.val < (s.qpower q.val).setpoint) :
    exec (.slowThrottle q) s = .next (moveSetpoint (throttleCounted s) q.val (lowestSetpoint s q.val)) :=
  congrArg Host.Outcome.next ((if_pos ((throttleDue_iff s q).1 due)).trans (throttle_falls hl hv))

/-- What a fall leaves: the rail, the count, and the paces of other quarters. -/
theorem throttled_keeps (s : State) (q v : Nat) : let t := moveSetpoint (throttleCounted s) q v
    (t.qpower q).setpoint = v ∧ t.power.throttles = satAdd 32 s.power.throttles 1 ∧
    (∀ g, g < 64 → quarterOf g ≠ q → t.cell g = s.cell g) ∧ (∀ g, g < 64 → (t.cell g).pace ≤ max 15 (s.cell g).pace) ∧
    ∀ k, k < 4 → k ≠ q → (t.qpower k).setpoint = (s.qpower k).setpoint := by
  have only := moveSetpoint_only (throttleCounted s) q v
  refine ⟨moveSetpoint_setpoint _ _ _, ?_, fun g hg e => moveSetpoint_cell_other (throttleCounted s) hg (.inl e),
    fun g hg => moveSetpoint_pace_le (throttleCounted s) q v hg, fun k _ e => (moveSetpoint_other (throttleCounted s) v e).setpoint⟩
  rw [only.power]
  rfl

/-! ### Hinted phases (spec/09 R247) -/

theorem le_foldl_max (l : List Nat) (a x : Nat) (h : x ≤ a ∨ x ∈ l) : x ≤ l.foldl max a := by
  induction l generalizing a with
  | nil => exact h.resolve_right (by simp)
  | cons y l ih =>
    refine ih (max a y) ?_
    rcases h with h | h
    · exact .inl (h.trans (le_max_left _ _))
    · rcases List.mem_cons.1 h with rfl | h
      · exact .inl (le_max_right _ _)
      · exact .inr h

/-- The first hint not acted on is the one that is marked. -/
theorem mem_markHint {l : List HintEntry} {h : HintEntry} (first : l.find? (fun h => !h.acted) = some h) :
    { h with acted := true } ∈ markHint l := by
  induction l with
  | nil => simp at first
  | cons k l ih =>
    unfold markHint
    by_cases acted : k.acted = true
    · rw [List.find?_cons_of_neg (by simp [acted])] at first
      rw [if_pos acted]
      exact List.mem_cons_of_mem _ (ih first)
    · rw [List.find?_cons_of_pos (by simp [acted]), Option.some.injEq] at first
      subst first
      rw [if_neg acted]
      exact List.mem_cons_self

/-- An acted hint whose phase has not ended raises its quarter by what it asks for. -/
theorem hintRise_ge {s : State} {g : Nat} {h : HintEntry} (mem : h ∈ (s.cell g).hints) (acted : h.acted = true)
    (live : (s.cell g).since < h.start + h.length) : 15 * h.level / 255 ≤ hintRise s (quarterOf g) := by
  have cell : 16 * quarterOf g + g % 16 = g := by
    unfold quarterOf
    omega
  unfold hintRise
  refine le_trans ?_ (le_foldl_max _ 0 _ (.inr (List.mem_map.2 ⟨g % 16, List.mem_range.2 (by omega), rfl⟩)))
  rw [cell]
  refine le_foldl_max _ 0 _ (.inr (List.mem_map.2 ⟨h, ?_, rfl⟩))
  simp [liveHints, mem, acted, live]

/-- A cell's hints that have not ended. -/
def openHints (s : State) (g : Nat) : List HintEntry := liveHints (s.cell g).since (s.cell g).hints

/-- A cell whose first open hint has been acted on. -/
def hintMarked (s : State) (g : Nat) : State := s.modCell g (fun c => { c with hints := markHint (openHints s g) })

theorem hintMarked_rise {s : State} {g : Nat} {h : HintEntry} (first : (openHints s g).find? (fun h => !h.acted) = some h) :
    15 * h.level / 255 ≤ hintRise (hintMarked s g) (quarterOf g) := by
  have cell : (hintMarked s g).cell g = { s.cell g with hints := markHint (openHints s g) } := modCell_same _ _ _
  have open' : h ∈ openHints s g := List.mem_of_find?_eq_some first
  have live : (s.cell g).since < h.start + h.length := by simpa [openHints, liveHints] using (List.mem_filter.1 open').2
  refine hintRise_ge (h := { h with acted := true }) ?_ rfl ?_
  · rw [cell]
    exact mem_markHint first
  · rw [cell]
    exact live

theorem hintPhase_none {s : State} {g : Nat} (h : (openHints s g).find? (fun h => !h.acted) = none) :
    hintPhase s g = s.modCell g (fun c => { c with hints := openHints s g }) := by
  unfold hintPhase
  simp only
  rw [modCell_same]
  simp only
  unfold openHints at h
  rw [h]
  rfl

/-- The setpoint of a quarter one of whose phases comes near. -/
def hintTarget (s u : State) (q rise : Nat) : Nat :=
  max (min (min (((s.qpower q).setpoint + (rise - (s.qpower q).hintMv)) / 5 * 5) 900) (upperBound u q))
    (min (s.qpower q).setpoint (upperBound u q))

theorem sendSetpoint_hintMv (s : State) (q v : Nat) : ((sendSetpoint s q v).qpower q).hintMv = (s.qpower q).hintMv := by
  unfold sendSetpoint
  simp only
  split
  · rfl
  · rw [setQpower_qpower]

/-- The quarter whose rail a hint raises, before its setpoint moves. -/
def hintRaised (s u : State) (q rise : Nat) : State :=
  u.setQpower q { s.qpower q with hintMv := max (s.qpower q).hintMv rise }

theorem hintPhase_rises {s : State} {g : Nat} {h : HintEntry} (first : (openHints s g).find? (fun h => !h.acted) = some h)
    (fits : s.power.devEst + cellPower (s.qpower (quarterOf g)).setpoint * h.level / 255 ≤ s.power.cap)
    (here : quarterOf g ∉ s.fabric.lost) (on : 550 ≤ (s.qpower (quarterOf g)).setpoint) :
    let u := hintMarked s g
    let rise := hintRise u (quarterOf g)
    hintPhase s g = moveSetpoint (hintRaised s u (quarterOf g) rise) (quarterOf g) (hintTarget s u (quarterOf g) rise) := by
  have opened : ((s.modCell g (fun c => { c with hints := liveHints c.since c.hints })).cell g).hints = openHints s g := by
    rw [modCell_same]
    rfl
  have marked : (s.modCell g (fun c => { c with hints := liveHints c.since c.hints })).modCell g (fun c => { c with hints := markHint c.hints }) =
      hintMarked s g := by
    unfold hintMarked State.modCell
    rw [setCell_cell, setCell_setCell]
    rfl
  intro u most
  unfold hintPhase
  extract_lets w q
  rw [opened]
  split
  · next none => rw [first] at none; contradiction
  next h' found =>
  obtain rfl : h = h' := Option.some.inj (first.symm.trans found)
  extract_lets announced w₂ w₃ x rise
  have kept : w₂ = w := if_neg (not_lt.mpr fits)
  have same : w₃ = hintMarked s g := (congrArg (State.modCell · g (fun c => { c with hints := markHint c.hints })) kept).trans marked
  clear_value w₃
  subst same
  refine if_neg ?_
  rw [not_or, List.contains_iff_mem, not_lt]
  exact ⟨here, on⟩

/-- What a hinted phase leaves. -/
theorem hintRisen_keeps (s : State) (g rise : Nat) : let q := quarterOf g
    let u := hintMarked s g
    let t := moveSetpoint (hintRaised s u q rise) q (hintTarget s u q rise)
    (t.qpower q).hintMv = max (s.qpower q).hintMv rise ∧ (t.qpower q).setpoint = hintTarget s u q rise ∧
    (t.cell g).hints = markHint (openHints s g) ∧ (∀ k, k < 64 → k ≠ g → (t.cell k).hints = (s.cell k).hints) ∧
    t = { s with cells := t.cells, power := { s.power with quarter := t.power.quarter, pacings := t.power.pacings } } := by
  dsimp only
  have raised : (hintRaised s (hintMarked s g) (quarterOf g) rise).qpower (quarterOf g) =
      { s.qpower (quarterOf g) with hintMv := max (s.qpower (quarterOf g)).hintMv rise } := setQpower_qpower _ _ _
  have rail := moveSetpoint_sameRail (hintRaised s (hintMarked s g) (quarterOf g) rise) (quarterOf g)
    (hintTarget s (hintMarked s g) (quarterOf g) rise) (quarterOf g)
  have only := moveSetpoint_only (hintRaised s (hintMarked s g) (quarterOf g) rise) (quarterOf g) (hintTarget s (hintMarked s g) (quarterOf g) rise)
  have point := moveSetpoint_setpoint (hintRaised s (hintMarked s g) (quarterOf g) rise) (quarterOf g)
    (hintTarget s (hintMarked s g) (quarterOf g) rise)
  have sent : ((sendSetpoint (hintRaised s (hintMarked s g) (quarterOf g) rise) (quarterOf g)
      (hintTarget s (hintMarked s g) (quarterOf g) rise)).qpower (quarterOf g)).hintMv = max (s.qpower (quarterOf g)).hintMv rise := by
    rw [sendSetpoint_hintMv, raised]
  have marked : (hintMarked s g).cell g = { s.cell g with hints := markHint (openHints s g) } := modCell_same _ _ _
  have others (k : Nat) (e : k ≠ g) : (hintMarked s g).cell k = s.cell k := modCell_other _ _ _ e
  generalize moveSetpoint (hintRaised s (hintMarked s g) (quarterOf g) rise) (quarterOf g) (hintTarget s (hintMarked s g) (quarterOf g) rise) = t
    at rail only point
  have cells (k : Nat) : (t.cell k).hints = ((hintMarked s g).cell k).hints := by
    rw [only.2 k]
    rfl
  refine ⟨by rw [rail]; exact sent, point, by rw [cells, marked], fun k _ e => by rw [cells, others k e], ?_⟩
  rw [only.1]
  rfl

end Sys2Proof.Machine

/-! SUPPORT. The estimate of an interval, the cap, the hard power limit, and the statement on estimate and setpoints (spec/09 R241, R243,
R245, R248). -/

namespace Sys2Proof.Machine

open Sys2Proof.Safety

/-! ### The estimate (spec/09 R241) -/

/-- A quarter's estimate before its correction, mW. -/
def rawMw (a : Activity) (s : State) (q : Nat) : Nat :=
  if q ∈ s.fabric.lost then 0 else Config.quarterPower q (a.quarters.getD q []) (s.qpower q).setpoint (leakTemps s q)

/-- The rails and the clusters' draw are written. -/
def withEstimates (s : State) (rails : Tab QPower) (clusters : Tab Nat) : State :=
  { s with power := { s.power with quarter := rails, clusterMw := clusters } }

theorem estimateQuarter_eq (a : Activity) (s : State) (q : Nat) : ∃ clusters, estimateQuarter a s q =
    withEstimates s (put {} s.power.quarter q { s.qpower q with
      estimate := rawMw a s q * (s.qpower q).c / 1024, sum := (s.qpower q).sum + rawMw a s q }) clusters := by
  have raw : (if s.fabric.lost.contains q then 0 else Config.quarterPower q (a.quarters.getD q []) (s.qpower q).setpoint (leakTemps s q)) =
      rawMw a s q := by simp [rawMw]
  rw [← raw]
  exact ⟨_, rfl⟩

theorem estimateQuarter_same (a : Activity) (s : State) (q : Nat) :
    ((estimateQuarter a s q).qpower q).estimate = rawMw a s q * (s.qpower q).c / 1024 := by
  obtain ⟨clusters, eq⟩ := estimateQuarter_eq a s q
  rw [eq]
  exact congrArg QPower.estimate (lookup_put_same _ _ _ _)

theorem estimateQuarter_other (a : Activity) (s : State) {q k : Nat} (e : k ≠ q) : (estimateQuarter a s q).qpower k = s.qpower k := by
  obtain ⟨clusters, eq⟩ := estimateQuarter_eq a s q
  rw [eq]
  exact lookup_put_other _ _ _ e

theorem rawMw_estimateQuarter (a : Activity) (s : State) {q k : Nat} (e : k ≠ q) : rawMw a (estimateQuarter a s q) k = rawMw a s k := by
  have rail := estimateQuarter_other a s e
  obtain ⟨clusters, eq⟩ := estimateQuarter_eq a s q
  unfold rawMw
  rw [rail, eq]
  rfl

theorem foldl_estimateQuarter_other (a : Activity) (l : List Nat) (s : State) {k : Nat} (h : k ∉ l) :
    (l.foldl (estimateQuarter a) s).qpower k = s.qpower k := by
  induction l generalizing s with
  | nil => rfl
  | cons q l ih =>
    obtain ⟨first, rest⟩ := not_or.1 (List.mem_cons.not.1 h)
    rw [List.foldl_cons, ih _ rest, estimateQuarter_other a s first]

/-- Every quarter's estimate, from the rails as they stood before the first of them. -/
theorem foldl_estimateQuarter (a : Activity) {l : List Nat} (hl : l.Nodup) (s : State) {k : Nat} (h : k ∈ l) :
    ((l.foldl (estimateQuarter a) s).qpower k).estimate = rawMw a s k * (s.qpower k).c / 1024 := by
  induction l generalizing s with
  | nil => simp at h
  | cons q l ih =>
    obtain ⟨fresh, hl⟩ := List.nodup_cons.1 hl
    rw [List.foldl_cons]
    by_cases e : k = q
    · subst e
      rw [foldl_estimateQuarter_other a l _ fresh, estimateQuarter_same]
    · rw [ih hl (estimateQuarter a s q) ((List.mem_cons.1 h).resolve_left e), rawMw_estimateQuarter a s e, estimateQuarter_other a s e]

theorem foldl_estimateQuarter_eq (a : Activity) (l : List Nat) (s : State) :
    ∃ rails clusters, l.foldl (estimateQuarter a) s = withEstimates s rails clusters :=
  List.foldlRecOn (motive := fun t : State => ∃ rails clusters, t = withEstimates s rails clusters) l _
    ⟨s.power.quarter, s.power.clusterMw, rfl⟩ fun t ⟨rails, clusters, ht⟩ q _ => by
      obtain ⟨clusters', eq⟩ := estimateQuarter_eq a t q
      rw [eq, ht]
      exact ⟨_, clusters', rfl⟩

/-- The device's estimate of an interval, mW. -/
def deviceMw (a : Activity) (s : State) : Nat :=
  rawMw a s 0 * (s.qpower 0).c / 1024 + rawMw a s 1 * (s.qpower 1).c / 1024 + rawMw a s 2 * (s.qpower 2).c / 1024 +
    rawMw a s 3 * (s.qpower 3).c / 1024 + a.linkMw + a.memMw + a.fixedMw

theorem computeMw_estimated (a : Activity) (s : State) :
    computeMw (allQuarters.foldl (estimateQuarter a) s) + a.linkMw + a.memMw + a.fixedMw = deviceMw a s := by
  have each := fun k (hk : k ∈ allQuarters) => foldl_estimateQuarter a (l := allQuarters) (by decide) s hk
  generalize allQuarters.foldl (estimateQuarter a) s = t at each
  unfold computeMw deviceMw
  rw [← each 0 (by decide), ← each 1 (by decide), ← each 2 (by decide), ← each 3 (by decide)]
  simp [allQuarters, Nat.add_assoc]

/-! ### The interval (spec/09 R243, R248) -/

/-- The estimates of 1 ms less the oldest, the newest first. -/
def newWindow (a : Activity) (s : State) : List Nat := (deviceMw a s :: s.power.window).take 249

/-- The interval exceeds the hard limit. -/
def hardOver (a : Activity) (s : State) : Prop := 25000000 < (newWindow a s).sum + deviceMw a s

/-- The leaf of a hard-power event is raised as the event begins. -/
theorem alarm_only (m : State) (start : Bool) : OnlyCauses m (if start then raise m (.main gPower 3) 0 0 else m) := by
  split
  · exact raise_onlyCauses _ _ _ _
  · exact onlyCauses_refl m

/-- The cap is not exceeded, or no more. -/
def capKept (s : State) : State := { s with power := { s.power with capOver := false } }

/-- What an interval leaves before the cap and the paces are judged, and how they are judged (R243, R248). -/
theorem estimateInterval_cases (a : Activity) (r : State) : let s := applySettings r
    ∃ u, u.power.devEst = deviceMw a s ∧ u.power.window = newWindow a s ∧ u.cells = s.cells ∧ u.power.cap = s.power.cap ∧
      (hardOver a s → u.power.hardPower = true ∧
        estimateInterval r a = setPace (if s.power.cap < deviceMw a s then overCap u else capKept u) (fun _ _ => 15) ∧
        (s.power.hardPower = false → leafIsSet u.causes (.main gPower 3) = true)) ∧
      (¬ hardOver a s → u.power.hardPower = false ∧ u.causes = s.causes ∧
        (s.power.cap < deviceMw a s → estimateInterval r a = trimPace (overCap u)) ∧
        (deviceMw a s ≤ s.power.cap → estimateInterval r a = trimPace (underCap u))) := by
  unfold estimateInterval
  extract_lets s t e w hard start p m u c v
  have device : e = deviceMw a s := computeMw_estimated a s
  have only : OnlyCauses m u := alarm_only m start
  have began : start = true → leafIsSet u.causes (.main gPower 3) = true := fun h => by
    unfold u
    rw [if_pos h]
    exact leafIsSet_raise_main _ _ (by decide) _ _
  have quiet : start = false → u = m := fun h => if_neg (by simp [h])
  obtain ⟨rails, clusters, estimated⟩ : ∃ rails clusters, t = withEstimates s rails clusters := foldl_estimateQuarter_eq a allQuarters s
  clear_value t e u
  subst estimated device
  have window : w.take 249 = newWindow a s := by
    unfold w
    rw [List.take_take]
    rfl
  have isHard : hard = true ↔ hardOver a s := by
    unfold hard
    rw [window, decide_eq_true_iff]
    rfl
  have power := only.power
  have cap : u.power.cap = s.power.cap := by
    rw [power]
    rfl
  have judged : v = if s.power.cap < deviceMw a s then overCap u else if hard then capKept u else underCap u := by
    rw [← cap]
    rfl
  clear_value v
  subst judged
  refine ⟨u, ?_, ?_, only.cells, cap, fun h => ⟨?_, ?_, fun before => began ?_⟩, fun h => ?_⟩
  · rw [power]
  · rw [power]
    exact window
  · rw [power]
    exact isHard.2 h
  · rw [if_pos (isHard.2 h), if_pos (isHard.2 h)]
  · unfold start
    rw [isHard.2 h]
    exact congrArg (!·) before
  · have soft : hard = false := Bool.eq_false_iff.2 (isHard.not.2 h)
    have same : u = m := quiet (by unfold start; rw [soft]; rfl)
    have paces : ¬ hard = true := isHard.not.2 h
    refine ⟨by rw [power]; exact soft, by rw [same]; rfl, fun over' => ?_, fun under => ?_⟩
    · rw [if_neg paces, if_pos over']
    · rw [if_neg paces, if_neg (not_lt.mpr under), if_neg paces]

/-! ### The cap (spec/09 R243, R245) -/

theorem trimPace_cell (s : State) {g : Nat} (hg : g < 64) :
    (trimPace s).cell g = { s.cell g with pace := min (s.cell g).pace (paceMost s g) } := setPace_cell s _ hg

/-- 2 % below the cap every pace is released by one level. -/
theorem underCap_cell (s : State) {g : Nat} (hg : g < 64) : (underCap s).cell g =
    { s.cell g with pace := (s.cell g).pace - (if 100 * s.power.devEst ≤ 98 * s.power.cap then 1 else 0) } := by
  unfold underCap
  extract_lets p t
  by_cases below : 100 * s.power.devEst ≤ 98 * s.power.cap
  · rw [if_pos (show 100 * t.power.devEst ≤ 98 * t.power.cap from below), if_pos below]
    exact setPace_cell _ _ hg
  · rw [if_neg (show ¬ 100 * t.power.devEst ≤ 98 * t.power.cap from below), if_neg below]
    rfl

theorem domains_lt {code d : Nat} (h : d ∈ domains code) : d < 3 := by
  unfold domains at h
  split at h <;> simp at h <;> omega

/-- An episode over the cap begins. -/
def capEpisode (s : State) : State := { s with power := { s.power with capOver := true, capExceeded := satAdd 32 s.power.capExceeded 1 } }

theorem capExceeded_again {s : State} (h : s.power.capOver = true) : capExceeded s = s := if_pos h

theorem capExceeded_first {s : State} (h : s.power.capOver = false) : capExceeded s = raise (capEpisode s) (.main gPower 2) 0 0 :=
  if_neg (by simp [h])

theorem capExceeded_keeps {s : State} (h : s.power.capOver = false) : let t := capExceeded s
    t.power.capExceeded = satAdd 32 s.power.capExceeded 1 ∧ leafIsSet t.causes (.main gPower 2) = true ∧ t.cells = s.cells ∧
      t.power.capOver = true := by
  have only := raise_onlyCauses (capEpisode s) (.main gPower 2) 0 0
  have leaf := leafIsSet_raise_main (capEpisode s) gPower (b := 2) (by decide) 0 0
  dsimp only
  rw [capExceeded_first h, only.power]
  exact ⟨rfl, leaf, only.cells, rfl⟩

theorem capExceeded_twice (s : State) : capExceeded (capExceeded s) = capExceeded s := by
  cases h : s.power.capOver with
  | true => rw [capExceeded_again h, capExceeded_again h]
  | false =>
    obtain ⟨-, -, -, set⟩ := capExceeded_keeps h
    exact capExceeded_again set

theorem overCap_none {s : State} (h : ∀ d, d < 3 → canGive s d = false) : overCap s = capExceeded s := by
  have none : (domains s.power.order).reverse.find? (canGive s) = none := by
    refine List.find?_eq_none.2 fun d hd => ?_
    simp [h d (domains_lt (List.mem_reverse.1 hd))]
  unfold overCap
  extract_lets t
  rw [none]
  change capExceeded t = capExceeded s
  unfold t
  split
  · exact capExceeded_twice s
  · rfl

theorem overCap_gives {s : State} {d : Nat} (h : (domains s.power.order).reverse.find? (canGive s) = some d) :
    overCap s = give (if shareOf s.power < 0 then capExceeded s else s) d := by
  unfold overCap
  extract_lets t
  rw [h]

theorem canGive_links {s : State} (h : canGive s 0 = true) : s.power.linkRes < s.power.linkMw := by
  simp only [canGive, if_true, Bool.and_eq_true, decide_eq_true_eq] at h
  exact h.2

theorem canGive_memory {s : State} (h : canGive s 1 = true) : s.power.memRes < s.power.memMw := by
  simp only [canGive, one_ne_zero, if_false, if_true, Bool.and_eq_true, decide_eq_true_eq] at h
  exact h.2

theorem canGive_compute {s : State} (h : canGive s 2 = true) : shareOf s.power < computeMw s := by
  simp only [canGive, OfNat.ofNat_ne_zero, OfNat.ofNat_ne_one, if_false, Bool.and_eq_true, decide_eq_true_eq] at h
  exact h.1

theorem applySettings_clean {s : State} (h : s.power.dirty = false) : applySettings s = s := if_pos (by simp [h])

theorem applySettings_dirty {s : State} (h : s.power.dirty = true) : applySettings s = forceNext (forceNext (forceNext (forceNext
    (afterFree (reviewThermal { s with power := { s.power with dirty := false } } true)) 0) 1) 2) 3 := by
  unfold applySettings
  rw [if_neg (by simp [h]), foldl_allQuarters]

/-- Settles O45: the estimate from the rails as they stood, the cap by what each domain can give, and each move of a setpoint by what
it writes of rails and paces. -/
theorem estimateCapAndSetpoints : Obligations.EstimateCapAndSetpoints := by
  unfold Obligations.EstimateCapAndSetpoints
  refine ⟨⟨fun s => ⟨applySettings_clean, applySettings_dirty⟩, ?interval,
      fun s f g hg => ⟨setPace_cell s f hg, trimPace_cell s hg, underCap_cell s hg⟩, ?cannot, ?gives,
      fun s => ⟨canGive_links, canGive_memory, canGive_compute⟩, fun q s => rfl⟩,
    fun q s => ⟨?lost, ?choice⟩, ?moves, fun q s => ⟨exec_slowThrottle_stays, ?falls⟩, fun g s => ⟨?noHint, ?hint⟩⟩
  case interval =>
    rintro a r s rfl
    obtain ⟨u, dev, window, cells, cap, over', under⟩ := estimateInterval_cases a r
    refine ⟨u, dev, window, cells, cap, fun h => ?_, fun h => ?_⟩
    · obtain ⟨hard, run, leaf⟩ := over' h
      exact ⟨hard, congrArg Host.Outcome.next run, leaf⟩
    · obtain ⟨hard, causes, high, low⟩ := under h
      exact ⟨hard, causes, fun c => congrArg Host.Outcome.next (high c), fun c => congrArg Host.Outcome.next (low c)⟩
  case cannot =>
    intro s none first
    obtain ⟨count, leaf, cells, -⟩ := capExceeded_keeps first
    rw [overCap_none none]
    exact ⟨count, leaf, cells⟩
  case gives =>
    intro s d found
    refine ⟨overCap_gives found, fun first => ?_⟩
    obtain ⟨count, leaf, -, -⟩ := capExceeded_keeps first
    exact ⟨leaf, count⟩
  case lost => exact fun h => congrArg Host.Outcome.next (chooseSetpoint_stays h)
  case choice =>
    intro h hp
    obtain ⟨only, point, sent, others⟩ := chooseSetpoint_keeps h hp
    obtain ⟨low, high, grid⟩ := chosen_grid s q.val
    refine ⟨_, rfl, ?_⟩
    dsimp only
    rw [point]
    exact ⟨rfl, low, high, grid, sent, others, fun g _ => only.2 g, only.1⟩
  case moves =>
    intro s q v _
    refine ⟨moveSetpoint_setpoint s q v, fun k e => (moveSetpoint_other s v e).setpoint, fun g hg h => moveSetpoint_cell_other s hg h,
      fun hard => ?_, fun g hg hq hp old new differ soft => ?_⟩
    · have still : ¬ PacesMove s q v := fun ⟨_, _, _, soft⟩ => by simp [soft] at hard
      rw [moveSetpoint_still still, sendSetpoint_cells]
    · rw [moveSetpoint_cell ⟨old, new, differ, soft⟩ hg, keptPace, if_pos ⟨hq, hp⟩]
  case falls => exact fun due h above => ⟨_, exec_slowThrottle_falls due h above, throttled_keeps s q.val (lowestSetpoint s q.val)⟩
  case noHint => exact fun h => congrArg Host.Outcome.next (hintPhase_none h)
  case hint =>
    intro h first fits here on
    exact ⟨_, congrArg Host.Outcome.next (hintPhase_rises first fits here on), hintMarked_rise first, hintRisen_keeps s g.val _⟩

end Sys2Proof.Machine
